-- ==== Sys2Proof/Word.lean ====
section
/-! DEFINITION. The bytes the line carries, the part time, and the names the handbook gives its ports, states,
modes, kinds and outcomes (spec/00_scope.md, Names; each type's docstring cites the rule that lists its values). -/

namespace Sys2Proof

/-- A data byte of the line (R5, R19). -/
abbrev Byte := BitVec 8

/-- Part time: 32-bit milliseconds since power-on reset (00_scope, Quantities and units). -/
abbrev PartTime := BitVec 32

/-- The two line ports; the fault object numbers are 1 and 2 (R188). -/
inductive PortId where
  | a | b
deriving DecidableEq, Repr

/-- Port states (R1). -/
inductive PortState where
  | down | hunt | qualify | up
deriving DecidableEq, Repr

/-- The eight telegram kinds (R19). -/
inductive TelegramKind where
  | sample | fanReport | fanOrder | fanAnswer | incidentNotice | bulletin | mgmtRequest | mgmtReply
deriving DecidableEq, Repr

/-- Station roles (R23), in the order of the rule. -/
inductive StationRole where
  | sensor | fanStation | controlCentre | peer | manager
deriving DecidableEq, Repr

/-- Instrument classes, which are also the quantities of a reading (R20, R35). -/
inductive InstrumentClass where
  | velocity | opacity | temperature
deriving DecidableEq, Repr

/-- Status of a reading (R20). -/
inductive ReadingStatus where
  | ok | over | fault
deriving DecidableEq, Repr

/-- Instrument states (R35). -/
inductive InstrumentState where
  | absent | qualifying | valid | stale | stationFault | rejected
deriving DecidableEq, Repr

/-- Point qualities (R43). -/
inductive PointQuality where
  | good | paired | disputed | single | held | unknown
deriving DecidableEq, Repr

/-- Section velocity quality (R49). -/
inductive VelocityQuality where
  | good | degraded | lost
deriving DecidableEq, Repr

/-- Zone states (R51). -/
inductive ZoneState where
  | normal | pending | alarm | unknown
deriving DecidableEq, Repr

/-- Directions of the air: toward Portal B and toward Portal A (00_scope, Direction). -/
inductive Direction where
  | ab | ba
deriving DecidableEq, Repr, Inhabited

/-- Where a held direction came from (R61). -/
inductive DirectionSource where
  | explicit | train | default | adopted
deriving DecidableEq, Repr

/-- Incident states (R61). -/
inductive IncidentState where
  | quiet | alert | declared | control | hold | clearing
deriving DecidableEq, Repr

/-- Incident roles (R61): NONE, LEAD, FOLLOWER, LOCAL. -/
inductive IncidentRole where
  | none | lead | follower | localRole
deriving DecidableEq, Repr

/-- The last notice outcome (R61, codes in R21). -/
inductive NoticeOutcome where
  | none | accepted | wrongState | activeIncident | badField | sameId
deriving DecidableEq, Repr

/-- The two kinds of entry to CONTROL (R62). -/
inductive EntryKind where
  | first | resumption
deriving DecidableEq, Repr

/-- What is recorded as pending under the store-write hold (R76): a lead view in CONTROL or in HOLD, or a
lead-wait expiry. -/
inductive PendingEntry where
  | leadViewControl | leadViewHold | leadWaitExpiry
deriving DecidableEq, Repr

/-- Controller modes (R86). -/
inductive ControllerMode where
  | idle | lead | localMode | share | shareHeld
deriving DecidableEq, Repr

/-- Velocity conditions (R86). -/
inductive VelocityCondition where
  | ok | held | openLoop
deriving DecidableEq, Repr

/-- A fan's own motor directions (00_scope, Direction). -/
inductive RunDir where
  | fwd | rev
deriving DecidableEq, Repr

/-- The direction forward running pushes the air (R107). -/
inductive Orientation where
  | forwardAB | forwardBA
deriving DecidableEq, Repr

/-- Fan states (R108). -/
inductive FanState where
  | unconfigured | unknown | stopped | starting | running | stopping | failed | isolated | lost
deriving DecidableEq, Repr

/-- The states a last known state can name (R108). -/
inductive KnownKind where
  | stopped | starting | running | stopping
deriving DecidableEq, Repr

/-- Run states a fan station reports (R20). -/
inductive RunState where
  | stopped | starting | runFwd | runRev | stopping
deriving DecidableEq, Repr

/-- Control modes a fan station reports (R20): REMOTE, LOCAL. -/
inductive ControlMode where
  | remote | localMode
deriving DecidableEq, Repr

/-- Reachability of a fan station (R125). -/
inductive Reachability where
  | reachable | unreachable
deriving DecidableEq, Repr

/-- Order kinds (R152, codes in R20). -/
inductive OrderKind where
  | startFwd | startRev | stop | query
deriving DecidableEq, Repr

/-- Order record states (R152). -/
inductive OrderState where
  | waiting | sent | retryWait | querying | done | failed
deriving DecidableEq, Repr

/-- Outcomes a FAN ANSWER carries (R20). -/
inductive AnswerOutcome where
  | accepted | busy | refusedLocal | refusedFault | state
deriving DecidableEq, Repr

/-- Outcomes the Order Engine hands back to the Fan Manager (R168). -/
inductive OrderOutcome where
  | accepted (reported : Option RunState)
  | refusedLocal
  | refusedFault
  | failed
  | state (reported : RunState)
  | withdrawn
deriving DecidableEq, Repr

/-- Tag states (R154). -/
inductive TagState where
  | free | busy | quarantine
deriving DecidableEq, Repr

/-- The 17 fault kinds in the order of their codes 1 to 17 (R188). -/
inductive FaultKind where
  | checkError | forwardOverflow | sequenceGap | instrumentStale | pointDisputed | orderRetried | orderRecovered
  | fanStoppedUnasked | twoLeads | portLost | instrumentRejected | pointLost | velocityLost | orderFailed
  | stationLost | fanFailed | tableInvalid
deriving DecidableEq, Repr

/-- Fault classes (R188, R189). -/
inductive FaultClass where
  | soft | hard
deriving DecidableEq, Repr

/-- Object classes in the order of their codes 0 to 8 (R188). -/
inductive ObjectClass where
  | none | port | station | velocityInstrument | opacityInstrument | temperatureInstrument | point | fan | table
deriving DecidableEq, Repr

/-- The object of a fault report: class and number (R188). -/
structure FaultObject where
  cls : ObjectClass
  num : Nat
deriving DecidableEq, Repr

/-- The 16 event flags in the order of R21, most significant bit first. -/
inductive EventFlag where
  | lineChange | polarity | instrumentOut | pointLost | velocityLost | zoneAlarm | incidentChange | noticeRefused
  | fanFailed | fanLost | orderFailed | directionChanged | leadLost | tableEvent | faultCaptured | secondFault
deriving DecidableEq, Repr

/-- Health grades (R193). -/
inductive Health where
  | normal | degraded | impaired
deriving DecidableEq, Repr

/-- Configuration table kinds in the order of their codes 1 to 4 (R22). -/
inductive TableKind where
  | stations | sections | fans | control
deriving DecidableEq, Repr

/-- Load buffer states (R202). -/
inductive BufferState where
  | empty | loading | broken | verified | rejected
deriving DecidableEq, Repr

/-- Store slot states (R207). -/
inductive SlotState where
  | valid | invalid | writing
deriving DecidableEq, Repr

/-- Reasons of a refused management request, in the order of their codes 1 to 12 (R22). -/
inductive ReplyReason where
  | badRequest | wrongState | sequence | length | checksum | identity | fill | range | conflict | protectedState | busy
  | noSuchObject
deriving DecidableEq, Repr

/-- A telegram of the line: the six header fields less the payload length, which is the payload's own length,
the payload, and the check (R19). -/
structure Telegram where
  dest    : Byte
  src     : Byte
  kind    : Byte
  seq     : Byte
  hop     : Byte
  payload : List Byte
  check   : BitVec 16
deriving DecidableEq, Repr

/-- One reading of a SAMPLE (R20, R29). -/
structure Reading where
  channel  : Nat
  quantity : InstrumentClass
  status   : ReadingStatus
  value    : Int
deriving DecidableEq, Repr

/-- One output of a FAN REPORT (R20, R29). -/
structure ReportOutput where
  output  : Nat
  run     : RunState
  control : ControlMode
  fault   : Nat
deriving DecidableEq, Repr

/-- The fields of an INCIDENT NOTICE other than its action, as received (R21, R29): direction and heat class
are the codes, an optional chainage is present or absent. -/
structure Notice where
  id        : Nat
  fire      : Option Nat
  head      : Option Nat
  tail      : Option Nat
  direction : Nat
  heat      : Nat
deriving DecidableEq, Repr

/-- One entry of a share list: node address and newtons (R21, R86). -/
structure ShareEntry where
  node  : Nat
  share : Nat
deriving DecidableEq, Repr

/-- The fields of a BULLETIN in the order of R21, as received. The fire chainage is the number carried, 0xFFFF
when there is none. -/
structure Bulletin where
  id          : Nat
  state       : IncidentState
  role        : IncidentRole
  direction   : Option Direction
  heat        : Nat
  fire        : Nat
  mode        : ControllerMode
  condition   : VelocityCondition
  velocity    : Int
  quality     : VelocityQuality
  available   : Nat
  running     : Nat
  demand      : Nat
  health      : Health
  flags       : BitVec 16
  outcome     : NoticeOutcome
  lastCleared : Nat
  shares      : List ShareEntry
deriving DecidableEq, Repr

/-- The incident record (R61). -/
structure IncidentRecord where
  state      : IncidentState
  id         : Nat
  fire       : Option Nat
  head       : Option Nat
  tail       : Option Nat
  dir        : Option Direction
  dirSource  : Option DirectionSource
  heat       : Option Nat
  role       : IncidentRole
  controlled : Bool
deriving DecidableEq, Repr

/-- The record with nothing in it, in a state that holds no incident id (R61). -/
def IncidentRecord.empty (state : IncidentState) : IncidentRecord :=
  { state := state, id := 0, fire := none, head := none, tail := none, dir := none, dirSource := none,
    heat := none, role := .none, controlled := false }

/-- What the Incident Register hands on (R62): the whole record, the state before (the state after is the
record's), and the kind of an entry to CONTROL. -/
structure RecordHandOn where
  before : IncidentState
  record : IncidentRecord
  entry  : Option EntryKind
deriving DecidableEq, Repr

/-- A block's request to queue an own telegram, by class (R11, R12). -/
inductive OwnRequest where
  | fanOrder (station tag output : Nat) (kind : OrderKind)
  | bulletin (b : Bulletin)
  | mgmtReply (dest : Byte) (payload : List Byte)
deriving DecidableEq, Repr

/-- A management request as the Dispatcher hands it on (R29, R198): its source, its request number and its
argument bytes. -/
structure Request where
  source : Byte
  number : BitVec 16
  args   : List Byte
deriving DecidableEq, Repr

end Sys2Proof
end

