-- ==== Sys2Proof/Config.lean ====
section
/-! DEFINITION. The configuration tables an active copy holds (R201, R107 and the tables that open chapters 03, 04,
05, 07 to 09), and the free values: constants without a body that stand for what the spec leaves open. -/

namespace Sys2Proof

/-- One entry of a STATION table (R201, R23). -/
structure StationEntry where
  address  : Nat
  role     : StationRole
  tagCount : Nat
deriving DecidableEq, Repr

/-- A STATION table: its revision and its used entries in order (R201). -/
structure StationTable where
  revision : Nat
  entries  : List StationEntry
deriving DecidableEq, Repr

/-- The (station, channel) pair an instrument slot names (R35, R201). -/
structure Source where
  station : Nat
  channel : Nat
deriving DecidableEq, Repr

/-- A used point entry of a SECTION table: its number and the three slots, each a source or empty (R201). -/
structure PointEntry where
  num : Nat
  s1  : Option Source
  s2  : Option Source
  s3  : Option Source
deriving DecidableEq, Repr

/-- A used zone entry of a SECTION table (R201). The chainage range is [lo, hi). -/
structure ZoneEntry where
  num         : Nat
  lo          : Nat
  hi          : Nat
  confirm     : Nat
  opacity     : Nat
  temperature : Nat
  o1          : Option Source
  o2          : Option Source
  t1          : Option Source
  t2          : Option Source
deriving DecidableEq, Repr

/-- A SECTION table (R201): the settings and the configured points and zones. The section is [lo, hi). Times are
seconds. -/
structure SectionTable where
  revision  : Nat
  lo        : Nat
  hi        : Nat
  tolerance : Nat
  polarity  : Nat
  staleTime : Nat
  holdTime  : Nat
  points    : List PointEntry
  zones     : List ZoneEntry
deriving DecidableEq, Repr, Inhabited

/-- One entry of a FAN table: the static fields of a fan record (R107). Times are seconds. -/
structure FanEntry where
  num          : Nat
  station      : Nat
  output       : Nat
  chainage     : Nat
  orientation  : Orientation
  reversible   : Bool
  forward      : Nat
  reverse      : Nat
  heatRating   : Nat
  zone         : Nat
  runUp        : Nat
  runDown      : Nat
  inhibit      : Nat
  rank         : Nat
deriving DecidableEq, Repr

/-- A FAN table: its revision and its used entries in order (R201). -/
structure FanTable where
  revision : Nat
  entries  : List FanEntry
deriving DecidableEq, Repr

/-- A CONTROL table (R201). Times are seconds, but for the response timeout, which is in milliseconds. `vcrit`
and `openLoop` hold one value for each heat class 1 to 6, in order. -/
structure ControlTable where
  revision     : Nat
  vcrit        : List Nat
  margin       : Nat
  vmax         : Nat
  kp           : Nat
  ki           : Nat
  period       : Nat
  velocityHold : Nat
  openLoop     : List Nat
  leadLossHold : Nat
  freshTime    : Nat
  exclusion    : Nat
  gate         : Nat
  hysteresis   : Nat
  stopSpacing  : Nat
  response     : Nat
  retryWindow  : Nat
  heat         : Nat
  direction    : Direction
  autoDeclare  : Nat
  leadWait     : Nat
deriving DecidableEq, Repr, Inhabited

/-- Free value [7]: what a block reads as a CONTROL value while no CONTROL table is active, where no rule gives a
value in its place (R156, R173 and R178 give theirs). Nothing constrains it. -/
opaque Config.absentControl (revision : Nat) : ControlTable

/-- Free value [2]: which one the `k`-th open order takes of the orders it has; it is read modulo their number. Nothing
constrains it. -/
opaque Config.openOrder (k : Nat) : Nat

/-- Free value [7]: what a block reads as a SECTION value while no SECTION table is active. Nothing constrains it. -/
opaque Config.absentSection (revision : Nat) : SectionTable

/-- Free value [17]: the 1-byte value of item 255 when more than 255 items are left out of a READ_STATUS reply
(R200 gives no byte for such a number). Nothing constrains it. -/
opaque Config.leftOutByte (left : Nat) : Byte

/-- Free value [38]: the one byte that a tag entry of READ_STATUS has for the tag and its state, by its place in R154's
list (R22 gives an item at most 6 bytes, R200 no form for the two in one). Nothing constrains it. -/
opaque Config.tagByte (tag state : Nat) : Byte

/-- Free value [32]: by how much more than 1 the item number of the `k`-th, counted from 0, of the fields of an order
record that R170 lists for selector ORDERS with object 0 and R200 does not number there lies above the number before it;
it is read modulo 29, so that the eighth stays below 255. Nothing constrains it. -/
opaque Config.recordFieldGap (k : Nat) : Nat

end Sys2Proof
end

