-- ==== Sys2Proof/Syntax.lean ====
section
/-! DEFINITION. The commands of the part: one constructor for each row of spec/opcode_table.json, in the table's
order, with the row's operands as the rules give them. -/

namespace Sys2Proof

/-- A command: an operation or event of the part. Each docstring names the rule its row cites. -/
inductive Instr where
  /-- R1: signal energy appears on a port. -/
  | signalEnergyDetected (port : PortId)
  /-- R1: signal is lost on a port. -/
  | signalLost (port : PortId)
  /-- R1: the 16th consecutive fill word arrives in HUNT. -/
  | huntFillCountReached (port : PortId)
  /-- R2: the qualification timer of a port expires. -/
  | qualificationTimerExpiry (port : PortId)
  /-- R3: a hold window of a port closes, `fills` fill words having been received within it. -/
  | holdWindowClose (port : PortId) (fills : Nat)
  /-- R5: a bad start on a port. -/
  | badStart (port : PortId)
  /-- R5: a runaway on a port. -/
  | runaway (port : PortId)
  /-- R7: a telegram closed by a fill word on a port; `bytes` are its data bytes in order. -/
  | telegramReceived (port : PortId) (bytes : List Byte)
  /-- R14: a port's transmitter is free to start a telegram. -/
  | outputArbiterChoice (port : PortId)
  /-- R9: a port has sent a forwarded telegram whole. -/
  | forwardedTelegramSent (port : PortId)
  /-- R13: a port has sent an own telegram whole. -/
  | ownTelegramSent (port : PortId)
  /-- R12: a block asks to have an own telegram queued. -/
  | queueOwnTelegram (request : OwnRequest)
  /-- R16: power-up or the reset pin, the address straps reading `straps`. -/
  | powerOnReset (straps : Byte)
  /-- R37: a SAMPLE delivered from the station `source`. -/
  | sample (source : Nat) (readings : List Reading)
  /-- R41: the stale timer of an instrument expires. -/
  | staleTimerExpiry (cls : InstrumentClass) (num : Nat)
  /-- R45: the hold timer of a point expires. -/
  | pointHoldTimerExpiry (point : Nat)
  /-- R60: the zone requalify timer expires. -/
  | zoneRequalifyTimerExpiry
  /-- R54: the Incident Register has the zone alarms cleared. -/
  | zoneAlarmsCleared
  /-- R69: a zone that has entered ALARM is handed to the Incident Register. -/
  | zoneAlarmHandOn (zone : Nat)
  /-- R64: a DECLARE notice. -/
  | declare (notice : Notice)
  /-- R65: an UPDATE notice. -/
  | update (notice : Notice)
  /-- R66: a HOLD notice. -/
  | hold (notice : Notice)
  /-- R66: a RESUME notice. -/
  | resume (notice : Notice)
  /-- R67: a CLEAR notice. -/
  | clear (notice : Notice)
  /-- R68: a CANCEL_ALERT notice. -/
  | cancelAlert (notice : Notice)
  /-- R63: a notice whose action code is none of the six. -/
  | noticeBadAction (action : Nat) (notice : Notice)
  /-- R70: the auto-declare timer expires. -/
  | autoDeclareTimerExpiry
  /-- R75: the lead-wait timer expires. -/
  | leadWaitTimerExpiry
  /-- R82: the Fan Manager's end-of-clearing report reaches the Incident Register. -/
  | clearingEndReport
  /-- R91: an incident record is handed to the Airflow Controller. -/
  | incidentRecordToController (handOn : RecordHandOn)
  /-- R88: the control-period timer expires. -/
  | controlPeriodTimerExpiry
  /-- R95: the velocity-hold timer expires. -/
  | velocityHoldTimerExpiry
  /-- R102: the lead-loss-hold timer expires. -/
  | leadLossHoldTimerExpiry
  /-- R138: a demand update, in newtons, reaches the Fan Manager. -/
  | demandUpdate (demand : Nat)
  /-- R135: an incident record is handed to the Fan Manager. -/
  | incidentRecordToFanManager (handOn : RecordHandOn)
  /-- R145: the stop-spacing timer expires. -/
  | stopSpacingTimerExpiry
  /-- R116: a FAN REPORT delivered from the station `source`. -/
  | fanReport (source : Nat) (outputs : List ReportOutput)
  /-- R114: the rest timer of a fan expires. -/
  | restTimerExpiry (fan : Nat)
  /-- R119: the run-up timer of a fan expires. -/
  | runUpTimerExpiry (fan : Nat)
  /-- R121: the run-down timer of a fan expires. -/
  | runDownTimerExpiry (fan : Nat)
  /-- R126: the report silence timer of a fan station expires. -/
  | reportSilenceTimerExpiry (station : Nat)
  /-- R123: the outcome of an order is handed to the Fan Manager. -/
  | orderOutcome (fan : Nat) (order : OrderKind) (outcome : OrderOutcome)
  /-- R158: a FAN ANSWER delivered from the station `source`. -/
  | fanAnswer (source tag output : Nat) (outcome : AnswerOutcome) (run : RunState)
  /-- R164: the response timer of a fan's order record expires. -/
  | responseTimerExpiry (fan : Nat)
  /-- R160: the retry-spacing timer of a fan's order record expires. -/
  | retrySpacingTimerExpiry (fan : Nat)
  /-- R160: the retry window timer of a fan's order record expires. -/
  | retryWindowTimerExpiry (fan : Nat)
  /-- R167: the quarantine timer of a tag expires. -/
  | quarantineTimerExpiry (station tag : Nat)
  /-- R173: the bulletin timer expires. -/
  | bulletinTimerExpiry
  /-- R173: an incident record is handed to the Section Coordinator. -/
  | incidentRecordToCoordinator (handOn : RecordHandOn)
  /-- R177: a peer's BULLETIN delivered from the station `source`. -/
  | bulletin (source : Nat) (b : Bulletin)
  /-- R178: the freshness timer of a peer expires. -/
  | freshnessTimerExpiry (address : Nat)
  /-- R189: a fault report reaches Fault Capture. -/
  | faultReport (kind : FaultKind) (object : FaultObject)
  /-- R192: a block raises an event. -/
  | eventRaised (flag : EventFlag)
  /-- R200: READ_STATUS. -/
  | readStatus (request : Request)
  /-- R202: LOAD_BEGIN. -/
  | loadBegin (request : Request)
  /-- R203: LOAD_BLOCK. -/
  | loadBlock (request : Request)
  /-- R204: LOAD_END. -/
  | loadEnd (request : Request)
  /-- R208: ACTIVATE. -/
  | activate (request : Request)
  /-- R209: the store write in flight ends. -/
  | storeWriteEnd
  /-- R192: ACK_EVENTS. -/
  | ackEvents (request : Request)
  /-- R191: CLEAR_FAULT. -/
  | clearFault (request : Request)
  /-- R210: ADMIT. -/
  | admitObject (request : Request)
  /-- R128: ISOLATE. -/
  | isolate (request : Request)
  /-- R211: RESTART, carried by a telegram with sequence number `seq` (R34). -/
  | restart (request : Request) (seq : Byte)
  /-- R198: a management request whose kind is outside 1 to 10. -/
  | mgmtRequestUnknownKind (kind : Byte) (request : Request)
deriving DecidableEq, Repr

end Sys2Proof
end

