-- ==== Sys2Proof/Machine/State.lean ====
section
/-! DEFINITION. The state of the part: one record for each of its ten blocks, all plain data, the queue of waiting
commands, and the state after power-on reset of a part as delivered. -/

namespace Sys2Proof.Machine

/-- A counter: 16 bits (00_scope, Counters). -/
abbrev Counter := BitVec 16

/-- A timer: unarmed, or armed with the part time at which its interval will have passed (00_scope, Timers). -/
abbrev Timer := Option PartTime

/-! ### Line Interface (01) -/

/-- What a port's transmitter is sending besides fill: the telegram at the front of its forward buffer, or a copy
of the own telegram whose entry has the place given (R4, R12, R14). -/
inductive Sending where
  | forwarded
  | own (telegram : Telegram) (place : Nat)
deriving DecidableEq, Repr

/-- The ten counters of a port, in the order of the line counter table. -/
structure PortCounters where
  received      : Counter
  checkFailures : Counter
  badStarts     : Counter
  runaways      : Counter
  expired       : Counter
  lineBreaks    : Counter
  overflows     : Counter
  forwarded     : Counter
  ownSent       : Counter
  holdFailures  : Counter
deriving DecidableEq, Repr

/-- A port (R1 to R4, R9, R14). `signal` is the pin: whether the link carries signal energy. -/
structure Port where
  state     : PortState
  signal    : Bool
  fillCount : Nat
  qualTimer : Timer
  window    : Timer
  checkRun  : Nat
  forward   : List Telegram
  runCount  : Nat
  sending   : Option Sending
  counters  : PortCounters
deriving DecidableEq, Repr

/-- The class of an own telegram; a FAN ORDER names its fan station and tag (R12). -/
inductive OwnClass where
  | fanOrder (station tag : Nat)
  | bulletin
  | mgmtReply
deriving DecidableEq, Repr

/-- An entry of the own transmit queue (R12). `onA` and `onB` are its port set. -/
structure OwnEntry where
  telegram : Telegram
  cls      : OwnClass
  onA      : Bool
  onB      : Bool
  sentOnce : Bool
  place    : Nat
deriving DecidableEq, Repr

/-- The Line Interface. The own queue stands in queuing order, the oldest first. -/
structure LineInterface where
  portA          : Port
  portB          : Port
  own            : List OwnEntry
  nextPlace      : Nat
  seq            : Byte
  node           : Byte
  straps         : Byte
  unknownKinds   : Counter
  malformed      : Counter
  ownUnsent      : Counter
  droppedReplies : Counter
deriving DecidableEq, Repr

/-! ### Telegram Dispatcher (02) -/

/-- A station record (R23). -/
structure StationRec where
  address    : Nat
  role       : StationRole
  tagCount   : Nat
  known      : Bool
  lastSeq    : Byte
  delivered  : Counter
  duplicates : Counter
  gaps       : Counter
deriving DecidableEq, Repr

/-- A provisional record (R26). -/
structure ProvisionalRec where
  source   : Nat
  lastSeq  : Byte
  accepted : PartTime
deriving DecidableEq, Repr

/-- The part-wide dispatch counters in the order of R32. -/
structure DispatchCounters where
  taken        : Counter
  delivered    : Counter
  badSource    : Counter
  roleMismatch : Counter
  duplicates   : Counter
  old          : Counter
  gap          : Counter
  badTag       : Counter
  replaced     : Counter
deriving DecidableEq, Repr

/-- The Telegram Dispatcher: the station table, the provisional records, the counters. -/
structure Dispatcher where
  stations    : List StationRec
  provisional : List ProvisionalRec
  counters    : DispatchCounters
deriving DecidableEq, Repr

/-! ### Measurement Unit (03) -/

/-- An instrument record (R35). -/
structure Instrument where
  source    : Option Source
  state     : InstrumentState
  qualify   : Nat
  last      : Int
  saturated : Bool
  reversed  : Bool
  outlier   : Nat
  polarity  : Nat
  stale     : Timer
deriving DecidableEq, Repr

/-- A point record with its three velocity instruments (R43, R35). -/
structure PointRec where
  num       : Nat
  quality   : PointQuality
  voted     : Option Int
  holdTimer : Timer
  s1        : Instrument
  s2        : Instrument
  s3        : Instrument
deriving DecidableEq, Repr

/-- A zone record with its two opacity and two temperature instruments (R51, R35). A value that is `none` is
UNKNOWN. -/
structure ZoneRec where
  num         : Nat
  opacity     : Option Int
  temperature : Option Int
  state       : ZoneState
  confirm     : Nat
  holdO       : Bool
  holdT       : Bool
  o1          : Instrument
  o2          : Instrument
  t1          : Instrument
  t2          : Instrument
deriving DecidableEq, Repr

/-- The Measurement Unit: points 1 to 16 and zones 1 to 16 in ascending number, Vm and its quality (R48, R49),
the zone requalify timer (R59) and the counters of R56. -/
structure MeasurementUnit where
  points     : List PointRec
  zones      : List ZoneRec
  vm         : Int
  quality    : VelocityQuality
  requalify  : Timer
  unmatched  : Counter
  mismatches : Counter
  ignored    : Counter
deriving DecidableEq, Repr

/-! ### Incident Register (04) -/

/-- The Incident Register (R61, R76). -/
structure IncidentRegister where
  record      : IncidentRecord
  detection   : List Nat
  outcome     : NoticeOutcome
  lastCleared : Nat
  autoDeclare : Timer
  leadWait    : Timer
  storeHold   : Bool
  entry       : Option PendingEntry
deriving DecidableEq, Repr

/-! ### Airflow Controller (05) -/

/-- The Airflow Controller (R86), with the last record handed to it (R102). -/
structure AirflowController where
  mode         : ControllerMode
  condition    : VelocityCondition
  integral     : Int
  lastD        : Nat
  ownDemand    : Nat
  lastP        : Int
  lastShare    : Nat
  boundA       : Nat
  aSum         : Nat
  shares       : List ShareEntry
  period       : Timer
  velocityHold : Timer
  leadLoss     : Timer
  record       : IncidentRecord
deriving DecidableEq, Repr

/-! ### Fan Manager (06, 07) -/

/-- A last known state with its run direction where it has one (R108). -/
structure LastKnown where
  kind : KnownKind
  dir  : Option RunDir
deriving DecidableEq, Repr

/-- A fan's last report (R108): the control mode and fault code are absent while only a STATE answer has been
taken (R123). -/
structure LastReport where
  run     : RunState
  control : Option ControlMode
  fault   : Option Nat
  time    : PartTime
deriving DecidableEq, Repr

/-- A fan record: the static fields of R107 and the runtime fields of R108. -/
structure FanRec where
  e          : FanEntry
  state      : FanState
  dir        : Option RunDir
  known      : Option LastKnown
  reportIso  : Bool
  mgrIso     : Bool
  excluded   : Bool
  heat       : Bool
  resting    : Bool
  eligibleAt : Option PartTime
  restTimer  : Timer
  accepted   : Bool
  runUp      : Timer
  runDown    : Timer
  downOver   : Bool
  stopReq    : Bool
  last       : Option LastReport
deriving DecidableEq, Repr

/-- A reachability record (R125). -/
structure ReachRec where
  station : Nat
  state   : Reachability
  silence : Timer
  time    : Option PartTime
deriving DecidableEq, Repr

/-- The temperature held for a zone, `none` being UNKNOWN (R113). -/
structure ZoneTemp where
  zone  : Nat
  value : Option Int
deriving DecidableEq, Repr

/-- The Fan Manager: the fan records in ascending fan number, the reachability records, the zone temperatures, A
and R (R111), and the allocation state of R133. Of the four slots the first G are used. -/
structure FanManager where
  fans         : List FanRec
  reach        : List ReachRec
  zoneTemps    : List ZoneTemp
  record       : IncidentRecord
  a            : Nat
  r            : Nat
  unmatched    : Counter
  unexpected   : Counter
  preference   : List Nat
  queue        : List Nat
  slots        : List (Option Nat)
  lastDemand   : Nat
  stopSpacing  : Timer
  clearingSent : Bool
deriving DecidableEq, Repr

/-! ### Order Engine (08) -/

/-- An order record (R152). `issuedBefore` tells a first issue from a later one (R156). -/
structure OrderRec where
  fan           : Nat
  station       : Nat
  output        : Nat
  kind          : OrderKind
  state         : OrderState
  tag           : Option Nat
  response      : Timer
  retry         : Timer
  windowOpen    : Bool
  window        : Timer
  busySeen      : Bool
  reissued      : Bool
  queryTimeouts : Nat
  successor     : Option OrderKind
  issuedBefore  : Bool
deriving DecidableEq, Repr

/-- A tag of a fan station (R154, R167). -/
structure TagRec where
  station    : Nat
  tag        : Nat
  state      : TagState
  quarantine : Timer
deriving DecidableEq, Repr

/-- The Order Engine's counters in the order of R170. -/
structure OrderCounters where
  issued     : Counter
  accepted   : Counter
  busy       : Counter
  recovered  : Counter
  refused    : Counter
  failed     : Counter
  withdrawn  : Counter
  late       : Counter
  unexpected : Counter
  mismatched : Counter
deriving DecidableEq, Repr

/-- The Order Engine: the order records, the backlog of fan numbers (R155), the tags (R154). -/
structure OrderEngine where
  records  : List OrderRec
  backlog  : List Nat
  tags     : List TagRec
  counters : OrderCounters
deriving DecidableEq, Repr

/-! ### Section Coordinator (09) -/

/-- A peer record (R176): `held` is the last bulletin, `none` while none is held. -/
structure PeerRec where
  address   : Nat
  held      : Option Bulletin
  arrival   : PartTime
  fresh     : Bool
  freshness : Timer
deriving DecidableEq, Repr

/-- The Section Coordinator (R173, R176, R185). -/
structure SectionCoordinator where
  peers    : List PeerRec
  heldId   : Nat
  role     : IncidentRole
  leadView : Option Nat
  twoLeads : Bool
  timer    : Timer
  built    : Counter
  taken    : Counter
  stale    : Counter
deriving DecidableEq, Repr

/-! ### Fault Capture (10) -/

/-- A captured fault (R189). -/
structure FaultRecord where
  cls        : FaultClass
  kind       : FaultKind
  object     : FaultObject
  incidentId : Nat
  time       : PartTime
  secondHard : Bool
deriving DecidableEq, Repr

/-- Fault Capture: the fault record, one counter for each kind in the order of the codes (R188), the event flags
in the layout of R21, the health and its cause set (R193). -/
structure FaultCapture where
  record : Option FaultRecord
  counts : List Counter
  flags  : BitVec 16
  health : Health
  causes : Byte
deriving DecidableEq, Repr

/-! ### Management Agent (11) -/

/-- The load buffer (R202). -/
structure LoadBuffer where
  state    : BufferState
  kind     : Option TableKind
  declared : Nat
  count    : Nat
  next     : Option Nat
  bytes    : List Byte
deriving DecidableEq, Repr

/-- A store slot (R207). -/
structure StoreSlot where
  state    : SlotState
  image    : List Byte
  checksum : BitVec 16
deriving DecidableEq, Repr

/-- The store write in flight (R208): its kind, its own copy of the image, and the pending activate reply. -/
structure StoreWrite where
  kind   : TableKind
  image  : List Byte
  source : Byte
  number : BitVec 16
deriving DecidableEq, Repr

/-- The Management Agent: the load buffer, the write in flight, the four store slots and the four active tables
(R201, R202, R207, R208). -/
structure ManagementAgent where
  buffer      : LoadBuffer
  write       : Option StoreWrite
  slotStation : StoreSlot
  slotSection : StoreSlot
  slotFan     : StoreSlot
  slotControl : StoreSlot
  stations    : Option StationTable
  sections    : Option SectionTable
  fans        : Option FanTable
  control     : Option ControlTable
deriving DecidableEq, Repr

/-! ### The part -/

/-- A hand-on between blocks that waits for the event in hand to be whole [1] [14]: an order request of the Fan
Manager (R153) or its end-of-clearing report (R82). -/
inductive HandOn where
  | orderRequest (fan : Nat) (kind : OrderKind)
  | clearingEnd
deriving DecidableEq, Repr

/-- Everything but the command queue. `choice` is the model's own: the place in the
free value `Config.openOrder` from which the next open order is settled [2]. -/
structure Part where
  line    : LineInterface
  disp    : Dispatcher
  meas    : MeasurementUnit
  reg     : IncidentRegister
  ctl     : AirflowController
  fm      : FanManager
  ord     : OrderEngine
  coord   : SectionCoordinator
  fc      : FaultCapture
  mgmt    : ManagementAgent
  now     : PartTime
  choice  : Nat
  handOns : List HandOn
deriving DecidableEq, Repr

/-- The state: the part and the commands that wait, first in first out. -/
structure State where
  part    : Part
  pending : List Instr
deriving DecidableEq, Repr

/-- Faults of the model: none. Every command of the table has an effect in every state, so nothing raises one. -/
inductive Fault where
deriving DecidableEq, Repr

/-- Refusals of the model. -/
inductive Refusal where
  /-- The command has no meaning in the model. Raised by no arm of `exec`: safe. -/
  | notModelled (mnemonic : String)
deriving DecidableEq, Repr

/-! ### Reset values -/

/-- A port after reset, its link without signal energy (R16) [5]. -/
def Port.reset : Port :=
  { state := .down, signal := false, fillCount := 0, qualTimer := none, window := none, checkRun := 0,
    forward := [], runCount := 0, sending := none, counters := ⟨0, 0, 0, 0, 0, 0, 0, 0, 0, 0⟩ }

/-- The Line Interface after reset, its straps reading `straps` (R16, R10, R11). -/
def LineInterface.reset (straps : Byte) : LineInterface :=
  { portA := Port.reset, portB := Port.reset, own := [], nextPlace := 0, seq := 0, node := straps,
    straps := straps, unknownKinds := 0, malformed := 0, ownUnsent := 0, droppedReplies := 0 }

/-- The Dispatcher with no station and every counter 0 (R33). -/
def Dispatcher.reset : Dispatcher :=
  { stations := [], provisional := [], counters := ⟨0, 0, 0, 0, 0, 0, 0, 0, 0⟩ }

/-- An instrument of an empty slot (R36, R57). -/
def Instrument.blank : Instrument :=
  { source := none, state := .absent, qualify := 0, last := 0, saturated := false, reversed := false,
    outlier := 0, polarity := 0, stale := none }

/-- A point after reset, its slots empty (R57). -/
def PointRec.blank (num : Nat) : PointRec :=
  { num := num, quality := .unknown, voted := none, holdTimer := none, s1 := .blank, s2 := .blank, s3 := .blank }

/-- A zone after reset, its slots empty (R57). -/
def ZoneRec.blank (num : Nat) : ZoneRec :=
  { num := num, opacity := none, temperature := none, state := .unknown, confirm := 0, holdO := false,
    holdT := false, o1 := .blank, o2 := .blank, t1 := .blank, t2 := .blank }

/-- The numbers 1 to 16 of the points and the zones (R43, R51). -/
def sixteen : List Nat := [1, 2, 3, 4, 5, 6, 7, 8, 9, 10, 11, 12, 13, 14, 15, 16]

/-- The Measurement Unit after reset, before its instruments are judged (R57, R48). -/
def MeasurementUnit.reset : MeasurementUnit :=
  { points := sixteen.map .blank, zones := sixteen.map .blank, vm := 0, quality := .lost, requalify := none,
    unmatched := 0, mismatches := 0, ignored := 0 }

/-- The Incident Register after reset (R84). -/
def IncidentRegister.reset : IncidentRegister :=
  { record := .empty .quiet, detection := [], outcome := .none, lastCleared := 0, autoDeclare := none,
    leadWait := none, storeHold := false, entry := none }

/-- The Airflow Controller after reset (R105). -/
def AirflowController.reset : AirflowController :=
  { mode := .idle, condition := .ok, integral := 0, lastD := 0, ownDemand := 0, lastP := 0, lastShare := 0,
    boundA := 0, aSum := 0, shares := [], period := none, velocityHold := none, leadLoss := none,
    record := .empty .quiet }

/-- The Fan Manager after reset, before its fans are judged and its reachability records built (R131, R150). -/
def FanManager.reset : FanManager :=
  { fans := [], reach := [], zoneTemps := sixteen.map (⟨·, none⟩), record := .empty .quiet, a := 0, r := 0,
    unmatched := 0, unexpected := 0, preference := [], queue := [], slots := [none, none, none, none],
    lastDemand := 0, stopSpacing := none, clearingSent := false }

/-- The Order Engine after reset, before its tags are built (R171). -/
def OrderEngine.reset : OrderEngine :=
  { records := [], backlog := [], tags := [], counters := ⟨0, 0, 0, 0, 0, 0, 0, 0, 0, 0⟩ }

/-- The Section Coordinator after reset, its bulletin timer armed to run out at `due` (R186). -/
def SectionCoordinator.reset (due : PartTime) : SectionCoordinator :=
  { peers := [], heldId := 0, role := .none, leadView := none, twoLeads := false, timer := some due, built := 0,
    taken := 0, stale := 0 }

/-- Fault Capture cleared (R195), its health yet to be formed. -/
def FaultCapture.cleared : FaultCapture :=
  { record := none, counts := List.replicate 17 0, flags := 0, health := .normal, causes := 0 }

/-- A load buffer that is EMPTY (R202). -/
def LoadBuffer.empty : LoadBuffer :=
  { state := .empty, kind := none, declared := 0, count := 0, next := none, bytes := [] }

/-- A store slot as delivered from manufacture (R207, Notes) [6]. -/
def StoreSlot.delivered : StoreSlot := { state := .invalid, image := [], checksum := 0 }

/-- The Management Agent of a part as delivered, after reset (R212, R207) [6]. -/
def ManagementAgent.reset : ManagementAgent :=
  { buffer := .empty, write := none, slotStation := .delivered, slotSection := .delivered, slotFan := .delivered,
    slotControl := .delivered, stations := none, sections := none, fans := none, control := none }

/-- Fault Capture after the reset of a part as delivered: the reload has reported TABLE_INVALID for the four
kinds, the first captured and the others setting second-hard (R195), and the health is IMPAIRED with the causes
"no active table", "neither port UP", "hard fault", "a port not UP" and "quality not GOOD" (R193). -/
def FaultCapture.reset : FaultCapture :=
  { record := some { cls := .hard, kind := .tableInvalid, object := ⟨.table, 1⟩, incidentId := 0, time := 0,
                     secondHard := true },
    counts := List.replicate 16 0 ++ [4], flags := 0x0003, health := .impaired, causes := 0xDC }

/-- The part right after reset, as delivered: unaddressed straps and links without signal [5], an empty store [6],
the bulletin timer armed with 5 s (R186). -/
def Part.reset : Part :=
  { line := .reset 0, disp := .reset, meas := .reset, reg := .reset, ctl := .reset, fm := .reset, ord := .reset,
    coord := .reset 5000, fc := .reset, mgmt := .reset, now := 0, choice := 0, handOns := [] }

/-- The machine right after reset, no command waiting. -/
def State.reset : State := { part := Part.reset, pending := [] }

end Sys2Proof.Machine
end

