-- ==== Sys2Proof/Machine/Ops.lean ====
section
/-! DEFINITION. The named operations every block uses: counters, timers, the integer arithmetic of 00_scope, ordered
lists, and the free choice of an order. -/

namespace Sys2Proof.Machine

/-! ### Counters -/

/-- A counter raised by `n`, staying at 65535 (00_scope, Counters). -/
def satAdd (c : Counter) (n : Nat) : Counter :=
  if c.toNat + n ≤ 65535 then BitVec.ofNat 16 (c.toNat + n) else 65535

/-- A counter raised by one. -/
def bump (c : Counter) : Counter := satAdd c 1

/-! ### Timers -/

/-- A part time that many milliseconds on. -/
def after (now : PartTime) (ms : Nat) : PartTime := now + BitVec.ofNat 32 ms

/-- A timer armed with an interval in milliseconds (00_scope, Timers). -/
def arm (now : PartTime) (ms : Nat) : Timer := some (after now ms)

/-- Whether a part time lies no later than now; part times are compared modulo 2^32 by their signed difference [10]. -/
def reached (now t : PartTime) : Bool := decide ((now - t).toNat < 2 ^ 31)

/-- Whether a timer is armed and its interval has passed. -/
def ranOut (now : PartTime) : Timer → Bool
  | none => false
  | some t => reached now t

/-- The milliseconds a timer has left, 0 when it is not armed (R200). -/
def timeLeft (now : PartTime) : Timer → Nat
  | none => 0
  | some t => if reached now t then 0 else (t - now).toNat

/-! ### Arithmetic (00_scope, Integer arithmetic) -/

/-- A value clamped to a range. -/
def clamp (lo hi x : Int) : Int := if x < lo then lo else if hi < x then hi else x

/-- A quotient truncated toward zero. -/
def truncDiv (x y : Int) : Int := Int.tdiv x y

/-- A quotient by a positive divisor, rounded half away from zero. -/
def roundDiv (x : Int) (y : Nat) : Int :=
  if x < 0 then -(((2 * x.natAbs + y) / (2 * y) : Nat) : Int) else (((2 * x.natAbs + y) / (2 * y) : Nat) : Int)

/-- The distance between two chainages. -/
def distance (a b : Nat) : Nat := if a ≤ b then b - a else a - b

/-- A sum over a list. -/
def sumOf {α : Type} (f : α → Nat) (l : List α) : Nat := l.foldr (fun x acc => f x + acc) 0

/-! ### Lists -/

/-- The list with every element that satisfies `k` changed by `f`. -/
def updWhere {α : Type} (k : α → Bool) (f : α → α) (l : List α) : List α :=
  l.map fun x => if k x then f x else x

/-- The list with the first element that satisfies `k` changed by `f`. -/
def updFirst {α : Type} (k : α → Bool) (f : α → α) : List α → List α
  | [] => []
  | x :: xs => if k x then f x :: xs else x :: updFirst k f xs

/-- An element put before the first one it precedes. -/
def insertBy {α : Type} (lt : α → α → Bool) (x : α) : List α → List α
  | [] => [x]
  | y :: ys => if lt x y then x :: y :: ys else y :: insertBy lt x ys

/-- A list in order, equals kept as they stand. -/
def sortBy {α : Type} (lt : α → α → Bool) (l : List α) : List α :=
  l.foldl (fun acc x => insertBy lt x acc) []

/-- The last element that satisfies `k`. -/
def lastWhere {α : Type} (k : α → Bool) (l : List α) : Option α := (l.filter k).getLast?

/-! ### The open order -/

/-- One of `n` orders that the spec leaves open, the free value of the next place [2]. -/
def choose (n : Nat) (p : Part) : Nat × Part :=
  (Config.openOrder p.choice % n, { p with choice := p.choice + 1 })

/-! ### Reading other blocks -/

/-- The other port. -/
def other : PortId → PortId
  | .a => .b
  | .b => .a

/-- A port of the line. -/
def LineInterface.port (l : LineInterface) : PortId → Port
  | .a => l.portA
  | .b => l.portB

/-- The line with one port changed. -/
def LineInterface.setPort (l : LineInterface) (i : PortId) (q : Port) : LineInterface :=
  match i with
  | .a => { l with portA := q }
  | .b => { l with portB := q }

/-- A port of the part. -/
def Part.port (p : Part) (i : PortId) : Port := p.line.port i

/-- The part with one port changed by `f`. -/
def Part.onPort (p : Part) (i : PortId) (f : Port → Port) : Part :=
  { p with line := p.line.setPort i (f (p.line.port i)) }

/-- Whether a port is UP. -/
def Part.isUp (p : Part) (i : PortId) : Bool := (p.port i).state == .up

/-- The node address (R10). -/
def Part.node (p : Part) : Nat := p.line.node.toNat

/-- Whether the part is addressed (R10). -/
def Part.addressed (p : Part) : Bool := 1 ≤ p.node && p.node ≤ 239

/-- The CONTROL values in use; with no active CONTROL table, a free value [7]. -/
def Part.control (p : Part) : ControlTable :=
  match p.mgmt.control with
  | some t => t
  | none => Config.absentControl 0

/-- The SECTION values in use; with no active SECTION table, a free value [7]. -/
def Part.sections (p : Part) : SectionTable :=
  match p.mgmt.sections with
  | some t => t
  | none => Config.absentSection 0

/-- The configured points (03, introduction): none while no SECTION table is active (R36). -/
def Part.pointEntries (p : Part) : List PointEntry :=
  match p.mgmt.sections with
  | some t => t.points
  | none => []

/-- The configured zones (03, introduction): none while no SECTION table is active (R36). -/
def Part.zoneEntries (p : Part) : List ZoneEntry :=
  match p.mgmt.sections with
  | some t => t.zones
  | none => []

/-- The entry of a configured zone. -/
def Part.zoneEntry (p : Part) (n : Nat) : Option ZoneEntry := p.zoneEntries.find? (·.num == n)

/-- The station record of an address with a role (R23). -/
def Part.stationWith (p : Part) (addr : Nat) (role : StationRole) : Option StationRec :=
  p.disp.stations.find? fun s => s.address == addr && s.role == role

/-- Whether the station table lists an address with a role. -/
def Part.hasRole (p : Part) (addr : Nat) (role : StationRole) : Bool := (p.stationWith addr role).isSome

end Sys2Proof.Machine
end

