-- ==== Sys2Proof/Machine/Flags.lean ====
section
/-! DEFINITION. Fault Capture (10): fault reports, event flags, health. Every block reports through `report` and
`raise`; `formHealth` is applied after every event and wherever the health is read. -/

namespace Sys2Proof.Machine

/-- The code of a fault kind (R188). -/
def faultCode : FaultKind → Nat
  | .checkError => 1
  | .forwardOverflow => 2
  | .sequenceGap => 3
  | .instrumentStale => 4
  | .pointDisputed => 5
  | .orderRetried => 6
  | .orderRecovered => 7
  | .fanStoppedUnasked => 8
  | .twoLeads => 9
  | .portLost => 10
  | .instrumentRejected => 11
  | .pointLost => 12
  | .velocityLost => 13
  | .orderFailed => 14
  | .stationLost => 15
  | .fanFailed => 16
  | .tableInvalid => 17

/-- The class of a fault kind (R188). -/
def faultClass (k : FaultKind) : FaultClass := if faultCode k ≤ 9 then .soft else .hard

/-- The code of an object class (R188). -/
def objectCode : ObjectClass → Nat
  | .none => 0
  | .port => 1
  | .station => 2
  | .velocityInstrument => 3
  | .opacityInstrument => 4
  | .temperatureInstrument => 5
  | .point => 6
  | .fan => 7
  | .table => 8

/-- The object class of an instrument class (R188). -/
def instrumentObject : InstrumentClass → ObjectClass
  | .velocity => .velocityInstrument
  | .opacity => .opacityInstrument
  | .temperature => .temperatureInstrument

/-- The fault object of a port (R188). -/
def portObject : PortId → FaultObject
  | .a => ⟨.port, 1⟩
  | .b => ⟨.port, 2⟩

/-- The bit of an event flag in the layout of R21: the first flag takes the most significant bit. -/
def flagBit : EventFlag → BitVec 16
  | .lineChange => 0x8000
  | .polarity => 0x4000
  | .instrumentOut => 0x2000
  | .pointLost => 0x1000
  | .velocityLost => 0x0800
  | .zoneAlarm => 0x0400
  | .incidentChange => 0x0200
  | .noticeRefused => 0x0100
  | .fanFailed => 0x0080
  | .fanLost => 0x0040
  | .orderFailed => 0x0020
  | .directionChanged => 0x0010
  | .leadLost => 0x0008
  | .tableEvent => 0x0004
  | .faultCaptured => 0x0002
  | .secondFault => 0x0001

/-- A block raises an event: its flag is set (R192). -/
def raise (f : EventFlag) (p : Part) : Part :=
  { p with fc := { p.fc with flags := p.fc.flags ||| flagBit f } }

/-- The counter of the kind with code `code` raised by one (R188). -/
def bumpCount (code : Nat) (counts : List Counter) : List Counter :=
  counts.modify (code - 1) bump

/-- What a report leaves in the fault record, and the event it raises (R189). -/
def judgeReport (held : Option FaultRecord) (new : FaultRecord) : Option FaultRecord × Option EventFlag :=
  match held, new.cls with
  | none, _ => (some new, some .faultCaptured)
  | some h, .soft => (some h, none)
  | some h, .hard =>
      match h.cls with
      | .soft => (some new, some .faultCaptured)
      | .hard => (some { h with secondHard := true }, some .secondFault)

/-- A block reports a fault (R188, R189, R196): its counter rises and the report is judged against the record. -/
def report (k : FaultKind) (o : FaultObject) (p : Part) : Part :=
  let new : FaultRecord :=
    { cls := faultClass k, kind := k, object := o, incidentId := p.reg.record.id, time := p.now, secondHard := false }
  let judged := judgeReport p.fc.record new
  let p := { p with fc := { p.fc with counts := bumpCount (faultCode k) p.fc.counts, record := judged.1 } }
  match judged.2 with
  | none => p
  | some f => raise f p

/-- The seven conditions of R193, in the order of its table. -/
def healthConditions (p : Part) : List Bool :=
  [ p.mgmt.stations.isNone || p.mgmt.sections.isNone || p.mgmt.fans.isNone || p.mgmt.control.isNone,
    !p.isUp .a && !p.isUp .b,
    p.reg.record.state == .control && p.ctl.condition == .openLoop,
    (match p.fc.record with | some r => r.cls == .hard | none => false),
    !p.isUp .a || !p.isUp .b,
    p.meas.quality != .good,
    p.fm.fans.any fun f => f.state == .failed || f.state == .lost ]

/-- The health of seven conditions: the first three are those of IMPAIRED (R193). -/
def healthOf (c : List Bool) : Health :=
  if (c.take 3).any id then .impaired else if c.any id then .degraded else .normal

/-- The health cause set: the conditions as bits from the most significant down, the least significant 0 (R193). -/
def causesOf (c : List Bool) : Byte :=
  BitVec.ofNat 8 (2 * c.foldl (fun acc b => 2 * acc + (if b then 1 else 0)) 0)

/-- The health and its cause set formed afresh (R193). -/
def formHealth (p : Part) : Part :=
  let c := healthConditions p
  { p with fc := { p.fc with health := healthOf c, causes := causesOf c } }

/-- Every flag named in a set is cleared (R192). -/
def ackFlags (named : BitVec 16) (p : Part) : Part :=
  { p with fc := { p.fc with flags := p.fc.flags &&& ~~~named } }

/-- The fault record is emptied (R191). -/
def clearRecord (p : Part) : Part := { p with fc := { p.fc with record := none } }

end Sys2Proof.Machine
end

