-- ==== Sys2Proof/Machine/Operands.lean ====
section
/-! DEFINITION. The byte forms of the line (R19 to R22): the byte order, the check, the codes, and the layout of every
telegram the part receives or originates. -/

namespace Sys2Proof.Machine

/-! ### Bytes: most significant first (00_scope, Telegrams and bytes) -/

/-- The number that bytes spell, most significant first. -/
def beNat (bs : List Byte) : Nat := bs.foldl (fun acc b => 256 * acc + b.toNat) 0

/-- A number in `n` bytes, most significant first. -/
def beBytes : Nat → Nat → List Byte
  | 0, _ => []
  | n + 1, v => beBytes n (v / 256) ++ [BitVec.ofNat 8 v]

/-- A 2-byte field read as two's complement (01, Telegram layouts). -/
def signed16 (v : Nat) : Int := (BitVec.ofNat 16 v).toInt

/-- A signed value in `n` bytes, two's complement. -/
def beSigned (n : Nat) (v : Int) : List Byte := beBytes n (v % (256 ^ n : Nat)).toNat

/-! ### The check (R19) -/

/-- The CRC register shifted by one bit: generator x^16 + x^12 + x^5 + 1. -/
def crcShift (r : BitVec 16) : BitVec 16 := if r.msb then (r <<< 1) ^^^ 0x1021 else r <<< 1

/-- The CRC register after one byte, taken most significant bit first. -/
def crcByte (r : BitVec 16) (b : Byte) : BitVec 16 :=
  let r := r ^^^ (b.setWidth 16 <<< 8)
  crcShift (crcShift (crcShift (crcShift (crcShift (crcShift (crcShift (crcShift r)))))))

/-- The CRC of a run of bytes: the register preset to all ones, the result not inverted. -/
def crc (bs : List Byte) : BitVec 16 := bs.foldl crcByte 0xFFFF

/-! ### Telegrams (R19) -/

/-- The header and payload of a telegram, over which its check is computed. -/
def telegramBody (t : Telegram) : List Byte :=
  [t.dest, t.src, t.kind, t.seq, t.hop, BitVec.ofNat 8 t.payload.length] ++ t.payload

/-- The data bytes of a telegram on the link. -/
def telegramBytes (t : Telegram) : List Byte := telegramBody t ++ beBytes 2 t.check.toNat

/-- A telegram with its check computed afresh. -/
def sealTelegram (t : Telegram) : Telegram := { t with check := crc (telegramBody t) }

/-- The telegram that data bytes spell, unless they fail the check in one of the four ways of R6. -/
def parseTelegram : List Byte → Option Telegram
  | dest :: src :: kind :: seq :: hop :: len :: rest =>
      let payload := rest.take len.toNat
      let check := BitVec.ofNat 16 (beNat (rest.drop len.toNat))
      let t : Telegram := ⟨dest, src, kind, seq, hop, payload, check⟩
      if len.toNat ≤ 240 && rest.length == len.toNat + 2 && check == crc (telegramBody t) then some t else none
  | _ => none

/-! ### Codes (R19 to R22) -/

/-- The kind a kind code names (R19). -/
def kindOfCode (c : Byte) : Option TelegramKind :=
  match c.toNat with
  | 0x21 => some .sample
  | 0x31 => some .fanReport
  | 0x32 => some .fanOrder
  | 0x33 => some .fanAnswer
  | 0x41 => some .incidentNotice
  | 0x51 => some .bulletin
  | 0x61 => some .mgmtRequest
  | 0x62 => some .mgmtReply
  | _ => none

/-- The quantity codes of a SAMPLE (R20). -/
def quantityOfCode : Nat → Option InstrumentClass
  | 1 => some .velocity
  | 2 => some .opacity
  | 3 => some .temperature
  | _ => none

/-- The status codes of a SAMPLE (R20). -/
def statusOfCode : Nat → Option ReadingStatus
  | 0 => some .ok
  | 1 => some .over
  | 2 => some .fault
  | _ => none

/-- The run state codes (R20). -/
def runOfCode : Nat → Option RunState
  | 0 => some .stopped
  | 1 => some .starting
  | 2 => some .runFwd
  | 3 => some .runRev
  | 4 => some .stopping
  | _ => none

/-- The code of a run state (R20). -/
def runCode : RunState → Nat
  | .stopped => 0
  | .starting => 1
  | .runFwd => 2
  | .runRev => 3
  | .stopping => 4

/-- The control mode codes (R20). -/
def controlOfCode : Nat → Option ControlMode
  | 0 => some .remote
  | 1 => some .localMode
  | _ => none

/-- The code of an order (R20). -/
def orderCode : OrderKind → Nat
  | .startFwd => 1
  | .startRev => 2
  | .stop => 3
  | .query => 4

/-- The outcome codes of a FAN ANSWER (R20). -/
def answerOfCode : Nat → Option AnswerOutcome
  | 1 => some .accepted
  | 2 => some .busy
  | 3 => some .refusedLocal
  | 4 => some .refusedFault
  | 5 => some .state
  | _ => none

/-- The incident state codes (R21). -/
def stateOfCode : Nat → Option IncidentState
  | 0 => some .quiet
  | 1 => some .alert
  | 2 => some .declared
  | 3 => some .control
  | 4 => some .hold
  | 5 => some .clearing
  | _ => none

/-- The code of an incident state (R21). -/
def stateCode : IncidentState → Nat
  | .quiet => 0
  | .alert => 1
  | .declared => 2
  | .control => 3
  | .hold => 4
  | .clearing => 5

/-- The role codes (R21). -/
def roleOfCode : Nat → Option IncidentRole
  | 0 => some .none
  | 1 => some .lead
  | 2 => some .follower
  | 3 => some .localRole
  | _ => none

/-- The code of a role (R21). -/
def roleCode : IncidentRole → Nat
  | .none => 0
  | .lead => 1
  | .follower => 2
  | .localRole => 3

/-- The direction codes (R21); code 0 is NONE. -/
def directionOfCode : Nat → Option (Option Direction)
  | 0 => some none
  | 1 => some (some .ab)
  | 2 => some (some .ba)
  | _ => none

/-- The code of a direction or of NONE (R21). -/
def directionCode : Option Direction → Nat
  | none => 0
  | some .ab => 1
  | some .ba => 2

/-- The controller mode codes (R21). -/
def modeOfCode : Nat → Option ControllerMode
  | 0 => some .idle
  | 1 => some .lead
  | 2 => some .localMode
  | 3 => some .share
  | 4 => some .shareHeld
  | _ => none

/-- The code of a controller mode (R21). -/
def modeCode : ControllerMode → Nat
  | .idle => 0
  | .lead => 1
  | .localMode => 2
  | .share => 3
  | .shareHeld => 4

/-- The velocity condition codes (R21). -/
def conditionOfCode : Nat → Option VelocityCondition
  | 0 => some .ok
  | 1 => some .held
  | 2 => some .openLoop
  | _ => none

/-- The code of a velocity condition (R21). -/
def conditionCode : VelocityCondition → Nat
  | .ok => 0
  | .held => 1
  | .openLoop => 2

/-- The velocity quality codes (R21). -/
def qualityOfCode : Nat → Option VelocityQuality
  | 0 => some .good
  | 1 => some .degraded
  | 2 => some .lost
  | _ => none

/-- The code of a velocity quality (R21). -/
def qualityCode : VelocityQuality → Nat
  | .good => 0
  | .degraded => 1
  | .lost => 2

/-- The health codes (R21). -/
def healthOfCode : Nat → Option Health
  | 0 => some .normal
  | 1 => some .degraded
  | 2 => some .impaired
  | _ => none

/-- The code of a health (R21). -/
def healthCode : Health → Nat
  | .normal => 0
  | .degraded => 1
  | .impaired => 2

/-- The last notice outcome codes (R21). -/
def outcomeOfCode : Nat → Option NoticeOutcome
  | 0 => some .none
  | 1 => some .accepted
  | 2 => some .wrongState
  | 3 => some .activeIncident
  | 4 => some .badField
  | 5 => some .sameId
  | _ => none

/-- The code of a last notice outcome (R21). -/
def outcomeCode : NoticeOutcome → Nat
  | .none => 0
  | .accepted => 1
  | .wrongState => 2
  | .activeIncident => 3
  | .badField => 4
  | .sameId => 5

/-- The table kind codes (R22). -/
def tableOfCode : Nat → Option TableKind
  | 1 => some .stations
  | 2 => some .sections
  | 3 => some .fans
  | 4 => some .control
  | _ => none

/-- The code of a table kind (R22). -/
def tableCode : TableKind → Nat
  | .stations => 1
  | .sections => 2
  | .fans => 3
  | .control => 4

/-- The code of a reason (R22). -/
def reasonCode : ReplyReason → Nat
  | .badRequest => 1
  | .wrongState => 2
  | .sequence => 3
  | .length => 4
  | .checksum => 5
  | .identity => 6
  | .fill => 7
  | .range => 8
  | .conflict => 9
  | .protectedState => 10
  | .busy => 11
  | .noSuchObject => 12

/-! ### Payloads the part receives (R20 to R22, R29) -/

/-- What a taken telegram hands to its block beside its source (R29). -/
inductive Delivery where
  | sample (readings : List Reading)
  | fanReport (outputs : List ReportOutput)
  | fanAnswer (tag output : Nat) (outcome : AnswerOutcome) (run : RunState)
  | notice (action : Nat) (fields : Notice)
  | bulletin (b : Bulletin)
  | mgmtRequest (kind : Byte) (number : BitVec 16) (args : List Byte)
deriving DecidableEq, Repr

/-- `n` readings of 5 bytes each, and nothing after them (R20). -/
def parseReadings : Nat → List Byte → Option (List Reading)
  | 0, [] => some []
  | n + 1, c :: q :: s :: hi :: lo :: rest => do
      let quantity ← quantityOfCode q.toNat
      let status ← statusOfCode s.toNat
      let tail ← parseReadings n rest
      if c.toNat ≤ 15 then some (⟨c.toNat, quantity, status, signed16 (beNat [hi, lo])⟩ :: tail) else none
  | _, _ => none

/-- `n` outputs of 4 bytes each, and nothing after them (R20). -/
def parseOutputs : Nat → List Byte → Option (List ReportOutput)
  | 0, [] => some []
  | n + 1, o :: r :: m :: f :: rest => do
      let run ← runOfCode r.toNat
      let control ← controlOfCode m.toNat
      let tail ← parseOutputs n rest
      if o.toNat == 1 || o.toNat == 2 then some (⟨o.toNat, run, control, f.toNat⟩ :: tail) else none
  | _, _ => none

/-- `n` share entries of 4 bytes each, and nothing after them (R21). -/
def parseShares : Nat → List Byte → Option (List ShareEntry)
  | 0, [] => some []
  | n + 1, a :: x :: y :: z :: rest => do
      let tail ← parseShares n rest
      some (⟨a.toNat, beNat [x, y, z]⟩ :: tail)
  | _, _ => none

/-- An optional chainage: 0xFFFF is absent (R21). -/
def optional16 (v : Nat) : Option Nat := if v == 0xFFFF then none else some v

/-- An INCIDENT NOTICE of 11 bytes (R21). -/
def parseNotice : List Byte → Option Delivery
  | [a, i0, i1, f0, f1, h0, h1, t0, t1, d, c] =>
      some (.notice a.toNat
        { id := beNat [i0, i1], fire := optional16 (beNat [f0, f1]), head := optional16 (beNat [h0, h1]),
          tail := optional16 (beNat [t0, t1]), direction := d.toNat, heat := c.toNat })
  | _ => none

/-- The value of the field of `n` bytes at an offset of a payload. -/
def field (bs : List Byte) (at_ n : Nat) : Nat := beNat ((bs.drop at_).take n)

/-- A BULLETIN (R21). Offsets are those of its table. -/
def parseBulletin (bs : List Byte) : Option Delivery := do
  let n := field bs 28 1
  let state ← stateOfCode (field bs 2 1)
  let role ← roleOfCode (field bs 3 1)
  let direction ← directionOfCode (field bs 4 1)
  let mode ← modeOfCode (field bs 8 1)
  let condition ← conditionOfCode (field bs 9 1)
  let quality ← qualityOfCode (field bs 12 1)
  let health ← healthOfCode (field bs 22 1)
  let outcome ← outcomeOfCode (field bs 25 1)
  let shares ← parseShares n (bs.drop 29)
  if 29 ≤ bs.length && n ≤ 8 then
    some (.bulletin
      { id := field bs 0 2, state := state, role := role, direction := direction, heat := field bs 5 1,
        fire := field bs 6 2, mode := mode, condition := condition, velocity := signed16 (field bs 10 2),
        quality := quality, available := field bs 13 3, running := field bs 16 3, demand := field bs 19 3,
        health := health, flags := BitVec.ofNat 16 (field bs 23 2), outcome := outcome,
        lastCleared := field bs 26 2, shares := shares })
  else none

/-- A SAMPLE: 1 to 12 readings (R20). -/
def parseSample : List Byte → Option Delivery
  | n :: rest => if 1 ≤ n.toNat && n.toNat ≤ 12 then (parseReadings n.toNat rest).map .sample else none
  | [] => none

/-- A FAN REPORT: 1 or 2 outputs (R20). -/
def parseFanReport : List Byte → Option Delivery
  | n :: rest => if n.toNat == 1 || n.toNat == 2 then (parseOutputs n.toNat rest).map .fanReport else none
  | [] => none

/-- A FAN ANSWER of 4 bytes, its tag 0 to 3 (R20). -/
def parseFanAnswer : List Byte → Option Delivery
  | [t, o, c, r] => do
      let outcome ← answerOfCode c.toNat
      let run ← runOfCode r.toNat
      if t.toNat ≤ 3 && (o.toNat == 1 || o.toNat == 2) then some (.fanAnswer t.toNat o.toNat outcome run) else none
  | _ => none

/-- A MGMT REQUEST of at least 3 bytes (R22). -/
def parseRequest : List Byte → Option Delivery
  | n0 :: n1 :: k :: args => some (.mgmtRequest k (BitVec.ofNat 16 (beNat [n0, n1])) args)
  | _ => none

/-- What a telegram of one of the six kinds that are taken hands on, unless it is malformed (R8, R20 to R22). -/
def parsePayload : TelegramKind → List Byte → Option Delivery
  | .sample, bs => parseSample bs
  | .fanReport, bs => parseFanReport bs
  | .fanAnswer, bs => parseFanAnswer bs
  | .incidentNotice, bs => parseNotice bs
  | .bulletin, bs => parseBulletin bs
  | .mgmtRequest, bs => parseRequest bs
  | .fanOrder, _ => none
  | .mgmtReply, _ => none

/-! ### Payloads the part originates (R20 to R22) -/

/-- The payload of a FAN ORDER (R20). -/
def fanOrderPayload (tag output : Nat) (kind : OrderKind) : List Byte :=
  [BitVec.ofNat 8 tag, BitVec.ofNat 8 output, BitVec.ofNat 8 (orderCode kind)]

/-- One share entry of a bulletin (R21). -/
def sharePayload (e : ShareEntry) : List Byte := beBytes 1 e.node ++ beBytes 3 e.share

/-- The payload of a BULLETIN (R21). -/
def bulletinPayload (b : Bulletin) : List Byte :=
  beBytes 2 b.id ++ beBytes 1 (stateCode b.state) ++ beBytes 1 (roleCode b.role) ++
  beBytes 1 (directionCode b.direction) ++ beBytes 1 b.heat ++ beBytes 2 b.fire ++ beBytes 1 (modeCode b.mode) ++
  beBytes 1 (conditionCode b.condition) ++ beSigned 2 b.velocity ++ beBytes 1 (qualityCode b.quality) ++
  beBytes 3 b.available ++ beBytes 3 b.running ++ beBytes 3 b.demand ++ beBytes 1 (healthCode b.health) ++
  beBytes 2 b.flags.toNat ++ beBytes 1 (outcomeCode b.outcome) ++ beBytes 2 b.lastCleared ++
  beBytes 1 b.shares.length ++ b.shares.flatMap sharePayload

/-- The payload of a MGMT REPLY: DONE with its data, or REFUSED with a reason (R22). -/
def replyPayload (number : BitVec 16) (kind : Byte) (outcome : Except ReplyReason (List Byte)) : List Byte :=
  beBytes 2 number.toNat ++ [kind] ++
    match outcome with
    | .ok data => [0, 0] ++ data
    | .error reason => [1, BitVec.ofNat 8 (reasonCode reason)]

end Sys2Proof.Machine
end

