-- ==== Sys2Proof/Machine/Line.lean ====
section
/-! DEFINITION. The Line Interface (01): port states, the forward buffers, the own transmit queue and the output
arbiters. -/

namespace Sys2Proof.Machine

/-! ### Port states (R1 to R4) -/

/-- A port's counters changed. -/
def countPort (i : PortId) (f : PortCounters → PortCounters) (p : Part) : Part :=
  p.onPort i fun q => { q with counters := f q.counters }

/-- Whether an entry of the own queue remains to be sent on a port (R12). -/
def onPortSet (i : PortId) (e : OwnEntry) : Bool :=
  match i with
  | .a => e.onA
  | .b => e.onB

/-- An entry with one port taken from its port set (R4, R13). -/
def dropFromSet (i : PortId) (e : OwnEntry) : OwnEntry :=
  match i with
  | .a => { e with onA := false }
  | .b => { e with onB := false }

/-- Whether an entry's port set is empty. -/
def setEmpty (e : OwnEntry) : Bool := !e.onA && !e.onB

/-- The entries that satisfy `k` leave the own queue; those never sent are counted as unsent (R13). -/
def removeOwn (k : OwnEntry → Bool) (l : LineInterface) : LineInterface :=
  { l with own := l.own.filter fun e => !k e,
           ownUnsent := satAdd l.ownUnsent (l.own.filter fun e => k e && !e.sentOnce).length }

/-- A port leaving UP is taken from every port set, and entries left without a port leave the queue (R4, R13). -/
def dropPort (i : PortId) (l : LineInterface) : LineInterface :=
  removeOwn setEmpty { l with own := l.own.map (dropFromSet i) }

/-- A port enters HUNT or DOWN: fill count 0, timer and window cancelled (R1, R2). -/
def enterIdle (next : PortState) (q : Port) : Port :=
  { q with state := next, fillCount := 0, qualTimer := none, window := none }

/-- A port leaves UP (R4). A telegram cut off in transmission is still at the front of the buffer, and is counted
with it [9]. -/
def leaveUp (i : PortId) (next : PortState) (p : Part) : Part :=
  let p := p.onPort i fun q =>
    { enterIdle next q with
      forward := [], sending := none,
      counters := { q.counters with lineBreaks := satAdd q.counters.lineBreaks q.forward.length } }
  let p := { p with line := dropPort i p.line }
  raise .lineChange (report .portLost (portObject i) p)

/-- Signal energy is detected (R1). -/
def detectSignal (i : PortId) (p : Part) : Part :=
  let p := p.onPort i fun q => { q with signal := true }
  match (p.port i).state with
  | .down => p.onPort i (enterIdle .hunt)
  | _ => p

/-- Signal is lost: the port goes DOWN from every state (R1, R4). -/
def loseSignal (i : PortId) (p : Part) : Part :=
  let p := p.onPort i fun q => { q with signal := false }
  match (p.port i).state with
  | .down => p
  | .up => leaveUp i .down p
  | _ => p.onPort i (enterIdle .down)

/-- The 16th consecutive fill word in HUNT: QUALIFY, its timer of 200 ms and first window of 5 ms begun (R1, R2). -/
def fillComplete (i : PortId) (p : Part) : Part :=
  match (p.port i).state with
  | .hunt => p.onPort i fun q =>
      { q with state := .qualify, fillCount := 16, qualTimer := arm p.now 200, window := arm p.now 5 }
  | _ => p

/-- The qualification timer expires: the port enters UP (R2, R3, R4). -/
def qualify (i : PortId) (p : Part) : Part :=
  if (p.port i).state == .qualify && (p.port i).qualTimer.isSome then
    raise .lineChange (p.onPort i fun q => { q with state := .up, qualTimer := none, checkRun := 0, runCount := 0 })
  else p

/-- An error in QUALIFY returns the port to HUNT; in UP it has no further effect; in HUNT the symbols end a run of
fill words (R1, R2, R5) [8]. -/
def symbolError (i : PortId) (f : PortCounters → PortCounters) (p : Part) : Part :=
  match (p.port i).state with
  | .down => p
  | .hunt => p.onPort i fun q => { q with fillCount := 0 }
  | .qualify => countPort i f (p.onPort i (enterIdle .hunt))
  | .up => countPort i f p

/-- A bad start (R5). -/
def badStartOn (i : PortId) (p : Part) : Part :=
  symbolError i (fun c => { c with badStarts := bump c.badStarts }) p

/-- A runaway (R5). -/
def runawayOn (i : PortId) (p : Part) : Part :=
  symbolError i (fun c => { c with runaways := bump c.runaways }) p

/-- A hold window closes with `fills` fill words received within it (R2, R3). -/
def closeWindow (i : PortId) (fills : Nat) (p : Part) : Part :=
  let failed := countPort i (fun c => { c with holdFailures := bump c.holdFailures })
  match (p.port i).state with
  | .qualify => if 8 ≤ fills then p.onPort i (fun q => { q with window := arm p.now 5 })
                else failed (p.onPort i (enterIdle .hunt))
  | .up => if 8 ≤ fills then p.onPort i (fun q => { q with window := arm p.now 5 })
           else leaveUp i .hunt (failed p)
  | _ => p

/-- A telegram fails its check in UP: counted and reported, and the 8th in a row takes the port to HUNT (R3, R6). -/
def failCheckUp (i : PortId) (p : Part) : Part :=
  let p := p.onPort i fun q =>
    { q with checkRun := q.checkRun + 1, counters := { q.counters with checkFailures := bump q.counters.checkFailures } }
  let p := report .checkError (portObject i) p
  if 8 ≤ (p.port i).checkRun then leaveUp i .hunt p else p

/-- A telegram passes its check: counted as received, and in UP the run of check failures ends (R3, R6). -/
def passCheck (i : PortId) (p : Part) : Part :=
  p.onPort i fun q =>
    { q with checkRun := if q.state == .up then 0 else q.checkRun,
             counters := { q.counters with received := bump q.counters.received } }

/-! ### Forwarding (R9) -/

/-- A telegram received on port `i` is offered for forwarding (R9). -/
def offer (i : PortId) (t : Telegram) (p : Part) : Part :=
  let out := other i
  if t.hop == 0 then countPort i (fun c => { c with expired := bump c.expired }) p
  else if !p.isUp out then countPort out (fun c => { c with lineBreaks := bump c.lineBreaks }) p
  else if 8 ≤ (p.port out).forward.length then
    report .forwardOverflow (portObject out)
      (countPort out (fun c => { c with overflows := bump c.overflows }) p)
  else p.onPort out fun q => { q with forward := q.forward ++ [sealTelegram { t with hop := t.hop - 1 }] }

/-! ### The own transmit queue (R11 to R13) -/

/-- The class of a request (R12). -/
def classOf : OwnRequest → OwnClass
  | .fanOrder station tag _ _ => .fanOrder station tag
  | .bulletin _ => .bulletin
  | .mgmtReply _ _ => .mgmtReply

/-- Whether a class is that of management replies. -/
def isReply : OwnClass → Bool
  | .mgmtReply => true
  | _ => false

/-- The own telegram of a request, its header completed by the Line Interface (R11). -/
def ownTelegram (src seq : Byte) (r : OwnRequest) : Telegram :=
  sealTelegram <| match r with
    | .fanOrder station tag output kind =>
        ⟨BitVec.ofNat 8 station, src, 0x32, seq, 240, fanOrderPayload tag output kind, 0⟩
    | .bulletin b => ⟨255, src, 0x51, seq, 240, bulletinPayload b, 0⟩
    | .mgmtReply dest payload => ⟨dest, src, 0x62, seq, 240, payload, 0⟩

/-- Whether a new entry of class `c` replaces a held one: the same station and tag, or the one bulletin (R12). -/
def replaces (c : OwnClass) (e : OwnEntry) : Bool := !isReply c && e.cls == c

/-- A request joins the own queue with the UP ports as its port set; the sequence counter rises by one (R11, R12). The
FAN ORDER class takes an entry beyond 16 tags as any other [30]. -/
def joinOwn (r : OwnRequest) (upA upB : Bool) (l : LineInterface) : LineInterface :=
  let e : OwnEntry :=
    { telegram := ownTelegram l.node l.seq r, cls := classOf r, onA := upA, onB := upB, sentOnce := false,
      place := l.nextPlace }
  { l with own := (l.own.filter fun h => !replaces (classOf r) h) ++ [e], nextPlace := l.nextPlace + 1,
           seq := l.seq + 1 }

/-- A block asks to have an own telegram queued (R10, R11, R12). -/
def queueOwn (r : OwnRequest) (p : Part) : Part :=
  if !p.addressed then p
  else if !p.isUp .a && !p.isUp .b then { p with line := { p.line with ownUnsent := bump p.line.ownUnsent } }
  else if isReply (classOf r) && 4 ≤ (p.line.own.filter fun e => isReply e.cls).length then
    { p with line := { p.line with droppedReplies := bump p.line.droppedReplies } }
  else { p with line := joinOwn r (p.isUp .a) (p.isUp .b) p.line }

/-- The Order Engine withdraws the entry of a fan station and tag (R13). -/
def withdraw (station tag : Nat) (p : Part) : Part :=
  { p with line := removeOwn (fun e => e.cls == .fanOrder station tag) p.line }

/-- Whether an entry is of the FAN ORDER class. -/
def isFanOrder (e : OwnEntry) : Bool :=
  match e.cls with
  | .fanOrder _ _ => true
  | _ => false

/-- RESTART purges the FAN ORDER class (R13, R18). -/
def purgeOrders (p : Part) : Part := { p with line := removeOwn isFanOrder p.line }

/-! ### The output arbiter (R14) -/

/-- The own telegram that a port's arbiter takes: the oldest FAN ORDER, else the BULLETIN, else the oldest MGMT
REPLY, among the entries that wait for the port (R14). -/
def pickOwn (i : PortId) (l : LineInterface) : Option OwnEntry :=
  let waiting := l.own.filter (onPortSet i)
  match waiting.find? isFanOrder with
  | some e => some e
  | none =>
      match waiting.find? fun e => e.cls == .bulletin with
      | some e => some e
      | none => waiting.head?

/-- The arbiter's choice at a port that is UP and free to start a telegram (R14). -/
def arbitrate (i : PortId) (p : Part) : Part :=
  let q := p.port i
  if q.state == .up && q.sending.isNone then
    match pickOwn i p.line with
    | some e =>
        if q.forward.isEmpty || 4 ≤ q.runCount then
          p.onPort i fun q => { q with sending := some (.own e.telegram e.place), runCount := 0 }
        else p.onPort i fun q => { q with sending := some .forwarded, runCount := q.runCount + 1 }
    | none =>
        if q.forward.isEmpty then p
        else p.onPort i fun q => { q with sending := some .forwarded, runCount := 0 }
  else p

/-- A forwarded telegram has been sent whole: it leaves the buffer and is counted (R9). -/
def endForwarded (i : PortId) (p : Part) : Part :=
  match (p.port i).sending with
  | some .forwarded => p.onPort i fun q =>
      { q with sending := none, forward := q.forward.tail,
               counters := { q.counters with forwarded := bump q.counters.forwarded } }
  | _ => p

/-- The entry at a place is sent on a port, and leaves the queue when no port remains (R13). -/
def markSent (i : PortId) (place : Nat) (l : LineInterface) : LineInterface :=
  removeOwn (fun e => e.place == place && setEmpty e)
    { l with own := updWhere (·.place == place) (fun e => { dropFromSet i e with sentOnce := true }) l.own }

/-- An own telegram has been sent whole (R13). A copy whose entry has left the queue is sent to its end. -/
def endOwn (i : PortId) (p : Part) : Part :=
  match (p.port i).sending with
  | some (.own _ place) =>
      let p := p.onPort i fun q =>
        { q with sending := none, counters := { q.counters with ownSent := bump q.counters.ownSent } }
      { p with line := markSent i place p.line }
  | _ => p

end Sys2Proof.Machine
end

