-- ==== Sys2Proof/Machine/Coordination.lean ====
section
/-! DEFINITION. The Section Coordinator (09): the lead view and the two-leads mark, the peers it presents, its own
bulletin, and what it takes from the Incident Register. -/

namespace Sys2Proof.Machine

/-! ### The lead view (R179, R184, R183) -/

/-- Whether a peer is fresh and claims lead for an id (R179). -/
def claimsLead (id : Nat) (q : PeerRec) : Bool :=
  match q.held with
  | some b => q.fresh && b.role == .lead && b.id == id && id != 0
  | none => false

/-- The addresses of the fresh peers that claim lead for an id, ascending (R179, R180). -/
def claimants (id : Nat) (peers : List PeerRec) : List Nat :=
  sortBy (fun a b => a < b) ((peers.filter (claimsLead id)).map (·.address))

/-- The address of the lead view for an id, if there is one (R179). -/
def leadViewFor (id : Nat) (peers : List PeerRec) : Option Nat := (claimants id peers).head?

/-- The peer record of an address. -/
def peerAt (addr : Nat) (peers : List PeerRec) : Option PeerRec := peers.find? fun q => q.address == addr

/-- The last bulletin of the lead view for an id. -/
def leadBulletin (id : Nat) (peers : List PeerRec) : Option Bulletin :=
  match leadViewFor id peers with
  | some a => (peerAt a peers).bind (·.held)
  | none => none

/-- The share for a node in a lead view: that of the first entry naming it, a view not in CONTROL having none
(R184) [18]. -/
def shareFor (node : Nat) (b : Bulletin) : Option Nat :=
  if b.state == .control then (b.shares.find? fun e => e.node == node).map (·.share) else none

/-- A peer that the Coordinator presents to a lead, with its published A limited to 192,000 N (R183). -/
structure Presented where
  node      : Nat
  available : Nat
deriving DecidableEq, Repr

/-- What a peer record is presented as for an id, if it is (R183). -/
def present (id : Nat) (q : PeerRec) : Option Presented :=
  match q.held with
  | some b =>
      if q.fresh && b.id == id && b.state == .control && b.role != .lead then
        some ⟨q.address, min b.available 192000⟩
      else none
  | none => none

/-- The peers presented for an id, in ascending node address (R183). -/
def presented (id : Nat) (peers : List PeerRec) : List Presented :=
  sortBy (fun a b => a.node < b.node) (peers.filterMap (present id))

/-- The object address of TWO_LEADS (R180). -/
def twoLeadsObject (role : IncidentRole) (lead : Option Nat) (cs : List Nat) : Nat :=
  let others := if role == .lead then cs else cs.filter fun a => some a != lead
  match others with
  | a :: _ => a
  | [] => 0

/-- The lead view and the two-leads mark are judged afresh for the held id (R179, R180). -/
def judgeLead (p : Part) : Part :=
  let c := p.coord
  let cs := claimants c.heldId c.peers
  let lead := cs.head?
  let own := if c.role == .lead && c.heldId != 0 then 1 else 0
  let conflict := 2 ≤ cs.length + own
  let p := { p with coord := { c with leadView := lead, twoLeads := conflict } }
  if conflict && !c.twoLeads then report .twoLeads ⟨.station, twoLeadsObject c.role lead cs⟩ p else p

/-! ### The part's bulletin (R173 to R175) -/

/-- The bulletin built from the values that stand in each block (R174, R83, R104, R111, R194). -/
def buildBulletin (p : Part) : Bulletin :=
  let r := p.reg.record
  { id := r.id, state := r.state, role := r.role, direction := r.dir,
    heat := (match r.heat with | some c => c | none => 0),
    fire := (match r.fire with | some c => c | none => 0xFFFF),
    mode := p.ctl.mode, condition := p.ctl.condition, velocity := p.meas.vm, quality := p.meas.quality,
    available := p.fm.a, running := p.fm.r, demand := p.ctl.lastD, health := p.fc.health, flags := p.fc.flags,
    outcome := p.reg.outcome, lastCleared := p.reg.lastCleared, shares := p.ctl.shares }

/-- The interval of the bulletin timer in milliseconds: 5 s with no CONTROL table (R173). -/
def bulletinTime (p : Part) : Nat :=
  match p.mgmt.control with
  | some t => 1000 * t.period
  | none => 5000

/-- A bulletin is built, counted, handed to the Line Interface, and the timer armed afresh (R173, R175). -/
def sendBulletin (p : Part) : Part :=
  let p := formHealth p
  let p := queueOwn (.bulletin (buildBulletin p)) p
  { p with coord := { p.coord with built := bump p.coord.built, timer := arm p.now (bulletinTime p) } }

/-- The bulletin timer expires (R173). -/
def bulletinExpires (p : Part) : Part := if p.coord.timer.isSome then sendBulletin p else p

/-- An incident record is handed on by the Incident Register (R176, R179, R182, R173); the lead view
is judged before the bulletin is built [29]. -/
def coordTakeRecord (h : RecordHandOn) (p : Part) : Part :=
  let changed := h.record.id != p.coord.heldId
  let p := { p with coord := { p.coord with heldId := h.record.id, role := h.record.role } }
  let p := if changed then judgeLead p else p
  if h.before != h.record.state then sendBulletin p else p

/-- The peer records for the PEER station records, those kept standing (R176); a new one has the arrival time 0 [36]. -/
def buildPeers (stations : List StationRec) (old : List PeerRec) : List PeerRec :=
  (stations.filter fun s => s.role == .peer).map fun s =>
    match peerAt s.address old with
    | some q => q
    | none => ⟨s.address, none, 0, false, none⟩

/-- The Coordinator at power-on reset (R186). -/
def resetCoord (p : Part) : Part :=
  let c := SectionCoordinator.reset (after p.now (bulletinTime p))
  { p with coord := { c with peers := buildPeers p.disp.stations [] } }

end Sys2Proof.Machine
end

