-- ==== Sys2Proof/Machine/Fans.lean ====
section
/-! DEFINITION. The Fan Manager (06, 07): fan records and states, thrust sums, exclusion and heat, rest, reports, order
outcomes, reachability, and the allocation with its start gate. -/

namespace Sys2Proof.Machine

/-! ### Records -/

/-- A fan's record. -/
def Part.fan? (p : Part) (n : Nat) : Option FanRec := p.fm.fans.find? fun f => f.e.num == n

/-- The record of a fan changed by `g`. -/
def onFan (n : Nat) (g : FanRec → FanRec) (p : Part) : Part :=
  { p with fm := { p.fm with fans := updWhere (fun f => f.e.num == n) g p.fm.fans } }

/-- The fan of a station's output (R116). -/
def fanAt (station output : Nat) (p : Part) : Option FanRec :=
  p.fm.fans.find? fun f => f.e.station == station && f.e.output == output && f.state != .unconfigured

/-- A hand-on to another block is put behind those that wait [1]. -/
def post (h : HandOn) (p : Part) : Part := { p with handOns := p.handOns ++ [h] }

/-- A QUERY is requested for a fan from the Order Engine. -/
def askQuery (n : Nat) (p : Part) : Part := post (.orderRequest n .query) p

/-! ### Thrust (R107, R110, R111) -/

/-- The direction the air is pushed when a fan runs (R107). -/
def pushes (o : Orientation) (d : RunDir) : Direction :=
  match o, d with
  | .forwardAB, .fwd => .ab
  | .forwardAB, .rev => .ba
  | .forwardBA, .fwd => .ba
  | .forwardBA, .rev => .ab

/-- The target direction: present while the incident id is non-zero (R61, R110). -/
def target (r : IncidentRecord) : Option Direction := if r.id == 0 then none else r.dir

/-- Useful thrust and useful direction (R110). -/
def useful (r : IncidentRecord) (e : FanEntry) : Nat × Option RunDir :=
  match target r with
  | none => (0, none)
  | some d =>
      if pushes e.orientation .fwd == d then (e.forward, some .fwd)
      else if e.reversible then (e.reverse, some .rev)
      else (0, none)

/-- The states that count in A (R111). -/
def countsInA : FanState → Bool
  | .unknown | .stopped | .starting | .running | .stopping => true
  | .unconfigured | .failed | .isolated | .lost => false

/-- Whether a fan pushes in its useful direction for the sum R (R111). -/
def countsInR (r : IncidentRecord) (f : FanRec) : Bool :=
  let u := (useful r f.e).2
  match f.state with
  | .starting | .running => f.dir.isSome && f.dir == u
  | .unknown =>
      match f.known with
      | some k => (k.kind == .starting || k.kind == .running) && k.dir.isSome && k.dir == u
      | none => false
  | _ => false

/-- The available thrust (R111). -/
def availableThrust (m : FanManager) : Nat :=
  sumOf (fun f => (useful m.record f.e).1) (m.fans.filter fun f => countsInA f.state && !f.excluded && !f.heat)

/-- The running thrust (R111). -/
def runningThrust (m : FanManager) : Nat :=
  sumOf (fun f => (useful m.record f.e).1) (m.fans.filter (countsInR m.record))

/-- A and R formed afresh (R111). -/
def formThrust (p : Part) : Part :=
  { p with fm := { p.fm with a := availableThrust p.fm, r := runningThrust p.fm } }

/-! ### Exclusion and heat (R112, R113) -/

/-- Whether a fan is excluded, E being the exclusion distance (R112). -/
def isExcluded (exclusion : Nat) (r : IncidentRecord) (e : FanEntry) : Bool :=
  if r.id == 0 then false
  else match r.fire with
    | none => false
    | some fire => distance e.chainage fire ≤ exclusion

/-- Whether a chainage lies downstream of the fire (R113). -/
def isDownstream (r : IncidentRecord) (chainage : Nat) : Bool :=
  match r.fire, target r with
  | some fire, some .ab => fire < chainage
  | some fire, some .ba => chainage < fire
  | _, _ => false

/-- Whether a chainage lies upstream of the fire (R134). -/
def isUpstream (r : IncidentRecord) (chainage : Nat) : Bool :=
  match r.fire, target r with
  | some fire, some .ab => chainage < fire
  | some fire, some .ba => fire < chainage
  | _, _ => false

/-- The temperature held for a zone (R113). -/
def zoneTempOf (m : FanManager) (zone : Nat) : Option Int :=
  match m.zoneTemps.find? fun z => z.zone == zone with
  | some z => z.value
  | none => none

/-- Whether a fan is found heat-exposed (R113). -/
def isExposed (r : IncidentRecord) (temp : Option Int) (e : FanEntry) : Bool :=
  if r.id == 0 then false
  else match temp with
    | some t => (e.heatRating : Int) ≤ t
    | none => isDownstream r e.chainage

/-! ### Eligibility and the queue (R115, R141) -/

/-- Whether a fan is eligible to start (R115). -/
def eligible (r : IncidentRecord) (f : FanRec) : Bool :=
  f.state == .stopped && !f.resting && !f.excluded && !f.heat && 0 < (useful r f.e).1

/-- Whether a fan number names an eligible fan. -/
def eligibleNum (m : FanManager) (n : Nat) : Bool :=
  match m.fans.find? fun f => f.e.num == n with
  | some f => eligible m.record f
  | none => false

/-- Fans that are no longer eligible leave the start queue (R115, R141). -/
def pruneQueue (p : Part) : Part :=
  { p with fm := { p.fm with queue := p.fm.queue.filter (eligibleNum p.fm) } }

/-! ### Fan states (R108, R124) -/

/-- The last known state that a fan's present state gives, where it is one of the four (R108). -/
def knownOf (f : FanRec) : Option LastKnown :=
  match f.state with
  | .stopped => some ⟨.stopped, none⟩
  | .starting => some ⟨.starting, f.dir⟩
  | .running => some ⟨.running, f.dir⟩
  | .stopping => some ⟨.stopping, f.dir⟩
  | _ => none

/-- The state before is kept as the last known state (R117, R118, R126, R128). -/
def keepKnown (f : FanRec) : FanRec :=
  match knownOf f with
  | some k => { f with known := some k }
  | none => f

/-- A fan enters a state: what belongs to the state left is cleared or cancelled, and stop requested is cleared in
any state but RUNNING or STARTING (R108). -/
def enter (s : FanState) (dir : Option RunDir) (f : FanRec) : FanRec :=
  { f with state := s, dir := dir, accepted := false, runUp := none, runDown := none, downOver := false,
           stopReq := if s == .running || s == .starting then f.stopReq else false }

/-- A fan without runtime fields (R109). -/
def freshFan (e : FanEntry) (s : FanState) : FanRec :=
  { e := e, state := s, dir := none, known := none, reportIso := false, mgrIso := false, excluded := false,
    heat := false, resting := false, eligibleAt := none, restTimer := none, accepted := false, runUp := none,
    runDown := none, downOver := false, stopReq := false, last := none }

/-! ### Rest (R114) -/

/-- max(run-down time, restart inhibit) in seconds (R114). -/
def longRest (e : FanEntry) : Nat := max e.runDown e.inhibit

/-- A rest of `seconds` begins for a fan; a later rest wins (R114) [10]. -/
def beginRest (now : PartTime) (seconds : Nat) (f : FanRec) : FanRec :=
  let t := after now (1000 * seconds)
  let wins := match f.resting, f.eligibleAt with
    | true, some held => !reached held t
    | _, _ => true
  if wins then { f with resting := true, eligibleAt := some t, restTimer := some t } else f

/-- The rest timer expires (R114). -/
def endRest (f : FanRec) : FanRec := { f with resting := false, eligibleAt := none, restTimer := none }

/-! ### Stops and starts (R136, R137, R142, R143) -/

/-- Whether the state held is CONTROL. -/
def inControl (p : Part) : Bool := p.fm.record.state == .control

/-- Whether a fan is unwanted (R136). -/
def unwanted (r : IncidentRecord) (f : FanRec) : Bool :=
  f.state == .running && ((useful r f.e).2 != f.dir || (useful r f.e).2.isNone || f.excluded || f.heat)

/-- A stop is asked for a fan (R137). -/
def askStop (n : Nat) (p : Part) : Part :=
  match p.fan? n with
  | some f =>
      if f.state == .running && !f.stopReq then
        post (.orderRequest n .stop) (onFan n (fun f => { f with stopReq := true }) p)
      else p
  | none => p

/-- A fan is tested under R136. -/
def testUnwanted (n : Nat) (p : Part) : Part :=
  match p.fan? n with
  | some f => if inControl p && unwanted p.fm.record f then askStop n p else p
  | none => p

/-- Every fan is tested under R136, in ascending fan number [20]. -/
def testAllUnwanted (p : Part) : Part := (p.fm.fans.map (·.e.num)).foldl (fun p n => testUnwanted n p) p

/-- A slot held by `n` is put in the first free slot (R142) [20]. -/
def takeSlot (n : Nat) : Nat → List (Option Nat) → List (Option Nat)
  | 0, l => l
  | _, [] => []
  | _ + 1, none :: rest => some n :: rest
  | k + 1, some m :: rest => some m :: takeSlot n k rest

/-- Whether one of the first G slots is free (R133). -/
def slotFree (m : FanManager) (g : Nat) : Bool := (m.slots.take g).any Option.isNone

/-- The START that runs a fan in a direction (R142). -/
def startKind : RunDir → OrderKind
  | .fwd => .startFwd
  | .rev => .startRev

/-- One grant: the head of the queue takes a slot, becomes STARTING and has its START requested (R142). -/
def grantOne (p : Part) : Part :=
  match p.fm.queue with
  | [] => p
  | n :: rest =>
      match p.fan? n with
      | none => p
      | some f =>
          match (useful p.fm.record f.e).2 with
          | none => p
          | some d =>
              if slotFree p.fm p.control.gate && inControl p then
                let p := { p with fm := { p.fm with queue := rest, slots := takeSlot n p.control.gate p.fm.slots } }
                post (.orderRequest n (startKind d)) (onFan n (enter .starting (some d)) p)
              else p

/-- The grants of one event: at most one for each of the 4 slots (R142). -/
def grants (p : Part) : Part := grantOne (grantOne (grantOne (grantOne p)))

/-- Whether a fan number names a fan in STARTING. -/
def isStarting (p : Part) (n : Nat) : Bool :=
  match p.fan? n with
  | some f => f.state == .starting
  | none => false

/-- Slots whose fan has left STARTING are freed, and in CONTROL a freed slot is offered at once to the head of the
queue (R124, R141, R143). -/
def releaseSlots (p : Part) : Part :=
  let slots := p.fm.slots.map fun s => s.filter (isStarting p)
  let freed := slots != p.fm.slots
  let p := pruneQueue { p with fm := { p.fm with slots := slots } }
  if freed && inControl p then grants p else p

/-! ### The end of clearing (R146) -/

/-- The Order Engine holds no order record, none being on its way to it (R146, R168) [14]. -/
def noOrders (p : Part) : Bool :=
  p.ord.records.isEmpty && p.handOns.all fun h => match h with | .orderRequest _ _ => false | .clearingEnd => true

/-- Whether a fan holds the clearing open (R146). -/
def holdsOpen (f : FanRec) : Bool :=
  match f.state with
  | .starting | .running => true
  | .unknown =>
      match f.known with
      | some k => k.kind == .starting || k.kind == .running
      | none => false
  | _ => false

/-- The test for the end of clearing: the first time it has ended, the report is handed on (R146). -/
def testClearing (p : Part) : Part :=
  if p.fm.record.state == .clearing && !p.fm.clearingSent && !p.fm.fans.any holdsOpen && noOrders p then
    post .clearingEnd { p with fm := { p.fm with clearingSent := true } }
  else p

/-- What follows every change of a fan: the queue, A and R, the end of clearing (R111, R115, R146). -/
def fanTail (p : Part) : Part := testClearing (formThrust (pruneQueue p))

/-! ### Entries to FAILED, ISOLATED and LOST (R117, R118, R126) -/

/-- The fan object of a fault (R188). -/
def fanObject (n : Nat) : FaultObject := ⟨.fan, n⟩

/-- A fan enters FAILED from any other state (R117). -/
def failFan (n : Nat) (p : Part) : Part :=
  match p.fan? n with
  | some f =>
      if f.state == .failed then p
      else
        let p := onFan n (fun f => enter .failed none (keepKnown f)) p
        releaseSlots (raise .fanFailed (report .fanFailed (fanObject n) p))
  | none => p

/-- Report isolation is set, and a fan that was not ISOLATED becomes it (R118, R123). -/
def isolateByReport (n : Nat) (p : Part) : Part :=
  releaseSlots (onFan n (fun f =>
    if f.state == .isolated then { f with reportIso := true }
    else { enter .isolated none (keepKnown f) with reportIso := true }) p)

/-- A fan becomes UNKNOWN, keeping the last known state that its state before gives (R124). -/
def becomeUnknown (f : FanRec) : FanRec := enter .unknown none (keepKnown f)

/-- Whether the loss of a station takes a fan to LOST (R126). -/
def losable (f : FanRec) : Bool :=
  match f.state with
  | .unknown | .stopped | .starting | .running | .stopping => true
  | .isolated => !f.mgrIso
  | .unconfigured | .failed | .lost => false

/-- A fan becomes LOST (R126). -/
def loseFan (f : FanRec) : FanRec := { enter .lost none (keepKnown f) with reportIso := false }

/-- A station becomes UNREACHABLE; one already UNREACHABLE is left as it is (R126). -/
def loseStation (station : Nat) (p : Part) : Part :=
  match p.fm.reach.find? fun r => r.station == station && r.state == .reachable with
  | none => p
  | some _ =>
      let p := { p with fm := { p.fm with
        reach := updWhere (fun r => r.station == station)
                   (fun r => { r with state := .unreachable, silence := none }) p.fm.reach,
        fans := updWhere (fun f => f.e.station == station && losable f) loseFan p.fm.fans } }
      releaseSlots (raise .fanLost (report .stationLost ⟨.station, station⟩ p))

/-! ### Judging a run state (R119 to R122) -/

/-- The run direction a running report shows. -/
def runDirOf : RunState → Option RunDir
  | .runFwd => some .fwd
  | .runRev => some .rev
  | _ => none

/-- A fan enters STOPPING: its run-down timer is armed, and a rest of max(run-down, inhibit) begins (R120, R122,
R123). -/
def beginStopping (now : PartTime) (dir : Option RunDir) (f : FanRec) : FanRec :=
  beginRest now (longRest f.e) { enter .stopping dir f with runDown := arm now (1000 * f.e.runDown) }

/-- A fan enters RUNNING from a settling or an unexpected run: stop requested clear (R122), then tested (R136) [29]. -/
def enterRunning (n : Nat) (d : RunDir) (p : Part) : Part :=
  testUnwanted n (releaseSlots (onFan n (fun f => { enter .running (some d) f with stopReq := false }) p))

/-- A fan is settled from a reported run state (R122). -/
def settleFan (n : Nat) (run : RunState) (p : Part) : Part :=
  match run with
  | .stopped => onFan n (fun f => beginRest p.now f.e.runDown (enter .stopped none f)) p
  | .runFwd => enterRunning n .fwd p
  | .runRev => enterRunning n .rev p
  | .stopping => onFan n (fun f =>
      beginStopping p.now (match f.known with | some k => k.dir | none => none) f) p
  | .starting => askQuery n (onFan n (enter .unknown none) p)

/-- A fan in STARTING is judged (R119). The slot it frees on entering RUNNING is granted before the fan is tested under
R136 [29]. -/
def judgeStarting (n : Nat) (dir : Option RunDir) (run : RunState) (p : Part) : Part :=
  match runDirOf run with
  | none => p
  | some d =>
      if dir == some d then testUnwanted n (releaseSlots (onFan n (enter .running (some d)) p))
      else failFan n p

/-- A fan in RUNNING is judged (R120). -/
def judgeRunning (f : FanRec) (run : RunState) (p : Part) : Part :=
  let n := f.e.num
  let unasked := fun p => if f.stopReq then p else report .fanStoppedUnasked (fanObject n) p
  match run with
  | .starting => p
  | .runFwd => if f.dir == some .fwd then p else failFan n p
  | .runRev => if f.dir == some .rev then p else failFan n p
  | .stopped => unasked (onFan n (fun f => beginRest p.now (longRest f.e) (enter .stopped none f)) p)
  | .stopping => unasked (onFan n (fun f => beginStopping p.now f.dir f) p)

/-- A fan in STOPPING is judged once its run-down time has passed (R121). -/
def judgeStopping (f : FanRec) (run : RunState) (p : Part) : Part :=
  if f.downOver then
    match run with
    | .stopped => onFan f.e.num (enter .stopped none) p
    | _ => failFan f.e.num p
  else p

/-- A fan in STOPPED is judged (R122). -/
def judgeStopped (n : Nat) (run : RunState) (p : Part) : Part :=
  match runDirOf run with
  | none => p
  | some d => enterRunning n d { p with fm := { p.fm with unexpected := bump p.fm.unexpected } }

/-- The run state is judged under the rule for the fan's state (R119 to R122). -/
def judgeRun (n : Nat) (run : RunState) (p : Part) : Part :=
  match p.fan? n with
  | none => p
  | some f =>
      match f.state with
      | .starting => judgeStarting n f.dir run p
      | .running => judgeRunning f run p
      | .stopping => judgeStopping f run p
      | .stopped => judgeStopped n run p
      | .unknown | .lost => settleFan n run p
      | .unconfigured | .failed | .isolated => p

/-! ### Fan reports (R116 to R118, R125, R127) -/

/-- A fan's control mode is judged, then its run state unless it is ISOLATED (R118, R116). -/
def judgeControl (n : Nat) (o : ReportOutput) (p : Part) : Part :=
  match p.fan? n with
  | none => p
  | some f =>
      match o.control with
      | .localMode => isolateByReport n p
      | .remote =>
          if f.reportIso then
            let p := onFan n (fun f => { f with reportIso := false }) p
            if f.state == .isolated then (if f.mgrIso then p else settleFan n o.run p) else judgeRun n o.run p
          else judgeRun n o.run p

/-- One output of a report is judged: fault code, control mode, run state (R116). -/
def judgeOutput (source : Nat) (p : Part) (o : ReportOutput) : Part :=
  match fanAt source o.output p with
  | none => { p with fm := { p.fm with unmatched := bump p.fm.unmatched } }
  | some f =>
      let n := f.e.num
      let p := onFan n (fun f => { f with last := some ⟨o.run, some o.control, some o.fault, p.now⟩ }) p
      if f.state == .failed then p
      else if o.fault != 0 then failFan n p
      else judgeControl n o p

/-- The fans of a station that are LOST and not named in a report, which brings the station back (R127). -/
def unnamedLost (source : Nat) (outputs : List ReportOutput) (m : FanManager) : List Nat :=
  (m.fans.filter fun f =>
    f.e.station == source && f.state == .lost && !outputs.any fun o => o.output == f.e.output).map (·.e.num)

/-- A report re-arms its station's silence timer and makes it REACHABLE (R125, R127). -/
def hearStation (now : PartTime) (source : Nat) (r : ReachRec) : ReachRec :=
  if r.station == source then { r with state := .reachable, silence := arm now 5000, time := some now } else r

/-- A FAN REPORT is taken (R116, R125, R127); the LOST fans that it does not name become UNKNOWN after its outputs are
judged [29]. -/
def takeReport (source : Nat) (outputs : List ReportOutput) (p : Part) : Part :=
  let back := p.fm.reach.any fun r => r.station == source && r.state == .unreachable
  let p := { p with fm := { p.fm with reach := p.fm.reach.map (hearStation p.now source) } }
  let p := outputs.foldl (judgeOutput source) p
  let p := if back then
      (unnamedLost source outputs p.fm).foldl (fun p n => askQuery n (onFan n becomeUnknown p)) p
    else p
  fanTail p

/-! ### Order outcomes (R123) -/

/-- Whether an order is a START or a STOP. -/
def isMotion : OrderKind → Bool
  | .query => false
  | _ => true

/-- Whether an order is a START. -/
def isStart : OrderKind → Bool
  | .startFwd | .startRev => true
  | _ => false

/-- The run state and time of a STATE answer become the fan's last report (R123). -/
def recordState (now : PartTime) (run : RunState) (f : FanRec) : FanRec :=
  { f with last := some ⟨run, f.last.bind (·.control), f.last.bind (·.fault), now⟩ }

/-- A START is accepted: only a fan in STARTING takes it, and with it the run state that a recovery query reported
(R123) [24]. -/
def startAccepted (f : FanRec) (reported : Option RunState) (p : Part) : Part :=
  let n := f.e.num
  if f.state == .starting then
    let p := onFan n (fun f => { f with accepted := true, runUp := arm p.now (1000 * f.e.runUp) }) p
    match reported with
    | some run => judgeRun n run (onFan n (recordState p.now run) p)
    | none => p
  else p

/-- A STOP is accepted (R123). -/
def stopAccepted (f : FanRec) (p : Part) : Part :=
  match f.state with
  | .running => onFan f.e.num (fun f => beginStopping p.now f.dir f) p
  | .stopping | .stopped => onFan f.e.num (fun f => beginRest p.now (longRest f.e) f) p
  | _ => p

/-- The effect of an order's outcome on its fan (R123, R155) [24]. -/
def judgeOutcome (f : FanRec) (order : OrderKind) (outcome : OrderOutcome) (p : Part) : Part :=
  let n := f.e.num
  match outcome with
  | .accepted reported =>
      if isStart order then startAccepted f reported p
      else if order == .stop then stopAccepted f p
      else p
  | .refusedLocal => if isMotion order && f.state != .failed then isolateByReport n p else p
  | .refusedFault => if isMotion order then failFan n p else p
  | .failed => loseStation f.e.station p
  | .state reported =>
      if f.state == .lost then p
      else
        let p := onFan n (recordState p.now reported) p
        if f.state == .failed || f.state == .isolated then p else judgeRun n reported p
  | .withdrawn =>
      if isStart order && f.state == .starting then askQuery n (releaseSlots (onFan n becomeUnknown p)) else p

/-- The outcome of an order is taken (R123), for no fan without effect [23]. -/
def takeOutcome (n : Nat) (order : OrderKind) (outcome : OrderOutcome) (p : Part) : Part :=
  match p.fan? n with
  | none => p
  | some f =>
      let p := if order == .stop then onFan n (fun f => { f with stopReq := false }) p else p
      fanTail (judgeOutcome f order outcome p)

/-! ### Timers of a fan (R114, R119, R121, R126); an expiry finds its timer armed or does nothing [4] -/

/-- The rest timer of a fan expires (R114). -/
def restExpires (n : Nat) (p : Part) : Part :=
  fanTail (onFan n (fun f => if f.restTimer.isSome then endRest f else f) p)

/-- The run-up timer of a fan expires: in STARTING, a start failure (R119). -/
def runUpExpires (n : Nat) (p : Part) : Part :=
  match p.fan? n with
  | some f => if f.runUp.isSome && f.state == .starting then fanTail (failFan n p) else p
  | none => p

/-- The run-down timer of a fan expires: in STOPPING, run-down over is set (R121). -/
def runDownExpires (n : Nat) (p : Part) : Part :=
  onFan n (fun f =>
    if f.runDown.isSome && f.state == .stopping then { f with runDown := none, downOver := true } else f) p

/-- The report silence timer of a station expires (R126). -/
def silenceExpires (station : Nat) (p : Part) : Part :=
  if p.fm.reach.any fun r => r.station == station && r.silence.isSome then fanTail (loseStation station p) else p

/-! ### Isolation and admission (R128, R129) -/

/-- Whether a number names a fan that a request can act on (R128, R129). -/
def requestable (n : Nat) (p : Part) : Bool :=
  match p.fan? n with
  | some f => f.state != .unconfigured
  | none => false

/-- ISOLATE on a fan (R128). -/
def isolateFan (n : Nat) (p : Part) : Part :=
  fanTail (releaseSlots (onFan n (fun f =>
    if f.state == .failed || f.state == .isolated then { f with mgrIso := true }
    else { enter .isolated none (keepKnown f) with mgrIso := true }) p))

/-- A fan admitted becomes UNKNOWN with a QUERY, or LOST while its station is UNREACHABLE (R129). -/
def readmit (f : FanRec) (p : Part) : Part :=
  if p.fm.reach.any fun r => r.station == f.e.station && r.state == .unreachable then
    onFan f.e.num (enter .lost none) p
  else askQuery f.e.num (onFan f.e.num (enter .unknown none) p)

/-- ADMIT on a fan (R129). -/
def admitFan (n : Nat) (p : Part) : Part :=
  match p.fan? n with
  | none => p
  | some f =>
      let cleared := onFan n (fun f => { f with mgrIso := false }) p
      match f.state with
      | .failed => fanTail (readmit f cleared)
      | .isolated =>
          if f.mgrIso then fanTail (if f.reportIso then cleared else readmit f cleared) else p
      | _ => p

/-! ### The preference order (R134, R135) -/

/-- Whether a fan comes before another in the preference order (R134). -/
def prefers (r : IncidentRecord) (f g : FanRec) : Bool :=
  let fire := match r.fire with | some c => c | none => 0
  let uf := isUpstream r f.e.chainage
  let ug := isUpstream r g.e.chainage
  let df := distance f.e.chainage fire
  let dg := distance g.e.chainage fire
  if uf != ug then uf
  else if f.e.rank != g.e.rank then f.e.rank < g.e.rank
  else if df != dg then dg < df
  else f.e.num < g.e.num

/-- The preference order of the fans for a record (R134). -/
def preferenceOf (r : IncidentRecord) (fans : List FanRec) : List Nat :=
  if r.id == 0 then []
  else (sortBy (prefers r) (fans.filter fun f => f.state != .unconfigured)).map (·.e.num)

/-! ### Demand updates (R138 to R140) -/

/-- The walk of the rebuild: `d` the demand, `r` the running thrust, `q` the running sum (R139). -/
def walkQueue (rec : IncidentRecord) (d r : Nat) : Nat → List FanRec → List Nat
  | _, [] => []
  | q, f :: rest =>
      if eligible rec f then
        let t := (useful rec f.e).1
        if 2 * (r + q) + t < 2 * d then f.e.num :: walkQueue rec d r (q + t) rest else []
      else walkQueue rec d r q rest

/-- The fans of the preference order, in that order. -/
def preferred (m : FanManager) : List FanRec :=
  m.preference.filterMap fun n => m.fans.find? fun f => f.e.num == n

/-- The start queue is rebuilt (R139). -/
def rebuildQueue (p : Part) : Part :=
  { p with fm := { p.fm with queue := walkQueue p.fm.record p.fm.lastDemand p.fm.r 0 (preferred p.fm) } }

/-- Whether a fan is RUNNING in its useful direction (R140). -/
def runsUseful (r : IncidentRecord) (f : FanRec) : Bool :=
  f.state == .running && f.dir.isSome && f.dir == (useful r f.e).2

/-- The stop rule (R140). -/
def stopRule (p : Part) : Part :=
  if p.fm.fans.any fun f => f.state == .running && f.stopReq then p
  else match lastWhere (runsUseful p.fm.record) (preferred p.fm) with
    | none => p
    | some l =>
        if p.fm.lastDemand + (useful p.fm.record l.e).1 + p.control.hysteresis ≤ p.fm.r then askStop l.e.num p else p

/-- A demand update is taken (R138). -/
def takeDemand (d : Nat) (p : Part) : Part :=
  if inControl p then
    let p := rebuildQueue { p with fm := { p.fm with lastDemand := d } }
    let p := if p.fm.queue.isEmpty then stopRule p else p
    formThrust (pruneQueue (grants p))
  else p

/-! ### Clearing (R145) -/

/-- One staggered stop, and the timer armed with the stop spacing (R145). -/
def staggeredStop (p : Part) : Part :=
  let p := match lastWhere (fun f => f.state == .running && !f.stopReq) (preferred p.fm) with
    | some f => askStop f.e.num p
    | none => p
  { p with fm := { p.fm with stopSpacing := arm p.now (1000 * p.control.stopSpacing) } }

/-- The stop-spacing timer expires in CLEARING (R145). -/
def spacingExpires (p : Part) : Part :=
  if p.fm.stopSpacing.isSome then
    if p.fm.record.state == .clearing then staggeredStop p
    else { p with fm := { p.fm with stopSpacing := none } }
  else p

/-! ### Zone temperatures and incident records (R113, R135, R144 to R147) -/

/-- Heat exposure is judged for the fans that satisfy `k`; marks already set stand (R113). -/
def judgeHeat (k : FanRec → Bool) (p : Part) : Part :=
  let mark := fun (f : FanRec) =>
    { f with heat := f.heat || isExposed p.fm.record (zoneTempOf p.fm f.e.zone) f.e }
  { p with fm := { p.fm with fans := updWhere k mark p.fm.fans } }

/-- Fans whose heat-exposed mark has become set are tested under R136. -/
def testNewHeat (before : List FanRec) (p : Part) : Part :=
  ((p.fm.fans.filter fun f => f.heat && !before.any fun g => g.e.num == f.e.num && g.heat).map (·.e.num)).foldl
    (fun p n => testUnwanted n p) p

/-- A zone temperature is handed on by the Measurement Unit (R113, R55). -/
def takeZoneTemp (zone : Nat) (value : Option Int) (p : Part) : Part :=
  let before := p.fm.fans
  let p := { p with fm := { p.fm with
    zoneTemps := p.fm.zoneTemps.map fun z => if z.zone == zone then { z with value := value } else z } }
  if p.fm.record.id == 0 then p
  else fanTail (testNewHeat before (judgeHeat (fun f => f.e.zone == zone) p))

/-- Exclusion is judged for every fan (R112). -/
def judgeExclusion (p : Part) : Part :=
  let mark := fun (f : FanRec) => { f with excluded := isExcluded p.control.exclusion p.fm.record f.e }
  { p with fm := { p.fm with fans := p.fm.fans.map mark } }

/-- Every heat-exposed mark is cleared (R113). -/
def clearHeat (p : Part) : Part :=
  { p with fm := { p.fm with fans := p.fm.fans.map fun f => { f with heat := false } } }

/-- The start queue is emptied (R141). -/
def emptyQueue (p : Part) : Part := { p with fm := { p.fm with queue := [] } }

/-- The preference order is formed afresh (R135). -/
def formPreference (p : Part) : Part :=
  { p with fm := { p.fm with preference := preferenceOf p.fm.record p.fm.fans } }

/-- An incident record is handed on by the Incident Register (R110, R112, R113, R135, R136, R141, R144 to R147). -/
def fansTakeRecord (h : RecordHandOn) (p : Part) : Part :=
  let old := p.fm.record
  let new := h.record
  let idChanged := new.id != old.id
  let moved := idChanged || new.fire != old.fire || new.dir != old.dir
  let entering := new.state == .control && h.before != .control
  let p := { p with fm := { p.fm with record := new } }
  let p := judgeExclusion p
  let p := if idChanged || new.id == 0 then clearHeat p else p
  let p := if moved then judgeHeat (fun _ => true) p else p
  let p := if moved || entering || new.id == 0 then formPreference p else p
  let p := if new.state != .control || moved || entering then emptyQueue p else pruneQueue p
  let p := formThrust p
  let p := if new.state == .control && (moved || entering) then testAllUnwanted p else p
  let p :=
    if new.state == .clearing then
      if h.before != .clearing then staggeredStop { p with fm := { p.fm with clearingSent := false } } else p
    else { p with fm := { p.fm with stopSpacing := none } }
  testClearing p

/-! ### Activation and resets (R109, R125, R131, R132, R150, R151) -/

/-- Whether a fan's station is a FAN STATION and its zone configured (R109). -/
def configuredFan (p : Part) (e : FanEntry) : Bool :=
  p.hasRole e.station .fanStation && (p.zoneEntry e.zone).isSome

/-- What a judgement makes of a fan (R109). -/
inductive FanFate where
  | kept
  | fresh
  | unconfigured
deriving DecidableEq, Repr

/-- The fate of an entry beside the record its fan number has held (R109). -/
def fanFate (p : Part) (e : FanEntry) (old : Option FanRec) : FanFate :=
  if !configuredFan p e then .unconfigured
  else match old with
    | some f =>
        if f.state != .unconfigured && f.e.station == e.station && f.e.output == e.output && f.e.zone == e.zone then
          .kept
        else .fresh
    | none => .fresh

/-- The record a judgement gives an entry (R109). -/
def judgedFan (p : Part) (e : FanEntry) : FanRec :=
  let old := p.fan? e.num
  match fanFate p e old, old with
  | .kept, some f => { f with e := e }
  | .unconfigured, _ => freshFan e .unconfigured
  | _, _ => freshFan e .unknown

/-- The entries of the active FAN table in ascending fan number; none while none is active (R109). -/
def Part.fanEntries (p : Part) : List FanEntry :=
  match p.mgmt.fans with
  | some t => sortBy (fun a b => a.num < b.num) t.entries
  | none => []

/-- A judgement finding an UNCONFIGURED fan raises TABLE_EVENT once (R109). -/
def raiseDangling (p : Part) : Part :=
  if p.fm.fans.any fun f => f.state == .unconfigured then raise .tableEvent p else p

/-- The fans that a judgement has made UNKNOWN afresh: those requested a QUERY at an activation (R109). -/
def freshFans (p : Part) : List Nat :=
  (p.fanEntries.filter fun e => fanFate p e (p.fan? e.num) == .fresh).map (·.num)

/-- Every fan is judged at an activation (R109), the QUERYs requested in ascending fan number [20]. -/
def judgeFans (p : Part) : Part :=
  let asked := freshFans p
  let p := raiseDangling { p with fm := { p.fm with fans := p.fanEntries.map (judgedFan p) } }
  let p := asked.foldl (fun p n => askQuery n p) p
  let p := if p.fm.record.id != 0 then formPreference (judgeHeat (fun _ => true) (judgeExclusion p)) else p
  fanTail (releaseSlots p)

/-- The reachability records for the FAN STATION records of the station table, those kept standing (R125). -/
def buildReach (p : Part) : Part :=
  let one := fun (s : StationRec) =>
    match p.fm.reach.find? fun r => r.station == s.address with
    | some r => r
    | none => ⟨s.address, .reachable, arm p.now 5000, none⟩
  { p with fm := { p.fm with reach := (p.disp.stations.filter fun s => s.role == .fanStation).map one } }

/-- The fan records and the allocation at power-on reset (R131, R150). -/
def resetFans (p : Part) : Part :=
  let p := buildReach { p with fm := .reset }
  let one := fun e => freshFan e (if configuredFan p e then .unknown else .unconfigured)
  raiseDangling { p with fm := { p.fm with fans := p.fanEntries.map one } }

/-- One fan at RESTART (R132). -/
def restartFan (f : FanRec) : FanRec :=
  let g := match f.state with
    | .unconfigured | .failed => f
    | .isolated => if f.mgrIso then f else enter .unknown none f
    | .lost | .unknown => enter .unknown none f
    | .stopped | .starting | .running | .stopping => becomeUnknown f
  if f.state == .unconfigured then f
  else { g with reportIso := false, accepted := false, downOver := false, stopReq := false, runUp := none,
                runDown := none }

/-- RESTART on the fan records and the allocation, with the QUERY requests that follow (R132, R151, R211). -/
def restartFans (p : Part) : Part :=
  let p := emptyQueue { p with fm := { p.fm with
    fans := p.fm.fans.map restartFan,
    reach := p.fm.reach.map fun r => { r with state := .reachable, silence := arm p.now 5000 },
    stopSpacing := if p.fm.stopSpacing.isSome then arm p.now (1000 * p.control.stopSpacing) else none } }
  let p := releaseSlots p
  let p := ((p.fm.fans.filter fun f => f.state == .unknown).map (·.e.num)).foldl (fun p n => askQuery n p) p
  fanTail p

end Sys2Proof.Machine
end

