-- ==== Sys2Proof/Machine/Controller.lean ====
section
/-! DEFINITION. The Airflow Controller (05): the law, the computations, shares, and the changes of mode. -/

namespace Sys2Proof.Machine

/-! ### The law (R92, R93, R96) -/

/-- The n-th value of a table by heat class, counted from 1. -/
def byClass (l : List Nat) (c : Nat) : Nat := l.getD (c - 1) 0

/-- The heat class of the record the controller holds [28]. -/
def heatClass (r : IncidentRecord) : Nat :=
  match r.heat with
  | some c => c
  | none => 1

/-- The sign s of the target direction [28]. -/
def dirSign (r : IncidentRecord) : Int :=
  match r.dir with
  | some .ba => -1
  | _ => 1

/-- The target velocity Vt (R92). -/
def targetVelocity (t : ControlTable) (c : Nat) : Nat := min (byClass t.vcrit c + t.margin) t.vmax

/-- The error e: Vt - s * Vm, clamped to -1500 to +1500 (R92). -/
def velocityError (t : ControlTable) (r : IncidentRecord) (vm : Int) : Int :=
  clamp (-1500) 1500 ((targetVelocity t (heatClass r) : Int) - dirSign r * vm)

/-- The P term: Kp * e / 16, rounded half away from zero (R92). -/
def pTerm (t : ControlTable) (e : Int) : Int := roundDiv (t.kp * e) 16

/-- An integral clamped to -256 * A to +256 * A (R88, R93). -/
def boundIntegral (a : Nat) (i : Int) : Int := clamp (-256 * a) (256 * a) i

/-- The integral of a bumpless transfer from the last D (R96). -/
def transferIntegral (a lastD : Nat) (pt : Int) : Int := boundIntegral a (256 * ((lastD : Int) - pt))

/-- The integral after the anti-windup decision and the bound (R93). -/
def stepIntegral (a : Nat) (ki : Nat) (e pt i : Int) : Int :=
  let trial := i + ki * e
  let d := pt + truncDiv trial 256
  boundIntegral a (if (a < d && 0 < e) || (d < 0 && e < 0) then i else trial)

/-- The demand: P + I / 256 clamped to 0 to A (R93). -/
def lawDemand (a : Nat) (pt i : Int) : Nat := (clamp 0 a (pt + truncDiv i 256)).toNat

/-! ### Computations (R88, R89, R90, R94, R98, R99) -/

/-- How a computation begins: at a period, as the first of an entry (R89), or as a transfer (R90, R102, R103). -/
inductive ComputeStart where
  | period
  | first
  | transfer
deriving DecidableEq, Repr

/-- What a computation leaves in the controller. -/
structure LawResult where
  condition : VelocityCondition
  integral  : Int
  lastP     : Int
  demand    : Nat
  holdTimer : Timer
deriving DecidableEq, Repr

/-- The law run, after a bumpless transfer where one applies (R92, R93, R96). -/
def runLaw (p : Part) (a : Nat) (transfer : Bool) : LawResult :=
  let t := p.control
  let e := velocityError t p.ctl.record p.meas.vm
  let pt := pTerm t e
  let i := if transfer then transferIntegral a p.ctl.lastD pt else p.ctl.integral
  let i' := stepIntegral a t.ki e pt i
  ⟨.ok, i', pt, lawDemand a pt i', none⟩

/-- The demand held: min(last D, A) (R94). -/
def heldResult (p : Part) (a : Nat) (timer : Timer) : LawResult :=
  ⟨.held, boundIntegral a p.ctl.integral, p.ctl.lastP, min p.ctl.lastD a, timer⟩

/-- The open-loop demand (R94). -/
def openLoopResult (p : Part) (a : Nat) : LawResult :=
  ⟨.openLoop, boundIntegral a p.ctl.integral, p.ctl.lastP,
   min (byClass p.control.openLoop (heatClass p.ctl.record)) a, none⟩

/-- The quality judged against the condition, and the demand of LEAD or LOCAL for an available thrust (R89, R90,
R94, R102, R103). -/
def judgeVelocity (p : Part) (a : Nat) (start : ComputeStart) : LawResult :=
  if p.meas.quality == .lost then
    match start, p.ctl.condition with
    | .first, _ => openLoopResult p a
    | _, .ok => heldResult p a (arm p.now (1000 * p.control.velocityHold))
    | _, .held => heldResult p a p.ctl.velocityHold
    | _, .openLoop => openLoopResult p a
  else runLaw p a (start == .transfer || p.ctl.condition != .ok)

/-- The share of a presented peer: floor(D_total * A_k / A_sum) (R99). -/
def shareOf (total aSum : Nat) (k : Presented) : ShareEntry := ⟨k.node, total * k.available / aSum⟩

/-- A computation (R88): the demand is formed and recorded, the timer armed afresh. -/
def formDemand (start : ComputeStart) (p : Part) : Part :=
  let own := p.fm.a
  let period := arm p.now (1000 * p.control.period)
  match p.ctl.mode with
  | .idle => p
  | .lead =>
      let peers := presented p.ctl.record.id p.coord.peers
      let aSum := own + sumOf (·.available) peers
      let r := judgeVelocity p aSum start
      let shares := peers.map (shareOf r.demand aSum)
      let ownD := (clamp 0 own ((r.demand : Int) - (sumOf (·.share) shares : Nat))).toNat
      { p with ctl := { p.ctl with
          condition := r.condition, integral := r.integral, lastP := r.lastP, velocityHold := r.holdTimer,
          lastD := r.demand, ownDemand := ownD, boundA := aSum, aSum := aSum, shares := shares, period := period } }
  | .localMode =>
      let r := judgeVelocity p own start
      { p with ctl := { p.ctl with
          condition := r.condition, integral := r.integral, lastP := r.lastP, velocityHold := r.holdTimer,
          lastD := r.demand, ownDemand := r.demand, boundA := own, period := period } }
  | .share | .shareHeld =>
      let d := min p.ctl.lastShare own
      { p with ctl := { p.ctl with
          integral := boundIntegral own p.ctl.integral, lastD := d, ownDemand := d, boundA := own,
          period := period } }

/-- A computation with its demand update (R88). None is made in IDLE. -/
def compute (start : ComputeStart) (p : Part) : Part :=
  if p.ctl.mode == .idle then p
  else
    let p := formDemand start p
    takeDemand p.ctl.ownDemand p

/-- The control-period timer expires (R88). -/
def periodExpires (p : Part) : Part := if p.ctl.period.isSome then compute .period p else p

/-- The velocity-hold timer expires (R95). -/
def velocityHoldExpires (p : Part) : Part :=
  if p.ctl.velocityHold.isSome && p.ctl.condition == .held then
    { p with ctl := { p.ctl with condition := .openLoop, velocityHold := none } }
  else p

/-! ### Modes (R89 to R91, R97, R100 to R103) -/

/-- The share for this node in the fresh lead view for the record held (R89, R184). -/
def heldShare (p : Part) : Option Nat := (leadBulletin p.ctl.record.id p.coord.peers).bind (shareFor p.node)

/-- A follower takes SHARE with the lead view's share, or else SHARE_HELD with its timer; the velocity condition is
VELOCITY_OK in both (R87, R89, R101, R103). -/
def takeShareMode (p : Part) : Part :=
  let p := { p with ctl := { p.ctl with condition := .ok, velocityHold := none } }
  match heldShare p with
  | some s => { p with ctl := { p.ctl with mode := .share, lastShare := s, leadLoss := none } }
  | none => { p with ctl := { p.ctl with
      mode := .shareHeld, leadLoss := arm p.now (1000 * p.control.leadLossHold) } }

/-- A mode is taken from the role in the record (R89); a record with role NONE is taken as a follower's [28]. -/
def takeMode (p : Part) : Part :=
  match p.ctl.record.role with
  | .lead => { p with ctl := { p.ctl with mode := .lead } }
  | .localRole => { p with ctl := { p.ctl with mode := .localMode } }
  | .follower | .none => takeShareMode p

/-- A first entry to CONTROL (R89). -/
def firstEntry (p : Part) : Part :=
  let p := { p with ctl := { p.ctl with
    integral := 0, lastD := 0, ownDemand := 0, lastP := 0, lastShare := 0, condition := .ok, velocityHold := none,
    leadLoss := none } }
  compute .first (takeMode p)

/-- A resumption (R90). -/
def resumeControl (p : Part) : Part := compute .transfer (takeMode p)

/-- The incident is not in CONTROL: mode IDLE, the timers cancelled (R91). -/
def departControl (p : Part) : Part :=
  { p with ctl := { p.ctl with
      mode := .idle, condition := .ok, period := none, velocityHold := none, leadLoss := none, shares := [],
      aSum := 0 } }

/-- On entry to QUIET the kept values go to 0 (R91). -/
def zeroControl (p : Part) : Part :=
  { p with ctl := { p.ctl with
      integral := 0, lastD := 0, ownDemand := 0, lastP := 0, lastShare := 0, boundA := 0 } }

/-- Whether a record is a reversal of the one before, to be acted on in CONTROL or HOLD (R97). -/
def reverses (old new : IncidentRecord) : Bool :=
  old.id == new.id && old.dir.isSome && new.dir.isSome && old.dir != new.dir &&
    (new.state == .control || new.state == .hold)

/-- A change of role handed on in CONTROL (R103). -/
def changeRole (old : IncidentRole) (p : Part) : Part :=
  match old, p.ctl.record.role, p.ctl.mode with
  | .follower, .lead, .share | .follower, .lead, .shareHeld | .follower, .lead, .localMode
  | .localRole, .lead, .share | .localRole, .lead, .shareHeld | .localRole, .lead, .localMode =>
      compute .transfer { p with ctl := { p.ctl with mode := .lead, leadLoss := none } }
  | .lead, .follower, .lead =>
      compute .period (takeShareMode { p with ctl := { p.ctl with
        lastShare := p.ctl.ownDemand, shares := [], aSum := 0 } })
  | .localRole, .follower, .localMode =>
      let share := match heldShare p with | some s => s | none => p.ctl.lastShare
      compute .period { p with ctl := { p.ctl with
        mode := .share, lastShare := share, condition := .ok, velocityHold := none, leadLoss := none } }
  | _, _, _ => p

/-- An incident record is handed on by the Incident Register (R88 to R91, R97, R103); a reversal acts before an entry or
a change of role that the same record brings [29]. -/
def ctlTakeRecord (h : RecordHandOn) (p : Part) : Part :=
  let old := p.ctl.record
  let new := h.record
  let p := { p with ctl := { p.ctl with record := new } }
  let p := if reverses old new then { p with ctl := { p.ctl with integral := 0 } } else p
  if new.state == .control then
    match h.entry with
    | some .first => firstEntry p
    | some .resumption => resumeControl p
    | none => changeRole old.role p
  else
    let p := departControl p
    if new.state == .quiet then zeroControl p else p

/-- A lead view for the held id is handed on, with the share found for this node or none (R100, R101). -/
def takeLeadShare (share : Option Nat) (p : Part) : Part :=
  match share, p.ctl.mode with
  | some s, .share | some s, .shareHeld =>
      { p with ctl := { p.ctl with lastShare := s, mode := .share, leadLoss := none } }
  | none, .share => { p with ctl := { p.ctl with
      mode := .shareHeld, leadLoss := arm p.now (1000 * p.control.leadLossHold) } }
  | _, _ => p

/-- The Coordinator reports that the lead's view has ceased to be fresh (R100, R182). -/
def leadLost (p : Part) : Part := takeLeadShare none p

/-- RESTART re-arms the controller's timers (R106). -/
def restartController (p : Part) : Part :=
  let again := fun (t : Timer) (s : Nat) => if t.isSome then arm p.now (1000 * s) else none
  { p with ctl := { p.ctl with
      period := again p.ctl.period p.control.period,
      velocityHold := again p.ctl.velocityHold p.control.velocityHold,
      leadLoss := again p.ctl.leadLoss p.control.leadLossHold } }

end Sys2Proof.Machine
end

