-- ==== Sys2Proof/Machine/Incident.lean ====
section
/-! DEFINITION. The Incident Register (04): the record and its handing on, notices, the detection list, direction, role,
and the views of peers. -/

namespace Sys2Proof.Machine

/-! ### Handing on (R62) -/

/-- A zone's alarm is cleared (R54). -/
def clearAlarm (z : ZoneRec) : ZoneRec :=
  if z.state == .alarm then
    { z with confirm := 0, state := if z.opacity.isNone && z.temperature.isNone then .unknown else .normal }
  else z

/-- The zone alarms are cleared (R54). -/
def clearAlarms (p : Part) : Part := { p with meas := { p.meas with zones := p.meas.zones.map clearAlarm } }

/-- The controller takes a record. Where the incident departs from CONTROL, the Fan Manager has taken the record and
the control-period timer has run out, its expiry may be taken first: the computation is made, and the Fan Manager sets
its demand aside. Which comes first is open (R88, R138) [2]. -/
def ctlMeetsRecord (h : RecordHandOn) (p : Part) : Part :=
  if h.before == .control && h.record.state != .control && p.fm.record.state != .control &&
      ranOut p.now p.ctl.period then
    let (k, p) := choose 2 p
    ctlTakeRecord h (if k == 0 then p else periodExpires p)
  else ctlTakeRecord h p

/-- The controller, the Fan Manager and the Coordinator take a record in one of the six orders, which one being
open (R62, R174) [2]. -/
def deliverRecord (h : RecordHandOn) (p : Part) : Part :=
  let (k, p) := choose 6 p
  let f := fansTakeRecord h
  let c := ctlMeetsRecord h
  let s := coordTakeRecord h
  match k with
  | 0 => s (c (f p))
  | 1 => c (s (f p))
  | 2 => s (f (c p))
  | 3 => f (s (c p))
  | 4 => c (f (s p))
  | _ => f (c (s p))

/-- The states that hold an incident id (R61). -/
def holdsId : IncidentState → Bool
  | .declared | .control | .hold | .clearing => true
  | .quiet | .alert => false

/-- Whether a change of record is handed on (R62). -/
def isHandedOn (old new : IncidentRecord) : Bool :=
  old.state != new.state || old.id != new.id ||
    (holdsId new.state &&
      (old.fire != new.fire || old.dir != new.dir || old.heat != new.heat || old.role != new.role))

/-- The record with its controlled mark set on an entry to CONTROL (R61). -/
def markControlled (old new : IncidentRecord) : IncidentRecord :=
  if new.state == .control && old.state != .control then { new with controlled := true } else new

/-- The kind of an entry to CONTROL, by the controlled mark before it, of a RESUME too (R62, R66) [34]. -/
def entryKind (old new : IncidentRecord) : Option EntryKind :=
  if new.state == .control && old.state != .control then
    some (if new.controlled then .resumption else .first)
  else none

/-- The Register's record becomes `new`: INCIDENT_CHANGE is raised, entry to QUIET empties the detection list and
clears the zone alarms, and the record is handed on (R61, R62, R69, R54). -/
def putRecord (new : IncidentRecord) (p : Part) : Part :=
  let old := p.reg.record
  let stored := markControlled old new
  let p := { p with reg := { p.reg with record := stored } }
  let p := if old.state != new.state || old.id != new.id then raise .incidentChange p else p
  let p := if new.state == .quiet && old.state != .quiet then
      clearAlarms { p with reg := { p.reg with detection := [] } }
    else p
  if isHandedOn old new then deliverRecord ⟨old.state, stored, entryKind old new⟩ p else p

/-! ### Direction and role (R71, R73) -/

/-- The direction of the train rule and the default, cases 2 and 3 of R71. -/
def trainRule (dflt : Direction) (fire : Nat) (head tail : Option Nat) : Direction × DirectionSource :=
  match head, tail with
  | some h, some t =>
      let m := (h + t) / 2
      (if m < fire then .ab else if fire < m then .ba else dflt, .train)
  | _, _ => (dflt, .default)

/-- An explicit direction, where a notice's code gives one (R21). -/
def explicitDir (code : Nat) : Option Direction :=
  match directionOfCode code with
  | some d => d
  | none => none

/-- The direction rule for an incident taken on (R71). -/
def directionRule (dflt : Direction) (code fire : Nat) (head tail : Option Nat) : Direction × DirectionSource :=
  match explicitDir code with
  | some d => (d, .explicit)
  | none => trainRule dflt fire head tail

/-- Whether the part is judged LEAD for a fire chainage (R73). -/
def judgedLead (p : Part) (fire : Option Nat) : Bool :=
  match p.mgmt.sections, fire with
  | some t, some c => t.lo ≤ c && c < t.hi
  | _, _ => false

/-- The role after a judgement (R73). -/
def judgedRole (p : Part) (fire : Option Nat) (before : IncidentRole) : IncidentRole :=
  if judgedLead p fire then .lead
  else match before with
    | .none | .lead => .follower
    | .follower => .follower
    | .localRole => .localRole

/-- The lead-wait timer armed with the lead-wait time, unless it is armed (R75). -/
def armLeadWait (p : Part) : Part :=
  if p.reg.leadWait.isSome then p
  else { p with reg := { p.reg with leadWait := arm p.now (1000 * p.control.leadWait) } }

/-- The lead-wait timer and the pending entry are discarded (R75, R76). -/
def dropWait (p : Part) : Part := { p with reg := { p.reg with leadWait := none, entry := none } }

/-- The Register enters CONTROL or HOLD from DECLARED with a role (R74, R75). -/
def leaveDeclared (state : IncidentState) (role : IncidentRole) (p : Part) : Part :=
  putRecord { p.reg.record with state := state, role := role } (dropWait p)

/-- A part in DECLARED whose role has been judged: a LEAD enters CONTROL unless a store write holds it, a follower
waits for its lead (R74, R75, R76). -/
def proceed (p : Part) : Part :=
  match p.reg.record.role with
  | .lead => if p.reg.storeHold then p else leaveDeclared .control .lead p
  | _ => armLeadWait p

/-- An incident is taken on, its role judged, and the part leaves DECLARED as it may (R64, R70, R78, R79). -/
def takeOn (r : IncidentRecord) (p : Part) : Part :=
  let r := { r with state := .declared, controlled := false, role := judgedRole p r.fire p.reg.record.role }
  let p := { p with reg := { p.reg with autoDeclare := none, leadWait := none, entry := none } }
  proceed (putRecord r p)

/-! ### Notices (R63 to R68) -/

/-- A notice is refused (R63). -/
def refuseNotice (o : NoticeOutcome) (p : Part) : Part :=
  raise .noticeRefused { p with reg := { p.reg with outcome := o } }

/-- A notice is accepted (R63). -/
def acceptNotice (p : Part) : Part := { p with reg := { p.reg with outcome := .accepted } }

/-- The id test of R63, which refuses the auto id to a CLEAR as well [37]. -/
def idFails (n : Notice) : Bool := n.id == 0 || 0xEFFF < n.id

/-- A present chainage beyond 20000 (R63). -/
def chainageFails : Option Nat → Bool
  | some c => 20000 < c
  | none => false

/-- The tests of R63 on the chainages, the direction code and the heat class. -/
def fieldsFail (n : Notice) : Bool :=
  chainageFails n.fire || chainageFails n.head || chainageFails n.tail || 2 < n.direction || 6 < n.heat

/-- The record an accepted DECLARE takes on (R64). -/
def declaredRecord (t : ControlTable) (n : Notice) : IncidentRecord :=
  let fire := match n.fire with | some c => c | none => 0
  let d := directionRule t.direction n.direction fire n.head n.tail
  { IncidentRecord.empty .declared with
    id := n.id, fire := n.fire, head := n.head, tail := n.tail, dir := some d.1, dirSource := some d.2,
    heat := some (if n.heat == 0 then t.heat else n.heat) }

/-- The new field where a notice gives one, else the held (R65). -/
def replaced (new held : Option Nat) : Option Nat :=
  match new with
  | some v => some v
  | none => held

/-- The record's direction after an UPDATE (R72). -/
def settleDirection (t : ControlTable) (n : Notice) (old new : IncidentRecord) : IncidentRecord :=
  match explicitDir n.direction with
  | some d => { new with dir := some d, dirSource := some .explicit }
  | none =>
      let moved := old.fire != new.fire || old.head != new.head || old.tail != new.tail
      if moved && (old.dirSource == some .train || old.dirSource == some .default) then
        let d := trainRule t.direction (match new.fire with | some c => c | none => 0) new.head new.tail
        { new with dir := some d.1, dirSource := some d.2 }
      else new

/-- The record after an accepted UPDATE, its role judged again if the fire has moved (R65, R72, R73). -/
def updatedRecord (p : Part) (n : Notice) : IncidentRecord :=
  let old := p.reg.record
  let new := { old with
    fire := replaced n.fire old.fire, head := replaced n.head old.head, tail := replaced n.tail old.tail,
    heat := if n.heat == 0 then old.heat else some n.heat }
  let new := settleDirection p.control n old new
  if old.fire != new.fire then { new with role := judgedRole p new.fire old.role } else new

/-- An accepted UPDATE (R65, R72, R74, R75). A DECLARED part that it makes LEAD enters CONTROL at once. -/
def applyUpdate (n : Notice) (p : Part) : Part :=
  let old := p.reg.record
  let new := updatedRecord p n
  let p := acceptNotice p
  let p := if old.dir != new.dir then raise .directionChanged p else p
  if old.state == .declared && old.fire != new.fire then
    if new.role == .lead && !p.reg.storeHold then putRecord { new with state := .control } (dropWait p)
    else
      let p := putRecord new p
      if new.role == .lead then p else armLeadWait p
  else putRecord new p

/-- A DECLARE (R63, R64). -/
def judgeDeclare (n : Notice) (p : Part) : Part :=
  if idFails n || n.fire.isNone || fieldsFail n then refuseNotice .badField p
  else match p.mgmt.control with
    | none => refuseNotice .wrongState p
    | some t =>
        let same := n.id == p.reg.record.id
        match p.reg.record.state with
        | .quiet | .alert => takeOn (declaredRecord t n) (acceptNotice p)
        | .clearing => if same then refuseNotice .sameId p else takeOn (declaredRecord t n) (acceptNotice p)
        | .declared | .control | .hold => if same then applyUpdate n p else refuseNotice .activeIncident p

/-- An UPDATE (R63, R65). -/
def judgeUpdate (n : Notice) (p : Part) : Part :=
  if idFails n || fieldsFail n then refuseNotice .badField p
  else match p.reg.record.state with
    | .declared | .control | .hold =>
        if n.id == p.reg.record.id then applyUpdate n p else refuseNotice .activeIncident p
    | .quiet | .alert | .clearing => refuseNotice .wrongState p

/-- HOLD or RESUME: from one state to the other (R63, R66). -/
def judgeFreeze (from_ to_ : IncidentState) (n : Notice) (p : Part) : Part :=
  if idFails n then refuseNotice .badField p
  else match p.reg.record.state with
    | .declared | .control | .hold =>
        if n.id != p.reg.record.id then refuseNotice .activeIncident p
        else if p.reg.record.state == from_ then putRecord { p.reg.record with state := to_ } (acceptNotice p)
        else refuseNotice .wrongState p
    | .quiet | .alert | .clearing => refuseNotice .wrongState p

/-- The Register enters CLEARING (R67, R80). -/
def enterClearing (p : Part) : Part := putRecord { p.reg.record with state := .clearing } (dropWait p)

/-- A CLEAR (R63, R67). -/
def judgeClear (n : Notice) (p : Part) : Part :=
  if idFails n then refuseNotice .badField p
  else match p.reg.record.state with
    | .declared | .control | .hold =>
        if n.id == p.reg.record.id then enterClearing (acceptNotice p) else refuseNotice .activeIncident p
    | .quiet | .alert | .clearing => refuseNotice .wrongState p

/-- The Register enters QUIET, its record emptied (R61, R68, R82). -/
def enterQuiet (p : Part) : Part :=
  putRecord (.empty .quiet) { p with reg := { p.reg with autoDeclare := none, leadWait := none, entry := none } }

/-- A CANCEL_ALERT (R68). -/
def judgeCancel (p : Part) : Part :=
  match p.reg.record.state with
  | .alert => enterQuiet (acceptNotice p)
  | _ => refuseNotice .wrongState p

/-- A notice, by its action code (R21, R63). -/
def judgeNotice (action : Nat) (n : Notice) (p : Part) : Part :=
  match action with
  | 1 => judgeDeclare n p
  | 2 => judgeUpdate n p
  | 3 => judgeFreeze .control .hold n p
  | 4 => judgeFreeze .hold .control n p
  | 5 => judgeClear n p
  | 6 => judgeCancel p
  | _ => refuseNotice .badField p

/-! ### Detection and auto-declaration (R69, R70) -/

/-- A zone number is handed on by the Measurement Unit (R69). -/
def takeZone (zone : Nat) (p : Part) : Part :=
  if p.reg.detection.contains zone || 16 ≤ p.reg.detection.length then p
  else
    let p := { p with reg := { p.reg with detection := p.reg.detection ++ [zone] } }
    match p.reg.record.state with
    | .quiet =>
        let timer := match p.mgmt.control with
          | some t => if t.autoDeclare == 0 then none else arm p.now (1000 * t.autoDeclare)
          | none => none
        putRecord (.empty .alert) { p with reg := { p.reg with autoDeclare := timer } }
    | _ => p

/-- The first zone of the detection list that is configured (R70). -/
def firstConfigured (p : Part) : Option ZoneEntry := p.reg.detection.findSome? p.zoneEntry

/-- The auto-declare timer expires (R70). -/
def autoDeclareExpires (p : Part) : Part :=
  if p.reg.autoDeclare.isNone then p
  else
    let p := { p with reg := { p.reg with autoDeclare := none } }
    match p.reg.record.state, firstConfigured p with
    | .alert, some z =>
        takeOn { IncidentRecord.empty .declared with
          id := 0xF000 + p.node, fire := some ((z.lo + z.hi) / 2), dir := some p.control.direction,
          dirSource := some .default, heat := some p.control.heat } p
    | _, _ => p

/-! ### The lead-wait timer, the store-write hold, the controller's report (R75 to R77) -/

/-- A role that waits for or follows a lead. -/
def follows (r : IncidentRole) : Bool := r == .follower || r == .localRole

/-- The lead-wait timer expires (R75, R76). -/
def leadWaitExpires (p : Part) : Part :=
  if p.reg.leadWait.isNone then p
  else
    let p := { p with reg := { p.reg with leadWait := none } }
    if p.reg.record.state != .declared then p
    else if p.reg.storeHold then
      match p.reg.entry with
      | some .leadViewControl | some .leadViewHold => p
      | _ => { p with reg := { p.reg with entry := some .leadWaitExpiry } }
    else if follows p.reg.record.role then leaveDeclared .control .localRole p
    else p

/-- A store write begins (R76). -/
def beginStoreHold (p : Part) : Part := { p with reg := { p.reg with storeHold := true } }

/-- A store write ends: in DECLARED the role is judged afresh and the pending entry is acted on (R76). -/
def endStoreHold (p : Part) : Part :=
  let entry := p.reg.entry
  let p := { p with reg := { p.reg with storeHold := false, entry := none } }
  let r := p.reg.record
  if r.state != .declared then p
  else
    let role := judgedRole p r.fire r.role
    if role == .lead then leaveDeclared .control .lead p
    else match entry with
      | some .leadViewControl => leaveDeclared .control .follower p
      | some .leadViewHold => leaveDeclared .hold .follower p
      | some .leadWaitExpiry => leaveDeclared .control .localRole p
      | none => armLeadWait (putRecord { r with role := role } p)

/-- The controller reports mode LOCAL on loss of its lead, naming an incident id (R77, R102). -/
def reportLocal (id : Nat) (p : Part) : Part :=
  let r := p.reg.record
  if r.id == id && (r.state == .control || r.state == .hold) && r.role == .follower then
    putRecord { r with role := .localRole } p
  else p

/-- The lead-loss-hold timer expires (R102). -/
def leadLossExpires (p : Part) : Part :=
  if p.ctl.leadLoss.isSome && p.ctl.mode == .shareHeld then
    let p := { p with ctl := { p.ctl with mode := .localMode, leadLoss := none } }
    compute .transfer (reportLocal p.ctl.record.id (raise .leadLost p))
  else p

/-! ### Views of peers (R78 to R81) -/

/-- Whether a view is complete (04, Incidents from peers). -/
def complete (b : Bulletin) : Bool :=
  (b.state == .declared || b.state == .control || b.state == .hold) &&
    ((1 ≤ b.id && b.id ≤ 0xEFFF) || (0xF001 ≤ b.id && b.id ≤ 0xF0EF)) &&
    b.fire ≤ 20000 && b.direction.isSome && 1 ≤ b.heat && b.heat ≤ 6

/-- The states of an incident under response: DECLARED, CONTROL and HOLD. -/
def responding (s : IncidentState) : Bool := s == .declared || s == .control || s == .hold

/-- The record a view is joined with (R78). -/
def joinedRecord (b : Bulletin) : IncidentRecord :=
  { IncidentRecord.empty .declared with
    id := b.id, fire := some b.fire, dir := b.direction, dirSource := some .adopted, heat := some b.heat }

/-- A view is joined in QUIET or ALERT (R78). -/
def joinView (b : Bulletin) (p : Part) : Part :=
  let s := p.reg.record.state
  if (s == .quiet || s == .alert) && p.mgmt.control.isSome && complete b && b.id != p.reg.lastCleared then
    takeOn (joinedRecord b) p
  else p

/-- A view with a lower id replaces the held incident (R79). -/
def replaceView (b : Bulletin) (p : Part) : Part :=
  if responding p.reg.record.state && complete b && b.id < p.reg.record.id && b.id != p.reg.lastCleared then
    let p := if b.direction != p.reg.record.dir then raise .directionChanged p else p
    takeOn (joinedRecord b) p
  else p

/-- A view whose last cleared id is the held id puts the part in CLEARING (R80). -/
def clearView (b : Bulletin) (p : Part) : Part :=
  if responding p.reg.record.state && b.lastCleared == p.reg.record.id then enterClearing p else p

/-- A lead view in DECLARED, as a follower (R75). -/
def followDeclared (b : Bulletin) (p : Part) : Part :=
  match b.state with
  | .control => leaveDeclared .control .follower p
  | .hold => leaveDeclared .hold .follower p
  | _ => p

/-- A lead view in DECLARED under the store-write hold: one in CONTROL or HOLD is recorded as pending, in place of an
earlier one, whatever the role, which is judged again when the write ends (R76). -/
def recordPending (b : Bulletin) (p : Part) : Part :=
  match b.state with
  | .control => { p with reg := { p.reg with entry := some .leadViewControl } }
  | .hold => { p with reg := { p.reg with entry := some .leadViewHold } }
  | _ => p

/-- A lead view naming this node turns LOCAL back to FOLLOWER (R77) [18]. -/
def rejoinLead (b : Bulletin) (p : Part) : Part :=
  let r := p.reg.record
  if r.role == .localRole && (b.state == .control || b.state == .hold) && b.shares.any fun e => e.node == p.node then
    putRecord { r with role := .follower } p
  else p

/-- A follower copies its lead's CONTROL and HOLD (R81). -/
def copyLead (b : Bulletin) (p : Part) : Part :=
  let r := p.reg.record
  match r.state, b.state with
  | .control, .hold => putRecord { r with state := .hold } p
  | .hold, .control => putRecord { r with state := .control } p
  | _, _ => p

/-- The lead view for the held id is acted on (R75 to R77, R81), in CONTROL and HOLD the role first and then the state
[29]. A part whose role is LEAD copies nothing. -/
def followLead (b : Bulletin) (p : Part) : Part :=
  match p.reg.record.state with
  | .declared =>
      if p.reg.storeHold then recordPending b p
      else if follows p.reg.record.role then followDeclared b p
      else p
  | .control | .hold => if follows p.reg.record.role then copyLead b (rejoinLead b p) else p
  | _ => p

/-- A peer's view is judged: R78, R79, R80, then as a lead view where it is marked one (R181). -/
def takeView (b : Bulletin) (leadMark : Bool) (p : Part) : Part :=
  let p := clearView b (replaceView b (joinView b p))
  if leadMark && b.id == p.reg.record.id then followLead b p else p

/-! ### The end of clearing (R82) -/

/-- The Fan Manager's end-of-clearing report is taken (R82). -/
def takeClearingEnd (p : Part) : Part :=
  if p.reg.record.state == .clearing then
    enterQuiet { p with reg := { p.reg with lastCleared := p.reg.record.id } }
  else p

end Sys2Proof.Machine
end

