-- ==== Sys2Proof/Machine/Measurement.lean ====
section
/-! DEFINITION. The Measurement Unit (03): instruments, point votes, the section velocity, zones. -/

namespace Sys2Proof.Machine

/-! ### Instruments (R35, R38 to R40, R42) -/

/-- The instruments of a point with their slots, slot 1 first. -/
def PointRec.slots (q : PointRec) : List (Nat × Instrument) := [(1, q.s1), (2, q.s2), (3, q.s3)]

/-- The record of a point changed in the slots by `g`. -/
def PointRec.mapSlots (g : Nat → Instrument → Instrument) (q : PointRec) : PointRec :=
  { q with s1 := g 1 q.s1, s2 := g 2 q.s2, s3 := g 3 q.s3 }

/-- The velocity instrument number of a slot of a point (R35). -/
def velocityNum (point slot : Nat) : Nat := 3 * (point - 1) + slot

/-- The opacity or temperature instrument number of a slot of a zone (R35). -/
def zoneNum (zone slot : Nat) : Nat := 2 * (zone - 1) + slot

/-- An instrument is VALID. -/
def isValid (i : Instrument) : Bool := i.state == .valid

/-- The corrected value of a velocity instrument (R35). -/
def corrected (i : Instrument) : Int := if i.reversed then -i.last else i.last

/-- An instrument named by class and number. -/
structure InstrumentId where
  cls : InstrumentClass
  num : Nat
deriving DecidableEq, Repr

/-- Every instrument with its name (R35). -/
def instruments (m : MeasurementUnit) : List (InstrumentId × Instrument) :=
  m.points.flatMap (fun q => q.slots.map fun s => (⟨.velocity, velocityNum q.num s.1⟩, s.2)) ++
  m.zones.flatMap fun z =>
    [ (⟨.opacity, zoneNum z.num 1⟩, z.o1), (⟨.opacity, zoneNum z.num 2⟩, z.o2),
      (⟨.temperature, zoneNum z.num 1⟩, z.t1), (⟨.temperature, zoneNum z.num 2⟩, z.t2) ]

/-- The instruments changed by `g`, which is told each one's name. -/
def mapInstruments (g : InstrumentId → Instrument → Instrument) (m : MeasurementUnit) : MeasurementUnit :=
  { m with
    points := m.points.map fun q => q.mapSlots fun k i => g ⟨.velocity, velocityNum q.num k⟩ i,
    zones := m.zones.map fun z => { z with
      o1 := g ⟨.opacity, zoneNum z.num 1⟩ z.o1, o2 := g ⟨.opacity, zoneNum z.num 2⟩ z.o2,
      t1 := g ⟨.temperature, zoneNum z.num 1⟩ z.t1, t2 := g ⟨.temperature, zoneNum z.num 2⟩ z.t2 } }

/-- One instrument changed by `g`. -/
def onInstrument (id : InstrumentId) (g : Instrument → Instrument) (p : Part) : Part :=
  { p with meas := mapInstruments (fun j i => if j = id then g i else i) p.meas }

/-- The record of an instrument that is not ABSENT. -/
def instrument? (p : Part) (id : InstrumentId) : Option Instrument :=
  ((instruments p.meas).find? fun x => decide (x.1 = id) && x.2.state != .absent).map (·.2)

/-- The point of a velocity instrument, or the zone of another (R35). -/
def placeOf (id : InstrumentId) : Nat :=
  match id.cls with
  | .velocity => (id.num - 1) / 3 + 1
  | .opacity | .temperature => (id.num - 1) / 2 + 1

/-- The range of a class (R38). -/
def rangeOf : InstrumentClass → Int × Int
  | .velocity => (-2000, 2000)
  | .opacity => (0, 30000)
  | .temperature => (-400, 12000)

/-- The last value an OVER reading gives (R38). -/
def overValue (cls : InstrumentClass) (v : Int) : Int :=
  let r := rangeOf cls
  match cls with
  | .opacity => r.2
  | .velocity | .temperature => if 0 ≤ v then r.2 else r.1

/-- The state and qualify count after an OK or OVER reading (R39); an instrument that becomes VALID has count 0 [31]. -/
def qualifyStep (i : Instrument) : InstrumentState × Nat :=
  match i.state with
  | .qualifying => if 2 ≤ i.qualify then (.valid, 0) else (.qualifying, i.qualify + 1)
  | .valid => (.valid, i.qualify)
  | _ => (.qualifying, 1)

/-- A reading applied to an instrument (R38 to R41); `stale` is the stale time in seconds. -/
def applyReading (now : PartTime) (stale : Nat) (cls : InstrumentClass) (r : Reading) (i : Instrument) : Instrument :=
  let i := { i with stale := arm now (1000 * stale) }
  let lim := rangeOf cls
  match r.status with
  | .fault => { i with state := .stationFault, qualify := 0 }
  | .ok =>
      let q := qualifyStep i
      { i with state := q.1, qualify := q.2, last := clamp lim.1 lim.2 r.value,
               saturated := r.value < lim.1 || lim.2 < r.value }
  | .over =>
      let q := qualifyStep i
      { i with state := q.1, qualify := q.2, last := overValue cls r.value, saturated := true }

/-- The object of an instrument's fault (R188). -/
def instrumentFault (id : InstrumentId) : FaultObject := ⟨instrumentObject id.cls, id.num⟩

/-- An instrument becomes REJECTED (R42). -/
def rejectInstrument (id : InstrumentId) (p : Part) : Part :=
  let p := onInstrument id (fun i => { i with state := .rejected, stale := none }) p
  raise .instrumentOut (report .instrumentRejected (instrumentFault id) p)

/-! ### Section velocity (R48, R49) -/

/-- A point is usable (R43). -/
def usable (q : PointRec) : Bool := q.quality != .unknown

/-- The weight of a point in Vm (R48). -/
def weight (q : PointRec) : Nat :=
  match q.quality with
  | .good => 2
  | .paired | .disputed | .single | .held => 1
  | .unknown => 0

/-- The sum of weight times voted value over points (R48). -/
def weightedSum (l : List PointRec) : Int :=
  l.foldr (fun q acc => (weight q : Int) * (match q.voted with | some v => v | none => 0) + acc) 0

/-- The section velocity of the points, the last one kept when none is usable (R48). -/
def sectionVelocity (points : List PointRec) (last : Int) : Int :=
  let w := sumOf weight points
  if w == 0 then last else truncDiv (weightedSum points) w

/-- The section velocity quality: `c` is the configured point count (R49). -/
def sectionQuality (points : List PointRec) (c : Nat) : VelocityQuality :=
  let n := (points.filter fun q => q.quality == .good || q.quality == .paired).length
  if 1 ≤ c && c ≤ 2 * n then .good
  else if c == 0 || !points.any usable then .lost
  else .degraded

/-- Vm and its quality are recomputed (R48, R49). -/
def recomputeVm (p : Part) : Part :=
  let q := sectionQuality p.meas.points p.pointEntries.length
  let entered := q == .lost && p.meas.quality != .lost
  let p := { p with meas := { p.meas with vm := sectionVelocity p.meas.points p.meas.vm, quality := q } }
  if entered then raise .velocityLost (report .velocityLost ⟨.none, 0⟩ p) else p

/-! ### Votes (R43 to R47) -/

/-- A point changed by `g`. -/
def onPoint (n : Nat) (g : PointRec → PointRec) (p : Part) : Part :=
  { p with meas := { p.meas with points := updWhere (fun q => q.num == n) g p.meas.points } }

/-- A point's record. -/
def Part.point? (p : Part) (n : Nat) : Option PointRec := p.meas.points.find? fun q => q.num == n

/-- The median of three values. -/
def median (a b c : Int) : Int := max (min a b) (min (max a b) c)

/-- Of two disagreeing values, the one chosen; `a` is in the lower slot (R44). -/
def chooseValue (previous : Option Int) (a b : Int) : Int :=
  match previous with
  | some v => if (b - v).natAbs < (a - v).natAbs then b else a
  | none => if b.natAbs < a.natAbs then b else a

/-- The quality and voted value that a vote gives a point from the values of its VALID instruments in slot order
(R44). -/
def voteResult (tolerance : Nat) (q : PointRec) : List Int → PointQuality × Option Int
  | [a, b, c] => (.good, some (median a b c))
  | [a, b] =>
      if (a - b).natAbs ≤ tolerance then (.paired, some (truncDiv (a + b) 2))
      else (.disputed, some (chooseValue q.voted a b))
  | [a] => (.single, some a)
  | _ => if usable q then (.held, q.voted) else (.unknown, none)

/-- Whether a value has the sign opposite to both others, none being 0. -/
def opposes (v x y : Int) : Bool := (0 < v && x < 0 && y < 0) || (v < 0 && 0 < x && 0 < y)

/-- The slot found opposed by a judged polarity check, 0 for none (R47). -/
def opposedSlot (threshold : Nat) (a b c : Int) : Option Nat :=
  if threshold ≤ a.natAbs && threshold ≤ b.natAbs && threshold ≤ c.natAbs then
    some (if opposes a b c then 1 else if opposes b a c then 2 else if opposes c a b then 3 else 0)
  else none

/-- An instrument's streaks after the checks of a three-instrument vote, `slot` being its slot and `judged` the
polarity check's finding; only an opposed instrument is toggled (R46, R47). -/
def checkStreaks (tolerance : Nat) (mid : Int) (judged : Option Nat) (slot : Nat) (i : Instrument) : Instrument :=
  let away := tolerance < (corrected i - mid).natAbs
  let outlier := if judged == some slot then i.outlier else if away then i.outlier + 1 else 0
  let polarity := match judged with
    | none => i.polarity
    | some k => if k == slot then i.polarity + 1 else 0
  if judged == some slot && 3 ≤ polarity then { i with reversed := !i.reversed, polarity := 0, outlier := 0 }
  else { i with outlier := outlier, polarity := polarity }

/-- The outlier and polarity checks of a three-instrument vote, with the rejections, the lower slot first [20], and the
POLARITY event that take effect after it (R46, R47). -/
def voteChecks (n : Nat) (before : PointRec) (p : Part) : Part :=
  let t := p.sections
  let a := corrected before.s1
  let b := corrected before.s2
  let c := corrected before.s3
  let judged := opposedSlot t.polarity a b c
  let p := onPoint n (PointRec.mapSlots (checkStreaks t.tolerance (median a b c) judged)) p
  let after := match p.point? n with | some q => q | none => before
  let p := (after.slots.filter fun s => 8 ≤ s.2.outlier).foldl
    (fun p s => rejectInstrument ⟨.velocity, velocityNum n s.1⟩ p) p
  if after.s1.reversed != before.s1.reversed || after.s2.reversed != before.s2.reversed ||
      after.s3.reversed != before.s3.reversed then raise .polarity p else p

/-- A point is lost: UNKNOWN with no voted value (R45). Vm is recomputed by the event that causes it. -/
def losePoint (n : Nat) (p : Part) : Part :=
  let p := onPoint n (fun q => { q with quality := .unknown, voted := none, holdTimer := none }) p
  raise .pointLost (report .pointLost ⟨.point, n⟩ p)

/-- The hold timer after a vote (R44). -/
def holdAfter (now : PartTime) (hold : Nat) (before : PointRec) (quality : PointQuality) : Timer :=
  match quality with
  | .held => if before.quality == .held then before.holdTimer else arm now (1000 * hold)
  | _ => none

/-- A vote at a configured point, less the recompute of Vm (R43 to R47). A vote that finds no VALID instrument at a
HELD point whose hold timer has run out loses the point (R45) [12]. -/
def voteOnly (n : Nat) (p : Part) : Part :=
  match p.point? n with
  | none => p
  | some q =>
      let values := (q.slots.filter fun s => isValid s.2).map fun s => corrected s.2
      if values.isEmpty && q.quality == .held && ranOut p.now q.holdTimer then losePoint n p
      else
        let r := voteResult p.sections.tolerance q values
        let hold := holdAfter p.now p.sections.holdTime q r.1
        let p := onPoint n (fun q => { q with quality := r.1, voted := r.2, holdTimer := hold }) p
        let p := if r.1 == .disputed && q.quality != .disputed then report .pointDisputed ⟨.point, n⟩ p else p
        if values.length == 3 then voteChecks n q p else p

/-- Whether a point is configured. -/
def configuredPoint (p : Part) (n : Nat) : Bool := p.pointEntries.any fun e => e.num == n

/-- A vote at a point, a point that is not configured never being voted (R43). -/
def votePoint (n : Nat) (p : Part) : Part := if configuredPoint p n then voteOnly n p else p

/-- The point hold timer expires at a HELD point (R45). -/
def pointHoldExpires (n : Nat) (p : Part) : Part :=
  match p.point? n with
  | some q => if q.quality == .held && q.holdTimer.isSome then recomputeVm (losePoint n p) else p
  | none => p

/-! ### Zones (R51 to R55, R60) -/

/-- A zone changed by `g`. -/
def onZone (n : Nat) (g : ZoneRec → ZoneRec) (p : Part) : Part :=
  { p with meas := { p.meas with zones := updWhere (fun z => z.num == n) g p.meas.zones } }

/-- A zone's record. -/
def Part.zone? (p : Part) (n : Nat) : Option ZoneRec := p.meas.zones.find? fun z => z.num == n

/-- The largest last value among two instruments that are VALID (R51). -/
def largest (i j : Instrument) : Option Int :=
  match isValid i, isValid j with
  | true, true => some (max i.last j.last)
  | true, false => some i.last
  | false, true => some j.last
  | false, false => none

/-- The zone values formed afresh, a quantity under restart hold keeping its value (R51, R60). -/
def formValues (z : ZoneRec) : ZoneRec :=
  { z with opacity := if z.holdO then z.opacity else largest z.o1 z.o2,
           temperature := if z.holdT then z.temperature else largest z.t1 z.t2 }

/-- The alarm condition (R51). -/
def alarmCondition (e : ZoneEntry) (z : ZoneRec) : Bool :=
  (match z.opacity with | some v => decide ((e.opacity : Int) ≤ v) | none => false) ||
  (match z.temperature with | some v => decide ((e.temperature : Int) ≤ v) | none => false)

/-- The zone after steps 1 to 4 of an evaluation (R51). -/
def evaluated (e : ZoneEntry) (z : ZoneRec) : ZoneRec :=
  let z := formValues z
  if z.state == .alarm then z
  else if z.opacity.isNone && z.temperature.isNone then { z with state := .unknown, confirm := 0 }
  else if alarmCondition e z then
    { z with confirm := z.confirm + 1, state := if e.confirm ≤ z.confirm + 1 then .alarm else .pending }
  else { z with state := .normal, confirm := 0 }

/-- The zone after a recompute (R53). -/
def recomputed (z : ZoneRec) : ZoneRec :=
  let z := formValues z
  if z.state != .alarm && z.opacity.isNone && z.temperature.isNone then { z with state := .unknown, confirm := 0 }
  else z

/-- The temperature of a zone handed to the Fan Manager (R55). -/
def handTemp (n : Nat) (p : Part) : Part :=
  match p.zone? n with
  | some z => takeZoneTemp n z.temperature p
  | none => p

/-- A configured zone is evaluated; one that enters ALARM raises ZONE_ALARM and is handed to the Incident Register
(R51, R52). -/
def evaluateZone (n : Nat) (p : Part) : Part :=
  match p.zoneEntry n, p.zone? n with
  | some e, some z =>
      let entered := z.state != .alarm && (evaluated e z).state == .alarm
      let p := onZone n (evaluated e) p
      let p := if entered then takeZone n (raise .zoneAlarm p) else p
      handTemp n p
  | _, _ => p

/-- A configured zone is recomputed (R53). -/
def recomputeZone (n : Nat) (p : Part) : Part :=
  if (p.zoneEntry n).isSome then handTemp n (onZone n recomputed p) else p

/-- Restart holds are cleared for the quantities of which an instrument is VALID in the zone (R60). -/
def releaseHolds (z : ZoneRec) : ZoneRec :=
  { z with holdO := z.holdO && !isValid z.o1 && !isValid z.o2,
           holdT := z.holdT && !isValid z.t1 && !isValid z.t2 }

/-- The zone requalify timer expires; the zones that had a hold are recomputed in ascending number (R60) [20]. -/
def requalifyExpires (p : Part) : Part :=
  if p.meas.requalify.isNone then p
  else
    let held := (p.meas.zones.filter fun z => z.holdO || z.holdT).map (·.num)
    let p := { p with meas := { p.meas with
      requalify := none, zones := p.meas.zones.map fun z => { z with holdO := false, holdT := false } } }
    held.foldl (fun p n => recomputeZone n p) p

/-! ### Samples (R37) -/

/-- The points and zones to which a SAMPLE has applied a reading. -/
structure Touched where
  points : List Nat
  zones  : List Nat
deriving DecidableEq, Repr

/-- One reading of a SAMPLE is handled (R37). -/
def takeReading (source : Nat) (acc : Part × Touched) (r : Reading) : Part × Touched :=
  let (p, t) := acc
  let named := fun (x : InstrumentId × Instrument) =>
    x.2.source == some ⟨source, r.channel⟩ && x.2.state != .absent
  match (instruments p.meas).find? named with
  | none => ({ p with meas := { p.meas with unmatched := bump p.meas.unmatched } }, t)
  | some (id, i) =>
      if r.quantity != id.cls then ({ p with meas := { p.meas with mismatches := bump p.meas.mismatches } }, t)
      else if i.state == .rejected then ({ p with meas := { p.meas with ignored := bump p.meas.ignored } }, t)
      else
        let p := onInstrument id (applyReading p.now p.sections.staleTime id.cls r) p
        match id.cls with
        | .velocity => (p, { t with points := placeOf id :: t.points })
        | .opacity | .temperature => (onZone (placeOf id) releaseHolds p, { t with zones := placeOf id :: t.zones })

/-- A SAMPLE is taken: the readings, then the votes, Vm, and the evaluations, in ascending number (R37); Vm comes before
the evaluations [29]. -/
def takeSample (source : Nat) (readings : List Reading) (p : Part) : Part :=
  let (p, t) := readings.foldl (takeReading source) (p, ⟨[], []⟩)
  let p := (sixteen.filter t.points.contains).foldl (fun p n => votePoint n p) p
  let p := if t.points.isEmpty then p else recomputeVm p
  (sixteen.filter t.zones.contains).foldl (fun p n => evaluateZone n p) p

/-! ### Stale timers, admission (R41, R42) -/

/-- The vote or recompute that a change of a VALID instrument causes (R41, R42). -/
def refreshPlace (id : InstrumentId) (p : Part) : Part :=
  match id.cls with
  | .velocity => recomputeVm (votePoint (placeOf id) p)
  | .opacity | .temperature => recomputeZone (placeOf id) p

/-- The stale timer of an instrument expires (R41). -/
def staleExpires (id : InstrumentId) (p : Part) : Part :=
  match instrument? p id with
  | none => p
  | some i =>
      if i.stale.isNone then p
      else
        let p := onInstrument id (fun i => { i with stale := none }) p
        match i.state with
        | .valid =>
            let p := onInstrument id (fun i => { i with state := .stale }) p
            refreshPlace id (report .instrumentStale (instrumentFault id) p)
        | .qualifying =>
            if 1 ≤ i.qualify then onInstrument id (fun i => { i with state := .stale, qualify := 0 }) p else p
        | .stationFault => onInstrument id (fun i => { i with state := .stale }) p
        | _ => p

/-- An instrument's record after ADMIT (R42). -/
def admitted (i : Instrument) : Instrument :=
  let i := { i with reversed := false, saturated := false, outlier := 0, polarity := 0 }
  if i.state == .rejected then { i with state := .qualifying, qualify := 0, stale := none } else i

/-- ADMIT on an instrument that is not ABSENT (R42, R53). -/
def admitInstrument (id : InstrumentId) (p : Part) : Part :=
  match instrument? p id with
  | none => p
  | some i =>
      let p := onInstrument id admitted p
      match id.cls with
      | .velocity => if i.state == .valid then refreshPlace id p else p
      | .opacity | .temperature => refreshPlace id p

/-! ### Judging the instruments (R36, R57) -/

/-- The source the active SECTION table gives an instrument slot. -/
def slotSource (p : Part) (id : InstrumentId) : Option Source :=
  let k := match id.cls with
    | .velocity => (id.num - 1) % 3
    | .opacity | .temperature => (id.num - 1) % 2
  match id.cls with
  | .velocity =>
      match p.pointEntries.find? fun e => e.num == placeOf id with
      | some e => if k == 0 then e.s1 else if k == 1 then e.s2 else e.s3
      | none => none
  | .opacity =>
      match p.zoneEntry (placeOf id) with
      | some e => if k == 0 then e.o1 else e.o2
      | none => none
  | .temperature =>
      match p.zoneEntry (placeOf id) with
      | some e => if k == 0 then e.t1 else e.t2
      | none => none

/-- Whether a source names a SENSOR station (R36). -/
def fromSensor (p : Part) (s : Option Source) : Bool :=
  match s with
  | some x => p.hasRole x.station .sensor
  | none => false

/-- An instrument ABSENT, or new and QUALIFYING, in a slot; the last value stands [11]. -/
def resetInstrument (s : Option Source) (state : InstrumentState) (i : Instrument) : Instrument :=
  { Instrument.blank with source := s, state := state, last := i.last }

/-- The judgement of an instrument slot (R36). -/
def judgeInstrument (p : Part) (id : InstrumentId) (i : Instrument) : Instrument :=
  let s := slotSource p id
  if !fromSensor p s then resetInstrument s .absent i
  else if i.state == .absent || i.source != s then resetInstrument s .qualifying i
  else i

/-- Every instrument is judged; a dangling reference raises TABLE_EVENT once (R36). -/
def judgeAll (p : Part) : Part :=
  let p := { p with meas := mapInstruments (judgeInstrument p) p.meas }
  if (instruments p.meas).any fun x => x.2.source.isSome && !fromSensor p x.2.source then raise .tableEvent p else p

/-- A point brought into line with the active SECTION table (R36). -/
def alignPoint (p : Part) (q : PointRec) : PointRec :=
  if configuredPoint p q.num then q else { q with quality := .unknown, voted := none, holdTimer := none }

/-- A zone brought into line with the active SECTION table (R36). -/
def alignZone (p : Part) (z : ZoneRec) : ZoneRec :=
  if (p.zoneEntry z.num).isSome then z
  else { z with state := .unknown, opacity := none, temperature := none, confirm := 0, holdO := false, holdT := false }

/-- A judgement at an activation: instruments, then points and zones, then Vm (R36). -/
def judgeInstruments (p : Part) : Part :=
  let p := judgeAll p
  let p := { p with meas := { p.meas with points := p.meas.points.map (alignPoint p),
                                          zones := p.meas.zones.map (alignZone p) } }
  let p := (sixteen.filter fun n => (p.zoneEntry n).isNone).foldl (fun p n => takeZoneTemp n none p) p
  let p := sixteen.foldl (fun p n => votePoint n p) p
  let p := sixteen.foldl (fun p n => recomputeZone n p) p
  recomputeVm p

/-- The Measurement Unit at power-on reset (R57). -/
def resetMeasurement (p : Part) : Part := judgeAll { p with meas := .reset }

/-! ### RESTART (R58, R59) -/

/-- An instrument at RESTART (R58). -/
def restartInstrument (i : Instrument) : Instrument :=
  match i.state with
  | .qualifying | .valid | .stale | .stationFault =>
      { i with state := .qualifying, qualify := 0, stale := none, outlier := 0, polarity := 0 }
  | .absent | .rejected => i

/-- A point at RESTART (R58). -/
def restartPoint (now : PartTime) (hold : Nat) (q : PointRec) : PointRec :=
  if usable q then { q with quality := .held, holdTimer := arm now (1000 * hold) } else q

/-- A zone at RESTART (R59). -/
def restartZone (p : Part) (z : ZoneRec) : ZoneRec :=
  let z := if z.state != .alarm && (p.zoneEntry z.num).isSome then { z with state := .unknown, confirm := 0 } else z
  { z with holdO := z.opacity.isSome, holdT := z.temperature.isSome }

/-- RESTART on the Measurement Unit (R58, R59). -/
def restartMeasurement (p : Part) : Part :=
  let m := mapInstruments (fun _ i => restartInstrument i) p.meas
  let m := { m with points := m.points.map (restartPoint p.now p.sections.holdTime),
                    zones := m.zones.map (restartZone p),
                    requalify := arm p.now (3000 * p.sections.staleTime) }
  recomputeVm { p with meas := m }

end Sys2Proof.Machine
end

