-- ==== Sys2Proof/Machine/Orders.lean ====
section
/-! DEFINITION. The Order Engine (08): order records, tags and the pool, issuing, answers, timeouts, quarantine, and the
end of an order. -/

namespace Sys2Proof.Machine

/-! ### Records and tags -/

/-- The order record of a fan (R152). -/
def Part.order? (p : Part) (n : Nat) : Option OrderRec := p.ord.records.find? fun r => r.fan == n

/-- The order record of a fan changed by `g`. -/
def onOrder (n : Nat) (g : OrderRec → OrderRec) (p : Part) : Part :=
  { p with ord := { p.ord with records := updWhere (fun r => r.fan == n) g p.ord.records } }

/-- The Order Engine's counters changed. -/
def countOrder (g : OrderCounters → OrderCounters) (p : Part) : Part :=
  { p with ord := { p.ord with counters := g p.ord.counters } }

/-- A tag of a station. -/
def Part.tag? (p : Part) (station tag : Nat) : Option TagRec :=
  p.ord.tags.find? fun t => t.station == station && t.tag == tag

/-- A tag of a station given a state and a quarantine timer. -/
def setTag (station tag : Nat) (s : TagState) (q : Timer) (p : Part) : Part :=
  let one := fun (t : TagRec) => { t with state := s, quarantine := q }
  { p with ord := { p.ord with tags := updFirst (fun t => t.station == station && t.tag == tag) one p.ord.tags } }

/-- The pool slots in use: the tags that are not FREE (R154). -/
def poolUsed (tags : List TagRec) : Nat := (tags.filter fun t => t.state != .free).length

/-- The lowest-numbered FREE tag of a station (R155). Tags stand in ascending number. -/
def freeTag (station : Nat) (tags : List TagRec) : Option Nat :=
  (tags.find? fun t => t.station == station && t.state == .free).map (·.tag)

/-- Whether a tag is BUSY. -/
def tagBusy (station tag : Nat) (p : Part) : Bool :=
  match p.tag? station tag with
  | some t => t.state == .busy
  | none => false

/-- A FREE tag becomes BUSY (R156). -/
def takeTag (station tag : Nat) (p : Part) : Part :=
  let one := fun (t : TagRec) => { t with state := .busy, quarantine := none }
  { p with ord := { p.ord with
      tags := updFirst (fun t => t.station == station && t.tag == tag && t.state == .free) one p.ord.tags } }

/-- A BUSY tag goes to FREE, its queue entry withdrawn (R154, R13). -/
def tagToFree (station tag : Nat) (p : Part) : Part :=
  if tagBusy station tag p then withdraw station tag (setTag station tag .free none p) else p

/-- A BUSY tag goes to QUARANTINE for 2 s, its queue entry withdrawn (R167). -/
def tagToQuarantine (station tag : Nat) (p : Part) : Part :=
  if tagBusy station tag p then withdraw station tag (setTag station tag .quarantine (arm p.now 2000) p) else p

/-- The tag a record holds goes to FREE. -/
def freeTagOf (r : OrderRec) (p : Part) : Part :=
  match r.tag with
  | some t => tagToFree r.station t p
  | none => p

/-- The tag a record holds goes to QUARANTINE. -/
def quarantineTagOf (r : OrderRec) (p : Part) : Part :=
  match r.tag with
  | some t => tagToQuarantine r.station t p
  | none => p

/-- A fan joins the back of the backlog. -/
def joinBack (n : Nat) (p : Part) : Part := { p with ord := { p.ord with backlog := p.ord.backlog ++ [n] } }

/-- A fan joins the front of the backlog (R164, R166). -/
def joinFront (n : Nat) (p : Part) : Part := { p with ord := { p.ord with backlog := n :: p.ord.backlog } }

/-- A new record in WAITING (R153). -/
def waitingRec (n station output : Nat) (kind : OrderKind) : OrderRec :=
  { fan := n, station := station, output := output, kind := kind, state := .waiting, tag := none, response := none,
    retry := none, windowOpen := false, window := none, busySeen := false, reissued := false, queryTimeouts := 0,
    successor := none, issuedBefore := false }

/-- A record is in flight (R152). -/
def inFlight (r : OrderRec) : Bool := r.state == .sent || r.state == .retryWait || r.state == .querying

/-! ### The end of a record (R168) -/

/-- The response timeout in milliseconds: 2000 with no CONTROL table (R156). -/
def responseTime (p : Part) : Nat :=
  match p.mgmt.control with
  | some t => t.response
  | none => 2000

/-- The retry window in milliseconds: 10 s with no CONTROL table (R156). -/
def windowTime (p : Part) : Nat :=
  match p.mgmt.control with
  | some t => 1000 * t.retryWindow
  | none => 10000

/-- The Order Engine reports to the Fan Manager that it holds no order record (R168, R146). -/
def reportEmpty (p : Part) : Part := if p.ord.records.isEmpty then testClearing p else p

/-- Steps 3 and 4 of the end of a record: the outcome is handed to the Fan Manager, the record removed, and a
successor made a new record at the back of the backlog (R168). -/
def finishRec (r : OrderRec) (outcome : OrderOutcome) (p : Part) : Part :=
  let p := takeOutcome r.fan r.kind outcome p
  let p := { p with ord := { p.ord with records := p.ord.records.filter (fun x => x.fan != r.fan),
                                        backlog := p.ord.backlog.filter (fun n => n != r.fan) } }
  match r.successor with
  | none => p
  | some k =>
      let fresh := match p.fan? r.fan with
        | some f => waitingRec r.fan f.e.station f.e.output k
        | none => waitingRec r.fan r.station r.output k
      joinBack r.fan { p with ord := { p.ord with records := p.ord.records ++ [fresh] } }

/-- A START ends as withdrawn: its tag FREE, the outcome withdrawn (R155, R168, R170). -/
def withdrawRec (r : OrderRec) (p : Part) : Part :=
  let p := countOrder (fun c => { c with withdrawn := bump c.withdrawn }) (freeTagOf r p)
  reportEmpty (finishRec r .withdrawn p)

/-! ### Issuing (R155, R156) -/

/-- The start check: the fan is STARTING in the order's direction, which is its useful direction (R155). -/
def startCheck (r : OrderRec) (p : Part) : Bool :=
  if isStart r.kind then
    match p.fan? r.fan with
    | some f =>
        let d := if r.kind == .startFwd then RunDir.fwd else RunDir.rev
        f.state == .starting && f.dir == some d && (useful p.fm.record f.e).2 == some d
    | none => false
  else true

/-- The order telegram a record carries: its kind, or a QUERY in QUERYING (R156). -/
def carries (r : OrderRec) : OrderKind := if r.state == .querying then .query else r.kind

/-- A FAN ORDER is queued for a record on its tag, and the response timer armed (R156). -/
def sendOrder (r : OrderRec) (tag : Nat) (p : Part) : Part :=
  let p := queueOwn (.fanOrder r.station tag r.output (carries r)) p
  let p := onOrder r.fan (fun x => { x with tag := some tag, response := arm p.now (responseTime p) }) p
  countOrder (fun c => { c with issued := bump c.issued }) p

/-- A record is issued on a tag: WAITING becomes SENT, and its first issue opens the retry window (R156) [15]. -/
def issue (r : OrderRec) (tag : Nat) (p : Part) : Part :=
  let p := sendOrder r tag (takeTag r.station tag p)
  if r.state == .waiting then
    let p := onOrder r.fan (fun x => { x with state := .sent }) p
    if r.issuedBefore then p
    else onOrder r.fan (fun x =>
      { x with windowOpen := true, window := arm p.now (windowTime p), issuedBefore := true }) p
  else p

/-- The first record of the backlog whose station has a FREE tag, with that tag (R155). -/
def nextToIssue (p : Part) : List Nat → Option (OrderRec × Nat)
  | [] => none
  | n :: rest =>
      match p.order? n with
      | none => nextToIssue p rest
      | some r =>
          match freeTag r.station p.ord.tags with
          | none => nextToIssue p rest
          | some t => some (r, t)

/-- The backlog is served, at most `fuel` records being taken from it (R155). -/
def serveWith : Nat → Part → Part
  | 0, p => p
  | fuel + 1, p =>
      if poolUsed p.ord.tags < 16 then
        match nextToIssue p p.ord.backlog with
        | none => p
        | some (r, t) =>
            let p := { p with ord := { p.ord with backlog := p.ord.backlog.filter (fun n => n != r.fan) } }
            let check := r.state == .querying || startCheck r p
            serveWith fuel (if check then issue r t p else withdrawRec r p)
      else p

/-- The backlog is served (R155). Each record is taken once, and each withdrawn one leaves at most one successor. -/
def serve (p : Part) : Part := serveWith (2 * p.ord.backlog.length) p

/-- Steps 3 to 6 of the end of a record (R168). -/
def endRec (r : OrderRec) (outcome : OrderOutcome) (p : Part) : Part :=
  reportEmpty (serve (finishRec r outcome p))

/-- A record ends FAILED: counted, and for a START or STOP reported as ORDER_FAILED (R160, R163, R165, R166). -/
def failRec (r : OrderRec) (p : Part) : Part :=
  let p := countOrder (fun c => { c with failed := bump c.failed }) p
  let p := if isMotion r.kind then raise .orderFailed (report .orderFailed (fanObject r.fan) p) else p
  endRec r .failed p

/-! ### Requests (R153) -/

/-- A START dropped by replacement is handed back as withdrawn (R153). -/
def dropStart (n : Nat) (old new : OrderKind) (p : Part) : Part :=
  if isStart old && old != new then
    takeOutcome n old .withdrawn (countOrder (fun c => { c with withdrawn := bump c.withdrawn }) p)
  else p

/-- An order request of the Fan Manager (R153); a START dropped from a WAITING record is handed back before the backlog is
served [29], and a successor that a record returned to WAITING (R163, R169) still has is left standing [41]. -/
def requestOrder (n : Nat) (kind : OrderKind) (p : Part) : Part :=
  match p.order? n with
  | none =>
      match p.fan? n with
      | none => p
      | some f =>
          let r := waitingRec n f.e.station f.e.output kind
          serve (joinBack n { p with ord := { p.ord with records := p.ord.records ++ [r] } })
  | some r =>
      if inFlight r then
        let p' := onOrder n (fun x => { x with successor := some kind }) p
        match r.successor with
        | none => p'
        | some old => dropStart n old kind p'
      else
        let p' := onOrder n (fun x => { x with kind := kind, busySeen := false, reissued := false }) p
        serve (dropStart n r.kind kind p')

/-! ### Answers (R158 to R162, R165) -/

/-- Whether an outcome fits the order telegram a record carries (R158). -/
def fits (r : OrderRec) (o : AnswerOutcome) : Bool := (carries r == .query) == (o == .state)

/-- An ACCEPTED answer ends a START or STOP (R159). -/
def answerAccepted (r : OrderRec) (p : Part) : Part :=
  let p := countOrder (fun c => { c with accepted := bump c.accepted }) (freeTagOf r p)
  let p := if r.busySeen then report .orderRetried (fanObject r.fan) p else p
  endRec r (.accepted none) p

/-- A BUSY answer: RETRY_WAIT while the window is open, else the order has failed (R160). -/
def answerBusy (r : OrderRec) (p : Part) : Part :=
  let p := countOrder (fun c => { c with busy := bump c.busy }) p
  if r.windowOpen then
    onOrder r.fan (fun x => { x with state := .retryWait, busySeen := true, retry := arm p.now 200 }) p
  else failRec r (freeTagOf r p)

/-- A refusal ends a START or STOP (R161). -/
def answerRefused (r : OrderRec) (outcome : OrderOutcome) (p : Part) : Part :=
  let p := countOrder (fun c => { c with refused := bump c.refused }) (freeTagOf r p)
  endRec r outcome (raise .orderFailed (report .orderFailed (fanObject r.fan) p))

/-- What a recovery query's answer says of the order (R165). -/
inductive Recovery where
  | tookEffect
  | contrary
  | noEffect
deriving DecidableEq, Repr

/-- The judgement of a recovery query's answer (R165). -/
def recovery : OrderKind → RunState → Recovery
  | .startFwd, .runFwd => .tookEffect
  | .startFwd, .starting => .tookEffect
  | .startFwd, .runRev => .contrary
  | .startRev, .runRev => .tookEffect
  | .startRev, .starting => .tookEffect
  | .startRev, .runFwd => .contrary
  | .stop, .stopped => .tookEffect
  | .stop, .stopping => .tookEffect
  | _, _ => .noEffect

/-- The order is sent once more on the tag it holds, which stays BUSY, a START being checked first (R160, R165). -/
def reissue (r : OrderRec) (p : Part) : Part :=
  match r.tag with
  | none => p
  | some t =>
      if startCheck r p then
        sendOrder { r with state := .sent } t (onOrder r.fan (fun x => { x with state := .sent }) p)
      else serve (withdrawRec r p)

/-- A STATE answer to a recovery query (R165). -/
def answerRecovery (r : OrderRec) (run : RunState) (p : Part) : Part :=
  match recovery r.kind run with
  | .tookEffect =>
      let p := countOrder (fun c => { c with accepted := bump c.accepted, recovered := bump c.recovered })
        (freeTagOf r p)
      let p := report .orderRecovered (fanObject r.fan) p
      endRec r (.accepted (if isStart r.kind then some run else none)) p
  | .contrary => endRec r (.state run) (freeTagOf r p)
  | .noEffect =>
      if !r.reissued && r.windowOpen then
        reissue { r with reissued := true } (onOrder r.fan (fun x => { x with reissued := true }) p)
      else failRec r (freeTagOf r p)

/-- A matched answer is acted on, its response timer cancelled (R158). -/
def answerMatched (r : OrderRec) (o : AnswerOutcome) (run : RunState) (p : Part) : Part :=
  let p := onOrder r.fan (fun x => { x with response := none }) p
  match o with
  | .accepted => answerAccepted r p
  | .busy => answerBusy r p
  | .refusedLocal => answerRefused r .refusedLocal p
  | .refusedFault => answerRefused r .refusedFault p
  | .state =>
      if r.state == .querying then answerRecovery r run p else endRec r (.state run) (freeTagOf r p)

/-- A FAN ANSWER is classed by its tag's state (R158); one on a tag that the part does not hold is unexpected [23]. -/
def takeAnswer (station tag output : Nat) (o : AnswerOutcome) (run : RunState) (p : Part) : Part :=
  let unexpected := countOrder (fun c => { c with unexpected := bump c.unexpected }) p
  match p.tag? station tag with
  | none => unexpected
  | some t =>
      match t.state with
      | .quarantine => countOrder (fun c => { c with late := bump c.late }) p
      | .free => unexpected
      | .busy =>
          match p.ord.records.find? fun r => r.station == station && r.tag == some tag with
          | none => unexpected
          | some r =>
              if r.state == .retryWait then unexpected
              else if r.output == output && fits r o then answerMatched r o run p
              else countOrder (fun c => { c with mismatched := bump c.mismatched }) p

/-! ### Timers (R160, R163, R164, R166, R167) -/

/-- The response timer of a QUERY in SENT expires (R163). -/
def queryTimeout (r : OrderRec) (p : Part) : Part :=
  let p := quarantineTagOf r p
  if r.reissued then failRec r p
  else serve (joinBack r.fan (onOrder r.fan
    (fun x => { x with state := .waiting, tag := none, response := none, reissued := true }) p))

/-- The response timer of a START or STOP in SENT expires: a recovery query (R164). -/
def motionTimeout (r : OrderRec) (p : Part) : Part :=
  serve (joinFront r.fan (onOrder r.fan
    (fun x => { x with state := .querying, tag := none, response := none, queryTimeouts := 0 })
    (quarantineTagOf r p)))

/-- The response timer of a recovery query expires (R166). -/
def recoveryTimeout (r : OrderRec) (p : Part) : Part :=
  let p := quarantineTagOf r p
  if 1 ≤ r.queryTimeouts then failRec r p
  else serve (joinFront r.fan (onOrder r.fan
    (fun x => { x with tag := none, response := none, queryTimeouts := x.queryTimeouts + 1 }) p))

/-- The response timer of a fan's record expires (R163, R164, R166). -/
def responseExpires (n : Nat) (p : Part) : Part :=
  match p.order? n with
  | none => p
  | some r =>
      if r.response.isNone then p
      else match r.state with
        | .sent => if r.kind == .query then queryTimeout r p else motionTimeout r p
        | .querying => recoveryTimeout r p
        | _ => p

/-- The retry-spacing timer of a fan's record expires (R160). -/
def retryExpires (n : Nat) (p : Part) : Part :=
  match p.order? n with
  | none => p
  | some r =>
      if r.retry.isSome && r.state == .retryWait then
        reissue { r with retry := none } (onOrder n (fun x => { x with retry := none }) p)
      else p

/-- The retry window timer of a fan's record expires (R160). -/
def windowExpires (n : Nat) (p : Part) : Part :=
  onOrder n (fun r => if r.window.isSome then { r with windowOpen := false, window := none } else r) p

/-- The quarantine timer of a tag expires (R167). -/
def quarantineExpires (station tag : Nat) (p : Part) : Part :=
  match p.tag? station tag with
  | some t => if t.state == .quarantine && t.quarantine.isSome then serve (setTag station tag .free none p) else p
  | none => p

/-! ### Activation and resets (R169, R171, R172) -/

/-- The numbers from `k` up, `n` of them. -/
def countUp : Nat → Nat → List Nat
  | 0, _ => []
  | n + 1, k => k :: countUp n (k + 1)

/-- Tags 0 to n - 1 of a station, all FREE (R154). -/
def freshTags (station n : Nat) : List TagRec := (countUp n 0).map fun t => ⟨station, t, .free, none⟩

/-- The fan stations of the station table (R154). -/
def fanStations (p : Part) : List StationRec := p.disp.stations.filter fun s => s.role == .fanStation

/-- The tags held of a station. -/
def tagsOf (station : Nat) (tags : List TagRec) : List TagRec := tags.filter fun t => t.station == station

/-- Whether a station keeps its tags through an activation: still a FAN STATION with the same tag count (R169). -/
def keepsTags (p : Part) (station : Nat) : Bool :=
  match p.stationWith station .fanStation with
  | some s => (tagsOf station p.ord.tags).length == s.tagCount
  | none => false

/-- The queue entries of the tags that an activation drops or rebuilds are withdrawn (R169). -/
def withdrawDropped (p : Part) : Part :=
  (p.ord.tags.filter fun t => t.state != .free && !keepsTags p t.station).foldl
    (fun p t => withdraw t.station t.tag p) p

/-- The tags after an activation: those kept, and new ones for every other fan station (R169). -/
def rebuiltTags (p : Part) : List TagRec :=
  p.ord.tags.filter (fun t => keepsTags p t.station) ++
  ((fanStations p).filter fun s => !keepsTags p s.address).flatMap fun s => freshTags s.address s.tagCount

/-- A record that held a tag of a station whose tags are rebuilt returns to WAITING as a new one would stand, so that
its next issue is again its first (R169, R156) [15]. -/
def untag (r : OrderRec) : OrderRec :=
  { waitingRec r.fan r.station r.output r.kind with successor := r.successor }

/-- Whether a record's fan is kept as it stands by the judgement that follows the activation (R109, R169). -/
def recordStands (p : Part) (r : OrderRec) : Bool :=
  match p.fanEntries.find? fun e => e.num == r.fan with
  | some e => fanFate p e (p.fan? r.fan) == .kept
  | none => false

/-- A STATION or FAN table becomes active: the tags and the records are rebuilt (R169). Records that lose their tags
join the back of the backlog in the order in which they were made [20]. -/
def rebuildOrders (p : Part) : Part :=
  let tags := rebuiltTags p
  let stands := recordStands p
  let loses := fun (r : OrderRec) => r.tag.isSome && !keepsTags p r.station
  let gone := p.ord.records.filter fun r => !stands r
  let untagged := (p.ord.records.filter fun r => stands r && loses r).map (·.fan)
  let records := (p.ord.records.filter stands).map fun r => if loses r then untag r else r
  let backlog := (p.ord.backlog.filter fun n => records.any fun r => r.fan == n) ++ untagged
  let held := gone.filter fun r => keepsTags p r.station
  let p := withdrawDropped p
  let p := { p with ord := { p.ord with tags := tags, records := records, backlog := backlog } }
  reportEmpty (serve (held.foldl (fun p r => quarantineTagOf r p) p))

/-- The Order Engine at power-on reset (R171). -/
def resetOrders (p : Part) : Part :=
  { p with ord := { OrderEngine.reset with tags := (fanStations p).flatMap fun s => freshTags s.address s.tagCount } }

/-- RESTART on the Order Engine and the FAN ORDER class (R172, R18). -/
def restartOrders (p : Part) : Part :=
  let one := fun (t : TagRec) =>
    if t.state == .busy then { t with state := .quarantine, quarantine := arm p.now 2000 } else t
  let had := !p.ord.records.isEmpty
  let p := { p with ord := { p.ord with tags := p.ord.tags.map one, records := [], backlog := [] } }
  let p := purgeOrders p
  if had then testClearing p else p

end Sys2Proof.Machine
end

