-- ==== Sys2Proof/Machine/Clock.lean ====
section
/-! DEFINITION. The part's own clock: which timer expiries are due, and the passing of a millisecond [3]. The hold windows
are not among them: how many fill words one has seen is known outside the part [8]. Nor is the end of a store
write [25]. An end-of-clearing report on its way is due like them [40]. -/

namespace Sys2Proof.Machine

/-- The command of a timer that has run out. -/
def dueWhen (now : PartTime) (t : Timer) (c : Instr) : List Instr := if ranOut now t then [c] else []

/-- The qualification timers that have run out (R2). -/
def dueLine (p : Part) : List Instr :=
  dueWhen p.now p.line.portA.qualTimer (.qualificationTimerExpiry .a) ++
  dueWhen p.now p.line.portB.qualTimer (.qualificationTimerExpiry .b)

/-- The timers of the Measurement Unit that have run out (R41, R45, R60). -/
def dueMeasurement (p : Part) : List Instr :=
  (instruments p.meas).flatMap (fun x => dueWhen p.now x.2.stale (.staleTimerExpiry x.1.cls x.1.num)) ++
  p.meas.points.flatMap (fun q => dueWhen p.now q.holdTimer (.pointHoldTimerExpiry q.num)) ++
  dueWhen p.now p.meas.requalify .zoneRequalifyTimerExpiry

/-- The timers of the Incident Register and the controller that have run out (R70, R75, R88, R95, R102). -/
def dueIncident (p : Part) : List Instr :=
  dueWhen p.now p.reg.autoDeclare .autoDeclareTimerExpiry ++ dueWhen p.now p.reg.leadWait .leadWaitTimerExpiry ++
  dueWhen p.now p.ctl.period .controlPeriodTimerExpiry ++
  dueWhen p.now p.ctl.velocityHold .velocityHoldTimerExpiry ++
  dueWhen p.now p.ctl.leadLoss .leadLossHoldTimerExpiry

/-- The timers of the Fan Manager that have run out (R114, R119, R121, R126, R145). -/
def dueFans (p : Part) : List Instr :=
  p.fm.fans.flatMap (fun f =>
    dueWhen p.now f.restTimer (.restTimerExpiry f.e.num) ++ dueWhen p.now f.runUp (.runUpTimerExpiry f.e.num) ++
    dueWhen p.now f.runDown (.runDownTimerExpiry f.e.num)) ++
  p.fm.reach.flatMap (fun r => dueWhen p.now r.silence (.reportSilenceTimerExpiry r.station)) ++
  dueWhen p.now p.fm.stopSpacing .stopSpacingTimerExpiry

/-- The timers of the Order Engine that have run out (R160, R163, R167). -/
def dueOrders (p : Part) : List Instr :=
  p.ord.records.flatMap (fun r =>
    dueWhen p.now r.response (.responseTimerExpiry r.fan) ++ dueWhen p.now r.retry (.retrySpacingTimerExpiry r.fan) ++
    dueWhen p.now r.window (.retryWindowTimerExpiry r.fan)) ++
  p.ord.tags.flatMap fun t => dueWhen p.now t.quarantine (.quarantineTimerExpiry t.station t.tag)

/-- The timers of the Section Coordinator that have run out (R173, R178). -/
def dueCoord (p : Part) : List Instr :=
  dueWhen p.now p.coord.timer .bulletinTimerExpiry ++
  p.coord.peers.flatMap fun q => dueWhen p.now q.freshness (.freshnessTimerExpiry q.address)

/-- The end-of-clearing report that a RESTART left on its way: sent by the Fan Manager, and not yet taken by the Incident
Register, which is in CLEARING still (R82, R146, R187) [40]. -/
def dueReport (p : Part) : List Instr :=
  if p.fm.clearingSent && p.reg.record.state == .clearing then [.clearingEndReport] else []

/-- The expiries that are due, and an end-of-clearing report on its way. -/
def dueExpiries (p : Part) : List Instr :=
  dueLine p ++ dueMeasurement p ++ dueIncident p ++ dueFans p ++ dueOrders p ++ dueCoord p ++ dueReport p

/-- One due expiry, which one being open [2], with the part that has chosen it. -/
def nextDue (p : Part) : Option (Instr × Part) :=
  match dueExpiries p with
  | [] => none
  | [c] => some (c, p)
  | c :: cs =>
      let (k, p) := choose (cs.length + 1) p
      some ((c :: cs).getD k c, p)

/-- A millisecond passes. -/
def tick (p : Part) : Part := { p with now := p.now + 1 }

end Sys2Proof.Machine
end

