-- ==== Sys2Proof/Machine/Settle.lean ====
section
/-! DEFINITION. How one command's hand-ons between blocks run their course, and how the event ends. -/

namespace Sys2Proof.Machine

/-- One waiting hand-on is taken by its block (R153, R82). -/
def takeHandOn (h : HandOn) (p : Part) : Part :=
  match h with
  | .orderRequest n kind => requestOrder n kind p
  | .clearingEnd => takeClearingEnd p

/-- One waiting hand-on of a RESTART: an order request is taken, and an end-of-clearing report is not, for the RESTART
leaves the Incident Register as it stands (R85, R187, R211). The report is on its way from then on, as the clearing report
mark shows in CLEARING, and is taken as an event of its own (`dueReport`) [40]. -/
def takeRequestOnly (h : HandOn) (p : Part) : Part :=
  match h with
  | .orderRequest n kind => requestOrder n kind p
  | .clearingEnd => p

/-- The waiting hand-ons are taken by `take` in their order, at most `fuel` of them [13]. -/
def settle (take : HandOn → Part → Part) : Nat → Part → Part
  | 0, p => p
  | fuel + 1, p =>
      match p.handOns with
      | [] => p
      | h :: rest => settle take fuel (take h { p with handOns := rest })

/-- The bound on the hand-ons that one event takes [13]. -/
def settleBound : Nat := 1000

/-- The hand-ons of an event taken; none waits when the event is over [13]. -/
def settled (p : Part) : Part := { settle takeHandOn settleBound p with handOns := [] }

/-- The order requests of a RESTART taken; none waits after them [13] [40]. -/
def requestsSettled (p : Part) : Part := { settle takeRequestOnly settleBound p with handOns := [] }

/-- The end of an event: its hand-ons are taken and the health is formed afresh (R193). -/
def finish (p : Part) : Part := formHealth (settled p)

/-- The next state: the part after an event, the queue as it stands. -/
def nextWith (f : Part → Part) (s : State) : Host.Outcome State Fault Refusal :=
  .next { s with part := finish (f s.part) }

end Sys2Proof.Machine
end

