-- ==== Sys2Proof/Machine/CmdAirflow.lean ====
section
/-! DEFINITION. The meanings of the commands of the Airflow Controller: each is one event of the part, its hand-ons
taken and its health formed at the end (`nextWith`). -/

namespace Sys2Proof.Machine

/-- R91: an incident record is handed to the controller. -/
def execIncidentRecordToController (handOn : RecordHandOn) (s : State) : Host.Outcome State Fault Refusal :=
  nextWith (ctlTakeRecord handOn) s

/-- R88: the control-period timer expires. -/
def execControlPeriodTimerExpiry (s : State) : Host.Outcome State Fault Refusal := nextWith periodExpires s

/-- R95: the velocity-hold timer expires. -/
def execVelocityHoldTimerExpiry (s : State) : Host.Outcome State Fault Refusal := nextWith velocityHoldExpires s

/-- R102: the lead-loss-hold timer expires. -/
def execLeadLossHoldTimerExpiry (s : State) : Host.Outcome State Fault Refusal := nextWith leadLossExpires s

end Sys2Proof.Machine
end

