-- ==== Sys2Proof/Machine/Peers.lean ====
section
/-! DEFINITION. What the Section Coordinator hands on from its peers (09): bulletins taken, freshness, and the peer
records at an activation. -/

namespace Sys2Proof.Machine

/-- The lead view of a new lead is handed to the Incident Register, marked, and then to the controller, as though
its bulletin had just been taken (R182). -/
def handNewLead (addr : Nat) (p : Part) : Part :=
  match (peerAt addr p.coord.peers).bind (·.held) with
  | none => p
  | some b =>
      let p := takeView b true p
      if leadViewFor p.reg.record.id p.coord.peers == some addr then takeLeadShare (shareFor p.node b) p else p

/-- The lead view is judged afresh, and a change of it is handed on while the held id stays; `taken` is the peer
whose bulletin is in hand, which is handed on by its own steps (R177, R179, R182). -/
def judgeAndHandOn (taken : Option Nat) (p : Part) : Part :=
  let before := p.coord.leadView
  let p := judgeLead p
  match before, p.coord.leadView with
  | some _, none => leadLost p
  | some old, some new => if old != new && taken != some new then handNewLead new p else p
  | none, _ => p

/-- A peer record after a bulletin from it (R177, R178). -/
def withBulletin (now : PartTime) (fresh : Nat) (b : Bulletin) (q : PeerRec) : PeerRec :=
  { q with held := some b, arrival := now, fresh := true, freshness := arm now fresh }

/-- The interval of a freshness timer in milliseconds: 10 s with no CONTROL table (R178). -/
def freshTime (p : Part) : Nat :=
  match p.mgmt.control with
  | some t => 1000 * t.freshTime
  | none => 10000

/-- A peer's bulletin is taken, in the four steps of R177. -/
def takeBulletin (source : Nat) (b : Bulletin) (p : Part) : Part :=
  match peerAt source p.coord.peers with
  | none => p
  | some _ =>
      let p := { p with coord := { p.coord with
        taken := bump p.coord.taken,
        peers := updWhere (fun q => q.address == source) (withBulletin p.now (freshTime p) b) p.coord.peers } }
      let p := judgeAndHandOn (some source) p
      let p := takeView b (leadViewFor b.id p.coord.peers == some source) p
      if leadViewFor p.reg.record.id p.coord.peers == some source then takeLeadShare (shareFor p.node b) p else p

/-- The freshness timer of a peer expires (R178). -/
def freshnessExpires (addr : Nat) (p : Part) : Part :=
  match peerAt addr p.coord.peers with
  | none => p
  | some q =>
      if q.freshness.isNone then p
      else
        let stale := fun (q : PeerRec) => { q with fresh := false, freshness := none }
        judgeAndHandOn none { p with coord := { p.coord with
          stale := bump p.coord.stale, peers := updWhere (fun q => q.address == addr) stale p.coord.peers } }

/-- The peer records are rebuilt at an activation, and the lead view is judged afresh (R176, R179). -/
def rebuildPeers (p : Part) : Part :=
  judgeAndHandOn none { p with coord := { p.coord with peers := buildPeers p.disp.stations p.coord.peers } }

end Sys2Proof.Machine
end

