-- ==== Sys2Proof/Machine/CmdCoordination.lean ====
section
/-! DEFINITION. The meanings of the commands of the Section Coordinator: each is one event of the part, its hand-ons
taken and its health formed at the end (`nextWith`). -/

namespace Sys2Proof.Machine

/-- R173: the bulletin timer expires. -/
def execBulletinTimerExpiry (s : State) : Host.Outcome State Fault Refusal := nextWith bulletinExpires s

/-- R173: an incident record is handed to the Coordinator. -/
def execIncidentRecordToCoordinator (handOn : RecordHandOn) (s : State) : Host.Outcome State Fault Refusal :=
  nextWith (coordTakeRecord handOn) s

/-- R177: a peer's BULLETIN is delivered. -/
def execBulletin (source : Nat) (b : Bulletin) (s : State) : Host.Outcome State Fault Refusal :=
  nextWith (takeBulletin source b) s

/-- R178: a freshness timer expires. -/
def execFreshnessTimerExpiry (address : Nat) (s : State) : Host.Outcome State Fault Refusal :=
  nextWith (freshnessExpires address) s

end Sys2Proof.Machine
end

