-- ==== Sys2Proof/Machine/CmdFans.lean ====
section
/-! DEFINITION. The meanings of the commands of the Fan Manager: each is one event of the part, its hand-ons
taken and its health formed at the end (`nextWith`). -/

namespace Sys2Proof.Machine

/-- R138: a demand update. -/
def execDemandUpdate (demand : Nat) (s : State) : Host.Outcome State Fault Refusal := nextWith (takeDemand demand) s

/-- R135: an incident record is handed to the Fan Manager. -/
def execIncidentRecordToFanManager (handOn : RecordHandOn) (s : State) : Host.Outcome State Fault Refusal :=
  nextWith (fansTakeRecord handOn) s

/-- R145: the stop-spacing timer expires. -/
def execStopSpacingTimerExpiry (s : State) : Host.Outcome State Fault Refusal := nextWith spacingExpires s

/-- R116: a FAN REPORT is delivered. -/
def execFanReport (source : Nat) (outputs : List ReportOutput) (s : State) : Host.Outcome State Fault Refusal :=
  nextWith (takeReport source outputs) s

/-- R114: a rest timer expires. -/
def execRestTimerExpiry (fan : Nat) (s : State) : Host.Outcome State Fault Refusal := nextWith (restExpires fan) s

/-- R119: a run-up timer expires. -/
def execRunUpTimerExpiry (fan : Nat) (s : State) : Host.Outcome State Fault Refusal := nextWith (runUpExpires fan) s

/-- R121: a run-down timer expires. -/
def execRunDownTimerExpiry (fan : Nat) (s : State) : Host.Outcome State Fault Refusal :=
  nextWith (runDownExpires fan) s

/-- R126: a report silence timer expires. -/
def execReportSilenceTimerExpiry (station : Nat) (s : State) : Host.Outcome State Fault Refusal :=
  nextWith (silenceExpires station) s

/-- R123: the outcome of an order is handed back. -/
def execOrderOutcome (fan : Nat) (order : OrderKind) (outcome : OrderOutcome)
    (s : State) : Host.Outcome State Fault Refusal :=
  nextWith (takeOutcome fan order outcome) s

end Sys2Proof.Machine
end

