-- ==== Sys2Proof/Machine/CmdIncident.lean ====
section
/-! DEFINITION. The meanings of the commands of alarms handed on, notices, and the timers of the Incident Register: each is one event of the part, its hand-ons
taken and its health formed at the end (`nextWith`). -/

namespace Sys2Proof.Machine

/-- R69: a zone number is handed on. -/
def execZoneAlarmHandOn (zone : Nat) (s : State) : Host.Outcome State Fault Refusal := nextWith (takeZone zone) s

/-- R64: a DECLARE. -/
def execDeclare (notice : Notice) (s : State) : Host.Outcome State Fault Refusal := nextWith (judgeDeclare notice) s

/-- R65: an UPDATE. -/
def execUpdate (notice : Notice) (s : State) : Host.Outcome State Fault Refusal := nextWith (judgeUpdate notice) s

/-- R66: a HOLD. -/
def execHold (notice : Notice) (s : State) : Host.Outcome State Fault Refusal :=
  nextWith (judgeFreeze .control .hold notice) s

/-- R66: a RESUME. -/
def execResume (notice : Notice) (s : State) : Host.Outcome State Fault Refusal :=
  nextWith (judgeFreeze .hold .control notice) s

/-- R67: a CLEAR. -/
def execClear (notice : Notice) (s : State) : Host.Outcome State Fault Refusal := nextWith (judgeClear notice) s

/-- R68: a CANCEL_ALERT, which uses no field. -/
def execCancelAlert (_notice : Notice) (s : State) : Host.Outcome State Fault Refusal := nextWith judgeCancel s

/-- R63: a notice of no known action is refused with BAD_FIELD. -/
def execNoticeBadAction (_action : Nat) (_notice : Notice) (s : State) : Host.Outcome State Fault Refusal :=
  nextWith (refuseNotice .badField) s

/-- R70: the auto-declare timer expires. -/
def execAutoDeclareTimerExpiry (s : State) : Host.Outcome State Fault Refusal := nextWith autoDeclareExpires s

/-- R75: the lead-wait timer expires. -/
def execLeadWaitTimerExpiry (s : State) : Host.Outcome State Fault Refusal := nextWith leadWaitExpires s

/-- R82: the end-of-clearing report is taken. -/
def execClearingEndReport (s : State) : Host.Outcome State Fault Refusal := nextWith takeClearingEnd s

end Sys2Proof.Machine
end

