-- ==== Sys2Proof/Machine/Images.lean ====
section
/-! DEFINITION. Table images (11, R201): their layout, the checks of LOAD_END (R204 to R206), and the tables they
spell. -/

namespace Sys2Proof.Machine

/-! ### Layout (R201) -/

/-- The fixed length of a kind's image. -/
def imageLength : TableKind → Nat
  | .stations => 400
  | .sections => 676
  | .fans => 976
  | .control => 80

/-- The size of a kind's entries. -/
def entrySize : TableKind → Nat
  | .stations => 4
  | .sections => 20
  | .fans => 20
  | .control => 64

/-- The number of a kind's entries. -/
def entryTotal : TableKind → Nat
  | .stations => 96
  | .sections => 33
  | .fans => 48
  | .control => 1

/-- The bytes that the fields of entry `i` of a kind take; those after them are fill. -/
def fieldBytes (k : TableKind) (i : Nat) : Nat :=
  match k with
  | .stations => 3
  | .sections => if i == 0 then 8 else if i ≤ 16 then 6 else 17
  | .fans => 19
  | .control => 55

/-- The first `n` runs of `size` bytes. -/
def runsOf : Nat → Nat → List Byte → List (List Byte)
  | 0, _, _ => []
  | n + 1, size, bs => bs.take size :: runsOf n size (bs.drop size)

/-- The elements of a list, each with its index, the first being `i`. -/
def indexed {α : Type} : Nat → List α → List (Nat × α)
  | _, [] => []
  | i, x :: xs => (i, x) :: indexed (i + 1) xs

/-- The entries of an image, each with its index from 0. -/
def entriesOf (k : TableKind) (image : List Byte) : List (Nat × List Byte) :=
  indexed 0 (runsOf (entryTotal k) (entrySize k) (image.drop 16))

/-- Whether an entry is used: some byte is not 0xFF. -/
def entryUsed (e : List Byte) : Bool := e.any fun b => b != 0xFF

/-- The used entries of an image. -/
def usedEntries (k : TableKind) (image : List Byte) : List (Nat × List Byte) :=
  (entriesOf k image).filter fun e => entryUsed e.2

/-- The sum of all bytes of an image, mod 65536. -/
def imageSum (image : List Byte) : BitVec 16 := BitVec.ofNat 16 (sumOf BitVec.toNat image)

/-- The revision of an image. -/
def imageRevision (image : List Byte) : Nat := field image 8 2

/-! ### Ranges (R205) -/

/-- A value in a range. -/
def within (lo hi v : Nat) : Bool := lo ≤ v && v ≤ hi

/-- The role a code of a STATION entry names. -/
def stationRoleOfCode : Nat → Option StationRole
  | 1 => some .sensor
  | 2 => some .fanStation
  | 3 => some .controlCentre
  | 4 => some .peer
  | 5 => some .manager
  | _ => none

/-- A STATION entry, if it is within its ranges. -/
def parseStationEntry (e : List Byte) : Option StationEntry := do
  let role ← stationRoleOfCode (field e 1 1)
  let tags := field e 2 1
  let tagsOk := if role == .fanStation then within 1 4 tags else tags == 0
  if within 1 239 (field e 0 1) && tagsOk then some ⟨field e 0 1, role, tags⟩ else none

/-- Every element parsed, or none. -/
def parseAll {α β : Type} (f : α → Option β) : List α → Option (List β)
  | [] => some []
  | x :: xs => do
      let y ← f x
      let ys ← parseAll f xs
      some (y :: ys)

/-- A STATION table, if every range holds (R205). -/
def parseStations (image : List Byte) : Option StationTable := do
  let entries ← parseAll (fun e => parseStationEntry e.2) (usedEntries .stations image)
  if (entries.filter fun e => e.role == .peer).length ≤ 8 then some ⟨imageRevision image, entries⟩ else none

/-- An instrument pair at an offset: empty, or a station and a channel in range; `none` breaks the range. -/
def parsePair (e : List Byte) (at_ : Nat) : Option (Option Source) :=
  let station := field e at_ 1
  let channel := field e (at_ + 1) 1
  if station == 0xFF && channel == 0xFF then some none
  else if within 1 239 station && channel ≤ 15 then some (some ⟨station, channel⟩)
  else none

/-- The entry of point `i`, the index of a SECTION entry from 1 to 16. -/
def parsePoint (x : Nat × List Byte) : Option PointEntry := do
  let a ← parsePair x.2 0
  let b ← parsePair x.2 2
  let c ← parsePair x.2 4
  some ⟨x.1, a, b, c⟩

/-- The entry of a zone, its index in the SECTION image being 16 above its number. -/
def parseZone (x : Nat × List Byte) : Option ZoneEntry := do
  let e := x.2
  let lo := field e 0 2
  let hi := field e 2 2
  let o1 ← parsePair e 9
  let o2 ← parsePair e 11
  let t1 ← parsePair e 13
  let t2 ← parsePair e 15
  if lo < hi && hi ≤ 20000 && within 1 10 (field e 4 1) && within 1 30000 (field e 5 2) && field e 7 2 ≤ 12000 then
    some ⟨x.1 - 16, lo, hi, field e 4 1, field e 5 2, field e 7 2, o1, o2, t1, t2⟩
  else none

/-- A SECTION table, if every range holds (R205). -/
def parseSections (image : List Byte) : Option SectionTable := do
  let used := usedEntries .sections image
  let settings ← used.find? fun e => e.1 == 0
  let points ← parseAll parsePoint (used.filter fun e => 1 ≤ e.1 && e.1 ≤ 16)
  let zones ← parseAll parseZone (used.filter fun e => 17 ≤ e.1)
  let s := settings.2
  let lo := field s 0 2
  let hi := field s 2 2
  if lo < hi && hi ≤ 20000 && within 10 200 (field s 4 1) && within 20 200 (field s 5 1) &&
      within 1 30 (field s 6 1) && within 5 60 (field s 7 1) then
    some { revision := imageRevision image, lo := lo, hi := hi, tolerance := field s 4 1, polarity := field s 5 1,
           staleTime := field s 6 1, holdTime := field s 7 1, points := points, zones := zones }
  else none

/-- The orientation a code names (R201). -/
def orientationOfCode : Nat → Option Orientation
  | 1 => some .forwardAB
  | 2 => some .forwardBA
  | _ => none

/-- A FAN entry, if it is within the ranges of R107. -/
def parseFan (x : Nat × List Byte) : Option FanEntry := do
  let e := x.2
  let orientation ← orientationOfCode (field e 5 1)
  let reversible := field e 6 1 == 1
  let f : FanEntry :=
    { num := field e 0 1, station := field e 1 1, output := field e 2 1, chainage := field e 3 2,
      orientation := orientation, reversible := reversible, forward := field e 7 2, reverse := field e 9 2,
      heatRating := field e 11 2, zone := field e 13 1, runUp := field e 14 1, runDown := field e 15 1,
      inhibit := field e 16 2, rank := field e 18 1 }
  if within 1 48 f.num && within 1 239 f.station && within 1 2 f.output && f.chainage ≤ 20000 &&
      field e 6 1 ≤ 1 && within 100 4000 f.forward && f.reverse ≤ 4000 && (reversible || f.reverse == 0) &&
      within 1000 6000 f.heatRating && within 1 16 f.zone && within 2 60 f.runUp && within 5 180 f.runDown &&
      f.inhibit ≤ 600 && within 1 255 f.rank then some f
  else none

/-- A FAN table, if every range holds (R205). -/
def parseFans (image : List Byte) : Option FanTable := do
  let entries ← parseAll parseFan (usedEntries .fans image)
  some ⟨imageRevision image, entries⟩

/-- Whether no value is below the one before it. -/
def nonDecreasing : List Nat → Bool
  | a :: b :: rest => a ≤ b && nonDecreasing (b :: rest)
  | _ => true

/-- The direction a code of the CONTROL entry names (R201). -/
def plainDirection : Nat → Option Direction
  | 1 => some .ab
  | 2 => some .ba
  | _ => none

/-- A CONTROL table, if its entry is used and every range holds (R205). -/
def parseControl (image : List Byte) : Option ControlTable := do
  let used ← (usedEntries .control image).head?
  let e := used.2
  let direction ← plainDirection (field e 51 1)
  let t : ControlTable :=
    { revision := imageRevision image, vcrit := [0, 2, 4, 6, 8, 10].map fun o => field e o 2,
      margin := field e 12 1, vmax := field e 13 2, kp := field e 15 2, ki := field e 17 2, period := field e 19 1,
      velocityHold := field e 20 1, openLoop := [21, 24, 27, 30, 33, 36].map fun o => field e o 3,
      leadLossHold := field e 39 1, freshTime := field e 40 1, exclusion := field e 41 2, gate := field e 43 1,
      hysteresis := field e 44 2, stopSpacing := field e 46 1, response := field e 47 2, retryWindow := field e 49 1,
      heat := field e 50 1, direction := direction, autoDeclare := field e 52 2, leadWait := field e 54 1 }
  if t.vcrit.all (within 100 600) && nonDecreasing t.vcrit && t.margin ≤ 200 && within 200 1000 t.vmax &&
      t.kp ≤ 4095 && t.ki ≤ 4095 && within 1 5 t.period && within 10 120 t.velocityHold &&
      t.openLoop.all (within 0 1800000) && within 5 120 t.leadLossHold && within 2 10 t.freshTime &&
      t.exclusion ≤ 500 && within 1 4 t.gate && t.hysteresis ≤ 4000 && within 1 10 t.stopSpacing &&
      within 100 2000 t.response && within 1 10 t.retryWindow && within 1 6 t.heat && t.autoDeclare ≤ 600 &&
      within 2 30 t.leadWait then some t
  else none

/-! ### Conflicts (R206) -/

/-- Whether the elements of a list are all different. -/
def distinct {α : Type} [BEq α] : List α → Bool
  | [] => true
  | x :: xs => !xs.contains x && distinct xs

/-- STATION: addresses differ, and none is the part's own. -/
def stationsAgree (node : Nat) (t : StationTable) : Bool :=
  distinct (t.entries.map (·.address)) && !(t.entries.map (·.address)).contains node

/-- The non-empty instrument pairs of a SECTION table. -/
def sourcesOf (t : SectionTable) : List Source :=
  (t.points.flatMap fun e => [e.s1, e.s2, e.s3].filterMap id) ++
  t.zones.flatMap fun e => [e.o1, e.o2, e.t1, e.t2].filterMap id

/-- Whether the ranges of two zones share a chainage. -/
def overlap (a b : ZoneEntry) : Bool := a.lo < b.hi && b.lo < a.hi

/-- Whether no two zones of a list overlap. -/
def zonesApart : List ZoneEntry → Bool
  | [] => true
  | z :: zs => !zs.any (overlap z) && zonesApart zs

/-- SECTION: instrument pairs differ, and zones do not overlap. -/
def sectionsAgree (t : SectionTable) : Bool := distinct (sourcesOf t) && zonesApart t.zones

/-- FAN: stations with outputs differ, and fan numbers differ. -/
def fansAgree (t : FanTable) : Bool :=
  distinct (t.entries.map fun e => (e.station, e.output)) && distinct (t.entries.map (·.num))

/-! ### The checks of LOAD_END (R204) -/

/-- A table of one of the four kinds. -/
inductive Table where
  | stations (t : StationTable)
  | sections (t : SectionTable)
  | fans (t : FanTable)
  | control (t : ControlTable)
deriving DecidableEq, Repr

/-- The table an image of a kind spells, if every range holds (R205). -/
def parseTable (k : TableKind) (image : List Byte) : Option Table :=
  match k with
  | .stations => (parseStations image).map .stations
  | .sections => (parseSections image).map .sections
  | .fans => (parseFans image).map .fans
  | .control => (parseControl image).map .control

/-- Whether a table meets the conflict checks (R206). -/
def tableAgrees (node : Nat) : Table → Bool
  | .stations t => stationsAgree node t
  | .sections t => sectionsAgree t
  | .fans t => fansAgree t
  | .control _ => true

/-- The identity check (R204). -/
def identityOk (k : TableKind) (image : List Byte) : Bool :=
  image.take 6 == [0x50, 0x53, 0x32, 0x31, 0x34, 0x30] && field image 6 1 == tableCode k && field image 7 1 == 1

/-- Whether no used entry follows an unused one. -/
def packed : List (List Byte) → Bool
  | [] => true
  | e :: rest => if entryUsed e then packed rest else !rest.any entryUsed

/-- The fill check (R204). -/
def fillOk (k : TableKind) (image : List Byte) : Bool :=
  let entries := entriesOf k image
  let used := usedEntries k image
  ((image.drop 11).take 5).all (fun b => b == 0xFF) &&
    used.all (fun e => (e.2.drop (fieldBytes k e.1)).all fun b => b == 0xFF) &&
    field image 10 1 == used.length &&
    (match k with
     | .stations | .fans => packed (entries.map (·.2))
     | .sections | .control => true)

/-- The first check of R204 that an image fails, in the order of the rule. -/
def imageFault (k : TableKind) (declared count : Nat) (sum : BitVec 16) (node : Nat) (image : List Byte) :
    Option ReplyReason :=
  if count < declared then some .length
  else if imageSum image != sum then some .checksum
  else if !identityOk k image then some .identity
  else if !fillOk k image then some .fill
  else match parseTable k image with
    | none => some .range
    | some t => if tableAgrees node t then none else some .conflict

end Sys2Proof.Machine
end

