-- ==== Sys2Proof/Machine/Stations.lean ====
section
/-! DEFINITION. The station table and the sequence test of the Telegram Dispatcher (02). -/

namespace Sys2Proof.Machine

/-- The Dispatcher's part-wide counters changed (R32). -/
def countDispatch (g : DispatchCounters → DispatchCounters) (p : Part) : Part :=
  { p with disp := { p.disp with counters := g p.disp.counters } }

/-- The record of an address changed. -/
def onStation (addr : Nat) (g : StationRec → StationRec) (p : Part) : Part :=
  { p with disp := { p.disp with stations := updWhere (fun s => s.address == addr) g p.disp.stations } }

/-- A new station record (R23, R24). -/
def newStation (e : StationEntry) : StationRec :=
  { address := e.address, role := e.role, tagCount := e.tagCount, known := false, lastSeq := 0, delivered := 0,
    duplicates := 0, gaps := 0 }

/-- The record of an entry of a new STATION table: carried over from one of the same address and role (R24). -/
def carriedStation (old : List StationRec) (e : StationEntry) : StationRec :=
  match old.find? fun s => s.address == e.address && s.role == e.role with
  | some s => { s with tagCount := e.tagCount }
  | none => newStation e

/-- The entries of the active STATION table; none while none is active. -/
def Part.stationEntries (p : Part) : List StationEntry :=
  match p.mgmt.stations with
  | some t => t.entries
  | none => []

/-- The station table is rebuilt from a STATION table that becomes active (R24). -/
def rebuildStations (p : Part) : Part :=
  { p with disp := { p.disp with
      stations := p.stationEntries.map (carriedStation p.disp.stations), provisional := [] } }

/-- The Dispatcher at power-on reset (R33). -/
def resetStations (p : Part) : Part :=
  { p with disp := { Dispatcher.reset with stations := p.stationEntries.map newStation } }

/-- RESTART: sequences are forgotten, but for the source of the RESTART, whose number is `seq` (R34) [19]. -/
def forgetSequences (source : Nat) (seq : Byte) (p : Part) : Part :=
  let one := fun (s : StationRec) =>
    if s.address == source then { s with known := true, lastSeq := seq } else { s with known := false, lastSeq := 0 }
  { p with disp := { p.disp with
      stations := p.disp.stations.map one,
      provisional := p.disp.provisional.filter fun r => r.source == source } }

/-- The finding of the sequence test (R27). -/
inductive Finding where
  | fresh (skipped : Nat)
  | duplicate
  | old
deriving DecidableEq, Repr

/-- The sequence test against a last accepted sequence (R27). -/
def seqTest (last seq : Byte) : Finding :=
  let d := (seq - last).toNat
  if d == 0 then .duplicate else if d ≤ 223 then .fresh (d - 1) else .old

/-- Skipped numbers are counted part-wide and reported once (R28). -/
def countGap (source skipped : Nat) (p : Part) : Part :=
  if skipped == 0 then p
  else report .sequenceGap ⟨.station, source⟩ (countDispatch (fun c => { c with gap := satAdd c.gap skipped }) p)

/-- Of the provisional records, the one with the earliest last acceptance, that is, of the greatest age modulo 2^32,
the first on equals (R26) [21]. -/
def oldestProvisional (now : PartTime) (l : List ProvisionalRec) : Option ProvisionalRec :=
  l.foldl (fun acc r =>
    match acc with
    | none => some r
    | some a => if (now - a.accepted).toNat < (now - r.accepted).toNat then some r else acc) none

/-- A provisional record is made for a source, the eldest of 8 giving way (R26). -/
def admitProvisional (source : Nat) (seq : Byte) (p : Part) : Part :=
  let r : ProvisionalRec := ⟨source, seq, p.now⟩
  if p.disp.provisional.length < 8 then
    { p with disp := { p.disp with provisional := p.disp.provisional ++ [r] } }
  else match oldestProvisional p.now p.disp.provisional with
    | none => p
    | some old =>
        let p := countDispatch (fun c => { c with replaced := bump c.replaced }) p
        { p with disp := { p.disp with
            provisional := updFirst (fun x => x == old) (fun _ => r) p.disp.provisional } }

end Sys2Proof.Machine
end

