-- ==== Sys2Proof/Machine/Status.lean ====
section
/-! DEFINITION. READ_STATUS (11, R200; layout of the items: 01, R22): the items of each selector. -/

namespace Sys2Proof.Machine

/-! ### Values (R200) [16] -/

/-- An item: its number and its value, high byte first. -/
structure Item where
  num   : Nat
  value : List Byte
deriving DecidableEq, Repr

/-- An unsigned value of `w` bytes. -/
def uItem (n w v : Nat) : Item := ⟨n, beBytes w v⟩

/-- An unsigned value, all ones when absent. -/
def optItem (n w : Nat) (v : Option Nat) : Item :=
  match v with
  | some x => uItem n w x
  | none => ⟨n, List.replicate w 0xFF⟩

/-- A signed value of `w` bytes. -/
def sItem (n w : Nat) (v : Int) : Item := ⟨n, beSigned w v⟩

/-- A signed 2-byte value, 0x8000 when absent. -/
def optSigned (n : Nat) (v : Option Int) : Item :=
  match v with
  | some x => sItem n 2 x
  | none => uItem n 2 0x8000

/-- A mark: 1 when set. -/
def mark (b : Bool) : Nat := if b then 1 else 0

/-- An item that is a mark. -/
def markItem (n : Nat) (b : Bool) : Item := uItem n 1 (mark b)

/-- A time left in 4 bytes. -/
def timeItem (p : Part) (n : Nat) (t : Timer) : Item := uItem n 4 (timeLeft p.now t)

/-- A part time, or all ones. -/
def stampItem (n : Nat) (t : Option PartTime) : Item := optItem n 4 (t.map BitVec.toNat)

/-- A counter. -/
def counterItem (n : Nat) (c : Counter) : Item := uItem n 2 c.toNat

/-- Items numbered on from `n`. -/
def counterItems : Nat → List Counter → List Item
  | _, [] => []
  | n, c :: cs => counterItem n c :: counterItems (n + 1) cs

/-! ### Positions of named values without a code -/

/-- A direction source by its place in R61. -/
def sourcePos : DirectionSource → Nat
  | .explicit => 0
  | .train => 1
  | .default => 2
  | .adopted => 3

/-- A point quality by its place in R43. -/
def pointPos : PointQuality → Nat
  | .good => 0
  | .paired => 1
  | .disputed => 2
  | .single => 3
  | .held => 4
  | .unknown => 5

/-- An instrument state by its place in R35. -/
def instrumentPos : InstrumentState → Nat
  | .absent => 0
  | .qualifying => 1
  | .valid => 2
  | .stale => 3
  | .stationFault => 4
  | .rejected => 5

/-- A zone state by its place in R51. -/
def zonePos : ZoneState → Nat
  | .normal => 0
  | .pending => 1
  | .alarm => 2
  | .unknown => 3

/-- An orientation by its place in R107. -/
def orientationPos : Orientation → Nat
  | .forwardAB => 0
  | .forwardBA => 1

/-- A run direction by its place in R108. -/
def runDirPos : RunDir → Nat
  | .fwd => 0
  | .rev => 1

/-- A fan state by its place in R108. -/
def fanPos : FanState → Nat
  | .unconfigured => 0
  | .unknown => 1
  | .stopped => 2
  | .starting => 3
  | .running => 4
  | .stopping => 5
  | .failed => 6
  | .isolated => 7
  | .lost => 8

/-- A last known state by its place in R108, which names none first. -/
def knownPos : Option LastKnown → Nat
  | none => 0
  | some ⟨.stopped, _⟩ => 1
  | some ⟨.starting, _⟩ => 2
  | some ⟨.running, _⟩ => 3
  | some ⟨.stopping, _⟩ => 4

/-- A reachability by its place in R125. -/
def reachPos : Reachability → Nat
  | .reachable => 0
  | .unreachable => 1

/-- An order state by its place in R152. -/
def orderPos : OrderState → Nat
  | .waiting => 0
  | .sent => 1
  | .retryWait => 2
  | .querying => 3
  | .done => 4
  | .failed => 5

/-- A tag state by its place in R154. -/
def tagPos : TagState → Nat
  | .free => 0
  | .busy => 1
  | .quarantine => 2

/-- A fault class by its place in R189. -/
def classPos : FaultClass → Nat
  | .soft => 0
  | .hard => 1

/-- A load buffer state by its place in R202. -/
def bufferPos : BufferState → Nat
  | .empty => 0
  | .loading => 1
  | .broken => 2
  | .verified => 3
  | .rejected => 4

/-- A slot state by its place in R207. -/
def slotPos : SlotState → Nat
  | .valid => 0
  | .invalid => 1
  | .writing => 2

/-- A station role by its place in R23. -/
def stationRolePos : StationRole → Nat
  | .sensor => 0
  | .fanStation => 1
  | .controlCentre => 2
  | .peer => 3
  | .manager => 4

/-- A pending entry, by the codes of R200. -/
def entryPos : Option PendingEntry → Nat
  | none => 0
  | some .leadViewControl => 1
  | some .leadViewHold => 1
  | some .leadWaitExpiry => 2

/-! ### Selectors (R200, Item numbers) -/

/-- Selector INCIDENT (R83). -/
def incidentItems (p : Part) : List Item :=
  let g := p.reg
  let r := g.record
  [ uItem 1 1 (stateCode r.state), uItem 2 2 r.id, optItem 3 2 r.fire, optItem 4 2 r.head, optItem 5 2 r.tail,
    optItem 6 1 (r.dir.map fun d => directionCode (some d)), optItem 7 1 (r.dirSource.map sourcePos),
    optItem 8 1 r.heat, uItem 9 1 (roleCode r.role), markItem 10 r.controlled, uItem 11 1 g.detection.length ] ++
  g.detection.map (uItem 12 1) ++
  [ uItem 13 1 (outcomeCode g.outcome), uItem 14 2 g.lastCleared, timeItem p 15 g.autoDeclare,
    timeItem p 16 g.leadWait, markItem 17 g.storeHold, uItem 18 1 (entryPos g.entry) ]

/-- A share list entry: address and 3-byte share. -/
def shareItem (n : Nat) (e : ShareEntry) : Item := ⟨n, sharePayload e⟩

/-- Selector SECTION (R56, R104). -/
def sectionItems (p : Part) : List Item :=
  let c := p.ctl
  [ sItem 1 2 p.meas.vm, uItem 2 1 (qualityCode p.meas.quality), uItem 3 1 p.pointEntries.length,
    uItem 10 1 (modeCode c.mode), uItem 11 1 (conditionCode c.condition), sItem 12 4 c.integral, uItem 13 3 c.lastD,
    uItem 14 3 c.ownDemand, sItem 15 4 c.lastP, uItem 16 3 c.lastShare, uItem 17 3 c.boundA, uItem 18 3 c.aSum,
    uItem 19 1 c.shares.length ] ++
  c.shares.map (shareItem 20) ++
  [ timeItem p 21 c.period, timeItem p 22 c.velocityHold, timeItem p 23 c.leadLoss ]

/-- The items of one velocity instrument, numbered on from `n`. -/
def velocityItems (n : Nat) (i : Instrument) : List Item :=
  [ uItem n 1 (instrumentPos i.state), uItem (n + 1) 1 i.qualify, sItem (n + 2) 2 i.last, markItem (n + 3) i.saturated,
    markItem (n + 4) i.reversed, uItem (n + 5) 1 i.outlier, uItem (n + 6) 1 i.polarity ]

/-- Selector POINT (R56). -/
def pointItems (q : PointRec) : List Item :=
  [ uItem 1 1 (pointPos q.quality), optSigned 2 q.voted ] ++
  velocityItems 11 q.s1 ++ velocityItems 21 q.s2 ++ velocityItems 31 q.s3

/-- The items of one zone instrument, numbered on from `n`. -/
def zoneSlotItems (n : Nat) (i : Instrument) : List Item :=
  [ uItem n 1 (instrumentPos i.state), uItem (n + 1) 1 i.qualify, sItem (n + 2) 2 i.last, markItem (n + 3) i.saturated ]

/-- Selector ZONE (R56); an opacity or a temperature that is UNKNOWN is an absent value [16]. -/
def zoneItems (z : ZoneRec) : List Item :=
  [ uItem 1 1 (zonePos z.state), uItem 2 1 z.confirm, optItem 3 2 (z.opacity.map Int.toNat),
    optSigned 4 z.temperature ] ++
  zoneSlotItems 11 z.o1 ++ zoneSlotItems 21 z.o2 ++ zoneSlotItems 31 z.t1 ++ zoneSlotItems 41 z.t2

/-- The reachability of a station, by its record. -/
def reachOf (p : Part) (station : Nat) : Option Nat :=
  (p.fm.reach.find? fun r => r.station == station).map fun r => reachPos r.state

/-- The item of a run direction: one that is not known in STOPPING is a value of the field, the third R108 gives it,
and any other without a value is absent (R108, R200). -/
def runDirItem (n : Nat) (stopping : Bool) (d : Option RunDir) : Item :=
  match d with
  | some d => uItem n 1 (runDirPos d)
  | none => if stopping then uItem n 1 2 else optItem n 1 none

/-- Whether a last known state is STOPPING (R108). -/
def knownStopping : Option LastKnown → Bool
  | some k => k.kind == .stopping
  | none => false

/-- Selector FAN with a fan number; the useful thrust takes 2 bytes as the thrusts of the FAN entry do, and a useful
direction of none is an absent value (R130, R200) [16]. -/
def fanItems (p : Part) (f : FanRec) : List Item :=
  let e := f.e
  let u := useful p.fm.record e
  [ uItem 1 1 e.num, uItem 2 1 e.station, uItem 3 1 e.output, uItem 4 2 e.chainage,
    uItem 5 1 (orientationPos e.orientation), markItem 6 e.reversible, uItem 7 2 e.forward, uItem 8 2 e.reverse,
    uItem 9 2 e.heatRating, uItem 10 1 e.zone, uItem 11 1 e.runUp, uItem 12 1 e.runDown, uItem 13 2 e.inhibit,
    uItem 14 1 e.rank ] ++
  [ uItem 21 1 (fanPos f.state), runDirItem 22 (f.state == .stopping) f.dir, uItem 23 1 (knownPos f.known),
    runDirItem 24 (knownStopping f.known) (f.known.bind (·.dir)), markItem 25 f.reportIso, markItem 26 f.mgrIso,
    markItem 27 f.excluded, markItem 28 f.heat, markItem 29 f.resting, stampItem 30 f.eligibleAt,
    timeItem p 31 f.restTimer, markItem 32 f.accepted, timeItem p 33 f.runUp, timeItem p 34 f.runDown,
    markItem 35 f.downOver, markItem 36 f.stopReq, optItem 37 1 (f.last.map fun l => runCode l.run),
    optItem 38 1 ((f.last.bind (·.control)).map fun c => match c with | .remote => 0 | .localMode => 1),
    optItem 39 1 (f.last.bind (·.fault)), stampItem 40 (f.last.map (·.time)), uItem 41 2 u.1,
    optItem 42 1 (u.2.map runDirPos), optItem 43 1 (reachOf p e.station) ]

/-- The slots of the start gate in use; G is absent with no CONTROL table [7]. -/
def gateItems (p : Part) : List (Option Nat) :=
  match p.mgmt.control with
  | some t => p.fm.slots.take t.gate
  | none => []

/-- Selector FAN with object 0, the stations in the order of the station table (R130, R149) [35]. -/
def allocationItems (p : Part) : List Item :=
  let m := p.fm
  [ uItem 1 3 m.a, uItem 2 3 m.r, optItem 3 1 (p.mgmt.control.map (·.gate)), uItem 4 3 m.lastDemand,
    timeItem p 5 m.stopSpacing, markItem 6 m.clearingSent, uItem 7 1 m.preference.length ] ++
  m.preference.map (uItem 8 1) ++ [uItem 9 1 m.queue.length] ++ m.queue.map (uItem 10 1) ++
  (gateItems p).map (fun s => uItem 11 1 (match s with | some n => n | none => 0)) ++
  m.reach.map fun r => ⟨20, beBytes 1 r.station ++ beBytes 1 (reachPos r.state) ++ (stampItem 0 r.time).value⟩

/-- The age of a peer's last bulletin, absent while none is held (R185). -/
def peerAge (p : Part) (q : PeerRec) : Option Nat := q.held.map fun _ => (p.now - q.arrival).toNat

/-- Selector PEERS with object 0, the peers in the order of the station table (R185) [35]. -/
def peersItems (p : Part) : List Item :=
  let c := p.coord
  [ uItem 1 1 c.peers.length, uItem 2 1 (match c.leadView with | some a => a | none => 0), markItem 3 c.twoLeads,
    timeItem p 4 c.timer ] ++
  c.peers.map fun q => ⟨10, beBytes 1 q.address ++ beBytes 1 (mark q.held.isSome) ++ beBytes 1 (mark q.fresh) ++
    (optItem 0 3 ((peerAge p q).map fun a => min a 0xFFFFFF)).value⟩

/-- Selector PEERS with a peer's address (R185). -/
def peerItems (p : Part) (q : PeerRec) : List Item :=
  let b := q.held
  [ markItem 1 b.isSome, markItem 2 q.fresh, optItem 3 4 (peerAge p q),
    optItem 10 2 (b.map (·.id)), optItem 11 1 (b.map fun b => stateCode b.state),
    optItem 12 1 (b.map fun b => roleCode b.role), optItem 13 1 (b.map fun b => directionCode b.direction),
    optItem 14 1 (b.map (·.heat)), optItem 15 2 (b.map (·.fire)), optItem 16 1 (b.map fun b => modeCode b.mode),
    optItem 17 1 (b.map fun b => conditionCode b.condition), optSigned 18 (b.map (·.velocity)),
    optItem 19 1 (b.map fun b => qualityCode b.quality), optItem 20 3 (b.map (·.available)),
    optItem 21 3 (b.map (·.running)), optItem 22 3 (b.map (·.demand)),
    optItem 23 1 (b.map fun b => healthCode b.health), optItem 24 2 (b.map fun b => b.flags.toNat),
    optItem 25 1 (b.map fun b => outcomeCode b.outcome), optItem 26 2 (b.map (·.lastCleared)),
    optItem 27 1 (b.map fun b => b.shares.length) ] ++
  match b with
  | some b => b.shares.map (shareItem 28)
  | none => []

/-- The value of a tag entry: the station, the tag with its state in one byte [38], the quarantine time left (R22,
R170). -/
def tagEntry (now : PartTime) (t : TagRec) : List Byte :=
  beBytes 1 t.station ++ [Config.tagByte t.tag (tagPos t.state)] ++ beBytes 4 (timeLeft now t.quarantine)

/-- The fields of an order record that R200's item 20 does not have, in the order of R170, each as an item of a given
number. A successor of none, for which R200 has no code, is an absent value (all ones) [16]. -/
def recordFields (p : Part) : List (Nat → OrderRec → Item) :=
  [ fun n r => optItem n 1 (r.successor.map orderCode), fun n r => markItem n r.busySeen,
    fun n r => markItem n r.reissued, fun n r => uItem n 1 r.queryTimeouts, fun n r => markItem n r.windowOpen,
    fun n r => timeItem p n r.response, fun n r => timeItem p n r.retry, fun n r => timeItem p n r.window ]

/-- The item number, above 20 and rising, that the `k`-th of these fields, counted from 1, has with object 0: R200 gives
none, so it is a free value [32]. -/
def recordFieldNumber : Nat → Nat
  | 0 => 20
  | k + 1 => recordFieldNumber k + 1 + Config.recordFieldGap k % 29

/-- The entry of an order record with object 0: the four values of R200's item 20. -/
def recordEntry (r : OrderRec) : Item :=
  ⟨20, beBytes 1 r.fan ++ beBytes 1 (orderCode r.kind) ++ beBytes 1 (orderPos r.state) ++ (optItem 0 1 r.tag).value⟩

/-- The other fields that R170 lists of every order record with object 0: each field in one item, repeated for each
record, under the numbers that R200 leaves open [32]. -/
def recordFieldItems (p : Part) : List Item :=
  ((recordFields p).zipIdx 1).flatMap fun x => p.ord.records.map (x.1 (recordFieldNumber x.2))

/-- Selector ORDERS with object 0, the tags in the order of the station table (R170), the records in the order in which
they were made [35]: the entry of each, and behind the entries the other fields that R170 lists [32]. -/
def ordersItems (p : Part) : List Item :=
  [uItem 1 1 (poolUsed p.ord.tags)] ++ p.ord.backlog.map (uItem 2 1) ++
  ((fanStations p).flatMap fun s => tagsOf s.address p.ord.tags).map (fun t => ⟨10, tagEntry p.now t⟩) ++
  p.ord.records.map recordEntry ++ recordFieldItems p

/-- Selector ORDERS with a fan number (R200): kind, state and tag, and from item 4 on the other fields of the record; item
4 shows a successor of none, a value of R152's list without a code, as an absent value (0xFF), not as a place in that
list [16]. -/
def orderItems (p : Part) (r : OrderRec) : List Item :=
  [uItem 1 1 (orderCode r.kind), uItem 2 1 (orderPos r.state), optItem 3 1 r.tag] ++
  ((recordFields p).zipIdx 4).map fun x => x.1 x.2 r

/-- Selector FAULT (R194, R200); the bytes received (item 42) and the next block number (item 43) take 2 bytes each, as the
image length of LOAD_BEGIN and the block number of LOAD_BLOCK do [16]. -/
def faultItems (p : Part) : List Item :=
  let m := p.mgmt
  [markItem 1 p.fc.record.isNone] ++
  (match p.fc.record with
   | none => []
   | some r => [ uItem 2 1 (classPos r.cls), uItem 3 1 (faultCode r.kind), uItem 4 1 (objectCode r.object.cls),
                 uItem 5 1 r.object.num, uItem 6 2 r.incidentId, uItem 7 4 r.time.toNat, markItem 8 r.secondHard ]) ++
  counterItems 10 p.fc.counts ++
  [ uItem 30 2 p.fc.flags.toNat, uItem 31 1 (healthCode p.fc.health), uItem 32 1 p.fc.causes.toNat,
    uItem 40 1 (bufferPos m.buffer.state), optItem 41 1 (m.buffer.kind.map tableCode), uItem 42 2 m.buffer.count,
    optItem 43 2 m.buffer.next, uItem 44 1 (slotPos m.slotStation.state), uItem 45 1 (slotPos m.slotSection.state),
    uItem 46 1 (slotPos m.slotFan.state), uItem 47 1 (slotPos m.slotControl.state),
    optItem 48 2 (m.stations.map (·.revision)), optItem 49 2 (m.sections.map (·.revision)),
    optItem 50 2 (m.fans.map (·.revision)), optItem 51 2 (m.control.map (·.revision)) ]

/-- A port's counters in the order of the line counter table. -/
def portCounterList (c : PortCounters) : List Counter :=
  [ c.received, c.checkFailures, c.badStarts, c.runaways, c.expired, c.lineBreaks, c.overflows, c.forwarded, c.ownSent,
    c.holdFailures ]

/-- Selector COUNTERS with object 0: every part-wide counter. -/
def counterList (p : Part) : List Item :=
  let l := p.line
  let d := p.disp.counters
  let m := p.meas
  let o := p.ord.counters
  let c := p.coord
  counterItems 1 (portCounterList l.portA.counters) ++ counterItems 11 (portCounterList l.portB.counters) ++
  counterItems 21 [l.unknownKinds, l.malformed, l.ownUnsent, l.droppedReplies] ++
  counterItems 31 [ d.taken, d.delivered, d.badSource, d.roleMismatch, d.duplicates, d.old, d.gap, d.badTag,
    d.replaced ] ++
  counterItems 41 [m.unmatched, m.mismatches, m.ignored] ++ counterItems 46 [p.fm.unmatched, p.fm.unexpected] ++
  counterItems 51 [ o.issued, o.accepted, o.busy, o.recovered, o.refused, o.failed, o.withdrawn, o.late, o.unexpected,
    o.mismatched ] ++
  counterItems 61 [c.built, c.taken, c.stale]

/-- Selector COUNTERS with a record number (R32). -/
def stationItems (s : StationRec) : List Item :=
  [uItem 1 1 s.address, uItem 2 1 (stationRolePos s.role)] ++ counterItems 3 [s.delivered, s.duplicates, s.gaps]

/-! ### Clear after read (R32, R56, R130, R170, R185, R200) -/

/-- The port counters cleared. -/
def clearPort (q : Port) : Port := { q with counters := ⟨0, 0, 0, 0, 0, 0, 0, 0, 0, 0⟩ }

/-- Every part-wide counter that COUNTERS returns is cleared. -/
def clearCounters (p : Part) : Part :=
  { p with
    line := { p.line with portA := clearPort p.line.portA, portB := clearPort p.line.portB, unknownKinds := 0,
                          malformed := 0, ownUnsent := 0, droppedReplies := 0 },
    disp := { p.disp with counters := ⟨0, 0, 0, 0, 0, 0, 0, 0, 0⟩ },
    meas := { p.meas with unmatched := 0, mismatches := 0, ignored := 0 },
    fm := { p.fm with unmatched := 0, unexpected := 0 },
    ord := { p.ord with counters := ⟨0, 0, 0, 0, 0, 0, 0, 0, 0, 0⟩ },
    coord := { p.coord with built := 0, taken := 0, stale := 0 } }

/-- The counters of one station record are cleared. -/
def clearStation (address : Nat) (p : Part) : Part :=
  let one := fun (s : StationRec) => { s with delivered := 0, duplicates := 0, gaps := 0 }
  { p with disp := { p.disp with stations := updWhere (fun s => s.address == address) one p.disp.stations } }

/-! ### The reply's data (R200, R22) -/

/-- The bytes of an item: number, value length, value (R22). -/
def itemBytes (i : Item) : List Byte := [BitVec.ofNat 8 i.num, BitVec.ofNat 8 i.value.length] ++ i.value

/-- The byte that item 255 carries; a number above 255 has none, so it is a free value [17]. -/
def leftOutValue (n : Nat) : Byte := if n ≤ 255 then BitVec.ofNat 8 n else Config.leftOutByte n

/-- The items that fit in `room` bytes, with item 255 closing a list that leaves some out; 3 bytes of room are
kept for it, and no item is carried after the first that does not fit [39]. -/
def fitItems : Nat → List Item → List Byte
  | _, [] => []
  | room, i :: rest =>
      let b := itemBytes i
      if b.length + 3 ≤ room then b ++ fitItems (room - b.length) rest
      else [255, 1, leftOutValue (rest.length + 1)]

/-- The data of a READ_STATUS reply: all items when they fit in the 235 bytes behind the envelope (R22, R200). -/
def statusData (items : List Item) : List Byte :=
  let all := items.flatMap itemBytes
  if all.length ≤ 235 then all else fitItems 235 items

/-- The items a selector and object number name, or the reason of the refusal (R200). -/
def statusItems (selector object : Nat) (p : Part) : Except ReplyReason (List Item) :=
  let need (o : Option (List Item)) : Except ReplyReason (List Item) :=
    match o with
    | some l => .ok l
    | none => .error .noSuchObject
  match selector with
  | 1 => if object == 0 then .ok (incidentItems p) else .error .badRequest
  | 2 => if object == 0 then .ok (sectionItems p) else .error .badRequest
  | 3 => need ((p.point? object).map pointItems)
  | 4 => need ((p.zone? object).map zoneItems)
  | 5 => if object == 0 then .ok (allocationItems p) else need ((p.fan? object).map (fanItems p))
  | 6 => if object == 0 then .ok (peersItems p) else need ((peerAt object p.coord.peers).map (peerItems p))
  | 7 =>
      if object == 0 then .ok (ordersItems p)
      else if object ≤ 48 then
        .ok (match p.order? object with
             | some r => orderItems p r
             | none => [])
      else .error .noSuchObject
  | 8 => if object == 0 then .ok (faultItems p) else .error .badRequest
  | 9 => if object == 0 then .ok (counterList p) else need ((p.disp.stations[object - 1]?).map stationItems)
  | _ => .error .badRequest

/-- Clear after read, for the object of a COUNTERS read. -/
def clearAfterRead (object : Nat) (p : Part) : Part :=
  if object == 0 then clearCounters p
  else match p.disp.stations[object - 1]? with
    | some s => clearStation s.address p
    | none => p

end Sys2Proof.Machine
end

