-- ==== Sys2Proof/Machine/Management.lean ====
section
/-! DEFINITION. The Management Agent (11): its requests and replies, the load buffer, the table store, activation. -/

namespace Sys2Proof.Machine

/-- What a judged request comes to: DONE with data, or REFUSED with a reason (R199, R22). -/
abbrev Verdict := Except ReplyReason (List Byte)

/-- A judged request: its verdict and the part it leaves. -/
abbrev Judged := Verdict × Part

/-- DONE without data. -/
def done (p : Part) : Judged := (.ok [], p)

/-- REFUSED, the part left as it stands. -/
def refusal (r : ReplyReason) (p : Part) : Judged := (.error r, p)

/-- The MGMT REPLY of a judged request is queued (R199). -/
def reply (source : Byte) (number : BitVec 16) (kind : Byte) (v : Verdict) (p : Part) : Part :=
  queueOwn (.mgmtReply source (replyPayload number kind v)) p

/-- A request judged and answered, the hand-ons it causes taken first. -/
def answer (kind : Byte) (r : Request) (j : Judged) : Part := reply r.source r.number kind j.1 (settled j.2)

/-! ### READ_STATUS (R198, R200) -/

/-- READ_STATUS. -/
def judgeReadStatus (r : Request) (p : Part) : Judged :=
  match r.args with
  | [s, o, c] =>
      let selector := s.toNat
      if selector == 0 || 9 < selector || !(c == 0 || (c == 1 && selector == 9)) then refusal .badRequest p
      else
        let p := formHealth p
        match statusItems selector o.toNat p with
        | .error e => refusal e p
        | .ok items => (.ok (statusData items), if c == 1 then clearAfterRead o.toNat p else p)
  | _ => refusal .length p

/-! ### The load buffer (R202 to R204) -/

/-- Whether the load buffer is locked by a store write (R202). -/
def locked (p : Part) : Bool := p.mgmt.write.isSome

/-- The part with another load buffer. -/
def setBuffer (b : LoadBuffer) (p : Part) : Part := { p with mgmt := { p.mgmt with buffer := b } }

/-- LOAD_BEGIN (R202). -/
def judgeLoadBegin (r : Request) (p : Part) : Judged :=
  match r.args with
  | [k, l1, l0] =>
      match tableOfCode k.toNat with
      | none => refusal .badRequest p
      | some kind =>
          if locked p then refusal .busy p
          else if beNat [l1, l0] != imageLength kind then refusal .length p
          else done (setBuffer ⟨.loading, some kind, imageLength kind, 0, some 1, []⟩ p)
  | _ => refusal .length p

/-- LOAD_BLOCK on a buffer in LOADING (R203). -/
def takeBlock (num : Nat) (data : List Byte) (p : Part) : Judged :=
  let b := p.mgmt.buffer
  if b.next != some num then refusal .sequence (setBuffer { b with state := .broken } p)
  else if b.declared < b.count + data.length then refusal .length (setBuffer { b with state := .broken } p)
  else done (setBuffer { b with count := b.count + data.length, next := some (num + 1), bytes := b.bytes ++ data } p)

/-- LOAD_BLOCK (R203). -/
def judgeLoadBlock (r : Request) (p : Part) : Judged :=
  match r.args with
  | n1 :: n0 :: d :: ds =>
      if 224 < (d :: ds).length then refusal .length p
      else if locked p then refusal .busy p
      else match p.mgmt.buffer.state with
        | .loading => takeBlock (beNat [n1, n0]) (d :: ds) p
        | .broken => refusal .sequence p
        | .empty | .verified | .rejected => refusal .wrongState p
  | _ => refusal .length p

/-- LOAD_END (R204). -/
def judgeLoadEnd (r : Request) (p : Part) : Judged :=
  match r.args with
  | [c1, c0] =>
      let b := p.mgmt.buffer
      if locked p then refusal .busy p
      else match b.state, b.kind with
        | .loading, some kind =>
            match imageFault kind b.declared b.count (BitVec.ofNat 16 (beNat [c1, c0])) p.node b.bytes with
            | some reason => refusal reason (setBuffer { b with state := .rejected } p)
            | none => done (setBuffer { b with state := .verified } p)
        | .broken, _ => refusal .sequence p
        | _, _ => refusal .wrongState p
  | _ => refusal .length p

/-! ### The table store (R207) -/

/-- The slot of a kind. -/
def slotOf (m : ManagementAgent) : TableKind → StoreSlot
  | .stations => m.slotStation
  | .sections => m.slotSection
  | .fans => m.slotFan
  | .control => m.slotControl

/-- The store with the slot of a kind changed. -/
def setSlot (k : TableKind) (s : StoreSlot) (m : ManagementAgent) : ManagementAgent :=
  match k with
  | .stations => { m with slotStation := s }
  | .sections => { m with slotSection := s }
  | .fans => { m with slotFan := s }
  | .control => { m with slotControl := s }

/-- A table made the active one of its kind. -/
def installTable (t : Table) (m : ManagementAgent) : ManagementAgent :=
  match t with
  | .stations t => { m with stations := some t }
  | .sections t => { m with sections := some t }
  | .fans t => { m with fans := some t }
  | .control t => { m with control := some t }

/-- The active table of a kind withdrawn. -/
def clearTable (k : TableKind) (m : ManagementAgent) : ManagementAgent :=
  match k with
  | .stations => { m with stations := none }
  | .sections => { m with sections := none }
  | .fans => { m with fans := none }
  | .control => { m with control := none }

/-- Whether a table holds no station entry with the node address (R207). -/
def notOwn (node : Nat) : Table → Bool
  | .stations t => !(t.entries.map (·.address)).contains node
  | _ => true

/-- The table that the reload makes active from a slot, if the slot passes (R207). -/
def reloaded (k : TableKind) (node : Nat) (s : StoreSlot) : Option Table :=
  if s.state == .valid && imageSum s.image == s.checksum then (parseTable k s.image).filter (notOwn node) else none

/-- The reload of one kind at power-on reset (R207, R195). -/
def reloadKind (k : TableKind) (p : Part) : Part :=
  let s := slotOf p.mgmt k
  match reloaded k p.node s with
  | some t => { p with mgmt := installTable t p.mgmt }
  | none =>
      report .tableInvalid ⟨.table, tableCode k⟩
        { p with mgmt := clearTable k (setSlot k { s with state := .invalid } p.mgmt) }

/-! ### Activation (R208, R209) -/

/-- The judgement of an ACTIVATE: a reason to refuse it, if any (R208). -/
def activateFault (kind : TableKind) (p : Part) : Option ReplyReason :=
  if p.reg.record.state != .quiet then some .protectedState
  else if locked p then some .busy
  else if p.mgmt.buffer.state != .verified || p.mgmt.buffer.kind != some kind then some .wrongState
  else none

/-- An accepted ACTIVATE begins a store write (R208). -/
def beginWrite (kind : TableKind) (r : Request) (p : Part) : Part :=
  let m := setSlot kind { slotOf p.mgmt kind with state := .writing } p.mgmt
  beginStoreHold { p with mgmt := { m with write := some ⟨kind, p.mgmt.buffer.bytes, r.source, r.number⟩ } }

/-- ACTIVATE: a refusal is answered at once, an accepted one at the end of its write (R208, R199). -/
def takeActivate (r : Request) (p : Part) : Part :=
  match r.args with
  | [k] =>
      match tableOfCode k.toNat with
      | none => answer 5 r (refusal .badRequest p)
      | some kind =>
          match activateFault kind p with
          | some reason => answer 5 r (refusal reason p)
          | none => beginWrite kind r p
  | _ => answer 5 r (refusal .length p)

/-- The blocks that use a table rebuild from it (R209, step 3). What the lead view judged afresh with the peer records
hands on is taken before the Order Engine rebuilds, so that an order requested there for a fan that the table takes away is
discarded with the other records of that fan (R169) [14]. -/
def rebuildFrom (k : TableKind) (p : Part) : Part :=
  match k with
  | .stations =>
      judgeFans (buildReach (judgeInstruments (rebuildOrders (settled (rebuildPeers (rebuildStations p))))))
  | .sections => judgeFans (judgeInstruments p)
  | .fans => judgeFans (rebuildOrders p)
  | .control => p

/-- The store write in flight ends, in the six steps of R209. -/
def endWrite (p : Part) : Part :=
  match p.mgmt.write with
  | none => p
  | some w =>
      let m := setSlot w.kind ⟨.valid, w.image, imageSum w.image⟩ p.mgmt
      let m := match parseTable w.kind w.image with
        | some t => installTable t m
        | none => m
      let p := settled (rebuildFrom w.kind { p with mgmt := { m with write := none, buffer := .empty } })
      let p := endStoreHold (formHealth (raise .tableEvent p))
      reply w.source w.number 5 (.ok []) (settled p)

/-! ### Requests that act on other blocks (R210, R211) -/

/-- ACK_EVENTS (R192, R210). -/
def judgeAckEvents (r : Request) (p : Part) : Judged :=
  match r.args with
  | [f1, f0] => done (ackFlags (BitVec.ofNat 16 (beNat [f1, f0])) p)
  | _ => refusal .length p

/-- CLEAR_FAULT (R191, R210). -/
def judgeClearFault (r : Request) (p : Part) : Judged :=
  match r.args with
  | [] => done (formHealth (clearRecord p))
  | _ => refusal .length p

/-- The instrument class an object class code of ADMIT names (R22). -/
def admitClass : Nat → Option InstrumentClass
  | 1 => some .velocity
  | 2 => some .opacity
  | 3 => some .temperature
  | _ => none

/-- ADMIT (R42, R129, R210). -/
def judgeAdmit (r : Request) (p : Part) : Judged :=
  match r.args with
  | [c, n] =>
      if c == 4 then
        if requestable n.toNat p then done (admitFan n.toNat p) else refusal .noSuchObject p
      else match admitClass c.toNat with
        | none => refusal .badRequest p
        | some cls =>
            if (instrument? p ⟨cls, n.toNat⟩).isSome then done (admitInstrument ⟨cls, n.toNat⟩ p)
            else refusal .noSuchObject p
  | _ => refusal .length p

/-- ISOLATE (R128, R210). -/
def judgeIsolate (r : Request) (p : Part) : Judged :=
  match r.args with
  | [n] => if requestable n.toNat p then done (isolateFan n.toNat p) else refusal .noSuchObject p
  | _ => refusal .length p

/-- The load buffer at RESTART: EMPTY unless a write has it locked (R211, step 6). -/
def restartBuffer (p : Part) : Part := if locked p then p else setBuffer .empty p

/-- RESTART, its steps in order (R211); the order requests of its steps are taken within it, and an end-of-clearing report
that they make is not (R85, R187) [40]. -/
def judgeRestart (r : Request) (seq : Byte) (p : Part) : Judged :=
  match r.args with
  | [] =>
      let p := restartMeasurement (forgetSequences r.source.toNat seq p)
      let p := restartFans (restartOrders (restartController p))
      done (restartBuffer (requestsSettled p))
  | _ => refusal .length p

/-- A request of a kind outside 1 to 10 (R198). -/
def answerUnknown (kind : Byte) (r : Request) (p : Part) : Part := answer kind r (refusal .badRequest p)

/-- A management request, by its kind (R22, R198). -/
def manage (kind seq : Byte) (r : Request) (p : Part) : Part :=
  match kind.toNat with
  | 1 => answer 1 r (judgeReadStatus r p)
  | 2 => answer 2 r (judgeLoadBegin r p)
  | 3 => answer 3 r (judgeLoadBlock r p)
  | 4 => answer 4 r (judgeLoadEnd r p)
  | 5 => takeActivate r p
  | 6 => answer 6 r (judgeAckEvents r p)
  | 7 => answer 7 r (judgeClearFault r p)
  | 8 => answer 8 r (judgeAdmit r p)
  | 9 => answer 9 r (judgeIsolate r p)
  | 10 => answer 10 r (judgeRestart r seq p)
  | _ => answerUnknown kind r p

end Sys2Proof.Machine
end

