-- ==== Sys2Proof/Machine/Delivery.lean ====
section
/-! DEFINITION. A telegram's way from a port to its block: the check, stripping, taking and forwarding (01, R5 to R9),
and the Dispatcher's tests and delivery (02, R25 to R31). -/

namespace Sys2Proof.Machine

/-- The role a delivery's kind requires of its source (R25). -/
def requiredRole : Delivery → StationRole
  | .sample _ => .sensor
  | .fanReport _ => .fanStation
  | .fanAnswer _ _ _ _ => .fanStation
  | .notice _ _ => .controlCentre
  | .bulletin _ => .peer
  | .mgmtRequest _ _ _ => .manager

/-- A telegram is handed to the block that owns its kind (R29). -/
def deliver (source seq : Byte) (d : Delivery) (p : Part) : Part :=
  match d with
  | .sample readings => takeSample source.toNat readings p
  | .fanReport outputs => takeReport source.toNat outputs p
  | .fanAnswer tag output outcome run => takeAnswer source.toNat tag output outcome run p
  | .notice action n => judgeNotice action n p
  | .bulletin b => takeBulletin source.toNat b p
  | .mgmtRequest kind number args => manage kind seq ⟨source, number, args⟩ p

/-- Whether an answer names a tag that its station does not have (R30). -/
def badTag (s : StationRec) : Delivery → Bool
  | .fanAnswer tag _ _ _ => s.tagCount ≤ tag
  | _ => false

/-- A telegram accepted against a station record: held back under R30, or counted and delivered (R27, R30). -/
def acceptFrom (s : StationRec) (seq : Byte) (d : Delivery) (p : Part) : Part :=
  let p := onStation s.address (fun s => { s with known := true, lastSeq := seq }) p
  if badTag s d then countDispatch (fun c => { c with badTag := bump c.badTag }) p
  else
    let p := onStation s.address (fun s => { s with delivered := bump s.delivered }) p
    let p := countDispatch (fun c => { c with delivered := bump c.delivered }) p
    deliver (BitVec.ofNat 8 s.address) seq d p

/-- A telegram is tested against its station record (R27, R28). -/
def testStation (s : StationRec) (seq : Byte) (d : Delivery) (p : Part) : Part :=
  let again := onStation s.address (fun s => { s with duplicates := bump s.duplicates }) p
  if !s.known then acceptFrom s seq d p
  else match seqTest s.lastSeq seq with
    | .duplicate => countDispatch (fun c => { c with duplicates := bump c.duplicates }) again
    | .old => countDispatch (fun c => { c with old := bump c.old }) again
    | .fresh skipped =>
        let p := onStation s.address (fun s => { s with gaps := satAdd s.gaps skipped }) p
        acceptFrom s seq d (countGap s.address skipped p)

/-- A MGMT REQUEST is tested while no STATION table is active (R26). -/
def testProvisional (source seq : Byte) (d : Delivery) (p : Part) : Part :=
  let accept := fun p =>
    deliver source seq d (countDispatch (fun c => { c with delivered := bump c.delivered }) p)
  match p.disp.provisional.find? fun r => r.source == source.toNat with
  | none => accept (admitProvisional source.toNat seq p)
  | some r =>
      match seqTest r.lastSeq seq with
      | .duplicate => countDispatch (fun c => { c with duplicates := bump c.duplicates }) p
      | .old => countDispatch (fun c => { c with old := bump c.old }) p
      | .fresh skipped =>
          let now := p.now
          let one := fun (x : ProvisionalRec) => { x with lastSeq := seq, accepted := now }
          let p := { p with disp := { p.disp with
            provisional := updWhere (fun x => x.source == source.toNat) one p.disp.provisional } }
          accept (countGap source.toNat skipped p)

/-- A taken telegram is handed to the Dispatcher: R25 while a STATION table is active, R26 while none is, which
refuses every kind but MGMT REQUEST as a role mismatch whatever its source. A MGMT REQUEST that R26 does not accept
for its source is counted as a bad source (R32) [33]. -/
def dispatch (source seq : Byte) (d : Delivery) (p : Part) : Part :=
  let p := countDispatch (fun c => { c with taken := bump c.taken }) p
  let mismatch := countDispatch (fun c => { c with roleMismatch := bump c.roleMismatch }) p
  let badSource := countDispatch (fun c => { c with badSource := bump c.badSource }) p
  let names := 1 ≤ source.toNat && source.toNat ≤ 239
  if p.mgmt.stations.isSome then
    if names then
      match p.stationWith source.toNat (requiredRole d) with
      | some s => testStation s seq d p
      | none => mismatch
    else badSource
  else match d with
    | .mgmtRequest _ _ _ => if names then testProvisional source seq d p else badSource
    | _ => mismatch

/-- The six kinds that are taken (R7). -/
def takable : TelegramKind → Bool
  | .fanOrder | .mgmtReply => false
  | .sample | .fanReport | .fanAnswer | .incidentNotice | .bulletin | .mgmtRequest => true

/-- A telegram of a kind is taken: malformed, or handed to the Dispatcher (R8). -/
def takeTelegram (k : TelegramKind) (t : Telegram) (p : Part) : Part :=
  match parsePayload k t.payload with
  | none => { p with line := { p.line with malformed := bump p.line.malformed } }
  | some d => dispatch t.src t.seq d p

/-- Whether a telegram's destination is the part's address or broadcast; an unaddressed part has no address (R7). -/
def forPart (t : Telegram) (p : Part) : Bool := (p.addressed && t.dest == p.line.node) || t.dest == 255

/-- A telegram that passes its check in UP is disposed of: stripped, taken, forwarded (R7) [22]. A broadcast that is
taken is offered when its taking is whole, with what that handed on [1]. -/
def dispose (i : PortId) (t : Telegram) (p : Part) : Part :=
  if p.addressed && t.src == p.line.node then p
  else match kindOfCode t.kind with
    | none =>
        if forPart t p then
          offer i t { p with line := { p.line with unknownKinds := bump p.line.unknownKinds } }
        else offer i t p
    | some k =>
        if p.addressed && takable k && forPart t p then
          let p := takeTelegram k t p
          if t.dest == 255 then offer i t (settled p) else p
        else offer i t p

/-- A telegram closed by a fill word on a port (R1, R2, R5, R6, R7). More than 248 data bytes are a runaway. One that
passes its check is counted as received, a stripped one too (R6) [26]. -/
def receive (i : PortId) (bytes : List Byte) (p : Part) : Part :=
  let failed := symbolError i (fun c => { c with checkFailures := bump c.checkFailures }) p
  if 248 < bytes.length then runawayOn i p
  else match (p.port i).state, parseTelegram bytes with
    | .up, some t => dispose i t (passCheck i p)
    | .up, none => failCheckUp i p
    | .qualify, some _ => passCheck i p
    | .qualify, none => failed
    | .hunt, _ => failed
    | .down, _ => p

end Sys2Proof.Machine
end

