-- ==== Sys2Proof/Machine/PowerOn.lean ====
section
/-! DEFINITION. Power-on reset and the reset pin, the effect of both on every block (R16, R33, R57, R84, R105, R131,
R150, R171, R186, R195, R207, R212). -/

namespace Sys2Proof.Machine

/-- A port after a reset: in HUNT at once where its link carries signal energy (R16). -/
def resetPort (signal : Bool) : Port :=
  if signal then { Port.reset with state := .hunt, signal := true } else Port.reset

/-- The Line Interface after a reset with a strap value (R16, R10). -/
def resetLine (straps : Byte) (l : LineInterface) : LineInterface :=
  { LineInterface.reset straps with portA := resetPort l.portA.signal, portB := resetPort l.portB.signal }

/-- The four kinds are reloaded in the order of their codes (R207, R195) [20]. -/
def reloadTables (p : Part) : Part :=
  reloadKind .control (reloadKind .fans (reloadKind .sections (reloadKind .stations p)))

/-- Power-on reset, or assertion of the reset pin: the clearing first, then the reload, then the blocks build their
state from the tables. -/
def powerOn (straps : Byte) (p : Part) : Part :=
  let p : Part := { p with
    line := resetLine straps p.line, reg := .reset, ctl := .reset, fc := .cleared, now := 0, handOns := [],
    meas := .reset, fm := .reset, ord := .reset, disp := .reset,
    mgmt := { p.mgmt with buffer := .empty, write := none } }
  let p := reloadTables p
  resetCoord (resetOrders (resetFans (resetMeasurement (resetStations p))))

end Sys2Proof.Machine
end

