-- ==== Sys2Proof/Machine/CmdLine.lean ====
section
/-! DEFINITION. The meanings of the commands of the ventilation line: ports, reception, own telegrams, and the reset of the part: each is one event of the part, its hand-ons
taken and its health formed at the end (`nextWith`). -/

namespace Sys2Proof.Machine

/-- R1: signal energy is detected on a port. -/
def execSignalEnergyDetected (port : PortId) (s : State) : Host.Outcome State Fault Refusal :=
  nextWith (detectSignal port) s

/-- R1, R4: signal is lost on a port. -/
def execSignalLost (port : PortId) (s : State) : Host.Outcome State Fault Refusal := nextWith (loseSignal port) s

/-- R1, R2: the 16th consecutive fill word in HUNT. -/
def execHuntFillCountReached (port : PortId) (s : State) : Host.Outcome State Fault Refusal :=
  nextWith (fillComplete port) s

/-- R2: the qualification timer expires. -/
def execQualificationTimerExpiry (port : PortId) (s : State) : Host.Outcome State Fault Refusal :=
  nextWith (qualify port) s

/-- R3: a hold window closes. -/
def execHoldWindowClose (port : PortId) (fills : Nat) (s : State) : Host.Outcome State Fault Refusal :=
  nextWith (closeWindow port fills) s

/-- R5: a bad start. -/
def execBadStart (port : PortId) (s : State) : Host.Outcome State Fault Refusal := nextWith (badStartOn port) s

/-- R5: a runaway. -/
def execRunaway (port : PortId) (s : State) : Host.Outcome State Fault Refusal := nextWith (runawayOn port) s

/-- R7: a telegram closed by a fill word. -/
def execTelegramReceived (port : PortId) (bytes : List Byte) (s : State) : Host.Outcome State Fault Refusal :=
  nextWith (receive port bytes) s

/-- R14: a port is free to start a telegram. -/
def execOutputArbiterChoice (port : PortId) (s : State) : Host.Outcome State Fault Refusal :=
  nextWith (arbitrate port) s

/-- R9: a forwarded telegram has been sent whole. -/
def execForwardedTelegramSent (port : PortId) (s : State) : Host.Outcome State Fault Refusal :=
  nextWith (endForwarded port) s

/-- R13: an own telegram has been sent whole. -/
def execOwnTelegramSent (port : PortId) (s : State) : Host.Outcome State Fault Refusal := nextWith (endOwn port) s

/-- R12: a block asks to have an own telegram queued. -/
def execQueueOwnTelegram (request : OwnRequest) (s : State) : Host.Outcome State Fault Refusal :=
  nextWith (queueOwn request) s

/-- R16 and the reset rule of every block: power-up or the reset pin. -/
def execPowerOnReset (straps : Byte) (s : State) : Host.Outcome State Fault Refusal := nextWith (powerOn straps) s

end Sys2Proof.Machine
end

