-- ==== Sys2Proof/Machine/CmdManagement.lean ====
section
/-! DEFINITION. The meanings of the commands of Fault Capture and the Management Agent: each is one event of the part, its hand-ons
taken and its health formed at the end (`nextWith`). -/

namespace Sys2Proof.Machine

/-- R189: a fault report is taken. -/
def execFaultReport (kind : FaultKind) (object : FaultObject) (s : State) : Host.Outcome State Fault Refusal :=
  nextWith (report kind object) s

/-- R192: an event is raised. -/
def execEventRaised (flag : EventFlag) (s : State) : Host.Outcome State Fault Refusal := nextWith (raise flag) s

/-- R200: READ_STATUS. -/
def execReadStatus (request : Request) (s : State) : Host.Outcome State Fault Refusal :=
  nextWith (fun p => answer 1 request (judgeReadStatus request p)) s

/-- R202: LOAD_BEGIN. -/
def execLoadBegin (request : Request) (s : State) : Host.Outcome State Fault Refusal :=
  nextWith (fun p => answer 2 request (judgeLoadBegin request p)) s

/-- R203: LOAD_BLOCK. -/
def execLoadBlock (request : Request) (s : State) : Host.Outcome State Fault Refusal :=
  nextWith (fun p => answer 3 request (judgeLoadBlock request p)) s

/-- R204: LOAD_END. -/
def execLoadEnd (request : Request) (s : State) : Host.Outcome State Fault Refusal :=
  nextWith (fun p => answer 4 request (judgeLoadEnd request p)) s

/-- R208: ACTIVATE. -/
def execActivate (request : Request) (s : State) : Host.Outcome State Fault Refusal :=
  nextWith (takeActivate request) s

/-- R209: the store write in flight ends. -/
def execStoreWriteEnd (s : State) : Host.Outcome State Fault Refusal := nextWith endWrite s

/-- R192: ACK_EVENTS. -/
def execAckEvents (request : Request) (s : State) : Host.Outcome State Fault Refusal :=
  nextWith (fun p => answer 6 request (judgeAckEvents request p)) s

/-- R191: CLEAR_FAULT. -/
def execClearFault (request : Request) (s : State) : Host.Outcome State Fault Refusal :=
  nextWith (fun p => answer 7 request (judgeClearFault request p)) s

/-- R210: ADMIT. -/
def execAdmitObject (request : Request) (s : State) : Host.Outcome State Fault Refusal :=
  nextWith (fun p => answer 8 request (judgeAdmit request p)) s

/-- R128: ISOLATE. -/
def execIsolate (request : Request) (s : State) : Host.Outcome State Fault Refusal :=
  nextWith (fun p => answer 9 request (judgeIsolate request p)) s

/-- R211: RESTART. -/
def execRestart (request : Request) (seq : Byte) (s : State) : Host.Outcome State Fault Refusal :=
  nextWith (fun p => answer 10 request (judgeRestart request seq p)) s

/-- R198: a request of an unknown kind. -/
def execMgmtRequestUnknownKind (kind : Byte) (request : Request) (s : State) : Host.Outcome State Fault Refusal :=
  nextWith (answerUnknown kind request) s

end Sys2Proof.Machine
end

