-- ==== Sys2Proof/Machine/CmdMeasurement.lean ====
section
/-! DEFINITION. The meanings of the commands of samples, instruments, points and zones: each is one event of the part, its hand-ons
taken and its health formed at the end (`nextWith`). -/

namespace Sys2Proof.Machine

/-- R37: a SAMPLE is delivered. -/
def execSample (source : Nat) (readings : List Reading) (s : State) : Host.Outcome State Fault Refusal :=
  nextWith (takeSample source readings) s

/-- R41: a stale timer expires. -/
def execStaleTimerExpiry (cls : InstrumentClass) (num : Nat) (s : State) : Host.Outcome State Fault Refusal :=
  nextWith (staleExpires ⟨cls, num⟩) s

/-- R45: a point hold timer expires. -/
def execPointHoldTimerExpiry (point : Nat) (s : State) : Host.Outcome State Fault Refusal :=
  nextWith (pointHoldExpires point) s

/-- R60: the zone requalify timer expires. -/
def execZoneRequalifyTimerExpiry (s : State) : Host.Outcome State Fault Refusal := nextWith requalifyExpires s

/-- R54: the zone alarms are cleared. -/
def execZoneAlarmsCleared (s : State) : Host.Outcome State Fault Refusal := nextWith clearAlarms s

end Sys2Proof.Machine
end

