-- ==== Sys2Proof/Machine/CmdOrders.lean ====
section
/-! DEFINITION. The meanings of the commands of the Order Engine: each is one event of the part, its hand-ons
taken and its health formed at the end (`nextWith`). -/

namespace Sys2Proof.Machine

/-- R158: a FAN ANSWER is delivered. -/
def execFanAnswer (source tag output : Nat) (outcome : AnswerOutcome) (run : RunState)
    (s : State) : Host.Outcome State Fault Refusal :=
  nextWith (takeAnswer source tag output outcome run) s

/-- R163, R164, R166: a response timer expires. -/
def execResponseTimerExpiry (fan : Nat) (s : State) : Host.Outcome State Fault Refusal :=
  nextWith (responseExpires fan) s

/-- R160: a retry-spacing timer expires. -/
def execRetrySpacingTimerExpiry (fan : Nat) (s : State) : Host.Outcome State Fault Refusal :=
  nextWith (retryExpires fan) s

/-- R160: a retry window timer expires. -/
def execRetryWindowTimerExpiry (fan : Nat) (s : State) : Host.Outcome State Fault Refusal :=
  nextWith (windowExpires fan) s

/-- R167: a quarantine timer expires. -/
def execQuarantineTimerExpiry (station tag : Nat) (s : State) : Host.Outcome State Fault Refusal :=
  nextWith (quarantineExpires station tag) s

end Sys2Proof.Machine
end

