-- ==== Sys2Proof/Machine/Dispatch.lean ====
section
/-! DEFINITION. One arm for each command: its meaning. -/

namespace Sys2Proof.Machine

/-- The effect of a command on everything but the queue. -/
def exec (i : Instr) (s : State) : Host.Outcome State Fault Refusal :=
  match i with
  | .signalEnergyDetected port => Sys2Proof.Machine.execSignalEnergyDetected port s
  | .signalLost port => Sys2Proof.Machine.execSignalLost port s
  | .huntFillCountReached port => Sys2Proof.Machine.execHuntFillCountReached port s
  | .qualificationTimerExpiry port => Sys2Proof.Machine.execQualificationTimerExpiry port s
  | .holdWindowClose port fills => Sys2Proof.Machine.execHoldWindowClose port fills s
  | .badStart port => Sys2Proof.Machine.execBadStart port s
  | .runaway port => Sys2Proof.Machine.execRunaway port s
  | .telegramReceived port bytes => Sys2Proof.Machine.execTelegramReceived port bytes s
  | .outputArbiterChoice port => Sys2Proof.Machine.execOutputArbiterChoice port s
  | .forwardedTelegramSent port => Sys2Proof.Machine.execForwardedTelegramSent port s
  | .ownTelegramSent port => Sys2Proof.Machine.execOwnTelegramSent port s
  | .queueOwnTelegram request => Sys2Proof.Machine.execQueueOwnTelegram request s
  | .powerOnReset straps => Sys2Proof.Machine.execPowerOnReset straps s
  | .sample source readings => Sys2Proof.Machine.execSample source readings s
  | .staleTimerExpiry cls num => Sys2Proof.Machine.execStaleTimerExpiry cls num s
  | .pointHoldTimerExpiry point => Sys2Proof.Machine.execPointHoldTimerExpiry point s
  | .zoneRequalifyTimerExpiry => Sys2Proof.Machine.execZoneRequalifyTimerExpiry s
  | .zoneAlarmsCleared => Sys2Proof.Machine.execZoneAlarmsCleared s
  | .zoneAlarmHandOn zone => Sys2Proof.Machine.execZoneAlarmHandOn zone s
  | .declare notice => Sys2Proof.Machine.execDeclare notice s
  | .update notice => Sys2Proof.Machine.execUpdate notice s
  | .hold notice => Sys2Proof.Machine.execHold notice s
  | .resume notice => Sys2Proof.Machine.execResume notice s
  | .clear notice => Sys2Proof.Machine.execClear notice s
  | .cancelAlert notice => Sys2Proof.Machine.execCancelAlert notice s
  | .noticeBadAction action notice => Sys2Proof.Machine.execNoticeBadAction action notice s
  | .autoDeclareTimerExpiry => Sys2Proof.Machine.execAutoDeclareTimerExpiry s
  | .leadWaitTimerExpiry => Sys2Proof.Machine.execLeadWaitTimerExpiry s
  | .clearingEndReport => Sys2Proof.Machine.execClearingEndReport s
  | .incidentRecordToController handOn => Sys2Proof.Machine.execIncidentRecordToController handOn s
  | .controlPeriodTimerExpiry => Sys2Proof.Machine.execControlPeriodTimerExpiry s
  | .velocityHoldTimerExpiry => Sys2Proof.Machine.execVelocityHoldTimerExpiry s
  | .leadLossHoldTimerExpiry => Sys2Proof.Machine.execLeadLossHoldTimerExpiry s
  | .demandUpdate demand => Sys2Proof.Machine.execDemandUpdate demand s
  | .incidentRecordToFanManager handOn => Sys2Proof.Machine.execIncidentRecordToFanManager handOn s
  | .stopSpacingTimerExpiry => Sys2Proof.Machine.execStopSpacingTimerExpiry s
  | .fanReport source outputs => Sys2Proof.Machine.execFanReport source outputs s
  | .restTimerExpiry fan => Sys2Proof.Machine.execRestTimerExpiry fan s
  | .runUpTimerExpiry fan => Sys2Proof.Machine.execRunUpTimerExpiry fan s
  | .runDownTimerExpiry fan => Sys2Proof.Machine.execRunDownTimerExpiry fan s
  | .reportSilenceTimerExpiry station => Sys2Proof.Machine.execReportSilenceTimerExpiry station s
  | .orderOutcome fan order outcome => Sys2Proof.Machine.execOrderOutcome fan order outcome s
  | .fanAnswer source tag output outcome run => Sys2Proof.Machine.execFanAnswer source tag output outcome run s
  | .responseTimerExpiry fan => Sys2Proof.Machine.execResponseTimerExpiry fan s
  | .retrySpacingTimerExpiry fan => Sys2Proof.Machine.execRetrySpacingTimerExpiry fan s
  | .retryWindowTimerExpiry fan => Sys2Proof.Machine.execRetryWindowTimerExpiry fan s
  | .quarantineTimerExpiry station tag => Sys2Proof.Machine.execQuarantineTimerExpiry station tag s
  | .bulletinTimerExpiry => Sys2Proof.Machine.execBulletinTimerExpiry s
  | .incidentRecordToCoordinator handOn => Sys2Proof.Machine.execIncidentRecordToCoordinator handOn s
  | .bulletin source b => Sys2Proof.Machine.execBulletin source b s
  | .freshnessTimerExpiry address => Sys2Proof.Machine.execFreshnessTimerExpiry address s
  | .faultReport kind object => Sys2Proof.Machine.execFaultReport kind object s
  | .eventRaised flag => Sys2Proof.Machine.execEventRaised flag s
  | .readStatus request => Sys2Proof.Machine.execReadStatus request s
  | .loadBegin request => Sys2Proof.Machine.execLoadBegin request s
  | .loadBlock request => Sys2Proof.Machine.execLoadBlock request s
  | .loadEnd request => Sys2Proof.Machine.execLoadEnd request s
  | .activate request => Sys2Proof.Machine.execActivate request s
  | .storeWriteEnd => Sys2Proof.Machine.execStoreWriteEnd s
  | .ackEvents request => Sys2Proof.Machine.execAckEvents request s
  | .clearFault request => Sys2Proof.Machine.execClearFault request s
  | .admitObject request => Sys2Proof.Machine.execAdmitObject request s
  | .isolate request => Sys2Proof.Machine.execIsolate request s
  | .restart request seq => Sys2Proof.Machine.execRestart request seq s
  | .mgmtRequestUnknownKind kind request => Sys2Proof.Machine.execMgmtRequestUnknownKind kind request s

end Sys2Proof.Machine
end

