-- ==== Sys2Proof/Safety.lean ====
section
/-! DEFINITION. What a statement about the machine speaks of: a part between two events, what some rules say of a part
in the form of a statement, and the invariants that every step keeps. -/

namespace Sys2Proof.Machine

/-! ### Between events -/

/-- No hand-on between blocks is on its way, as it is between events [1] [13]. -/
def Quiescent (s : State) : Prop := s.part.handOns = []

/-- The health and its cause set are those of the inputs (R193). -/
def HealthFormed (s : State) : Prop := formHealth s.part = s.part

/-- The next state whose part is `p` with its health formed afresh (R193), the waiting commands as they are in `s`. -/
def nextPart (s : State) (p : Part) : Host.Outcome State Fault Refusal := .next { s with part := formHealth p }

/-- A property that every step keeps. -/
def KeptByStep (Inv : State → Prop) : Prop := ∀ s t, Inv s → step s = .next t → Inv t

/-! ### What rules say, for the statements -/

/-- What R4 says of a port that leaves UP for `next`. -/
def Rule.leavesUp (i : PortId) (next : PortState) (p : Part) : Part :=
  let q := p.port i
  let own := p.line.own.map fun e => match i with | .a => { e with onA := false } | .b => { e with onB := false }
  let line := p.line.setPort i { q with
    state := next, fillCount := 0, qualTimer := none, window := none, forward := [], sending := none,
    counters := { q.counters with lineBreaks := satAdd q.counters.lineBreaks q.forward.length } }
  raise .lineChange (report .portLost (portObject i) { p with line := { line with
    own := own.filter fun e => e.onA || e.onB,
    ownUnsent := satAdd p.line.ownUnsent (own.filter fun e => !(e.onA || e.onB) && !e.sentOnce).length } })

/-- What R9 says of a telegram that port `i` offers for forwarding. -/
def Rule.offered (i : PortId) (t : Telegram) (p : Part) : Part :=
  let out := p.port (other i)
  if t.hop = 0 then p.onPort i fun q => { q with counters := { q.counters with expired := bump q.counters.expired } }
  else if out.state ≠ .up then p.onPort (other i) fun q =>
    { q with counters := { q.counters with lineBreaks := bump q.counters.lineBreaks } }
  else if 8 ≤ out.forward.length then
    report .forwardOverflow (portObject (other i)) (p.onPort (other i) fun q =>
      { q with counters := { q.counters with overflows := bump q.counters.overflows } })
  else
    let u : Telegram := { t with hop := t.hop - 1 }
    p.onPort (other i) fun q => { q with forward := q.forward ++ [{ u with check := crc (telegramBody u) }] }

/-- What R38, R39 and R40 say of an instrument of class `cls` to which a reading is applied. -/
def Rule.applied (now : PartTime) (staleTime : Nat) (cls : InstrumentClass) (r : Reading) (i : Instrument) :
    Instrument :=
  let lo : Int := match cls with | .velocity => -2000 | .opacity => 0 | .temperature => -400
  let hi : Int := match cls with | .velocity => 2000 | .opacity => 30000 | .temperature => 12000
  let state : InstrumentState :=
    if r.status = .fault then .stationFault
    else if i.state = .valid ∨ (i.state = .qualifying ∧ 2 ≤ i.qualify) then .valid else .qualifying
  let count : Nat :=
    if r.status = .fault then 0
    else if i.state = .valid then i.qualify
    else if i.state = .qualifying then (if 2 ≤ i.qualify then 0 else i.qualify + 1) else 1
  let last : Int := match r.status with
    | .fault => i.last
    | .ok => max lo (min hi r.value)
    | .over => if cls = .opacity ∨ 0 ≤ r.value then hi else lo
  let saturated : Bool := match r.status with
    | .fault => i.saturated
    | .ok => decide (r.value < lo ∨ hi < r.value)
    | .over => true
  { i with state := state, qualify := count, last := last, saturated := saturated,
           stale := some (now + BitVec.ofNat 32 (1000 * staleTime)) }

/-- What R44 says of a vote: the quality and voted value, from the corrected values of the VALID instruments in slot
order, the tolerance, and the quality and voted value before. -/
def Rule.voted (tolerance : Nat) (quality : PointQuality) (previous : Option Int) : List Int → PointQuality × Option Int
  | [a, b, c] => (.good, some (max (min a b) (min (max a b) c)))
  | [a, b] =>
      if (a - b).natAbs ≤ tolerance then (.paired, some (Int.tdiv (a + b) 2))
      else match previous with
        | some v => (.disputed, some (if (a - v).natAbs ≤ (b - v).natAbs then a else b))
        | none => (.disputed, some (if a.natAbs ≤ b.natAbs then a else b))
  | [a] => (.single, some a)
  | _ => if quality = .unknown then (.unknown, none) else (.held, previous)

/-- What R46 and R47 make of instrument `i` in a vote of three VALID instruments, `j` and `k` being the others. -/
def Rule.checked (tolerance threshold : Nat) (i j k : Instrument) : Instrument :=
  let value := fun (x : Instrument) => if x.reversed then -x.last else x.last
  let median := max (min (value i) (value j)) (min (max (value i) (value j)) (value k))
  let judged : Prop :=
    threshold ≤ (value i).natAbs ∧ threshold ≤ (value j).natAbs ∧ threshold ≤ (value k).natAbs
  let opposed : Prop := judged ∧
    ((0 < value i ∧ value j < 0 ∧ value k < 0) ∨ (value i < 0 ∧ 0 < value j ∧ 0 < value k))
  let outlier :=
    if opposed then i.outlier else if tolerance < (value i - median).natAbs then i.outlier + 1 else 0
  let polarity := if opposed then i.polarity + 1 else if judged then 0 else i.polarity
  if opposed ∧ 3 ≤ polarity then { i with reversed := !i.reversed, outlier := 0, polarity := 0 }
  else if 8 ≤ outlier then { i with state := .rejected, stale := none, outlier := outlier, polarity := polarity }
  else { i with outlier := outlier, polarity := polarity }

/-- The error e of R92 for a heat class and a target direction, `vm` being the section velocity. -/
def Rule.error (c : ControlTable) (heat : Nat) (dir : Direction) (vm : Int) : Int :=
  let sign : Int := match dir with | .ab => 1 | .ba => -1
  let target : Int := (min (c.vcrit.getD (heat - 1) 0 + c.margin) c.vmax : Nat)
  max (-1500) (min 1500 (target - sign * vm))

/-- The P term of R92: Kp * e / 16, rounded half away from zero. -/
def Rule.pTerm (c : ControlTable) (e : Int) : Int :=
  let product : Int := c.kp * e
  (if product < 0 then -1 else 1) * ((2 * product.natAbs + 16) / 32 : Nat)

/-- An integral clamped to -256 * A to +256 * A (R88). -/
def Rule.bounded (a : Nat) (i : Int) : Int := max (-256 * (a : Int)) (min (256 * (a : Int)) i)

/-- The integral and the demand that R92 and R93 give from the integral `i`, `p` being the P term. -/
def Rule.law (c : ControlTable) (a : Nat) (e p i : Int) : Int × Nat :=
  let trial := i + c.ki * e
  let dTrial := p + Int.tdiv trial 256
  let kept := if ((a : Int) < dTrial ∧ 0 < e) ∨ (dTrial < 0 ∧ e < 0) then i else trial
  let bounded := Rule.bounded a kept
  (bounded, (max 0 (min (a : Int) (p + Int.tdiv bounded 256))).toNat)

/-- What a computation in LEAD or LOCAL makes of the controller record `k` but for the demands it hands on: the cases of
R94, R89 and R90, the law of R92 and R93, and the bumpless transfer of R96; `a` is the A it uses. -/
def Rule.computed (p : Part) (heat : Nat) (dir : Direction) (a : Nat) (start : ComputeStart) (k : AirflowController) :
    AirflowController :=
  let c := p.control
  let seconds := fun (n : Nat) => some (p.now + BitVec.ofNat 32 (1000 * n))
  let k := { k with boundA := a, period := seconds c.period }
  let holds := fun (timer : Timer) =>
    { k with condition := .held, velocityHold := timer, integral := Rule.bounded a k.integral, lastD := min k.lastD a }
  if p.meas.quality = .lost then
    if start = .first ∨ k.condition = .openLoop then
      { k with condition := .openLoop, velocityHold := none, integral := Rule.bounded a k.integral,
               lastD := min (c.openLoop.getD (heat - 1) 0) a }
    else if k.condition = .held then holds k.velocityHold
    else holds (seconds c.velocityHold)
  else
    let e := Rule.error c heat dir p.meas.vm
    let pTerm := Rule.pTerm c e
    let transfer : Prop := start = .transfer ∨ k.condition ≠ .ok
    let i := if transfer then Rule.bounded a (256 * ((k.lastD : Int) - pTerm)) else k.integral
    let out := Rule.law c a e pTerm i
    { k with condition := .ok, velocityHold := none, lastP := pTerm, integral := out.1, lastD := out.2 }

/-- A computation in LOCAL: the law over own A gives the demand handed on (R87, R93). -/
def Rule.inLocal (p : Part) (heat : Nat) (dir : Direction) (start : ComputeStart) (k : AirflowController) :
    AirflowController :=
  let u := Rule.computed p heat dir p.fm.a start k
  { u with ownDemand := u.lastD }

/-- The available thrust that a presented peer publishes, limited to 192,000 N (R183). -/
def Rule.published (q : PeerRec) : Nat := min ((q.held.map (·.available)).getD 0) 192000

/-- A computation in LEAD, `peers` being those presented: the law over A_sum gives the total, each peer's share is its
part of it rounded down, and the lead's own demand is what remains, at most own A (R98, R99). -/
def Rule.inLead (p : Part) (heat : Nat) (dir : Direction) (peers : List PeerRec) (start : ComputeStart)
    (k : AirflowController) : AirflowController :=
  let aSum := p.fm.a + (peers.map Rule.published).sum
  let u := Rule.computed p heat dir aSum start k
  let shares : List ShareEntry := peers.map fun q => ⟨q.address, u.lastD * Rule.published q / aSum⟩
  { u with aSum := aSum, shares := shares, ownDemand := min p.fm.a (u.lastD - (shares.map (·.share)).sum) }

/-- `l` is what R183 presents of the peers `all` for an id: in ascending node address, those that are fresh, show the id
and CONTROL, and a role other than LEAD. -/
def Rule.Presented (id : Nat) (all l : List PeerRec) : Prop :=
  l.Pairwise (fun q x => q.address < x.address) ∧
  ∀ q, q ∈ l ↔ q ∈ all ∧ q.fresh = true ∧
    ∃ b, q.held = some b ∧ b.id = id ∧ b.state = .control ∧ b.role ≠ .lead

/-- A peer claims lead for an id (R179). -/
def Rule.claims (id : Nat) (q : PeerRec) : Bool :=
  match q.held with
  | some b => decide (id ≠ 0 ∧ q.fresh = true ∧ b.role = .lead ∧ b.id = id)
  | none => false

/-- `lead` is the address of the lead view for an id, or none (R179). -/
def Rule.IsLeadView (id : Nat) (peers : List PeerRec) (lead : Option Nat) : Prop :=
  match lead with
  | none => ∀ q ∈ peers, Rule.claims id q = false
  | some a => (∃ q ∈ peers, Rule.claims id q = true ∧ q.address = a) ∧
      ∀ q ∈ peers, Rule.claims id q = true → a ≤ q.address

/-- Two or more claims of lead for an id: those of the fresh peers, and this part's own role LEAD (R180). -/
def Rule.Conflict (id : Nat) (role : IncidentRole) (peers : List PeerRec) : Prop :=
  2 ≤ (peers.filter (Rule.claims id)).length + (if role = .lead then 1 else 0)

/-- `n` is the object address of TWO_LEADS: for a part whose own role is LEAD the lowest claimant, otherwise the lowest
claimant other than the lead view (R180). -/
def Rule.IsTwoLeadsObject (id : Nat) (role : IncidentRole) (peers : List PeerRec) (n : Nat) : Prop :=
  let counted : PeerRec → Prop := fun q =>
    Rule.claims id q = true ∧ (role = .lead ∨ ¬ Rule.IsLeadView id peers (some q.address))
  (∃ q ∈ peers, counted q ∧ q.address = n) ∧ ∀ q ∈ peers, counted q → n ≤ q.address

/-- The command that hands the fields of a delivered telegram to the block that owns its kind (R29). -/
def Rule.commandOf (src seq : Byte) : Delivery → Instr
  | .sample readings => .sample src.toNat readings
  | .fanReport outputs => .fanReport src.toNat outputs
  | .fanAnswer tag output outcome run => .fanAnswer src.toNat tag output outcome run
  | .notice action n =>
      if action = 1 then .declare n else if action = 2 then .update n else if action = 3 then .hold n
      else if action = 4 then .resume n else if action = 5 then .clear n else if action = 6 then .cancelAlert n
      else .noticeBadAction action n
  | .bulletin b => .bulletin src.toNat b
  | .mgmtRequest kind num args =>
      let q : Request := ⟨src, num, args⟩
      if kind = 1 then .readStatus q else if kind = 2 then .loadBegin q else if kind = 3 then .loadBlock q
      else if kind = 4 then .loadEnd q else if kind = 5 then .activate q else if kind = 6 then .ackEvents q
      else if kind = 7 then .clearFault q else if kind = 8 then .admitObject q else if kind = 9 then .isolate q
      else if kind = 10 then .restart q seq else .mgmtRequestUnknownKind kind q

/-- The zone values formed afresh from the VALID instruments, a quantity under restart hold keeping its value (R51,
R60). -/
def Rule.zoneValues (z : ZoneRec) : ZoneRec :=
  let largest := fun (l : List Instrument) => ((l.filter fun i => i.state == .valid).map (·.last)).max?
  { z with opacity := if z.holdO then z.opacity else largest [z.o1, z.o2],
           temperature := if z.holdT then z.temperature else largest [z.t1, z.t2] }

/-- What steps 1 to 4 of R51 make of a zone. -/
def Rule.zoneEvaluated (e : ZoneEntry) (z : ZoneRec) : ZoneRec :=
  let z := Rule.zoneValues z
  if z.state = .alarm then z
  else if z.opacity = none ∧ z.temperature = none then { z with state := .unknown, confirm := 0 }
  else if (∃ v ∈ z.opacity, (e.opacity : Int) ≤ v) ∨ (∃ v ∈ z.temperature, (e.temperature : Int) ≤ v) then
    { z with confirm := z.confirm + 1, state := if e.confirm ≤ z.confirm + 1 then .alarm else .pending }
  else { z with state := .normal, confirm := 0 }

/-- What R53 makes of a zone. -/
def Rule.zoneRecomputed (z : ZoneRec) : ZoneRec :=
  let z := Rule.zoneValues z
  if z.state ≠ .alarm ∧ z.opacity = none ∧ z.temperature = none then { z with state := .unknown, confirm := 0 } else z

/-- What R54 makes of a zone. -/
def Rule.alarmCleared (z : ZoneRec) : ZoneRec :=
  if z.state = .alarm then
    { z with confirm := 0, state := if z.opacity = none ∧ z.temperature = none then .unknown else .normal }
  else z

/-- The useful thrust and direction of a fan, the target direction being present with the id (R107, R110). -/
def Rule.useful (r : IncidentRecord) (e : FanEntry) : Nat × Option RunDir :=
  let forward : Direction := match e.orientation with | .forwardAB => .ab | .forwardBA => .ba
  if r.id = 0 ∨ r.dir = none then (0, none)
  else if r.dir = some forward then (e.forward, some .fwd)
  else if e.reversible then (e.reverse, some .rev)
  else (0, none)

/-- What R113 finds of a fan, `temp` being the temperature held for its zone. -/
def Rule.exposed (r : IncidentRecord) (temp : Option Int) (e : FanEntry) : Bool :=
  match temp with
  | some t => (e.heatRating : Int) ≤ t
  | none =>
      match r.fire, r.dir with
      | some fire, some .ab => fire < e.chainage
      | some fire, some .ba => e.chainage < fire
      | _, _ => false

/-- A as R111 gives it: the useful thrust of the fans in five states that are neither excluded nor heat-exposed. -/
def Rule.available (m : FanManager) : Nat :=
  let counts := fun (f : FanRec) => decide (
    (f.state = .unknown ∨ f.state = .stopped ∨ f.state = .starting ∨ f.state = .running ∨ f.state = .stopping) ∧
    f.excluded = false ∧ f.heat = false)
  ((m.fans.filter counts).map fun f => (Rule.useful m.record f.e).1).sum

/-- R as R111 gives it: the useful thrust of the fans STARTING or RUNNING in their useful direction, and of the UNKNOWN
fans last known to have been. -/
def Rule.running (m : FanManager) : Nat :=
  let useful := fun (f : FanRec) (d : Option RunDir) => d ≠ none ∧ d = (Rule.useful m.record f.e).2
  let counts := fun (f : FanRec) => decide (
    ((f.state = .starting ∨ f.state = .running) ∧ useful f f.dir) ∨
    (f.state = .unknown ∧ ∃ k ∈ f.known, (k.kind = .starting ∨ k.kind = .running) ∧ useful f k.dir))
  ((m.fans.filter counts).map fun f => (Rule.useful m.record f.e).1).sum

/-- A fan comes before another in the preference order, for a fire and a target direction (R134). -/
def Rule.Before (fire : Nat) (dir : Direction) (f g : FanRec) : Prop :=
  let upstream : FanRec → Prop := fun x => match dir with
    | .ab => x.e.chainage < fire
    | .ba => fire < x.e.chainage
  let distance := fun (x : FanRec) => ((x.e.chainage : Int) - fire).natAbs
  (upstream f ∧ ¬ upstream g) ∨ ((upstream f ↔ upstream g) ∧
    (f.e.rank < g.e.rank ∨ (f.e.rank = g.e.rank ∧
      (distance g < distance f ∨ (distance f = distance g ∧ f.e.num < g.e.num)))))

/-- `order` is the preference order of the fans for a fire and a target direction (R134). -/
def Rule.IsPreference (fire : Nat) (dir : Direction) (fans : List FanRec) (order : List Nat) : Prop :=
  ∃ l : List FanRec, l.Pairwise (Rule.Before fire dir) ∧ (∀ f, f ∈ l ↔ f ∈ fans ∧ f.state ≠ .unconfigured) ∧
    order = l.map (·.e.num)

/-- A fan within the exclusion distance of the fire (R112). -/
def Rule.excluded (exclusion : Nat) (r : IncidentRecord) (e : FanEntry) : Bool :=
  match r.fire with
  | some fire => decide (r.id ≠ 0 ∧ ((e.chainage : Int) - fire).natAbs ≤ exclusion)
  | none => false

/-- A fan is unwanted (R136). -/
def Rule.unwanted (r : IncidentRecord) (f : FanRec) : Bool :=
  decide (f.state = .running ∧
    ((Rule.useful r f.e).2 = none ∨ f.dir ≠ (Rule.useful r f.e).2 ∨ f.excluded = true ∨ f.heat = true))

/-- The start queue that R139 builds from the fans of the preference order, `d` being the demand, `r` the running
thrust and `q` the running sum; the candidates are the fans that R115 finds eligible. -/
def Rule.startQueue (rec : IncidentRecord) (d r : Nat) : Nat → List FanRec → List Nat
  | _, [] => []
  | q, f :: rest =>
      let t := (Rule.useful rec f.e).1
      if f.state = .stopped ∧ f.resting = false ∧ f.excluded = false ∧ f.heat = false ∧ 0 < t then
        if 2 * ((d : Int) - (r + q)) > t then f.e.num :: Rule.startQueue rec d r (q + t) rest else []
      else Rule.startQueue rec d r q rest

/-- The fan that R140 names L: of the preference order, the last that is RUNNING in its useful direction. -/
def Rule.lastUseful (rec : IncidentRecord) (order : List FanRec) : Option FanRec :=
  order.reverse.find? fun f => f.state == .running && f.dir.isSome && f.dir == (Rule.useful rec f.e).2

/-- A fan holds the clearing open (R146). -/
def Rule.holdsOpen (f : FanRec) : Prop :=
  f.state = .starting ∨ f.state = .running ∨
  (f.state = .unknown ∧ ∃ k, f.known = some k ∧ (k.kind = .starting ∨ k.kind = .running))

/-- The last known state that the loss of a station, or RESTART, gives a fan (R126, R132). -/
def Rule.knownAfter (f : FanRec) : Option LastKnown :=
  if f.state = .stopped then some ⟨.stopped, none⟩
  else if f.state = .starting then some ⟨.starting, f.dir⟩
  else if f.state = .running then some ⟨.running, f.dir⟩
  else if f.state = .stopping then some ⟨.stopping, f.dir⟩
  else f.known

/-- What R132 makes of a fan. -/
def Rule.restarted (f : FanRec) : FanRec :=
  if f.state = .unconfigured then f
  else
    let g := { f with reportIso := false, accepted := false, downOver := false, stopReq := false, runUp := none,
                      runDown := none }
    if f.state = .failed ∨ (f.state = .isolated ∧ f.mgrIso = true) then g
    else { g with state := .unknown, dir := none, known := Rule.knownAfter f }

/-- What R155 asks of an order before it is sent: a START wants its fan STARTING in the order's direction, which is the
fan's useful direction; another order wants nothing. -/
def Rule.mayStart (p : Part) (r : OrderRec) : Prop :=
  ∀ d, r.kind = (match d with | RunDir.fwd => .startFwd | .rev => .startRev) →
    ∃ f, p.fm.fans.find? (fun x => x.e.num == r.fan) = some f ∧ f.state = .starting ∧ f.dir = some d ∧
      (Rule.useful p.fm.record f.e).2 = some d

/-- The share for this node in a lead view (R184). -/
def Rule.shareOf (p : Part) (b : Bulletin) : Option Nat :=
  if b.state = .control then (b.shares.find? fun e => e.node == p.line.node.toNat).map (·.share) else none

/-- What a lead view with a share for this node, or with none, or the loss of the lead, makes of the controller (R100,
R101). -/
def Rule.shareTaken (p : Part) (share : Option Nat) : AirflowController :=
  match share with
  | some v =>
      if p.ctl.mode = .share ∨ p.ctl.mode = .shareHeld then
        { p.ctl with mode := .share, lastShare := v, leadLoss := none }
      else p.ctl
  | none =>
      if p.ctl.mode = .share then
        { p.ctl with mode := .shareHeld,
                     leadLoss := some (p.now + BitVec.ofNat 32 (1000 * p.control.leadLossHold)) }
      else p.ctl

/-- The bulletin that R174 builds from the values that stand in the blocks. -/
def Rule.bulletin (p : Part) : Bulletin :=
  { id := p.reg.record.id, state := p.reg.record.state, role := p.reg.record.role, direction := p.reg.record.dir,
    heat := p.reg.record.heat.getD 0, fire := p.reg.record.fire.getD 0xFFFF, mode := p.ctl.mode,
    condition := p.ctl.condition, velocity := p.meas.vm, quality := p.meas.quality, available := p.fm.a,
    running := p.fm.r, demand := p.ctl.lastD, health := p.fc.health, flags := p.fc.flags,
    outcome := p.reg.outcome, lastCleared := p.reg.lastCleared, shares := p.ctl.shares }

/-- What clear after read makes of the counters of a COUNTERS object: every part-wide counter for object 0, else those of
the station record of that number (R200, R32). -/
def Rule.cleared (object : Nat) (p : Part) : Part :=
  let port := fun (q : Port) => { q with counters := ⟨0, 0, 0, 0, 0, 0, 0, 0, 0, 0⟩ }
  let l := p.line
  if object = 0 then
    { p with
      line := { l with portA := port l.portA, portB := port l.portB, unknownKinds := 0, malformed := 0, ownUnsent := 0,
                       droppedReplies := 0 },
      disp := { p.disp with counters := ⟨0, 0, 0, 0, 0, 0, 0, 0, 0⟩ },
      meas := { p.meas with unmatched := 0, mismatches := 0, ignored := 0 },
      fm := { p.fm with unmatched := 0, unexpected := 0 },
      ord := { p.ord with counters := ⟨0, 0, 0, 0, 0, 0, 0, 0, 0, 0⟩ },
      coord := { p.coord with built := 0, taken := 0, stale := 0 } }
  else match p.disp.stations[object - 1]? with
    | none => p
    | some r => { p with disp := { p.disp with stations := p.disp.stations.map fun x =>
        if x.address = r.address then { x with delivered := 0, duplicates := 0, gaps := 0 } else x } }

/-- The source that a SECTION table gives an instrument slot (R35, R201). -/
def Rule.slotSource (table : Option SectionTable) (id : InstrumentId) : Option Source :=
  table.bind fun x =>
    match id.cls with
    | .velocity => (x.points.find? fun e => e.num == (id.num - 1) / 3 + 1).bind fun e =>
        [e.s1, e.s2, e.s3].getD ((id.num - 1) % 3) none
    | .opacity => (x.zones.find? fun e => e.num == (id.num - 1) / 2 + 1).bind fun e =>
        [e.o1, e.o2].getD ((id.num - 1) % 2) none
    | .temperature => (x.zones.find? fun e => e.num == (id.num - 1) / 2 + 1).bind fun e =>
        [e.t1, e.t2].getD ((id.num - 1) % 2) none

/-- Whether a source names a station of the table with role SENSOR (R36). -/
def Rule.fromSensor (stations : List StationRec) (source : Option Source) : Bool :=
  match source with
  | some x => stations.any fun r => r.address == x.station && r.role == .sensor
  | none => false

/-- What R36 makes of an instrument at an activation, the last value standing [11]. -/
def Rule.judged (stations : List StationRec) (source : Option Source) (i : Instrument) : Instrument :=
  let fresh := fun (state : InstrumentState) =>
    { i with source := source, state := state, qualify := 0, saturated := false, reversed := false, outlier := 0,
             polarity := 0, stale := none }
  if Rule.fromSensor stations source = false then fresh .absent
  else if i.state = .absent ∨ i.source ≠ source then fresh .qualifying
  else i

/-- What R58 makes of an instrument at RESTART. -/
def Rule.requalified (i : Instrument) : Instrument :=
  if i.state = .absent ∨ i.state = .rejected then i
  else { i with state := .qualifying, qualify := 0, stale := none, outlier := 0, polarity := 0 }

/-- What R24 makes of an entry of a STATION table, beside the records before. -/
def Rule.stationOf (old : List StationRec) (e : StationEntry) : StationRec :=
  match old.find? fun r => r.address == e.address && r.role == e.role with
  | some r => { r with tagCount := e.tagCount }
  | none => ⟨e.address, e.role, e.tagCount, false, 0, 0, 0, 0⟩

/-- The peer records for a station table, a new one with the arrival time 0 (R176) [36]. -/
def Rule.peersOf (stations : List StationRec) (old : List PeerRec) : List PeerRec :=
  (stations.filter fun r => r.role == .peer).map fun r =>
    (old.find? fun q => q.address == r.address).getD ⟨r.address, none, 0, false, none⟩

/-- What R109 asks of a fan that is configured. -/
def Rule.configured (p : Part) (e : FanEntry) : Prop :=
  (∃ r ∈ p.disp.stations, r.address = e.station ∧ r.role = .fanStation) ∧
  ∃ x, p.mgmt.sections = some x ∧ ∃ z ∈ x.zones, z.num = e.zone

/-- What R109 asks of a fan record that an entry finds, for it to be kept. -/
def Rule.keeps (f : FanRec) (e : FanEntry) : Prop :=
  f.state ≠ .unconfigured ∧ f.e.station = e.station ∧ f.e.output = e.output ∧ f.e.zone = e.zone

/-- A QUERY is requested for a fan: an order record of the fan is one, or has one as successor (R153). -/
def Rule.queried (p : Part) (n : Nat) : Prop :=
  ∃ r ∈ p.ord.records, r.fan = n ∧ (r.kind = .query ∨ r.successor = some .query)

/-- The telegram that R11 makes of a request: its header, its payload, and the check over both. -/
def Rule.ownTelegram (node seq : Byte) (dest kind : Byte) (payload : List Byte) : Telegram :=
  let t : Telegram := ⟨dest, node, kind, seq, 240, payload, 0⟩
  { t with check := crc (telegramBody t) }

/-! ### What READ_STATUS returns (R200), for the statements -/

/-- An item of READ_STATUS data: its number and its value, high byte first (R22). -/
abbrev Rule.Item : Type := Nat × List Byte

/-- The bytes of items: number, value length, value (R22). -/
def Rule.itemBytes (l : List Rule.Item) : List Byte :=
  l.flatMap fun x => [BitVec.ofNat 8 x.1, BitVec.ofNat 8 x.2.length] ++ x.2

/-- An unsigned value of `w` bytes. -/
def Rule.unsigned (n w v : Nat) : Rule.Item := (n, beBytes w v)

/-- An unsigned value that may be absent, then all ones (R200). -/
def Rule.maybe (n w : Nat) (v : Option Nat) : Rule.Item :=
  match v with
  | some x => Rule.unsigned n w x
  | none => (n, List.replicate w 0xFF)

/-- A signed value of `w` bytes, two's complement. -/
def Rule.signed (n w : Nat) (v : Int) : Rule.Item := (n, beBytes w (BitVec.ofInt (8 * w) v).toNat)

/-- A signed 2-byte value that may be absent, then 0x8000 (R200). -/
def Rule.maybeSigned (n : Nat) (v : Option Int) : Rule.Item :=
  match v with
  | some x => Rule.signed n 2 x
  | none => (n, [0x80, 0x00])

/-- A mark: 1 when set and 0 when clear (R200). -/
def Rule.marked (n : Nat) (b : Bool) : Rule.Item := (n, [if b then 1 else 0])

/-- A time left in milliseconds, 4 bytes, 0 when the timer is not armed (R200) or its interval has passed [10]. -/
def Rule.timeLeft (p : Part) (n : Nat) (t : Timer) : Rule.Item :=
  Rule.unsigned n 4 (match t with
    | some x => if (p.now - x).toNat < 2 ^ 31 then 0 else (x - p.now).toNat
    | none => 0)

/-- Counters, numbered on from `n`. -/
def Rule.counters (n : Nat) (l : List Counter) : List Rule.Item := (l.zipIdx n).map fun x => (x.2, beBytes 2 x.1.toNat)

/-- A named value by its place in a list: that of its field's values, or of its codes where they count from 0 (R200). -/
def Rule.named {α : Type} [BEq α] (n : Nat) (values : List α) (v : α) : Rule.Item :=
  Rule.unsigned n 1 (values.idxOf v)

/-- A named value that may be absent. -/
def Rule.maybeNamed {α : Type} [BEq α] (n : Nat) (values : List α) (v : Option α) : Rule.Item :=
  Rule.maybe n 1 (v.map fun x => values.idxOf x)

/-- The incident states in the order of their codes (R21). -/
def Rule.incidentStates : List IncidentState := [.quiet, .alert, .declared, .control, .hold, .clearing]

/-- The roles in the order of their codes (R21). -/
def Rule.roles : List IncidentRole := [.none, .lead, .follower, .localRole]

/-- The notice outcomes in the order of their codes (R21). -/
def Rule.outcomes : List NoticeOutcome := [.none, .accepted, .wrongState, .activeIncident, .badField, .sameId]

/-- The controller modes in the order of their codes (R21). -/
def Rule.modes : List ControllerMode := [.idle, .lead, .localMode, .share, .shareHeld]

/-- The velocity conditions in the order of their codes (R21). -/
def Rule.conditions : List VelocityCondition := [.ok, .held, .openLoop]

/-- The velocity qualities in the order of their codes (R21). -/
def Rule.qualities : List VelocityQuality := [.good, .degraded, .lost]

/-- The healths in the order of their codes (R21). -/
def Rule.healths : List Health := [.normal, .degraded, .impaired]

/-- The table kinds in the order of their codes, which count from 1 (R22). -/
def Rule.tableKinds : List TableKind := [.stations, .sections, .fans, .control]

/-- The instrument states in the order of R35. -/
def Rule.instrumentStates : List InstrumentState := [.absent, .qualifying, .valid, .stale, .stationFault, .rejected]

/-- The fan states in the order of R108. -/
def Rule.fanStates : List FanState :=
  [.unconfigured, .unknown, .stopped, .starting, .running, .stopping, .failed, .isolated, .lost]

/-- The order kinds in the order of their codes, which count from 1 (R20). -/
def Rule.orderKinds : List OrderKind := [.startFwd, .startRev, .stop, .query]

/-- The order record states in the order of R152. -/
def Rule.orderStates : List OrderState := [.waiting, .sent, .retryWait, .querying, .done, .failed]

/-- A run direction: FWD or REV, or not known in STOPPING, the third value of R108; any other is absent [16]. -/
def Rule.runDirection (n : Nat) (stopping : Prop) [Decidable stopping] (d : Option RunDir) : Rule.Item :=
  match d with
  | some x => Rule.named n [.fwd, .rev] x
  | none => if stopping then (n, [2]) else (n, [0xFF])

/-- A share list entry: address and 3-byte share. -/
def Rule.shareEntry (n : Nat) (e : ShareEntry) : Rule.Item := (n, beBytes 1 e.node ++ beBytes 3 e.share)

/-- The items of selector INCIDENT. -/
def Rule.incidentItems (p : Part) : List Rule.Item :=
  let g := p.reg
  let r := g.record
  let pending := fun (e : PendingEntry) => match e with | .leadViewControl | .leadViewHold => 1 | .leadWaitExpiry => 2
  [Rule.named 1 Rule.incidentStates r.state, Rule.unsigned 2 2 r.id, Rule.maybe 3 2 r.fire, Rule.maybe 4 2 r.head,
   Rule.maybe 5 2 r.tail, Rule.maybe 6 1 (r.dir.map fun d => 1 + [Direction.ab, .ba].idxOf d),
   Rule.maybeNamed 7 [.explicit, .train, .default, .adopted] r.dirSource, Rule.maybe 8 1 r.heat,
   Rule.named 9 Rule.roles r.role, Rule.marked 10 r.controlled, Rule.unsigned 11 1 g.detection.length] ++
  g.detection.map (Rule.unsigned 12 1) ++
  [Rule.named 13 Rule.outcomes g.outcome, Rule.unsigned 14 2 g.lastCleared, Rule.timeLeft p 15 g.autoDeclare,
   Rule.timeLeft p 16 g.leadWait, Rule.marked 17 g.storeHold, Rule.unsigned 18 1 ((g.entry.map pending).getD 0)]

/-- The items of selector SECTION. -/
def Rule.sectionItems (p : Part) : List Rule.Item :=
  let c := p.ctl
  let points := match p.mgmt.sections with | some t => t.points.length | none => 0
  [Rule.signed 1 2 p.meas.vm, Rule.named 2 Rule.qualities p.meas.quality, Rule.unsigned 3 1 points,
   Rule.named 10 Rule.modes c.mode, Rule.named 11 Rule.conditions c.condition, Rule.signed 12 4 c.integral,
   Rule.unsigned 13 3 c.lastD, Rule.unsigned 14 3 c.ownDemand, Rule.signed 15 4 c.lastP, Rule.unsigned 16 3 c.lastShare,
   Rule.unsigned 17 3 c.boundA, Rule.unsigned 18 3 c.aSum, Rule.unsigned 19 1 c.shares.length] ++
  c.shares.map (Rule.shareEntry 20) ++
  [Rule.timeLeft p 21 c.period, Rule.timeLeft p 22 c.velocityHold, Rule.timeLeft p 23 c.leadLoss]

/-- The items of selector POINT. -/
def Rule.pointItems (q : PointRec) : List Rule.Item :=
  let slot := fun (n : Nat) (i : Instrument) =>
    [Rule.named n Rule.instrumentStates i.state, Rule.unsigned (n + 1) 1 i.qualify, Rule.signed (n + 2) 2 i.last,
     Rule.marked (n + 3) i.saturated, Rule.marked (n + 4) i.reversed, Rule.unsigned (n + 5) 1 i.outlier,
     Rule.unsigned (n + 6) 1 i.polarity]
  [Rule.named 1 [.good, .paired, .disputed, .single, .held, .unknown] q.quality, Rule.maybeSigned 2 q.voted] ++
  slot 11 q.s1 ++ slot 21 q.s2 ++ slot 31 q.s3

/-- The items of selector ZONE. -/
def Rule.zoneItems (z : ZoneRec) : List Rule.Item :=
  let slot := fun (n : Nat) (i : Instrument) =>
    [Rule.named n Rule.instrumentStates i.state, Rule.unsigned (n + 1) 1 i.qualify, Rule.signed (n + 2) 2 i.last,
     Rule.marked (n + 3) i.saturated]
  [Rule.named 1 [.normal, .pending, .alarm, .unknown] z.state, Rule.unsigned 2 1 z.confirm,
   Rule.maybe 3 2 (z.opacity.map Int.toNat), Rule.maybeSigned 4 z.temperature] ++
  slot 11 z.o1 ++ slot 21 z.o2 ++ slot 31 z.t1 ++ slot 41 z.t2

/-- The items of selector FAN with a fan number [16]. -/
def Rule.fanItems (p : Part) (f : FanRec) : List Rule.Item :=
  let e := f.e
  let u := Rule.useful p.fm.record e
  let station := p.fm.reach.find? fun r => r.station == e.station
  let known : List KnownKind := [.stopped, .starting, .running, .stopping]
  [Rule.unsigned 1 1 e.num, Rule.unsigned 2 1 e.station, Rule.unsigned 3 1 e.output, Rule.unsigned 4 2 e.chainage,
   Rule.named 5 [.forwardAB, .forwardBA] e.orientation, Rule.marked 6 e.reversible, Rule.unsigned 7 2 e.forward,
   Rule.unsigned 8 2 e.reverse, Rule.unsigned 9 2 e.heatRating, Rule.unsigned 10 1 e.zone, Rule.unsigned 11 1 e.runUp,
   Rule.unsigned 12 1 e.runDown, Rule.unsigned 13 2 e.inhibit, Rule.unsigned 14 1 e.rank,
   Rule.named 21 Rule.fanStates f.state, Rule.runDirection 22 (f.state = .stopping) f.dir,
   Rule.unsigned 23 1 (match f.known with | some k => 1 + known.idxOf k.kind | none => 0),
   Rule.runDirection 24 (f.known.map (·.kind) = some .stopping) (f.known.bind (·.dir)),
   Rule.marked 25 f.reportIso, Rule.marked 26 f.mgrIso, Rule.marked 27 f.excluded, Rule.marked 28 f.heat,
   Rule.marked 29 f.resting, Rule.maybe 30 4 (f.eligibleAt.map BitVec.toNat), Rule.timeLeft p 31 f.restTimer,
   Rule.marked 32 f.accepted, Rule.timeLeft p 33 f.runUp, Rule.timeLeft p 34 f.runDown, Rule.marked 35 f.downOver,
   Rule.marked 36 f.stopReq,
   Rule.maybeNamed 37 [.stopped, .starting, .runFwd, .runRev, .stopping] (f.last.map (·.run)),
   Rule.maybeNamed 38 [.remote, .localMode] (f.last.bind (·.control)), Rule.maybe 39 1 (f.last.bind (·.fault)),
   Rule.maybe 40 4 (f.last.map fun l => l.time.toNat), Rule.unsigned 41 2 u.1, Rule.maybeNamed 42 [.fwd, .rev] u.2,
   Rule.maybeNamed 43 [.reachable, .unreachable] (station.map (·.state))]

/-- The items of selector FAN with object 0; G is absent with no CONTROL table [7]; stations as in the table [35]. -/
def Rule.allocationItems (p : Part) : List Rule.Item :=
  let m := p.fm
  let held := match p.mgmt.control with | some t => m.slots.take t.gate | none => []
  [Rule.unsigned 1 3 m.a, Rule.unsigned 2 3 m.r, Rule.maybe 3 1 (p.mgmt.control.map (·.gate)),
   Rule.unsigned 4 3 m.lastDemand, Rule.timeLeft p 5 m.stopSpacing, Rule.marked 6 m.clearingSent,
   Rule.unsigned 7 1 m.preference.length] ++
  m.preference.map (Rule.unsigned 8 1) ++ [Rule.unsigned 9 1 m.queue.length] ++ m.queue.map (Rule.unsigned 10 1) ++
  held.map (fun s => Rule.unsigned 11 1 (s.getD 0)) ++
  m.reach.map fun r => (20, beBytes 1 r.station ++ (Rule.named 0 [.reachable, .unreachable] r.state).2 ++
    (Rule.maybe 0 4 (r.time.map BitVec.toNat)).2)

/-- The age of a peer's last bulletin, absent while none is held (R185). -/
def Rule.age (p : Part) (q : PeerRec) : Option Nat := q.held.map fun _ => (p.now - q.arrival).toNat

/-- The items of selector PEERS with object 0; peers as in the table [35]. -/
def Rule.peersItems (p : Part) : List Rule.Item :=
  let c := p.coord
  [Rule.unsigned 1 1 c.peers.length, Rule.unsigned 2 1 (c.leadView.getD 0), Rule.marked 3 c.twoLeads,
   Rule.timeLeft p 4 c.timer] ++
  c.peers.map fun q => (10, beBytes 1 q.address ++ (Rule.marked 0 q.held.isSome).2 ++ (Rule.marked 0 q.fresh).2 ++
    (Rule.maybe 0 3 ((Rule.age p q).map fun a => min a 0xFFFFFF)).2)

/-- The items of selector PEERS with an address; a bulletin not held has absent values [16]. -/
def Rule.peerItems (p : Part) (q : PeerRec) : List Rule.Item :=
  let b := q.held
  [Rule.marked 1 b.isSome, Rule.marked 2 q.fresh, Rule.maybe 3 4 (Rule.age p q), Rule.maybe 10 2 (b.map (·.id)),
   Rule.maybeNamed 11 Rule.incidentStates (b.map (·.state)), Rule.maybeNamed 12 Rule.roles (b.map (·.role)),
   Rule.maybeNamed 13 [none, some .ab, some .ba] (b.map (·.direction)), Rule.maybe 14 1 (b.map (·.heat)),
   Rule.maybe 15 2 (b.map (·.fire)), Rule.maybeNamed 16 Rule.modes (b.map (·.mode)),
   Rule.maybeNamed 17 Rule.conditions (b.map (·.condition)), Rule.maybeSigned 18 (b.map (·.velocity)),
   Rule.maybeNamed 19 Rule.qualities (b.map (·.quality)), Rule.maybe 20 3 (b.map (·.available)),
   Rule.maybe 21 3 (b.map (·.running)), Rule.maybe 22 3 (b.map (·.demand)),
   Rule.maybeNamed 23 Rule.healths (b.map (·.health)), Rule.maybe 24 2 (b.map fun x => x.flags.toNat),
   Rule.maybeNamed 25 Rule.outcomes (b.map (·.outcome)), Rule.maybe 26 2 (b.map (·.lastCleared)),
   Rule.maybe 27 1 (b.map fun x => x.shares.length)] ++
  match b with
  | some x => x.shares.map (Rule.shareEntry 28)
  | none => []

/-- The item number of the `k`-th field of an order record, counted from 1, that R170 lists and item 20 does not: above
20 and rising, the steps free values [32]. -/
def Rule.fieldNumber (k : Nat) : Nat := 20 + k + ((List.range k).map fun j => Config.recordFieldGap j % 29).sum

/-- The items of selector ORDERS with object 0: a tag entry's tag and state share a byte [38], stations and records stand
in the orders of [35], a record's entry has the four values of item 20, and the other fields that R170 lists follow, field
by field, under numbers left open [32]. A successor of none is an absent value [16]. -/
def Rule.ordersItems (p : Part) : List Rule.Item :=
  let o := p.ord
  let used := o.tags.filter fun g => g.state == .busy || g.state == .quarantine
  let stations := p.disp.stations.filter fun r => r.role == .fanStation
  let field := fun (k : Nat) (item : Nat → OrderRec → Rule.Item) => o.records.map (item (Rule.fieldNumber k))
  [Rule.unsigned 1 1 used.length] ++ o.backlog.map (Rule.unsigned 2 1) ++
  (stations.flatMap fun r => (o.tags.filter fun g => g.station == r.address).map fun g =>
    (10, beBytes 1 g.station ++ [Config.tagByte g.tag ([TagState.free, .busy, .quarantine].idxOf g.state)] ++
      (Rule.timeLeft p 0 g.quarantine).2)) ++
  (o.records.map fun r => (20, beBytes 1 r.fan ++ beBytes 1 (1 + Rule.orderKinds.idxOf r.kind) ++
    beBytes 1 (Rule.orderStates.idxOf r.state) ++ beBytes 1 (r.tag.getD 0xFF))) ++
  field 1 (fun n r => Rule.maybe n 1 (r.successor.map fun k => 1 + Rule.orderKinds.idxOf k)) ++
  field 2 (fun n r => Rule.marked n r.busySeen) ++ field 3 (fun n r => Rule.marked n r.reissued) ++
  field 4 (fun n r => Rule.unsigned n 1 r.queryTimeouts) ++ field 5 (fun n r => Rule.marked n r.windowOpen) ++
  field 6 (fun n r => Rule.timeLeft p n r.response) ++ field 7 (fun n r => Rule.timeLeft p n r.retry) ++
  field 8 (fun n r => Rule.timeLeft p n r.window)

/-- The items of selector ORDERS with a fan number; a successor of none is an absent value [16]. -/
def Rule.orderItems (p : Part) (r : OrderRec) : List Rule.Item :=
  [Rule.unsigned 1 1 (1 + Rule.orderKinds.idxOf r.kind), Rule.named 2 Rule.orderStates r.state, Rule.maybe 3 1 r.tag,
   Rule.maybe 4 1 (r.successor.map fun k => 1 + Rule.orderKinds.idxOf k), Rule.marked 5 r.busySeen,
   Rule.marked 6 r.reissued, Rule.unsigned 7 1 r.queryTimeouts, Rule.marked 8 r.windowOpen,
   Rule.timeLeft p 9 r.response, Rule.timeLeft p 10 r.retry, Rule.timeLeft p 11 r.window]

/-- The items of selector FAULT. -/
def Rule.faultItems (p : Part) : List Rule.Item :=
  let c := p.fc
  let m := p.mgmt
  let kinds : List FaultKind :=
    [.checkError, .forwardOverflow, .sequenceGap, .instrumentStale, .pointDisputed, .orderRetried, .orderRecovered,
     .fanStoppedUnasked, .twoLeads, .portLost, .instrumentRejected, .pointLost, .velocityLost, .orderFailed,
     .stationLost, .fanFailed, .tableInvalid]
  let classes : List ObjectClass :=
    [.none, .port, .station, .velocityInstrument, .opacityInstrument, .temperatureInstrument, .point, .fan, .table]
  let slot := fun (n : Nat) (x : StoreSlot) => Rule.named n [SlotState.valid, .invalid, .writing] x.state
  [Rule.marked 1 c.record.isNone] ++
  (match c.record with
   | some r =>
       [Rule.named 2 [FaultClass.soft, .hard] r.cls, Rule.unsigned 3 1 (1 + kinds.idxOf r.kind),
        Rule.named 4 classes r.object.cls, Rule.unsigned 5 1 r.object.num, Rule.unsigned 6 2 r.incidentId,
        Rule.unsigned 7 4 r.time.toNat, Rule.marked 8 r.secondHard]
   | none => []) ++
  Rule.counters 10 c.counts ++
  [Rule.unsigned 30 2 c.flags.toNat, Rule.named 31 Rule.healths c.health, Rule.unsigned 32 1 c.causes.toNat,
   Rule.named 40 [.empty, .loading, .broken, .verified, .rejected] m.buffer.state,
   Rule.maybe 41 1 (m.buffer.kind.map fun k => 1 + Rule.tableKinds.idxOf k), Rule.unsigned 42 2 m.buffer.count,
   Rule.maybe 43 2 m.buffer.next, slot 44 m.slotStation, slot 45 m.slotSection, slot 46 m.slotFan,
   slot 47 m.slotControl, Rule.maybe 48 2 (m.stations.map (·.revision)), Rule.maybe 49 2 (m.sections.map (·.revision)),
   Rule.maybe 50 2 (m.fans.map (·.revision)), Rule.maybe 51 2 (m.control.map (·.revision))]

/-- The items of selector COUNTERS with object 0. -/
def Rule.counterItems (p : Part) : List Rule.Item :=
  let port := fun (c : PortCounters) =>
    [c.received, c.checkFailures, c.badStarts, c.runaways, c.expired, c.lineBreaks, c.overflows, c.forwarded, c.ownSent,
     c.holdFailures]
  let l := p.line
  let d := p.disp.counters
  let o := p.ord.counters
  Rule.counters 1 (port l.portA.counters) ++ Rule.counters 11 (port l.portB.counters) ++
  Rule.counters 21 [l.unknownKinds, l.malformed, l.ownUnsent, l.droppedReplies] ++
  Rule.counters 31 [d.taken, d.delivered, d.badSource, d.roleMismatch, d.duplicates, d.old, d.gap, d.badTag,
    d.replaced] ++
  Rule.counters 41 [p.meas.unmatched, p.meas.mismatches, p.meas.ignored] ++
  Rule.counters 46 [p.fm.unmatched, p.fm.unexpected] ++
  Rule.counters 51 [o.issued, o.accepted, o.busy, o.recovered, o.refused, o.failed, o.withdrawn, o.late, o.unexpected,
    o.mismatched] ++
  Rule.counters 61 [p.coord.built, p.coord.taken, p.coord.stale]

/-- The items of selector COUNTERS with a record number. -/
def Rule.recordItems (r : StationRec) : List Rule.Item :=
  [Rule.unsigned 1 1 r.address, Rule.named 2 [.sensor, .fanStation, .controlCentre, .peer, .manager] r.role] ++
  Rule.counters 3 [r.delivered, r.duplicates, r.gaps]

/-- The items that a selector and an object number name, none where the request is refused (R200). -/
def Rule.statusItems (p : Part) (selector object : Nat) : Option (List Rule.Item) :=
  match selector, object with
  | 1, 0 => some (Rule.incidentItems p)
  | 2, 0 => some (Rule.sectionItems p)
  | 3, n => (p.meas.points.find? fun q => q.num == n).map Rule.pointItems
  | 4, n => (p.meas.zones.find? fun z => z.num == n).map Rule.zoneItems
  | 5, 0 => some (Rule.allocationItems p)
  | 5, n => (p.fm.fans.find? fun f => f.e.num == n).map (Rule.fanItems p)
  | 6, 0 => some (Rule.peersItems p)
  | 6, n => (p.coord.peers.find? fun q => q.address == n).map (Rule.peerItems p)
  | 7, 0 => some (Rule.ordersItems p)
  | 7, n =>
      if n ≤ 48 then
        some (match p.ord.records.find? fun r => r.fan == n with | some r => Rule.orderItems p r | none => [])
      else none
  | 8, 0 => some (Rule.faultItems p)
  | 9, 0 => some (Rule.counterItems p)
  | 9, n => (p.disp.stations[n - 1]?).map Rule.recordItems
  | _, _ => none

/-! ### What LOAD_END checks (R201, R204 to R206), for the statements -/

/-- The number that `n` bytes spell from an offset on, most significant byte first (R201). -/
def Rule.number (e : List Byte) (offset n : Nat) : Nat :=
  ((e.drop offset).take n).foldl (fun v b => 256 * v + b.toNat) 0

/-- The number and the size of the entries of a kind (R201). -/
def Rule.entries : TableKind → Nat × Nat
  | .stations => (96, 4)
  | .sections => (33, 20)
  | .fans => (48, 20)
  | .control => (1, 64)

/-- The bytes of entry `i` of an image, counted from 0 (R201). -/
def Rule.entry (k : TableKind) (image : List Byte) (i : Nat) : List Byte :=
  (image.drop (16 + (Rule.entries k).2 * i)).take (Rule.entries k).2

/-- An entry that is used: some byte of it is not 0xFF (R201). -/
def Rule.used (k : TableKind) (image : List Byte) (i : Nat) : Bool := (Rule.entry k image i).any fun b => b != 0xFF

/-- The bytes that the fields of entry `i` take (R201). -/
def Rule.fields (k : TableKind) (i : Nat) : Nat :=
  match k with
  | .stations => 3
  | .sections => if i = 0 then 8 else if i ≤ 16 then 6 else 17
  | .fans => 19
  | .control => 55

/-- The check IDENTITY of R204 is passed. -/
def Rule.identified (k : TableKind) (image : List Byte) : Prop :=
  image.take 6 = [0x50, 0x53, 0x32, 0x31, 0x34, 0x30] ∧
  Rule.number image 6 1 = (match k with | .stations => 1 | .sections => 2 | .fans => 3 | .control => 4) ∧
  Rule.number image 7 1 = 1

/-- The number of used entries among the first `n` of an image. -/
def Rule.usedCount (k : TableKind) (image : List Byte) (n : Nat) : Nat :=
  ((List.range n).filter (Rule.used k image)).length

/-- The check FILL of R204 is passed. -/
def Rule.filled (k : TableKind) (image : List Byte) : Prop :=
  let total := (Rule.entries k).1
  (∀ b ∈ (image.drop 11).take 5, b = 0xFF) ∧
  (∀ i, i < total → Rule.used k image i → ∀ b ∈ (Rule.entry k image i).drop (Rule.fields k i), b = 0xFF) ∧
  Rule.number image 10 1 = Rule.usedCount k image total ∧
  (k = .stations ∨ k = .fans → ∀ j, j < total → ∀ i, i < j → Rule.used k image j → Rule.used k image i)

/-- A (station, channel) pair that is empty or within its ranges (R205). -/
def Rule.pairInRange (e : List Byte) (offset : Nat) : Prop :=
  let station := Rule.number e offset 1
  let channel := Rule.number e (offset + 1) 1
  (station = 0xFF ∧ channel = 0xFF) ∨ (1 ≤ station ∧ station ≤ 239 ∧ channel ≤ 15)

/-- The check RANGE is passed by a STATION image (R205). -/
def Rule.stationsInRange (image : List Byte) : Prop :=
  let role := fun (i : Nat) => Rule.number (Rule.entry .stations image i) 1 1
  (∀ i, i < 96 → Rule.used .stations image i →
    let e := Rule.entry .stations image i
    let tags := Rule.number e 2 1
    (1 ≤ Rule.number e 0 1 ∧ Rule.number e 0 1 ≤ 239) ∧ (1 ≤ role i ∧ role i ≤ 5) ∧
    (role i = 2 → 1 ≤ tags ∧ tags ≤ 4) ∧ (role i ≠ 2 → tags = 0)) ∧
  ((List.range 96).filter fun i => role i == 4).length ≤ 8

/-- The check RANGE is passed by a SECTION image (R205). -/
def Rule.sectionsInRange (image : List Byte) : Prop :=
  let e := Rule.entry .sections image
  let n := fun (i offset w : Nat) => Rule.number (e i) offset w
  Rule.used .sections image 0 ∧ (n 0 0 2 < n 0 2 2 ∧ n 0 2 2 ≤ 20000) ∧ (10 ≤ n 0 4 1 ∧ n 0 4 1 ≤ 200) ∧
  (20 ≤ n 0 5 1 ∧ n 0 5 1 ≤ 200) ∧ (1 ≤ n 0 6 1 ∧ n 0 6 1 ≤ 30) ∧ (5 ≤ n 0 7 1 ∧ n 0 7 1 ≤ 60) ∧
  (∀ i, i ≤ 16 → 1 ≤ i → Rule.used .sections image i → ∀ o ∈ [0, 2, 4], Rule.pairInRange (e i) o) ∧
  (∀ i, i ≤ 32 → 17 ≤ i → Rule.used .sections image i →
    (n i 0 2 < n i 2 2 ∧ n i 2 2 ≤ 20000) ∧ (1 ≤ n i 4 1 ∧ n i 4 1 ≤ 10) ∧ (1 ≤ n i 5 2 ∧ n i 5 2 ≤ 30000) ∧
    n i 7 2 ≤ 12000 ∧ ∀ o ∈ [9, 11, 13, 15], Rule.pairInRange (e i) o)

/-- The check RANGE is passed by a FAN image (R205, R107). -/
def Rule.fansInRange (image : List Byte) : Prop :=
  ∀ i, i < 48 → Rule.used .fans image i →
    let n := Rule.number (Rule.entry .fans image i)
    (1 ≤ n 0 1 ∧ n 0 1 ≤ 48) ∧ (1 ≤ n 1 1 ∧ n 1 1 ≤ 239) ∧ (1 ≤ n 2 1 ∧ n 2 1 ≤ 2) ∧ n 3 2 ≤ 20000 ∧
    (n 5 1 = 1 ∨ n 5 1 = 2) ∧ (n 6 1 = 0 ∨ n 6 1 = 1) ∧ (100 ≤ n 7 2 ∧ n 7 2 ≤ 4000) ∧ n 9 2 ≤ 4000 ∧
    (n 6 1 = 0 → n 9 2 = 0) ∧ (1000 ≤ n 11 2 ∧ n 11 2 ≤ 6000) ∧ (1 ≤ n 13 1 ∧ n 13 1 ≤ 16) ∧
    (2 ≤ n 14 1 ∧ n 14 1 ≤ 60) ∧ (5 ≤ n 15 1 ∧ n 15 1 ≤ 180) ∧ n 16 2 ≤ 600 ∧ (1 ≤ n 18 1 ∧ n 18 1 ≤ 255)

/-- The check RANGE is passed by a CONTROL image (R205). -/
def Rule.controlInRange (image : List Byte) : Prop :=
  let n := Rule.number (Rule.entry .control image 0)
  Rule.used .control image 0 ∧ (∀ o ∈ [0, 2, 4, 6, 8, 10], 100 ≤ n o 2 ∧ n o 2 ≤ 600) ∧
  (∀ o ∈ [0, 2, 4, 6, 8], n o 2 ≤ n (o + 2) 2) ∧ n 12 1 ≤ 200 ∧ (200 ≤ n 13 2 ∧ n 13 2 ≤ 1000) ∧ n 15 2 ≤ 4095 ∧
  n 17 2 ≤ 4095 ∧ (1 ≤ n 19 1 ∧ n 19 1 ≤ 5) ∧ (10 ≤ n 20 1 ∧ n 20 1 ≤ 120) ∧
  (∀ o ∈ [21, 24, 27, 30, 33, 36], n o 3 ≤ 1800000) ∧ (5 ≤ n 39 1 ∧ n 39 1 ≤ 120) ∧ (2 ≤ n 40 1 ∧ n 40 1 ≤ 10) ∧
  n 41 2 ≤ 500 ∧ (1 ≤ n 43 1 ∧ n 43 1 ≤ 4) ∧ n 44 2 ≤ 4000 ∧ (1 ≤ n 46 1 ∧ n 46 1 ≤ 10) ∧
  (100 ≤ n 47 2 ∧ n 47 2 ≤ 2000) ∧ (1 ≤ n 49 1 ∧ n 49 1 ≤ 10) ∧ (1 ≤ n 50 1 ∧ n 50 1 ≤ 6) ∧
  (n 51 1 = 1 ∨ n 51 1 = 2) ∧ n 52 2 ≤ 600 ∧ (2 ≤ n 54 1 ∧ n 54 1 ≤ 30)

/-- The check RANGE of R204 is passed. -/
def Rule.inRange (k : TableKind) (image : List Byte) : Prop :=
  match k with
  | .stations => Rule.stationsInRange image
  | .sections => Rule.sectionsInRange image
  | .fans => Rule.fansInRange image
  | .control => Rule.controlInRange image

/-- The check CONFLICT of R204 is passed by an image whose fields are in range, `node` being the part's own (R206). -/
def Rule.apart (k : TableKind) (node : Nat) (image : List Byte) : Prop :=
  let n := fun (i offset w : Nat) => Rule.number (Rule.entry k image i) offset w
  let used := Rule.used k image
  match k with
  | .stations =>
      (∀ j, j < 96 → ∀ i, i < j → used i → used j → n i 0 1 ≠ n j 0 1) ∧ ∀ i, i < 96 → used i → n i 0 1 ≠ node
  | .sections =>
      let slots : Nat → List Nat := fun i => if i ≤ 16 then [0, 2, 4] else [9, 11, 13, 15]
      (∀ j, j ≤ 32 → ∀ i, i ≤ j → 1 ≤ i → used i → used j → ∀ o ∈ slots i, ∀ x ∈ slots j, (i, o) ≠ (j, x) →
        n i o 2 ≠ 0xFFFF → n i o 2 ≠ n j x 2) ∧
      ∀ j, j ≤ 32 → ∀ i, i < j → 17 ≤ i → used i → used j → ¬ max (n i 0 2) (n j 0 2) < min (n i 2 2) (n j 2 2)
  | .fans =>
      ∀ j, j < 48 → ∀ i, i < j → used i → used j → (n i 1 1, n i 2 1) ≠ (n j 1 1, n j 2 1) ∧ n i 0 1 ≠ n j 0 1
  | .control => True

/-! ### Invariants -/

/-- A port's bounded registers hold values of their ranges, the run of check failures being below 8 while the port is
UP (R1, R3, R9, R14). -/
def PortBounded (q : Port) : Prop :=
  q.fillCount ≤ 16 ∧ q.checkRun ≤ 8 ∧ (q.state = .up → q.checkRun ≤ 7) ∧ q.forward.length ≤ 8 ∧ q.runCount ≤ 4

/-- A port that is not UP holds nothing to forward and sends nothing but fill (R1, R4, R16). -/
def PortQuiet (q : Port) : Prop := q.state ≠ .up → q.forward = [] ∧ q.sending = none

/-- Both ports are within their bounds, and quiet unless they are UP. -/
def LineBounded (s : State) : Prop :=
  PortBounded s.part.line.portA ∧ PortBounded s.part.line.portB ∧
  PortQuiet s.part.line.portA ∧ PortQuiet s.part.line.portB

/-- The own queue stands in queuing order, every entry waits for a port, the ports it waits for are UP, and at most
4 entries are MGMT REPLY (R4, R12, R13). -/
def OwnQueueOrdered (s : State) : Prop :=
  s.part.line.own.Pairwise (fun e f => e.place < f.place) ∧
  (∀ e ∈ s.part.line.own, e.place < s.part.line.nextPlace ∧ (e.onA = true ∨ e.onB = true) ∧
    (e.onA = true → s.part.line.portA.state = .up) ∧ (e.onB = true → s.part.line.portB.state = .up)) ∧
  (s.part.line.own.filter fun e => e.cls == .mgmtReply).length ≤ 4

/-- At most 16 order slots are in use (R154). -/
def PoolBounded (s : State) : Prop := poolUsed s.part.ord.tags ≤ 16

/-- The states that hold an incident id (R61). -/
def Holding (x : IncidentState) : Prop := x = .declared ∨ x = .control ∨ x = .hold ∨ x = .clearing

/-- The incident record is whole: the id is non-zero exactly in the states that hold one, and what is present with an
id is present with it and absent without it (R61). -/
def RecordWhole (s : State) : Prop :=
  let r := s.part.reg.record
  (r.id ≠ 0 ↔ Holding r.state) ∧
  (r.id ≠ 0 → r.fire.isSome ∧ r.dir.isSome ∧ r.dirSource.isSome ∧ r.heat.isSome) ∧
  (r.id = 0 → r.fire = none ∧ r.head = none ∧ r.tail = none ∧ r.dir = none ∧ r.dirSource = none ∧ r.heat = none ∧
    r.role = .none ∧ r.controlled = false)

/-- The detection list names at most 16 zones, each once (R69). -/
def DetectionBounded (s : State) : Prop := s.part.reg.detection.length ≤ 16 ∧ s.part.reg.detection.Nodup

/-- In IDLE, SHARE and SHARE_HELD the velocity condition is VELOCITY_OK with its timer unarmed, and in IDLE nothing is
armed and no share is listed (R87, R91, R105). -/
def ControllerAtRest (s : State) : Prop :=
  let c := s.part.ctl
  (c.mode = .idle ∨ c.mode = .share ∨ c.mode = .shareHeld → c.condition = .ok ∧ c.velocityHold = none) ∧
  (c.mode = .idle → c.period = none ∧ c.leadLoss = none ∧ c.shares = [] ∧ c.aSum = 0)

/-- The available and the running thrust are the sums that the fan records give (R111). -/
def ThrustFormed (s : State) : Prop :=
  s.part.fm.a = Rule.available s.part.fm ∧ s.part.fm.r = Rule.running s.part.fm

/-- The start queue is empty unless the state held is CONTROL, and every fan in it is eligible (R141). -/
def QueueEligible (s : State) : Prop :=
  (s.part.fm.record.state ≠ .control → s.part.fm.queue = []) ∧ ∀ n ∈ s.part.fm.queue, eligibleNum s.part.fm n = true

/-- The lead view is the lowest address among the fresh peers that claim lead for the held id (R179, R180). -/
def LeadViewJudged (s : State) : Prop :=
  s.part.coord.leadView = leadViewFor s.part.coord.heldId s.part.coord.peers

/-- The points and the zones are numbered 1 to 16, each number once (R43, R51). -/
def InstrumentsNumbered (s : State) : Prop :=
  s.part.meas.points.map (·.num) = sixteen ∧ s.part.meas.zones.map (·.num) = sixteen

/-- No two fan records have one number, the preference order names no fan twice, and neither does a FAN
table that is active, stored, being written or verified name a number twice (R107, R134, R206); the gate has 4 slots,
of which G are used (R133). -/
def FansDistinct (s : State) : Prop :=
  let whole : Option Table → Prop := fun t => ∀ x, t = some (.fans x) → (x.entries.map (·.num)).Nodup
  (s.part.fm.fans.map (·.e.num)).Nodup ∧ s.part.fm.preference.Nodup ∧ s.part.fm.slots.length = 4 ∧
  (∀ x, s.part.mgmt.fans = some x → (x.entries.map (·.num)).Nodup) ∧
  (s.part.mgmt.slotFan.state = .valid → whole (parseTable .fans s.part.mgmt.slotFan.image)) ∧
  (∀ w, s.part.mgmt.write = some w → whole (parseTable w.kind w.image)) ∧
  (∀ k, s.part.mgmt.buffer.state = .verified → s.part.mgmt.buffer.kind = some k →
    whole (parseTable k s.part.mgmt.buffer.bytes))

/-- Every fan number lies within 1 to 48 (R107). -/
def FansNumbered (s : State) : Prop :=
  (∀ f ∈ s.part.fm.fans, 1 ≤ f.e.num ∧ f.e.num ≤ 48) ∧
  ∀ x, s.part.mgmt.fans = some x → ∀ e ∈ x.entries, 1 ≤ e.num ∧ e.num ≤ 48

/-- The Fan Manager keeps a temperature for each zone 1 to 16, once (R113). -/
def ZoneTempsListed (s : State) : Prop := s.part.fm.zoneTemps.map (·.zone) = sixteen

/-- No two station records have one address, no two peer records have, and neither does a STATION table that is active,
stored, being written or verified name an address twice (R23, R176, R206); a station's tags are numbered, each number
once (R154). -/
def AddressesDistinct (s : State) : Prop :=
  let whole : Option Table → Prop := fun t => ∀ x, t = some (.stations x) → (x.entries.map (·.address)).Nodup
  (s.part.disp.stations.map (·.address)).Nodup ∧ (s.part.coord.peers.map (·.address)).Nodup ∧
  (s.part.ord.tags.map fun g => (g.station, g.tag)).Nodup ∧
  (∀ x, s.part.mgmt.stations = some x → (x.entries.map (·.address)).Nodup) ∧
  (s.part.mgmt.slotStation.state = .valid → whole (parseTable .stations s.part.mgmt.slotStation.image)) ∧
  (∀ w, s.part.mgmt.write = some w → whole (parseTable w.kind w.image)) ∧
  (∀ k, s.part.mgmt.buffer.state = .verified → s.part.mgmt.buffer.kind = some k →
    whole (parseTable k s.part.mgmt.buffer.bytes))

/-- The store-write hold stands while a store write runs, and an entry is pending only under it (R76, R208). -/
def HoldWhileWriting (s : State) : Prop :=
  s.part.reg.storeHold = s.part.mgmt.write.isSome ∧ (s.part.reg.entry ≠ none → s.part.reg.storeHold = true)

/-- While a store write runs the incident is neither in CONTROL nor in HOLD: the write begins in QUIET, and the store-write
hold keeps the part from leaving DECLARED for either (R76, R208). -/
def WriteOutsideControl (s : State) : Prop :=
  s.part.mgmt.write ≠ none → s.part.reg.record.state ≠ .control ∧ s.part.reg.record.state ≠ .hold

end Sys2Proof.Machine
end

