-- ==== Sys2Proof/Certificates/Slice0/Obligations.lean ====
section
/-! DEFINITION. The statements about the machine, from the rules of spec/. A statement of the form
`exec c s = nextPart s p` says the whole next state, which it answers for every such state: what `p` does not name is
as before, and the health is formed afresh (R193). -/

open Sys2Proof Sys2Proof.Machine

/-! ### Steps -/

/-- A step with a command at the front of the queue is that command on the state with the queue's rest. -/
def Obligations.StepRunsFrontCommand : Prop :=
  ∀ (c : Instr) (rest : List Instr) (s : State), s.pending = c :: rest → step s = exec c { s with pending := rest }

/-- The model's choice [3]: on an empty queue a step takes one of the expiries that are due, an end-of-clearing report
on its way counting as one [40], which one being settled by the free value, or lets one millisecond pass. -/
def Obligations.EmptyQueueStep : Prop :=
  ∀ s : State, s.pending = [] →
    step s = match dueExpiries s.part with
      | [] => .next { s with part := { s.part with now := s.part.now + 1 } }
      | [c] => exec c s
      | c :: cs =>
          exec ((c :: cs).getD (Config.openOrder s.part.choice % (cs.length + 1)) c)
            { s with part := { s.part with choice := s.part.choice + 1 } }

/-! ### Fault Capture (10) -/

/-- R193: every command answers a next state and leaves the waiting commands as they are; after it the health is the
first grade whose condition holds, and the cause set marks the seven conditions. -/
def Obligations.HealthAfterEveryCommand : Prop :=
  ∀ (c : Instr) (s : State), ∃ t, exec c s = .next t ∧ t.pending = s.pending ∧
    let p := t.part
    let noTable : Prop :=
      p.mgmt.stations = none ∨ p.mgmt.sections = none ∨ p.mgmt.fans = none ∨ p.mgmt.control = none
    let noPort : Prop := p.line.portA.state ≠ .up ∧ p.line.portB.state ≠ .up
    let openLoop : Prop := p.reg.record.state = .control ∧ p.ctl.condition = .openLoop
    let hard : Prop := ∃ r, p.fc.record = some r ∧ r.cls = .hard
    let aPort : Prop := p.line.portA.state ≠ .up ∨ p.line.portB.state ≠ .up
    let quality : Prop := p.meas.quality ≠ .good
    let fan : Prop := ∃ f ∈ p.fm.fans, f.state = .failed ∨ f.state = .lost
    (p.fc.health = .impaired ↔ noTable ∨ noPort ∨ openLoop) ∧
    (p.fc.health = .normal ↔ ¬ (noTable ∨ noPort ∨ openLoop ∨ hard ∨ aPort ∨ quality ∨ fan)) ∧
    (p.fc.causes.getLsbD 7 = true ↔ noTable) ∧ (p.fc.causes.getLsbD 6 = true ↔ noPort) ∧
    (p.fc.causes.getLsbD 5 = true ↔ openLoop) ∧ (p.fc.causes.getLsbD 4 = true ↔ hard) ∧
    (p.fc.causes.getLsbD 3 = true ↔ aPort) ∧ (p.fc.causes.getLsbD 2 = true ↔ quality) ∧
    (p.fc.causes.getLsbD 1 = true ↔ fan) ∧ p.fc.causes.getLsbD 0 = false

/-- R188, R189: a report's counter rises by one, saturating, and the report is judged against the record. -/
def Obligations.FaultReportJudged : Prop :=
  ∀ (k : FaultKind) (o : FaultObject) (s : State), Quiescent s →
    let kinds : List FaultKind :=
      [.checkError, .forwardOverflow, .sequenceGap, .instrumentStale, .pointDisputed, .orderRetried, .orderRecovered,
       .fanStoppedUnasked, .twoLeads, .portLost, .instrumentRejected, .pointLost, .velocityLost, .orderFailed,
       .stationLost, .fanFailed, .tableInvalid]
    let cls : FaultClass := if kinds.idxOf k < 9 then .soft else .hard
    let new : FaultRecord :=
      { cls := cls, kind := k, object := o, incidentId := s.part.reg.record.id, time := s.part.now,
        secondHard := false }
    let counts := s.part.fc.counts.modify (kinds.idxOf k) fun c => satAdd c 1
    let becomes := fun (record : Option FaultRecord) (flags : BitVec 16) =>
      exec (.faultReport k o) s = nextPart s { s.part with
        fc := { s.part.fc with counts := counts, record := record, flags := flags } }
    match s.part.fc.record with
    | none => becomes (some new) (s.part.fc.flags ||| 0x0002)
    | some h =>
        match h.cls, cls with
        | .soft, .hard => becomes (some new) (s.part.fc.flags ||| 0x0002)
        | .hard, .hard => becomes (some { h with secondHard := true }) (s.part.fc.flags ||| 0x0001)
        | _, .soft => becomes (some h) s.part.fc.flags

/-- R192: an event sets its flag and nothing else, ACK_EVENTS clears the flags it names and keeps the others, and a
fault report sets no flag but FAULT_CAPTURED or SECOND_FAULT. -/
def Obligations.EventFlags : Prop :=
  ∀ s : State, Quiescent s →
    (∀ f : EventFlag,
      let order : List EventFlag :=
        [.lineChange, .polarity, .instrumentOut, .pointLost, .velocityLost, .zoneAlarm, .incidentChange, .noticeRefused,
         .fanFailed, .fanLost, .orderFailed, .directionChanged, .leadLost, .tableEvent, .faultCaptured, .secondFault]
      exec (.eventRaised f) s = nextPart s { s.part with fc := { s.part.fc with
        flags := s.part.fc.flags ||| ((0x8000 : BitVec 16) >>> order.idxOf f) } }) ∧
    (∀ (src f1 f0 : Byte) (num : BitVec 16),
      ∃ t, exec (.ackEvents ⟨src, num, [f1, f0]⟩) s = .next t ∧
        exec (.queueOwnTelegram (.mgmtReply src (beBytes 2 num.toNat ++ [6, 0, 0])))
          { s with part := { s.part with fc := { s.part.fc with flags := s.part.fc.flags &&& ~~~(f1 ++ f0) } } } =
          .next t) ∧
    (∀ (k : FaultKind) (o : FaultObject), ∃ t, exec (.faultReport k o) s = .next t ∧
      (t.part.fc.flags = s.part.fc.flags ∨ t.part.fc.flags = s.part.fc.flags ||| 0x0002 ∨
        t.part.fc.flags = s.part.fc.flags ||| 0x0001))

/-- R191: CLEAR_FAULT empties the record and nothing else, whatever it holds and in every incident state, and is
answered; a report taken after it is captured, one taken before it survives only in its counter. -/
def Obligations.ClearFaultEmptiesRecord : Prop :=
  ∀ (src : Byte) (num : BitVec 16) (s : State), Quiescent s →
    (∃ t, exec (.clearFault ⟨src, num, []⟩) s = .next t ∧
      exec (.queueOwnTelegram (.mgmtReply src (beBytes 2 num.toNat ++ [7, 0, 0])))
        { s with part := { s.part with fc := { s.part.fc with record := none } } } = .next t) ∧
    ∀ (k : FaultKind) (o : FaultObject),
      (∃ t u r, exec (.clearFault ⟨src, num, []⟩) s = .next t ∧ t.part.fc.record = none ∧
        t.part.fc.counts = s.part.fc.counts ∧ t.part.fc.flags = s.part.fc.flags ∧
        exec (.faultReport k o) t = .next u ∧ u.part.fc.record = some r ∧ r.kind = k ∧ r.object = o ∧
        u.part.fc.flags = s.part.fc.flags ||| 0x0002) ∧
      (∃ t u, exec (.faultReport k o) s = .next t ∧ exec (.clearFault ⟨src, num, []⟩) t = .next u ∧
        u.part.fc.record = none ∧ u.part.fc.counts = t.part.fc.counts)

/-! ### The ventilation line (01) -/

/-- R1: signal energy takes a port from DOWN to HUNT with fill count 0, and is otherwise only the pin; loss of
signal takes a port that is not UP to DOWN. R3, R4: a port leaves UP on loss of signal, on a failed hold window, and
on the 8th check failure in a row, each with the effects of R4, a forwarded telegram that is cut off being counted once
[9]. The hold window carries its fill words [8]. -/
def Obligations.SignalAndLeavingUp : Prop :=
  (∀ (i : PortId) (s : State), Quiescent s →
     exec (.signalEnergyDetected i) s = nextPart s (s.part.onPort i fun q =>
       if q.state = .down then
         { q with signal := true, state := .hunt, fillCount := 0, qualTimer := none, window := none }
       else { q with signal := true }) ∧
     ((s.part.port i).state ≠ .up →
       exec (.signalLost i) s = nextPart s (s.part.onPort i fun q =>
         if q.state = .down then { q with signal := false }
         else { q with signal := false, state := .down, fillCount := 0, qualTimer := none, window := none }))) ∧
  (∀ (i : PortId) (s : State), Quiescent s → (s.part.port i).state = .up →
     exec (.signalLost i) s = nextPart s (Rule.leavesUp i .down (s.part.onPort i fun q => { q with signal := false })) ∧
     (∀ fills < 8, exec (.holdWindowClose i fills) s = nextPart s (Rule.leavesUp i .hunt (s.part.onPort i fun q =>
         { q with counters := { q.counters with holdFailures := bump q.counters.holdFailures } }))) ∧
     (∀ bytes : List Byte, bytes.length ≤ 248 → parseTelegram bytes = none → 7 ≤ (s.part.port i).checkRun →
       exec (.telegramReceived i bytes) s = nextPart s (Rule.leavesUp i .hunt
         (report .checkError (portObject i) (s.part.onPort i fun q =>
           { q with checkRun := q.checkRun + 1,
                    counters := { q.counters with checkFailures := bump q.counters.checkFailures } })))))

/-- R2: the 16th fill word begins QUALIFY with its timer of 200 ms and its window of 5 ms; each of the four errors
returns to HUNT, is counted and not reported, a telegram of more than 248 bytes being a runaway [8]; the timer's expiry
enters UP with LINE_CHANGE, and with no timer armed does nothing [4]. -/
def Obligations.Qualification : Prop :=
  ∀ (i : PortId) (s : State), Quiescent s →
    (exec (.huntFillCountReached i) s = nextPart s (s.part.onPort i fun q =>
      if q.state = .hunt then
        { q with state := .qualify, fillCount := 16, qualTimer := some (s.part.now + 200),
                 window := some (s.part.now + 5) }
      else q)) ∧
    ((s.part.port i).state = .qualify →
      let failed := fun (c : Instr) (count : PortCounters → PortCounters) =>
        exec c s = nextPart s (s.part.onPort i fun q =>
          { q with state := .hunt, fillCount := 0, qualTimer := none, window := none, counters := count q.counters })
      failed (.badStart i) (fun k => { k with badStarts := bump k.badStarts }) ∧
      failed (.runaway i) (fun k => { k with runaways := bump k.runaways }) ∧
      (∀ bytes : List Byte, 248 < bytes.length →
        failed (.telegramReceived i bytes) (fun k => { k with runaways := bump k.runaways })) ∧
      (∀ bytes : List Byte, bytes.length ≤ 248 → parseTelegram bytes = none →
        failed (.telegramReceived i bytes) (fun k => { k with checkFailures := bump k.checkFailures })) ∧
      (∀ fills < 8, failed (.holdWindowClose i fills) (fun k => { k with holdFailures := bump k.holdFailures }))) ∧
    exec (.qualificationTimerExpiry i) s = nextPart s
      (if (s.part.port i).state = .qualify ∧ (s.part.port i).qualTimer ≠ none then
        raise .lineChange (s.part.onPort i fun q =>
          { q with state := .up, qualTimer := none, checkRun := 0, runCount := 0 })
      else s.part)

/-- R3, R5: a window with 8 fill words or more begins the next one in QUALIFY and in UP; in UP a bad start and a
runaway are counted and have no other effect; a port in DOWN or HUNT closes no window and counts no error. R3, R6:
in UP a telegram that fails its check is counted and reported, and adds to the run of failures (below the 8th); one
that passes in QUALIFY is counted and discarded; in HUNT a telegram is only symbols, in DOWN nothing. In HUNT a
telegram, a bad start and a runaway set the fill count to 0 [8]. -/
def Obligations.SymbolsAndChecks : Prop :=
  (∀ (i : PortId) (s : State), Quiescent s →
     (∀ fills, 8 ≤ fills → exec (.holdWindowClose i fills) s = nextPart s (s.part.onPort i fun q =>
       if q.state = .qualify ∨ q.state = .up then { q with window := some (s.part.now + 5) } else q)) ∧
     (∀ fills, (s.part.port i).state = .down ∨ (s.part.port i).state = .hunt →
       exec (.holdWindowClose i fills) s = nextPart s s.part) ∧
     ((s.part.port i).state ≠ .qualify →
       exec (.badStart i) s = nextPart s (s.part.onPort i fun q =>
         if q.state = .up then { q with counters := { q.counters with badStarts := bump q.counters.badStarts } }
         else if q.state = .hunt then { q with fillCount := 0 } else q) ∧
       exec (.runaway i) s = nextPart s (s.part.onPort i fun q =>
         if q.state = .up then { q with counters := { q.counters with runaways := bump q.counters.runaways } }
         else if q.state = .hunt then { q with fillCount := 0 } else q))) ∧
  (∀ (i : PortId) (bytes : List Byte) (s : State), Quiescent s → bytes.length ≤ 248 →
     let q := s.part.port i
     let becomes := fun (p : Part) => exec (.telegramReceived i bytes) s = nextPart s p
     (q.state = .up → q.checkRun < 7 → parseTelegram bytes = none →
       becomes (report .checkError (portObject i) (s.part.onPort i fun q =>
         { q with checkRun := q.checkRun + 1,
                  counters := { q.counters with checkFailures := bump q.counters.checkFailures } }))) ∧
     (q.state = .qualify → parseTelegram bytes ≠ none →
       becomes (s.part.onPort i fun q =>
         { q with counters := { q.counters with received := bump q.counters.received } })) ∧
     (q.state = .hunt → becomes (s.part.onPort i fun q => { q with fillCount := 0 })) ∧
     (q.state = .down → becomes s.part))

/-- R7, R8, R9: in UP a telegram that passes its check is counted, a stripped one too [26]; one of the part's own is
stripped; one that is not taken is offered for forwarding; one of an unknown kind is offered too, and counted as
such if it is for the part or for all, an unaddressed part counting those for all and no others [22]; a malformed
one is counted, and offered if it was a broadcast. -/
def Obligations.TelegramStrippedOrForwarded : Prop :=
  ∀ (i : PortId) (bytes : List Byte) (m : Telegram) (s : State), Quiescent s → bytes.length ≤ 248 →
    parseTelegram bytes = some m → (s.part.port i).state = .up →
    let becomes := fun (p : Part) => exec (.telegramReceived i bytes) s = nextPart s p
    let p := s.part.onPort i fun q =>
      { q with checkRun := 0, counters := { q.counters with received := bump q.counters.received } }
    let node := s.part.line.node
    let addressed : Prop := 1 ≤ node.toNat ∧ node.toNat ≤ 239
    let forPart : Prop := m.dest = 255 ∨ (addressed ∧ m.dest = node)
    let taken : List Byte := [0x21, 0x31, 0x33, 0x41, 0x51, 0x61]
    let known : List Byte := [0x21, 0x31, 0x32, 0x33, 0x41, 0x51, 0x61, 0x62]
    (addressed → m.src = node → becomes p) ∧
    (¬ (addressed ∧ m.src = node) → m.kind ∈ known → ¬ (addressed ∧ m.kind ∈ taken ∧ forPart) →
      becomes (Rule.offered i m p)) ∧
    (¬ (addressed ∧ m.src = node) → m.kind ∉ known →
      (forPart → becomes (Rule.offered i m
        { p with line := { p.line with unknownKinds := bump p.line.unknownKinds } })) ∧
      (¬ forPart → becomes (Rule.offered i m p))) ∧
    (∀ k, addressed → m.src ≠ node → kindOfCode m.kind = some k → m.kind ∈ taken →
      parsePayload k m.payload = none →
      let counted := { p with line := { p.line with malformed := bump p.line.malformed } }
      (m.dest = 255 → becomes (Rule.offered i m counted)) ∧
      (m.dest = node → becomes counted))

/-- R14: the arbiter's choice at a port that is UP and free, by the run count, the forward buffer, and the order of
the classes and of queuing; elsewhere it chooses nothing. The run count is 0 when the port enters UP. -/
def Obligations.ArbiterChoice : Prop :=
  ∀ (i : PortId) (s : State), Quiescent s →
    let q := s.part.port i
    let waits : OwnEntry → Prop := fun e => match i with | .a => e.onA = true | .b => e.onB = true
    let order : OwnEntry → Prop := fun e => ∃ station tag, e.cls = .fanOrder station tag
    let becomes := fun (f : Port → Port) =>
      exec (.outputArbiterChoice i) s = nextPart s (s.part.onPort i f)
    ((q.state ≠ .up ∨ q.sending ≠ none) → becomes id) ∧
    (q.state = .up → q.sending = none →
      ((∀ e ∈ s.part.line.own, ¬ waits e) →
        becomes fun q => if q.forward = [] then q else { q with sending := some .forwarded, runCount := 0 }) ∧
      ((∃ e ∈ s.part.line.own, waits e) → q.forward ≠ [] → q.runCount < 4 →
        becomes fun q => { q with sending := some .forwarded, runCount := q.runCount + 1 }) ∧
      (∀ pre e post, s.part.line.own = pre ++ e :: post → waits e → (q.forward = [] ∨ 4 ≤ q.runCount) →
        (order e ∧ (∀ x ∈ pre, ¬ (waits x ∧ order x)) ∨
          (∀ x ∈ s.part.line.own, ¬ (waits x ∧ order x)) ∧
            (e.cls = .bulletin ∧ (∀ x ∈ pre, ¬ (waits x ∧ x.cls = .bulletin)) ∨
              (∀ x ∈ s.part.line.own, ¬ (waits x ∧ x.cls = .bulletin)) ∧ (∀ x ∈ pre, ¬ waits x))) →
        becomes fun q => { q with sending := some (.own e.telegram e.place), runCount := 0 })) ∧
    ∀ t, q.state ≠ .up → exec (.qualificationTimerExpiry i) s = .next t → (t.part.port i).state = .up →
      (t.part.port i).runCount = 0

/-- R9, R13: a forwarded telegram sent whole leaves the front of the buffer and is counted; an own telegram sent whole
is counted, its port leaves its port set, and it leaves the queue when no port remains. -/
def Obligations.SendingEnds : Prop :=
  ∀ (i : PortId) (s : State), Quiescent s →
    ((s.part.port i).sending = some .forwarded →
      exec (.forwardedTelegramSent i) s = nextPart s (s.part.onPort i fun q =>
        { q with sending := none, forward := q.forward.tail,
                 counters := { q.counters with forwarded := bump q.counters.forwarded } })) ∧
    ((s.part.port i).sending ≠ some .forwarded →
      exec (.forwardedTelegramSent i) s = nextPart s s.part) ∧
    (∀ m place, (s.part.port i).sending = some (.own m place) →
      let p := s.part.onPort i fun q =>
        { q with sending := none, counters := { q.counters with ownSent := bump q.counters.ownSent } }
      let own := p.line.own.map fun e => if e.place = place then
          (match i with
            | .a => { e with onA := false, sentOnce := true }
            | .b => { e with onB := false, sentOnce := true })
        else e
      exec (.ownTelegramSent i) s = nextPart s { p with line := { p.line with
        own := own.filter fun e => !(e.place == place && !e.onA && !e.onB) } }) ∧
    ((∀ m place, (s.part.port i).sending ≠ some (.own m place)) →
      exec (.ownTelegramSent i) s = nextPart s s.part)

/-- R10, R11, R12: an unaddressed part drops the request; with neither port UP it is counted unsent; a fifth MGMT
REPLY is dropped and counted; otherwise the telegram joins the queue as its class says, a FAN ORDER always [30], for
the ports that are UP, and the sequence counter rises by one. -/
def Obligations.OwnTelegramQueued : Prop :=
  ∀ (r : OwnRequest) (s : State), Quiescent s →
    let l := s.part.line
    let becomes := fun (l : LineInterface) =>
      exec (.queueOwnTelegram r) s = nextPart s { s.part with line := l }
    let addressed : Prop := 1 ≤ l.node.toNat ∧ l.node.toNat ≤ 239
    let up : Prop := l.portA.state = .up ∨ l.portB.state = .up
    let join := fun (kept : List OwnEntry) (cls : OwnClass) (m : Telegram) =>
      let e : OwnEntry :=
        { telegram := m, cls := cls, onA := l.portA.state == .up, onB := l.portB.state == .up, sentOnce := false,
          place := l.nextPlace }
      becomes { l with seq := l.seq + 1, nextPlace := l.nextPlace + 1, own := kept ++ [e] }
    (¬ addressed → becomes l) ∧
    (addressed → ¬ up → becomes { l with ownUnsent := bump l.ownUnsent }) ∧
    (addressed → up → match r with
      | .fanOrder station tag output kind =>
          join (l.own.filter fun e => e.cls != .fanOrder station tag) (.fanOrder station tag)
            (Rule.ownTelegram l.node l.seq (BitVec.ofNat 8 station) 0x32 (fanOrderPayload tag output kind))
      | .bulletin b =>
          join (l.own.filter fun e => e.cls != .bulletin) .bulletin
            (Rule.ownTelegram l.node l.seq 255 0x51 (bulletinPayload b))
      | .mgmtReply dest payload =>
          if 4 ≤ (l.own.filter fun e => e.cls == .mgmtReply).length then
            becomes { l with droppedReplies := bump l.droppedReplies }
          else join l.own .mgmtReply (Rule.ownTelegram l.node l.seq dest 0x62 payload))

/-- R19: the check of a telegram computed afresh, the bytes of it read back give the telegram with every field. R6: the
data bytes of a telegram fail their check exactly when they are fewer than 8, the payload length byte is above 240, their
number is not 8 plus the payload length, or the CRC over header and payload differs from the last two bytes, high byte
first. -/
def Obligations.TelegramBytesReadBack : Prop :=
  (∀ m : Telegram, m.payload.length ≤ 240 →
    parseTelegram (telegramBytes (sealTelegram m)) = some (sealTelegram m)) ∧
  ∀ bytes : List Byte,
    let payloadLength := (bytes.getD 5 0).toNat
    let body := bytes.take (6 + payloadLength)
    parseTelegram bytes = none ↔
      bytes.length < 8 ∨ 240 < payloadLength ∨ bytes.length ≠ 8 + payloadLength ∨
      bytes.drop (6 + payloadLength) ≠ beBytes 2 (crc body).toNat

/-! ### Stations and dispatch (02) -/

/-- R25, R26, R27, R30: a telegram taken, for the part's own address or for all, that is not delivered: a bad source, a
role mismatch, a duplicate, an old one, each with its counters and nothing else; one for all is then offered for
forwarding (R7, R8). With no STATION table a bad source counts so for a MGMT REQUEST only [33]. -/
def Obligations.TelegramNotDelivered : Prop :=
  ∀ (i : PortId) (bytes : List Byte) (m : Telegram) (k : TelegramKind) (d : Delivery) (s : State), Quiescent s →
    bytes.length ≤ 248 → parseTelegram bytes = some m → (s.part.port i).state = .up →
    1 ≤ s.part.line.node.toNat ∧ s.part.line.node.toNat ≤ 239 → m.src ≠ s.part.line.node →
    m.dest = s.part.line.node ∨ m.dest = 255 → kindOfCode m.kind = some k → parsePayload k m.payload = some d →
    let p := s.part.onPort i fun q =>
      { q with checkRun := 0, counters := { q.counters with received := bump q.counters.received } }
    let c := s.part.disp.counters
    let becomes := fun (stations : List StationRec) (c : DispatchCounters) =>
      let counted := { p with disp := { p.disp with stations := stations, counters := c } }
      exec (.telegramReceived i bytes) s = nextPart s (if m.dest = 255 then Rule.offered i m counted else counted)
    let badSource : Prop := m.src = 0 ∨ 240 ≤ m.src.toNat
    let role : StationRole := match k with
      | .sample => .sensor
      | .fanReport | .fanAnswer => .fanStation
      | .incidentNotice => .controlCentre
      | .bulletin => .peer
      | _ => .manager
    let listed := s.part.disp.stations.find? fun r => r.address == m.src.toNat && r.role == role
    (badSource → s.part.mgmt.stations ≠ none ∨ k = .mgmtRequest →
      becomes s.part.disp.stations { c with taken := bump c.taken, badSource := bump c.badSource }) ∧
    (s.part.mgmt.stations = none ∧ k ≠ .mgmtRequest ∨
        ¬ badSource ∧ s.part.mgmt.stations ≠ none ∧ listed = none →
      becomes s.part.disp.stations { c with taken := bump c.taken, roleMismatch := bump c.roleMismatch }) ∧
    (∀ r, ¬ badSource → s.part.mgmt.stations ≠ none → listed = some r → r.known = true →
      let counted := s.part.disp.stations.map fun x =>
        if x.address = r.address then { x with duplicates := bump x.duplicates } else x
      (m.seq = r.lastSeq → becomes counted { c with taken := bump c.taken, duplicates := bump c.duplicates }) ∧
      (224 ≤ (m.seq - r.lastSeq).toNat → becomes counted { c with taken := bump c.taken, old := bump c.old })) ∧
    (∀ r, ¬ badSource → s.part.mgmt.stations = none → k = .mgmtRequest →
      s.part.disp.provisional.find? (fun x => x.source == m.src.toNat) = some r →
      (m.seq = r.lastSeq →
        becomes s.part.disp.stations { c with taken := bump c.taken, duplicates := bump c.duplicates }) ∧
      (224 ≤ (m.seq - r.lastSeq).toNat →
        becomes s.part.disp.stations { c with taken := bump c.taken, old := bump c.old }))

/-- R27, R28, R29, R30: a telegram taken, for the part's own address or for all, from a listed station of the required
role is accepted when the sequence was not known or lies 1 to 223 ahead: its record and the counters take it, skipped
numbers are counted and reported once, and it acts as the command that hands its fields to its block; a FAN ANSWER
with a tag the station does not have is counted instead. R26: a MGMT REQUEST with no STATION table active is accepted
from a source of 1 to 239 whose number was not known or lies 1 to 223 ahead: its provisional record takes it, a new
source's record joining the list, or, with 8 held, taking the place of the one accepted longest ago, of the first such
one where several are equally old, by age modulo 2^32 [21]. One taken that was for all is then offered for forwarding,
when its taking is whole [1] (R7, R8). -/
def Obligations.TelegramDelivered : Prop :=
  ∀ (i : PortId) (bytes : List Byte) (m : Telegram) (s : State),
    Quiescent s → bytes.length ≤ 248 → parseTelegram bytes = some m → (s.part.port i).state = .up →
    1 ≤ s.part.line.node.toNat ∧ s.part.line.node.toNat ≤ 239 → m.src ≠ s.part.line.node →
    m.dest = s.part.line.node ∨ m.dest = 255 → 1 ≤ m.src.toNat ∧ m.src.toNat ≤ 239 →
    let p := s.part.onPort i fun q =>
      { q with checkRun := 0, counters := { q.counters with received := bump q.counters.received } }
    let reported := fun (skipped : Nat) =>
      if skipped = 0 then p else report .sequenceGap ⟨.station, m.src.toNat⟩ p
    let after := fun (u : State) => nextPart u (if m.dest = 255 then Rule.offered i m u.part else u.part)
    let acts := fun (cmd : Instr) (told : State) =>
      ∃ u, exec cmd told = .next u ∧ exec (.telegramReceived i bytes) s = after u
    let c := s.part.disp.counters
    let ahead := fun (last : Byte) => 1 ≤ (m.seq - last).toNat ∧ (m.seq - last).toNat ≤ 223
    (∀ (k : TelegramKind) (d : Delivery) (r : StationRec), s.part.mgmt.stations ≠ none →
      kindOfCode m.kind = some k → parsePayload k m.payload = some d →
      (s.part.disp.stations.find? fun r => r.address == m.src.toNat && r.role == requiredRole d) = some r →
      (r.known = true → ahead r.lastSeq) →
      let skipped := if r.known then (m.seq - r.lastSeq).toNat - 1 else 0
      let accepted := fun (delivered : StationRec → Counter) (counters : DispatchCounters) =>
        let p := reported skipped
        { s with part := { p with disp := { p.disp with counters := counters, stations := p.disp.stations.map fun x =>
          if x.address = r.address then
            { x with known := true, lastSeq := m.seq, gaps := satAdd x.gaps skipped, delivered := delivered x }
          else x } } }
      let c := { c with taken := bump c.taken, gap := satAdd c.gap skipped }
      let told := accepted (fun x => bump x.delivered) { c with delivered := bump c.delivered }
      match d with
      | .fanAnswer tag _ _ _ =>
          if tag < r.tagCount then acts (Rule.commandOf m.src m.seq d) told
          else exec (.telegramReceived i bytes) s =
            after (accepted (fun x => x.delivered) { c with badTag := bump c.badTag })
      | _ => acts (Rule.commandOf m.src m.seq d) told) ∧
    (∀ (kind : Byte) (num : BitVec 16) (args : List Byte), s.part.mgmt.stations = none → m.kind = 0x61 →
      parsePayload .mgmtRequest m.payload = some (.mgmtRequest kind num args) →
      let held := s.part.disp.provisional
      let new : ProvisionalRec := ⟨m.src.toNat, m.seq, s.part.now⟩
      let age := fun (x : ProvisionalRec) => (s.part.now - x.accepted).toNat
      let accepted := fun (skipped : Nat) (list : List ProvisionalRec) (counters : DispatchCounters) =>
        let p := reported skipped
        acts (Rule.commandOf m.src m.seq (.mgmtRequest kind num args)) { s with part := { p with disp := { p.disp with
          provisional := list,
          counters := { counters with taken := bump c.taken, delivered := bump c.delivered } } } }
      let found := held.find? fun x => x.source == m.src.toNat
      (found = none → held.length < 8 → accepted 0 (held ++ [new]) c) ∧
      (∀ pre old post, found = none → 8 ≤ held.length → held = pre ++ old :: post →
        (∀ x ∈ pre, age x < age old) → (∀ x ∈ post, age x ≤ age old) →
        accepted 0 (pre ++ new :: post) { c with replaced := bump c.replaced }) ∧
      (∀ r, found = some r → ahead r.lastSeq →
        let skipped := (m.seq - r.lastSeq).toNat - 1
        accepted skipped
          (held.map fun x => if x.source = m.src.toNat then { x with lastSeq := m.seq, accepted := s.part.now } else x)
          { c with gap := satAdd c.gap skipped }))

/-! ### Instruments, points and zones (03) -/

/-- R37: a SAMPLE of one reading that finds no instrument, an instrument of another class, or one that is REJECTED,
counts it and changes nothing else. R37 to R40: a SAMPLE without velocity readings changes the instruments as its
readings, in their order, say by status, value and the instrument's state, and no other instrument. R51, R52, R55,
R60: a SAMPLE of one reading applied to an instrument of a configured zone has the zone evaluated from its VALID
instruments; entry to ALARM raises ZONE_ALARM and hands the zone to the Incident Register, which lists it; the zone
temperature goes to the Fan Manager, which, while it holds an id, marks the zone's fans found heat-exposed (R113),
its temperatures being listed for the zones 1 to 16, which every step keeps (StepKeepsEventsWhole). Where the
clearing ends within the event (R146, R82), the alarm is cleared again (R54). The model's choices: an instrument that
becomes VALID holds the count 0 [31]; an instrument that is ABSENT, one with a dangling reference too, is none for a
reading, so that a reading that finds only such a one is counted unmatched [28]. -/
def Obligations.ReadingApplied : Prop :=
  (∀ (source : Nat) (r : Reading) (s : State), Quiescent s →
     let m := s.part.meas
     let named := (instruments m).find? fun x => x.2.source == some ⟨source, r.channel⟩ && x.2.state != .absent
     let becomes := fun (m : MeasurementUnit) => exec (.sample source [r]) s = nextPart s { s.part with meas := m }
     (named = none → becomes { m with unmatched := bump m.unmatched }) ∧
     ∀ x, named = some x →
       (r.quantity ≠ x.1.cls → becomes { m with mismatches := bump m.mismatches }) ∧
       (r.quantity = x.1.cls → x.2.state = .rejected → becomes { m with ignored := bump m.ignored })) ∧
  (∀ (source : Nat) (readings : List Reading) (s : State), Quiescent s →
     (∀ r ∈ readings, r.quantity ≠ .velocity) →
     ∃ t, exec (.sample source readings) s = .next t ∧
       instruments t.part.meas = readings.foldl (fun l r =>
         match l.find? fun y => y.2.source == some ⟨source, r.channel⟩ && y.2.state != .absent with
         | some x =>
             if r.quantity = x.1.cls ∧ x.2.state ≠ .rejected then
               l.map fun y =>
                 if y.1 = x.1 then (y.1, Rule.applied s.part.now s.part.sections.staleTime x.1.cls r y.2) else y
             else l
         | none => l) (instruments s.part.meas)) ∧
  (∀ (source : Nat) (r : Reading) (x : InstrumentId × Instrument) (e : ZoneEntry) (z : ZoneRec) (s : State),
     Quiescent s → InstrumentsNumbered s →
     ((instruments s.part.meas).find? fun y => y.2.source == some ⟨source, r.channel⟩ && y.2.state != .absent) = some x →
     x.1.cls ≠ .velocity → r.quantity = x.1.cls → x.2.state ≠ .rejected →
     let n := (x.1.num - 1) / 2 + 1
     (s.part.zoneEntries.find? fun y => y.num == n) = some e →
     (s.part.meas.zones.find? fun y => y.num == n) = some z →
     let after := fun (cls : InstrumentClass) (slot : Nat) (i : Instrument) =>
       if x.1 = ⟨cls, 2 * (n - 1) + slot⟩ then Rule.applied s.part.now s.part.sections.staleTime cls r i else i
     let valid := fun (i : Instrument) => i.state == .valid
     let o1 := after .opacity 1 z.o1
     let o2 := after .opacity 2 z.o2
     let t1 := after .temperature 1 z.t1
     let t2 := after .temperature 2 z.t2
     let z' := Rule.zoneEvaluated e { z with
       o1 := o1, o2 := o2, t1 := t1, t2 := t2, holdO := z.holdO && !valid o1 && !valid o2,
       holdT := z.holdT && !valid t1 && !valid t2 }
     let entered : Prop := z.state ≠ .alarm ∧ z'.state = .alarm
     let g := s.part.reg
     ∃ t, exec (.sample source [r]) s = .next t ∧
       let ended : Prop := g.record.state = .clearing ∧ t.part.reg.record.state = .quiet
       (t.part.meas.zones.find? fun y => y.num == n) = some (if ended then Rule.alarmCleared z' else z') ∧
       (entered → t.part.fc.flags &&& 0x0400 ≠ 0 ∧
         (¬ ended → n ∉ g.detection → g.detection.length < 16 → t.part.reg.detection = g.detection ++ [n] ∧
           (g.record.state = .quiet → t.part.reg.record.state = .alert))) ∧
       (¬ entered → ¬ ended → t.part.reg = g) ∧
       (t.part.fm.zoneTemps = s.part.fm.zoneTemps.map fun y =>
         if y.zone = n then { y with value := z'.temperature } else y) ∧
       (ZoneTempsListed s → s.part.fm.record.id ≠ 0 → t.part.reg.record = g.record →
         ∀ m f, s.part.fm.fans.find? (fun y => y.e.num == m) = some f →
           ∃ f', t.part.fm.fans.find? (fun y => y.e.num == m) = some f' ∧
             f'.heat = (f.heat || (f.e.zone == n && Rule.exposed s.part.fm.record z'.temperature f.e))))

/-- R37 to R44: a reading applied to a velocity instrument of a configured point, in a SAMPLE whose other readings
name no instrument of that point, has the point voted: its quality and voted value are those that R44 gives for the
VALID instruments after the reading. R42, R46, R47: a vote of three VALID instruments makes the outlier and the
polarity check of each, toggles the REVERSED of one found opposed three times, raising POLARITY, and makes REJECTED
one whose outlier streak reaches 8, reporting INSTRUMENT_REJECTED and raising INSTRUMENT_OUT; any other vote leaves the
instruments as the reading has left them. The vote that finds the hold timer of a HELD point run out (R45, the order of
the two being the model's choice [12]) is left out. The point records are numbered 1 to 16, each number once, which
every step keeps (StepKeepsEventsWhole). The model's choices: an instrument that becomes VALID holds the qualify count
0 [31]; an instrument that is ABSENT is none for a reading [28]. -/
def Obligations.PointVotedAfterReading : Prop :=
  ∀ (source : Nat) (pre post : List Reading) (r : Reading) (x : InstrumentId × Instrument) (q : PointRec) (s : State),
    Quiescent s → InstrumentsNumbered s →
    let named := fun (r : Reading) =>
      (instruments s.part.meas).find? fun y => y.2.source == some ⟨source, r.channel⟩ && y.2.state != .absent
    named r = some x → x.1.cls = .velocity → r.quantity = .velocity → x.2.state ≠ .rejected →
    let n := (x.1.num - 1) / 3 + 1
    (∀ o ∈ pre ++ post, ∀ y, named o = some y → ¬ (y.1.cls = .velocity ∧ (y.1.num - 1) / 3 + 1 = n)) →
    (s.part.pointEntries.any fun e => e.num == n) = true → 1 ≤ n ∧ n ≤ 16 →
    s.part.meas.points.find? (fun y => y.num == n) = some q →
    let after := fun (slot : Nat) (i : Instrument) =>
      if 3 * (n - 1) + slot = x.1.num then
        Rule.applied s.part.now s.part.sections.staleTime .velocity r i
      else i
    let values := ([after 1 q.s1, after 2 q.s2, after 3 q.s3].filter fun i => i.state == .valid).map fun i =>
      if i.reversed then -i.last else i.last
    ¬ (values = [] ∧ q.quality = .held ∧ ranOut s.part.now q.holdTimer = true) →
    ∃ t u, exec (.sample source (pre ++ r :: post)) s = .next t ∧
      t.part.meas.points.find? (fun y => y.num == n) = some u ∧
      (u.quality, u.voted) = Rule.voted s.part.sections.tolerance q.quality q.voted values ∧
      let i := after 1 q.s1
      let j := after 2 q.s2
      let k := after 3 q.s3
      let check := Rule.checked s.part.sections.tolerance s.part.sections.polarity
      (¬ (i.state = .valid ∧ j.state = .valid ∧ k.state = .valid) → u.s1 = i ∧ u.s2 = j ∧ u.s3 = k) ∧
      (i.state = .valid → j.state = .valid → k.state = .valid →
        (u.s1 = check i j k ∧ u.s2 = check j i k ∧ u.s3 = check k i j) ∧
        (u.s1.reversed ≠ i.reversed ∨ u.s2.reversed ≠ j.reversed ∨ u.s3.reversed ≠ k.reversed →
          t.part.fc.flags &&& 0x4000 ≠ 0) ∧
        (u.s1.state = .rejected ∨ u.s2.state = .rejected ∨ u.s3.state = .rejected →
          t.part.fc.flags &&& 0x2000 ≠ 0 ∧
          ∀ c, s.part.fc.counts[10]? = some c → ∃ d, t.part.fc.counts[10]? = some d ∧ (bump c).toNat ≤ d.toNat))

/-- R41: the stale timer of an instrument expires: VALID becomes STALE and INSTRUMENT_STALE is reported, QUALIFYING
with a count becomes STALE with count 0, STATION_FAULT becomes STALE; with no timer armed, nothing happens [4]. R53,
R55: the configured zone of an opacity or temperature instrument that leaves VALID is recomputed, and its temperature
handed to the Fan Manager. R60: the zone requalify timer's expiry clears every restart hold, and the configured zones
that had one are recomputed so; with no timer armed nothing happens [4]. Where the clearing ends within the event
(R146, R82), the alarms are cleared (R54). -/
def Obligations.StaleAndRequalifyExpire : Prop :=
  (∀ (id : InstrumentId) (i : Instrument) (s : State), Quiescent s → instrument? s.part id = some i →
     (i.stale = none → exec (.staleTimerExpiry id.cls id.num) s = nextPart s s.part) ∧
     (i.stale ≠ none → i.state = .valid ∨ (i.state = .qualifying ∧ 1 ≤ i.qualify) ∨ i.state = .stationFault →
       ∃ t, exec (.staleTimerExpiry id.cls id.num) s = .next t ∧
         (instruments t.part.meas = (instruments s.part.meas).map fun y =>
           if y.1 = id then
             (y.1, { y.2 with stale := none, state := .stale,
                              qualify := if i.state = .qualifying then 0 else y.2.qualify })
           else y) ∧
         (i.state = .valid → t.part.fc.counts[3]? = (s.part.fc.counts[3]?).map bump)) ∧
     (i.stale ≠ none → i.state = .valid → id.cls ≠ .velocity → InstrumentsNumbered s →
       let n := (id.num - 1) / 2 + 1
       ∀ z, (s.part.zoneEntries.any fun e => e.num == n) = true →
         (s.part.meas.zones.find? fun y => y.num == n) = some z →
         let after := fun (cls : InstrumentClass) (slot : Nat) (j : Instrument) =>
           if id = ⟨cls, 2 * (n - 1) + slot⟩ then { j with stale := none, state := .stale } else j
         let z' := Rule.zoneRecomputed { z with
           o1 := after .opacity 1 z.o1, o2 := after .opacity 2 z.o2,
           t1 := after .temperature 1 z.t1, t2 := after .temperature 2 z.t2 }
         ∃ t, exec (.staleTimerExpiry id.cls id.num) s = .next t ∧
           let ended : Prop := s.part.reg.record.state = .clearing ∧ t.part.reg.record.state = .quiet
           (t.part.meas.zones.find? fun y => y.num == n) = some (if ended then Rule.alarmCleared z' else z') ∧
           t.part.fm.zoneTemps = s.part.fm.zoneTemps.map fun y =>
             if y.zone = n then { y with value := z'.temperature } else y)) ∧
  (∀ s : State, Quiescent s →
     (s.part.meas.requalify = none → exec .zoneRequalifyTimerExpiry s = nextPart s s.part) ∧
     ∃ t, exec .zoneRequalifyTimerExpiry s = .next t ∧ t.part.meas.requalify = none ∧
       (s.part.meas.requalify ≠ none → ∀ z ∈ t.part.meas.zones, z.holdO = false ∧ z.holdT = false) ∧
       t.part.meas.points = s.part.meas.points ∧ instruments t.part.meas = instruments s.part.meas ∧
       (s.part.meas.requalify ≠ none → InstrumentsNumbered s →
         let ended : Prop := s.part.reg.record.state = .clearing ∧ t.part.reg.record.state = .quiet
         let held := fun (z : ZoneRec) =>
           (z.holdO || z.holdT) && s.part.zoneEntries.any fun e => e.num == z.num
         let freed := fun (z : ZoneRec) =>
           let z' : ZoneRec := { z with holdO := false, holdT := false }
           if held z then Rule.zoneRecomputed z' else z'
         (t.part.meas.zones = s.part.meas.zones.map fun z =>
           if ended then Rule.alarmCleared (freed z) else freed z) ∧
         t.part.fm.zoneTemps = s.part.fm.zoneTemps.map fun y =>
           match s.part.meas.zones.find? fun z => z.num == y.zone with
           | some z => if held z then { y with value := (freed z).temperature } else y
           | none => y))

/-- R45, R48, R49: the hold timer of a HELD point expires: the point is UNKNOWN with no voted value, POINT_LOST is
raised, and Vm and its quality are formed afresh; with no timer armed [4], or at a point that is not HELD, nothing
happens. -/
def Obligations.PointHoldExpires : Prop :=
  ∀ (n : Nat) (q : PointRec) (s : State), Quiescent s → s.part.meas.points.find? (fun y => y.num == n) = some q →
    (¬ (q.quality = .held ∧ q.holdTimer ≠ none) → exec (.pointHoldTimerExpiry n) s = nextPart s s.part) ∧
    (q.quality = .held → q.holdTimer ≠ none →
      let points := s.part.meas.points.map fun y =>
        if y.num = n then { y with quality := .unknown, voted := none, holdTimer := none } else y
      let w : PointRec → Nat := fun y => if y.quality = .good then 2 else if y.quality = .unknown then 0 else 1
      let weights := (points.map w).sum
      let total := (points.map fun y => (w y : Int) * y.voted.getD 0).sum
      let agreed := (points.filter fun y => y.quality == .good || y.quality == .paired).length
      let configured := s.part.pointEntries.length
      let quality : VelocityQuality :=
        if 1 ≤ configured ∧ configured ≤ 2 * agreed then .good
        else if configured = 0 ∨ ∀ y ∈ points, y.quality = .unknown then .lost
        else .degraded
      ∃ t, exec (.pointHoldTimerExpiry n) s = .next t ∧
        t.part.meas = { s.part.meas with
          points := points, quality := quality,
          vm := if weights = 0 then s.part.meas.vm else Int.tdiv total weights } ∧
        t.part.fc.flags &&& 0x1000 ≠ 0 ∧
        t.part.fc.counts[11]? = (s.part.fc.counts[11]?).map bump)

/-- R54: every zone in ALARM has its confirm run set to 0 and becomes UNKNOWN with both values UNKNOWN, else NORMAL;
zones not in ALARM are left as they stand. -/
def Obligations.ZoneAlarmsCleared : Prop :=
  ∀ s : State, Quiescent s →
    exec .zoneAlarmsCleared s = nextPart s { s.part with meas := { s.part.meas with
      zones := s.part.meas.zones.map fun z =>
        if z.state = .alarm then
          { z with confirm := 0, state := if z.opacity = none ∧ z.temperature = none then .unknown else .normal }
        else z } }

/-! ### The Incident Register (04) -/

/-- R69: a zone already listed, or one beyond 16, leaves the list as it stands; another joins the back of it; in QUIET
the state becomes ALERT and the auto-declare timer is armed unless its time is 0 or no CONTROL table is active. -/
def Obligations.ZoneJoinsDetectionList : Prop :=
  ∀ (zone : Nat) (s : State), Quiescent s →
    let g := s.part.reg
    (zone ∈ g.detection ∨ 16 ≤ g.detection.length → exec (.zoneAlarmHandOn zone) s = nextPart s s.part) ∧
    (zone ∉ g.detection → g.detection.length < 16 →
      (g.record.state ≠ .quiet → exec (.zoneAlarmHandOn zone) s =
        nextPart s { s.part with reg := { g with detection := g.detection ++ [zone] } }) ∧
      (g.record.state = .quiet → ∃ t, exec (.zoneAlarmHandOn zone) s = .next t ∧
        t.part.reg = { g with
          record := .empty .alert, detection := g.detection ++ [zone],
          autoDeclare := match s.part.mgmt.control with
            | some c => if c.autoDeclare = 0 then none else some (s.part.now + BitVec.ofNat 32 (1000 * c.autoDeclare))
            | none => none } ∧
        t.part.fc.flags &&& 0x0200 ≠ 0))

/-- R63 to R68: a refused notice sets the last notice outcome and raises NOTICE_REFUSED, and changes nothing else: the
field tests, and the outcomes by state and id. -/
def Obligations.NoticesRefused : Prop :=
  ∀ (n : Notice) (s : State), Quiescent s →
    let g := s.part.reg
    let refused := fun (c : Instr) (o : NoticeOutcome) =>
      exec c s = nextPart s (raise .noticeRefused { s.part with reg := { g with outcome := o } })
    let badId : Prop := n.id = 0 ∨ 0xEFFF < n.id
    let far : Option Nat → Prop := fun c => ∃ v, c = some v ∧ 20000 < v
    let badFields : Prop := far n.fire ∨ far n.head ∨ far n.tail ∨ 2 < n.direction ∨ 6 < n.heat
    let responding : Prop := g.record.state = .declared ∨ g.record.state = .control ∨ g.record.state = .hold
    (∀ action, refused (.noticeBadAction action n) .badField) ∧
    (badId ∨ n.fire = none ∨ badFields → refused (.declare n) .badField) ∧
    (badId ∨ badFields → refused (.update n) .badField) ∧
    (badId → refused (.hold n) .badField ∧ refused (.resume n) .badField ∧ refused (.clear n) .badField) ∧
    (¬ badId → n.fire ≠ none → ¬ badFields →
      (s.part.mgmt.control = none → refused (.declare n) .wrongState) ∧
      (s.part.mgmt.control ≠ none → g.record.state = .clearing → n.id = g.record.id → refused (.declare n) .sameId) ∧
      (s.part.mgmt.control ≠ none → responding → n.id ≠ g.record.id → refused (.declare n) .activeIncident)) ∧
    (¬ badId → ¬ badFields →
      (responding → n.id ≠ g.record.id → refused (.update n) .activeIncident) ∧
      (¬ responding → refused (.update n) .wrongState)) ∧
    (¬ badId → responding → n.id ≠ g.record.id →
      refused (.hold n) .activeIncident ∧ refused (.resume n) .activeIncident ∧ refused (.clear n) .activeIncident) ∧
    (¬ badId → ¬ responding →
      refused (.hold n) .wrongState ∧ refused (.resume n) .wrongState ∧ refused (.clear n) .wrongState) ∧
    (¬ badId → responding → n.id = g.record.id →
      (g.record.state ≠ .control → refused (.hold n) .wrongState) ∧
      (g.record.state ≠ .hold → refused (.resume n) .wrongState)) ∧
    (g.record.state ≠ .alert → refused (.cancelAlert n) .wrongState)

/-- R64, R71, R73 to R75: a DECLARE is taken on in QUIET and ALERT, and in CLEARING with another id: what the Register
holds after it. -/
def Obligations.DeclareTakenOn : Prop :=
  ∀ (n : Notice) (fire : Nat) (c : ControlTable) (s : State), Quiescent s → s.part.mgmt.control = some c →
    1 ≤ n.id ∧ n.id ≤ 0xEFFF → n.fire = some fire → fire ≤ 20000 → (∀ v, n.head = some v → v ≤ 20000) →
    (∀ v, n.tail = some v → v ≤ 20000) → n.direction ≤ 2 → n.heat ≤ 6 →
    let g := s.part.reg
    g.record.state = .quiet ∨ g.record.state = .alert ∨ (g.record.state = .clearing ∧ n.id ≠ g.record.id) →
    let dir : Direction × DirectionSource :=
      if n.direction = 1 then (.ab, .explicit) else if n.direction = 2 then (.ba, .explicit)
      else match n.head, n.tail with
        | some h, some t =>
            (if (h + t) / 2 < fire then .ab else if fire < (h + t) / 2 then .ba else c.direction, .train)
        | _, _ => (c.direction, .default)
    let inSection : Prop := ∃ x, s.part.mgmt.sections = some x ∧ x.lo ≤ fire ∧ fire < x.hi
    ∃ t, exec (.declare n) s = .next t ∧
      (t.part.reg.record.id = n.id ∧ t.part.reg.record.fire = some fire ∧ t.part.reg.record.head = n.head ∧
        t.part.reg.record.tail = n.tail ∧ t.part.reg.record.dir = some dir.1 ∧
        t.part.reg.record.dirSource = some dir.2 ∧
        t.part.reg.record.heat = some (if n.heat = 0 then c.heat else n.heat)) ∧
      (inSection → t.part.reg.record.role = .lead ∧ t.part.reg.leadWait = none ∧
        t.part.reg.record.state = (if g.storeHold then .declared else .control) ∧
        t.part.reg.record.controlled = !g.storeHold) ∧
      (¬ inSection → t.part.reg.record.state = .declared ∧ t.part.reg.record.controlled = false ∧
        t.part.reg.leadWait = some (s.part.now + BitVec.ofNat 32 (1000 * c.leadWait)) ∧
        t.part.reg.record.role = (if g.record.role = .localRole then .localRole else .follower)) ∧
      t.part.reg.outcome = .accepted ∧ t.part.reg.autoDeclare = none ∧ t.part.reg.entry = none ∧
      t.part.reg.detection = g.detection ∧ t.part.reg.lastCleared = g.lastCleared ∧ t.part.reg.storeHold = g.storeHold

/-- R65, R72, R73: an UPDATE with the held id is accepted: each present field replaces the held one, the direction is
settled, and the role is judged again if the fire has moved. A DECLARE with the held id is judged as an UPDATE. -/
def Obligations.UpdateAccepted : Prop :=
  ∀ (n : Notice) (c : ControlTable) (s : State), Quiescent s → s.part.mgmt.control = some c →
    1 ≤ n.id ∧ n.id ≤ 0xEFFF → (∀ v, n.fire = some v → v ≤ 20000) → (∀ v, n.head = some v → v ≤ 20000) →
    (∀ v, n.tail = some v → v ≤ 20000) → n.direction ≤ 2 → n.heat ≤ 6 →
    let r := s.part.reg.record
    r.state = .declared ∨ r.state = .control ∨ r.state = .hold → n.id = r.id →
    let fire := n.fire.or r.fire
    let head := n.head.or r.head
    let tail := n.tail.or r.tail
    let moved : Prop := fire ≠ r.fire ∨ head ≠ r.head ∨ tail ≠ r.tail
    let dir : Option Direction × Option DirectionSource :=
      if n.direction = 1 then (some .ab, some .explicit) else if n.direction = 2 then (some .ba, some .explicit)
      else if moved ∧ (r.dirSource = some .train ∨ r.dirSource = some .default) then
        match head, tail with
        | some h, some t =>
            (some (if (h + t) / 2 < fire.getD 0 then .ab else if fire.getD 0 < (h + t) / 2 then .ba else c.direction),
              some .train)
        | _, _ => (some c.direction, some .default)
      else (r.dir, r.dirSource)
    let inSection : Prop := ∃ x v, s.part.mgmt.sections = some x ∧ fire = some v ∧ x.lo ≤ v ∧ v < x.hi
    ∀ cmd : Instr, cmd = .update n ∨ (cmd = .declare n ∧ n.fire ≠ none) →
      ∃ t, exec cmd s = .next t ∧ t.part.reg.outcome = .accepted ∧
        t.part.reg.record.id = r.id ∧ t.part.reg.record.fire = fire ∧ t.part.reg.record.head = head ∧
        t.part.reg.record.tail = tail ∧ t.part.reg.record.heat = (if n.heat = 0 then r.heat else some n.heat) ∧
        t.part.reg.record.dir = dir.1 ∧ t.part.reg.record.dirSource = dir.2 ∧
        (fire = r.fire → t.part.reg.record.role = r.role ∧ t.part.reg.record.state = r.state) ∧
        (fire ≠ r.fire → inSection → t.part.reg.record.role = .lead) ∧
        (fire ≠ r.fire → ¬ inSection → t.part.reg.record.state = r.state ∧
          t.part.reg.record.role = (if r.role = .localRole then .localRole else .follower)) ∧
        (r.state ≠ .declared → t.part.reg.record.state = r.state) ∧
        (r.dir ≠ dir.1 → t.part.fc.flags &&& 0x0010 ≠ 0) ∧
        t.part.reg.detection = s.part.reg.detection ∧ t.part.reg.lastCleared = s.part.reg.lastCleared

/-- R66: HOLD in CONTROL and RESUME in HOLD, each with the held id, are accepted; the state becomes HOLD or CONTROL,
and the rest of the record stands. R67: a CLEAR with the held id is accepted: the Register is in CLEARING with the
incident kept while a fan holds the clearing open or an order record stands; with neither, the clearing has ended at
the test on entry to CLEARING, and the Register is in QUIET with the id as last cleared id (R146, R82). -/
def Obligations.HoldResumeClear : Prop :=
  (∀ (n : Notice) (s : State), Quiescent s → 1 ≤ n.id ∧ n.id ≤ 0xEFFF → n.id = s.part.reg.record.id →
     let g := s.part.reg
     (g.record.state = .control → ∃ t, exec (.hold n) s = .next t ∧
       t.part.reg = { g with outcome := .accepted, record := { g.record with state := .hold } } ∧
       t.part.fc.flags &&& 0x0200 ≠ 0 ∧ t.part.ctl.mode = .idle) ∧
     (g.record.state = .hold → ∃ t, exec (.resume n) s = .next t ∧
       t.part.reg = { g with outcome := .accepted, record := { g.record with state := .control, controlled := true } } ∧
       t.part.fc.flags &&& 0x0200 ≠ 0 ∧ t.part.ctl.mode ≠ .idle)) ∧
  (∀ (n : Notice) (s : State), Quiescent s → 1 ≤ n.id ∧ n.id ≤ 0xEFFF → n.id = s.part.reg.record.id →
     let r := s.part.reg.record
     r.state = .declared ∨ r.state = .control ∨ r.state = .hold →
     ∃ t, exec (.clear n) s = .next t ∧ t.part.reg.outcome = .accepted ∧ t.part.reg.leadWait = none ∧
       t.part.reg.entry = none ∧
       ((∃ f ∈ s.part.fm.fans, Rule.holdsOpen f) ∨ s.part.ord.records ≠ [] →
         t.part.reg.record = { r with state := .clearing } ∧ t.part.reg.lastCleared = s.part.reg.lastCleared ∧
         t.part.reg.detection = s.part.reg.detection) ∧
       (¬ (∃ f ∈ s.part.fm.fans, Rule.holdsOpen f) → s.part.ord.records = [] →
         t.part.reg.record = .empty .quiet ∧ t.part.reg.lastCleared = r.id ∧ t.part.reg.detection = []))

/-- R68: CANCEL_ALERT is accepted in ALERT: the state becomes QUIET, the auto-declare timer is cancelled, the
detection list emptied and the zone alarms cleared; in every other state it is refused with WRONG_STATE. R82: the
end-of-clearing report is taken in CLEARING: the state becomes QUIET with the record emptied, the held id becomes
the last cleared id, the detection list is emptied; in any other state it is ignored. -/
def Obligations.ReturnToQuiet : Prop :=
  (∀ (n : Notice) (s : State), Quiescent s →
     (s.part.reg.record.state = .alert → ∃ t, exec (.cancelAlert n) s = .next t ∧
       t.part.reg.record = .empty .quiet ∧ t.part.reg.autoDeclare = none ∧ t.part.reg.detection = [] ∧
       t.part.reg.outcome = .accepted ∧ t.part.reg.lastCleared = s.part.reg.lastCleared ∧
       ∀ z ∈ t.part.meas.zones, z.state ≠ .alarm) ∧
     (s.part.reg.record.state ≠ .alert → exec (.cancelAlert n) s =
       nextPart s (raise .noticeRefused { s.part with reg := { s.part.reg with outcome := .wrongState } }))) ∧
  (∀ s : State, Quiescent s →
     let g := s.part.reg
     (g.record.state = .clearing → ∃ t, exec .clearingEndReport s = .next t ∧
       t.part.reg = { g with record := .empty .quiet, lastCleared := g.record.id, detection := [], autoDeclare := none,
                             leadWait := none, entry := none } ∧
       t.part.fc.flags &&& 0x0200 ≠ 0 ∧ ∀ z ∈ t.part.meas.zones, z.state ≠ .alarm) ∧
     (g.record.state ≠ .clearing → exec .clearingEndReport s = nextPart s s.part))

/-- R70: the auto-declare timer expires in ALERT with a configured zone in the list: the auto incident is declared;
with none configured, or in another state, only the timer is spent; unarmed, nothing happens [4]. R75, R76: the
lead-wait timer expires in DECLARED: a follower enters CONTROL with role LOCAL, or, under the store-write hold, the
expiry is recorded unless a lead view is pending; otherwise only the timer is spent; unarmed, nothing happens [4]. -/
def Obligations.IncidentTimersExpire : Prop :=
  (∀ s : State, Quiescent s →
     let g := s.part.reg
     let zone := g.detection.findSome? fun n => s.part.zoneEntries.find? fun z => z.num == n
     (g.autoDeclare = none → exec .autoDeclareTimerExpiry s = nextPart s s.part) ∧
     (g.autoDeclare ≠ none → g.record.state ≠ .alert ∨ zone = none →
       exec .autoDeclareTimerExpiry s = nextPart s { s.part with reg := { g with autoDeclare := none } }) ∧
     (∀ z, g.autoDeclare ≠ none → g.record.state = .alert → zone = some z →
       ∃ t, exec .autoDeclareTimerExpiry s = .next t ∧
         t.part.reg.record.id = 0xF000 + s.part.line.node.toNat ∧
         t.part.reg.record.fire = some ((z.lo + z.hi) / 2) ∧ t.part.reg.record.head = none ∧
         t.part.reg.record.tail = none ∧ t.part.reg.record.heat = some s.part.control.heat ∧
         t.part.reg.record.dir = some s.part.control.direction ∧ t.part.reg.record.dirSource = some .default ∧
         (t.part.reg.record.state = .declared ∨ t.part.reg.record.state = .control) ∧
         t.part.reg.outcome = g.outcome ∧ t.part.reg.detection = g.detection)) ∧
  (∀ s : State, Quiescent s →
     let g := s.part.reg
     let spent := { g with leadWait := none }
     (g.leadWait = none → exec .leadWaitTimerExpiry s = nextPart s s.part) ∧
     (g.leadWait ≠ none → g.record.state ≠ .declared →
       exec .leadWaitTimerExpiry s = nextPart s { s.part with reg := spent }) ∧
     (g.leadWait ≠ none → g.record.state = .declared → g.storeHold = true →
       exec .leadWaitTimerExpiry s = nextPart s { s.part with reg := { spent with
         entry := if g.entry = some .leadViewControl ∨ g.entry = some .leadViewHold then g.entry
                  else some .leadWaitExpiry } }) ∧
     (g.leadWait ≠ none → g.record.state = .declared → g.storeHold = false →
       g.record.role = .follower ∨ g.record.role = .localRole →
       ∃ t, exec .leadWaitTimerExpiry s = .next t ∧
         t.part.reg = { spent with
           record := { g.record with state := .control, role := .localRole, controlled := true }, entry := none }))

/-! ### The Airflow Controller (05) -/

/-- R91, R97: a record handed on in a state other than CONTROL takes the controller to IDLE with its timers cancelled
and its shares emptied; a reversal in HOLD sets I to 0; in QUIET the kept values go to 0 as well. R88 to R90, R94: an
entry to CONTROL takes the mode of the role and arms the control period; a first entry of a LEAD or LOCAL with the
quality LOST is OPEN_LOOP, and one whose quality is not LOST is VELOCITY_OK; a follower without a share for this node
holds with its timer armed. R96, R92, R93, R98, R99: an entry of a LEAD or LOCAL computes the law, from zeroed values at
a first entry and with a bumpless transfer from last D at a resumption. R97, R103: a record handed on in CONTROL with no
entry: a reversal sets I to 0, before a change of role that the same record brings (the model's choice [29]); a follower
or LOCAL part that becomes LEAD takes mode LEAD with a transfer from last D over the A_sum of the peers presented (R183,
their addresses being distinct, which every step keeps: StepKeepsControlAtRest); a LEAD that becomes FOLLOWER holds its
own last demand or takes its share; a LOCAL part that becomes FOLLOWER takes mode SHARE with the share found for it, its
last share standing where none is [18]; without such a change of role the record is only held. -/
def Obligations.ControllerTakesRecord : Prop :=
  (∀ (h : RecordHandOn) (s : State), Quiescent s → h.record.state ≠ .control →
     let c := s.part.ctl
     let reversal : Prop := c.record.id = h.record.id ∧ c.record.dir ≠ none ∧ h.record.dir ≠ none ∧
       c.record.dir ≠ h.record.dir ∧ h.record.state = .hold
     let idle := { c with
       record := h.record, mode := .idle, condition := .ok, period := none, velocityHold := none, leadLoss := none,
       shares := [], aSum := 0, integral := if reversal then 0 else c.integral }
     exec (.incidentRecordToController h) s = nextPart s { s.part with ctl :=
       if h.record.state = .quiet then
         { idle with integral := 0, lastD := 0, ownDemand := 0, lastP := 0, lastShare := 0, boundA := 0 }
       else idle }) ∧
  (∀ (h : RecordHandOn) (kind : EntryKind) (s : State), Quiescent s → h.record.state = .control →
     h.entry = some kind →
     let shared := (leadBulletin h.record.id s.part.coord.peers).bind (shareFor s.part.line.node.toNat)
     ∃ t, exec (.incidentRecordToController h) s = .next t ∧
       t.part.ctl.record = h.record ∧
       t.part.ctl.period = some (s.part.now + BitVec.ofNat 32 (1000 * s.part.control.period)) ∧
       (h.record.role = .lead → t.part.ctl.mode = .lead ∧ t.part.ctl.aSum = t.part.ctl.boundA) ∧
       (h.record.role = .localRole → t.part.ctl.mode = .localMode ∧ t.part.ctl.boundA = s.part.fm.a) ∧
       (h.record.role = .lead ∨ h.record.role = .localRole → kind = .first →
         t.part.ctl.velocityHold = none ∧ t.part.ctl.leadLoss = none ∧
         t.part.ctl.condition = (if s.part.meas.quality = .lost then .openLoop else .ok)) ∧
       (h.record.role = .follower →
         t.part.ctl.condition = .ok ∧ t.part.ctl.lastD = t.part.ctl.ownDemand ∧
         t.part.ctl.ownDemand = min t.part.ctl.lastShare s.part.fm.a ∧
         (∀ share, shared = some share → t.part.ctl.mode = .share ∧ t.part.ctl.lastShare = share) ∧
         (shared = none → t.part.ctl.mode = .shareHeld ∧
           t.part.ctl.lastShare = (if kind = .first then 0 else s.part.ctl.lastShare) ∧
           t.part.ctl.leadLoss = some (s.part.now + BitVec.ofNat 32 (1000 * s.part.control.leadLossHold))))) ∧
  (∀ (h : RecordHandOn) (kind : EntryKind) (heat : Nat) (dir : Direction) (s : State), Quiescent s →
     h.record.state = .control → h.entry = some kind → h.record.heat = some heat → h.record.dir = some dir →
     (s.part.coord.peers.map (·.address)).Nodup →
     let c := s.part.ctl
     let reversal : Prop := c.record.id = h.record.id ∧ c.record.dir ≠ none ∧ c.record.dir ≠ some dir
     let start : ComputeStart := match kind with | .first => .first | .resumption => .transfer
     let entered : ControllerMode → AirflowController := fun mode => match kind with
       | .first => { c with record := h.record, mode := mode, integral := 0, lastD := 0, ownDemand := 0, lastP := 0,
                            lastShare := 0, condition := .ok, velocityHold := none, leadLoss := none }
       | .resumption => { c with record := h.record, mode := mode, integral := if reversal then 0 else c.integral }
     ∃ t peers, exec (.incidentRecordToController h) s = .next t ∧
       Rule.Presented h.record.id s.part.coord.peers peers ∧
       (h.record.role = .lead → t.part.ctl = Rule.inLead s.part heat dir peers start (entered .lead)) ∧
       (h.record.role = .localRole → t.part.ctl = Rule.inLocal s.part heat dir start (entered .localMode))) ∧
  (∀ (h : RecordHandOn) (s : State), Quiescent s → h.record.state = .control → h.entry = none →
     let c := s.part.ctl
     let reversal : Prop := c.record.id = h.record.id ∧ c.record.dir ≠ none ∧ h.record.dir ≠ none ∧
       c.record.dir ≠ h.record.dir
     let taken : AirflowController := { c with record := h.record, integral := if reversal then 0 else c.integral }
     let shared := (leadBulletin h.record.id s.part.coord.peers).bind (shareFor s.part.line.node.toNat)
     let a := s.part.fm.a
     let seconds := fun (n : Nat) => some (s.part.now + BitVec.ofNat 32 (1000 * n))
     let follower : AirflowController → AirflowController := fun c =>
       { c with condition := .ok, velocityHold := none, period := seconds s.part.control.period, boundA := a,
                integral := max (-256 * (a : Int)) (min (256 * (a : Int)) c.integral),
                lastD := min c.lastShare a, ownDemand := min c.lastShare a }
     let toLead : Prop := (c.record.role = .follower ∨ c.record.role = .localRole) ∧ h.record.role = .lead ∧
       (c.mode = .share ∨ c.mode = .shareHeld ∨ c.mode = .localMode)
     let toFollower : Prop := c.record.role = .lead ∧ h.record.role = .follower ∧ c.mode = .lead
     let rejoins : Prop := c.record.role = .localRole ∧ h.record.role = .follower ∧ c.mode = .localMode
     (¬ toLead → ¬ toFollower → ¬ rejoins →
       exec (.incidentRecordToController h) s = nextPart s { s.part with ctl := taken }) ∧
     (toLead → ∃ t, exec (.incidentRecordToController h) s = .next t ∧
       t.part.ctl.record = h.record ∧ t.part.ctl.mode = .lead ∧ t.part.ctl.leadLoss = none ∧
       t.part.ctl.period = seconds s.part.control.period ∧ t.part.ctl.aSum = t.part.ctl.boundA ∧
       t.part.ctl.condition = (if s.part.meas.quality ≠ .lost then .ok
         else if c.condition = .ok then .held else c.condition) ∧
       ∀ heat dir, h.record.heat = some heat → h.record.dir = some dir →
         (s.part.coord.peers.map (·.address)).Nodup →
         ∃ peers, Rule.Presented h.record.id s.part.coord.peers peers ∧ t.part.ctl =
           Rule.inLead s.part heat dir peers .transfer { taken with mode := .lead, leadLoss := none }) ∧
     (toFollower → ∃ t, exec (.incidentRecordToController h) s = .next t ∧ t.part.ctl = follower (
       match shared with
       | some v => { taken with shares := [], aSum := 0, mode := .share, lastShare := v, leadLoss := none }
       | none => { taken with shares := [], aSum := 0, mode := .shareHeld, lastShare := c.ownDemand,
                              leadLoss := seconds s.part.control.leadLossHold })) ∧
     (rejoins → ∃ t, exec (.incidentRecordToController h) s = .next t ∧ t.part.ctl =
       follower { taken with mode := .share, lastShare := shared.getD c.lastShare, leadLoss := none }))

/-- R88, R92, R93: a control period in LOCAL with the velocity condition VELOCITY_OK and the quality not LOST: the
law, its P term, its anti-windup, its bound and its demand, which the Fan Manager takes as last demand in CONTROL.
-/
def Obligations.LawInLocal : Prop :=
  ∀ (c : ControlTable) (s : State), Quiescent s → s.part.mgmt.control = some c → s.part.ctl.mode = .localMode →
    s.part.ctl.period ≠ none → s.part.ctl.condition = .ok → s.part.meas.quality ≠ .lost →
    ∀ (class_ : Nat) (dir : Direction), s.part.ctl.record.heat = some class_ → s.part.ctl.record.dir = some dir →
    let a : Int := s.part.fm.a
    let sign : Int := match dir with | .ab => 1 | .ba => -1
    let target : Int := (min (c.vcrit.getD (class_ - 1) 0 + c.margin) c.vmax : Nat)
    let e : Int := max (-1500) (min 1500 (target - sign * s.part.meas.vm))
    let product : Int := c.kp * e
    let pTerm : Int := (if product < 0 then -1 else 1) * ((2 * product.natAbs + 16) / 32 : Nat)
    let i : Int := s.part.ctl.integral
    let trial : Int := i + c.ki * e
    let dTrial : Int := pTerm + Int.tdiv trial 256
    let kept : Int := if (a < dTrial ∧ 0 < e) ∨ (dTrial < 0 ∧ e < 0) then i else trial
    let bounded : Int := max (-256 * a) (min (256 * a) kept)
    let demand : Nat := (max 0 (min a (pTerm + Int.tdiv bounded 256))).toNat
    ∃ t, exec .controlPeriodTimerExpiry s = .next t ∧
      t.part.ctl = { s.part.ctl with
        integral := bounded, lastP := pTerm, lastD := demand, ownDemand := demand, boundA := s.part.fm.a,
        velocityHold := none, period := some (s.part.now + BitVec.ofNat 32 (1000 * c.period)) } ∧
      (s.part.fm.record.state = .control → t.part.fm.lastDemand = demand)

/-- R94: a control period in LOCAL with the quality LOST: VELOCITY_OK becomes VELOCITY_HELD with its timer armed,
the demand held; VELOCITY_HELD holds on; OPEN_LOOP forms the open-loop demand; I is only clamped and last P stands.
R94, R96: one in VELOCITY_HELD or OPEN_LOOP with the quality not LOST: the condition is VELOCITY_OK, the velocity-hold
timer unarmed, I set by a bumpless transfer from last D, and the law runs on from its trial step (R92, R93).
R95: the velocity-hold timer's expiry in VELOCITY_HELD makes the condition OPEN_LOOP and computes nothing; with the
timer unarmed [4] or in another condition nothing happens. -/
def Obligations.VelocityLostAndHeld : Prop :=
  (∀ (c : ControlTable) (class_ : Nat) (s : State), Quiescent s → s.part.mgmt.control = some c →
     s.part.ctl.mode = .localMode → s.part.ctl.period ≠ none → s.part.meas.quality = .lost →
     s.part.ctl.record.heat = some class_ →
     let a := s.part.fm.a
     let held := min s.part.ctl.lastD a
     let opened := min (c.openLoop.getD (class_ - 1) 0) a
     let out : VelocityCondition × Nat × Timer := match s.part.ctl.condition with
       | .ok => (.held, held, some (s.part.now + BitVec.ofNat 32 (1000 * c.velocityHold)))
       | .held => (.held, held, s.part.ctl.velocityHold)
       | .openLoop => (.openLoop, opened, none)
     ∃ t, exec .controlPeriodTimerExpiry s = .next t ∧
       t.part.ctl = { s.part.ctl with
         integral := max (-256 * (a : Int)) (min (256 * (a : Int)) s.part.ctl.integral),
         condition := out.1, lastD := out.2.1, ownDemand := out.2.1, boundA := a, velocityHold := out.2.2,
         period := some (s.part.now + BitVec.ofNat 32 (1000 * c.period)) }) ∧
  (∀ (c : ControlTable) (class_ : Nat) (dir : Direction) (s : State), Quiescent s → s.part.mgmt.control = some c →
     s.part.ctl.mode = .localMode → s.part.ctl.period ≠ none → s.part.ctl.condition ≠ .ok →
     s.part.meas.quality ≠ .lost → s.part.ctl.record.heat = some class_ → s.part.ctl.record.dir = some dir →
     let a := s.part.fm.a
     let e := Rule.error c class_ dir s.part.meas.vm
     let pTerm := Rule.pTerm c e
     let integral : Int := max (-256 * (a : Int)) (min (256 * (a : Int)) (256 * ((s.part.ctl.lastD : Int) - pTerm)))
     let out := Rule.law c a e pTerm integral
     ∃ t, exec .controlPeriodTimerExpiry s = .next t ∧
       t.part.ctl = { s.part.ctl with
         integral := out.1, lastP := pTerm, condition := .ok, lastD := out.2, ownDemand := out.2, boundA := a,
         velocityHold := none, period := some (s.part.now + BitVec.ofNat 32 (1000 * c.period)) }) ∧
  (∀ s : State, Quiescent s →
     exec .velocityHoldTimerExpiry s = nextPart s (
       if s.part.ctl.velocityHold ≠ none ∧ s.part.ctl.condition = .held then
         { s.part with ctl := { s.part.ctl with condition := .openLoop, velocityHold := none } }
       else s.part))

/-- R98, R99: a control period in LEAD divides the total: A_sum is own A and the available thrust of the peers
presented, each peer's share is its part of the total rounded down, the lead's own demand is what remains, at most
own A. R183: the peers presented are those that are fresh, show the held id and CONTROL, and a role other than LEAD, in
ascending node address, each with its A limited to 192,000 N, the addresses being distinct, which every step keeps
(StepKeepsControlAtRest). R92 to R94, R96: the total is what the law, or the case of the velocity lost or returned,
gives over A_sum. R87, R88, R100, R101: a control period in SHARE or SHARE_HELD forms min(last share, own A) and clamps I; in
IDLE, or with the timer unarmed [4], nothing is computed. -/
def Obligations.SharesComputed : Prop :=
  (∀ s : State, Quiescent s → s.part.ctl.mode = .lead → s.part.ctl.period ≠ none →
     let peers := presented s.part.ctl.record.id s.part.coord.peers
     ∃ t, exec .controlPeriodTimerExpiry s = .next t ∧
       let c := t.part.ctl
       c.mode = .lead ∧ c.aSum = s.part.fm.a + (peers.map (·.available)).sum ∧ c.boundA = c.aSum ∧
       c.lastD ≤ c.aSum ∧ c.integral.natAbs ≤ 256 * c.aSum ∧
       c.shares = (peers.map fun k => ⟨k.node, c.lastD * k.available / c.aSum⟩) ∧
       (c.shares.map (·.share)).sum ≤ c.lastD ∧
       c.ownDemand = min s.part.fm.a (c.lastD - (c.shares.map (·.share)).sum) ∧
       c.period = some (s.part.now + BitVec.ofNat 32 (1000 * s.part.control.period))) ∧
  (∀ (heat : Nat) (dir : Direction) (s : State), Quiescent s → s.part.ctl.mode = .lead → s.part.ctl.period ≠ none →
     s.part.ctl.record.heat = some heat → s.part.ctl.record.dir = some dir →
     (s.part.coord.peers.map (·.address)).Nodup →
     ∃ t peers, exec .controlPeriodTimerExpiry s = .next t ∧
       Rule.Presented s.part.ctl.record.id s.part.coord.peers peers ∧
       t.part.ctl = Rule.inLead s.part heat dir peers .period s.part.ctl) ∧
  (∀ s : State, Quiescent s →
     (s.part.ctl.period = none ∨ s.part.ctl.mode = .idle → exec .controlPeriodTimerExpiry s = nextPart s s.part) ∧
     (s.part.ctl.period ≠ none → s.part.ctl.mode = .share ∨ s.part.ctl.mode = .shareHeld →
       let a := s.part.fm.a
       let d := min s.part.ctl.lastShare a
       ∃ t, exec .controlPeriodTimerExpiry s = .next t ∧
         t.part.ctl = { s.part.ctl with
           integral := max (-256 * (a : Int)) (min (256 * (a : Int)) s.part.ctl.integral), lastD := d, ownDemand := d,
           boundA := a, period := some (s.part.now + BitVec.ofNat 32 (1000 * s.part.control.period)) }))

/-- R102: the lead-loss-hold timer's expiry in SHARE_HELD takes mode LOCAL, raises LEAD_LOST, has the role of the
incident it names become LOCAL in CONTROL or HOLD, and, in CONTROL, judges the velocity condition by the quality;
unarmed [4] or in another mode nothing happens. R96, R92, R93: the computation is a bumpless transfer from last D over
own A, after which the law runs on from its trial step, or, with the quality LOST, the start of VELOCITY_HELD; own A is
the one that stands then: where the role becomes LOCAL, the record handed on has had exclusion judged and A formed afresh
(R112, R111). This is stated where the controller and the Fan Manager hold the Register's record. -/
def Obligations.LeadLossExpires : Prop :=
  ∀ s : State, Quiescent s →
    (s.part.ctl.leadLoss = none ∨ s.part.ctl.mode ≠ .shareHeld →
      exec .leadLossHoldTimerExpiry s = nextPart s s.part) ∧
    (s.part.ctl.leadLoss ≠ none → s.part.ctl.mode = .shareHeld →
      ∃ t, exec .leadLossHoldTimerExpiry s = .next t ∧ t.part.fc.flags &&& 0x0008 ≠ 0 ∧
        let r := s.part.reg.record
        let named : Prop := r.id = s.part.ctl.record.id ∧ r.role = .follower
        (r.state = .hold → named →
          t.part.reg = { s.part.reg with record := { r with role := .localRole } } ∧ t.part.ctl.mode = .idle) ∧
        (r.state = .control → s.part.ctl.condition = .ok →
          t.part.reg = { s.part.reg with record := if named then { r with role := .localRole } else r } ∧
          t.part.ctl.mode = .localMode ∧ t.part.ctl.leadLoss = none ∧
          t.part.ctl.condition = (if s.part.meas.quality = .lost then .held else .ok)) ∧
        ∀ heat dir, r.state = .control → s.part.ctl.record = r → s.part.fm.record = r →
          r.heat = some heat → r.dir = some dir →
          let m := s.part.fm
          let judged := m.fans.map fun f => { f with excluded := Rule.excluded s.part.control.exclusion r f.e }
          let ownA := if r.role = .follower then Rule.available { m with fans := judged } else m.a
          let role : IncidentRole := if r.role = .follower then .localRole else r.role
          t.part.ctl = Rule.inLocal { s.part with fm := { m with a := ownA } } heat dir .transfer
            { s.part.ctl with mode := .localMode, leadLoss := none, record := { r with role := role } })

/-! ### Fans and their allocation (06, 07) -/

/-- R145: the stop-spacing timer's expiry in CLEARING re-arms it, and asks a stop of the RUNNING fan, its stop not
yet requested, that stands last in the preference order: the fan is marked and a STOP requested of the Order Engine
(R137, R153); where there is no such fan, the timer is re-armed and nothing else happens; in any other state the
timer is cancelled; unarmed, nothing happens [4]. -/
def Obligations.StopSpacing : Prop :=
  ∀ s : State, Quiescent s →
    (s.part.fm.stopSpacing = none → exec .stopSpacingTimerExpiry s = nextPart s s.part) ∧
    (s.part.fm.stopSpacing ≠ none → s.part.fm.record.state ≠ .clearing →
      exec .stopSpacingTimerExpiry s = nextPart s { s.part with fm := { s.part.fm with stopSpacing := none } }) ∧
    (s.part.fm.stopSpacing ≠ none → s.part.fm.record.state = .clearing →
      (∀ n ∈ s.part.fm.preference, ∀ g, s.part.fm.fans.find? (fun x => x.e.num == n) = some g →
        ¬ (g.state = .running ∧ g.stopReq = false)) →
      exec .stopSpacingTimerExpiry s = nextPart s { s.part with fm := { s.part.fm with
        stopSpacing := some (s.part.now + BitVec.ofNat 32 (1000 * s.part.control.stopSpacing)) } }) ∧
    (s.part.fm.stopSpacing ≠ none → s.part.fm.record.state = .clearing →
      ∀ pre n post f, s.part.fm.preference = pre ++ n :: post →
        s.part.fm.fans.find? (fun g => g.e.num == n) = some f → f.state = .running → f.stopReq = false →
        (∀ m ∈ post, ∀ g, s.part.fm.fans.find? (fun x => x.e.num == m) = some g →
          ¬ (g.state = .running ∧ g.stopReq = false)) →
        ∃ t g, exec .stopSpacingTimerExpiry s = .next t ∧
          t.part.fm.stopSpacing = some (s.part.now + BitVec.ofNat 32 (1000 * s.part.control.stopSpacing)) ∧
          t.part.fm.fans.find? (fun x => x.e.num == n) = some g ∧ g.state = .running ∧ g.stopReq = true ∧
          ∃ r ∈ t.part.ord.records, r.fan = n ∧ (r.kind = .stop ∨ r.successor = some .stop))

/-- R112, R135, R141, R145: a record handed to the Fan Manager is held; every fan is excluded exactly when the id is
non-zero and it lies within the exclusion distance of the fire; the preference order is empty without an id; outside
CONTROL the start queue is empty, and outside CLEARING the stop-spacing timer is cancelled. R134, R135: a new id, fire
chainage or direction, and an entry to CONTROL, have the preference order formed afresh, the upstream group first, in
each group by rank, distance and fan number, and empty the start queue; any other record with an id leaves the order.
R113, R136, R137, R147: outside CLEARING each fan's exclusion and heat exposure are judged, and a STOP is requested of
every unwanted fan whose mark is clear when the record enters CONTROL, or changes the id, fire or direction in CONTROL,
and of no other; a reversal is such a record; but for its marks a fan stands, one STARTING too unless its START waits in
the backlog (R155). R111: A and R are formed afresh. The fan numbers and the fans of the order are distinct, and the
numbers within 1 to 48 (R107), which every step keeps (StepKeepsFansAndPool): so few fans that no STOP request of the
event is dropped [13]. R138: in CONTROL a
demand update becomes the last demand; in any other state it is set aside and changes nothing. R139, R140, R142: a
demand update in CONTROL that finds no order in the backlog, and none for the fans it starts or stops, builds the
queue, asks the one stop where the queue is empty, grants the free slots to the head of the queue, and requests the
orders. R145: a record handed on in CLEARING from another state, while a fan holds the clearing open, empties the
queue, arms the stop-spacing timer, and asks a stop of the RUNNING fan that stands last in the preference order, its
stop not yet requested, and of no other. -/
def Obligations.FansTakeRecordAndDemand : Prop :=
  (∀ (h : RecordHandOn) (s : State), Quiescent s → h.record.state ≠ .clearing →
     ∃ t, exec (.incidentRecordToFanManager h) s = .next t ∧
       t.part.fm.record = h.record ∧ t.part.fm.stopSpacing = none ∧
       (h.record.id = 0 → t.part.fm.preference = []) ∧ (h.record.state ≠ .control → t.part.fm.queue = []) ∧
       ∀ n f, t.part.fm.fans.find? (fun x => x.e.num == n) = some f →
         (f.excluded = true ↔ h.record.id ≠ 0 ∧ ∃ fire, h.record.fire = some fire ∧
           (f.e.chainage : Int) - fire ≤ s.part.control.exclusion ∧ (fire : Int) - f.e.chainage ≤ s.part.control.exclusion)) ∧
  (∀ (h : RecordHandOn) (fire : Nat) (dir : Direction) (s : State), Quiescent s → FansDistinct s → FansNumbered s →
     h.record.id ≠ 0 → h.record.fire = some fire → h.record.dir = some dir →
     let r := h.record
     let old := s.part.fm.record
     let moved : Prop := r.id ≠ old.id ∨ r.fire ≠ old.fire ∨ r.dir ≠ old.dir
     let entering : Prop := r.state = .control ∧ h.before ≠ .control
     let asked : Prop := r.state = .control ∧ (moved ∨ entering)
     let judged := fun (f : FanRec) =>
       let temp := (s.part.fm.zoneTemps.find? fun z => z.zone == f.e.zone).bind (·.value)
       { f with excluded := Rule.excluded s.part.control.exclusion r f.e,
                heat := decide ((r.id = old.id ∧ f.heat = true) ∨ (moved ∧ Rule.exposed r temp f.e = true)) }
     ∃ t, exec (.incidentRecordToFanManager h) s = .next t ∧ ThrustFormed t ∧
       (r.state ≠ .clearing ∨ t.part.fm.record = r →
         (moved ∨ entering → Rule.IsPreference fire dir s.part.fm.fans t.part.fm.preference ∧ t.part.fm.queue = []) ∧
         (¬ (moved ∨ entering) → t.part.fm.preference = s.part.fm.preference)) ∧
       (r.state ≠ .clearing → ∀ n f, s.part.fm.fans.find? (fun x => x.e.num == n) = some f →
         let stops : Prop := asked ∧ Rule.unwanted r (judged f) = true ∧ f.stopReq = false
         (f.state ≠ .starting ∨ s.part.ord.backlog = [] → t.part.fm.fans.find? (fun x => x.e.num == n) =
           some { judged f with stopReq := decide (f.stopReq = true ∨ stops) }) ∧
         (∃ g, t.part.fm.fans.find? (fun x => x.e.num == n) = some g ∧ g.excluded = (judged f).excluded ∧
           g.heat = (judged f).heat) ∧
         (stops → ∃ o ∈ t.part.ord.records, o.fan = n ∧ (o.kind = .stop ∨ o.successor = some .stop)))) ∧
  (∀ (d : Nat) (s : State), Quiescent s →
     (s.part.fm.record.state ≠ .control → exec (.demandUpdate d) s = nextPart s s.part) ∧
     (s.part.fm.record.state = .control → ∃ t, exec (.demandUpdate d) s = .next t ∧
       t.part.fm.lastDemand = d ∧ t.part.fm.record = s.part.fm.record ∧ t.part.fm.preference = s.part.fm.preference ∧
       t.part.meas = s.part.meas ∧ t.part.reg = s.part.reg ∧ t.part.ctl = s.part.ctl ∧ t.part.coord = s.part.coord ∧
       t.part.mgmt = s.part.mgmt ∧ t.part.disp = s.part.disp)) ∧
  (∀ (d : Nat) (s : State), Quiescent s → FansDistinct s → s.part.fm.record.state = .control →
     s.part.ord.backlog = [] →
     let m := s.part.fm
     let fan := fun (n : Nat) => m.fans.find? fun f => f.e.num == n
     let order := m.preference.filterMap fan
     let queue := Rule.startQueue m.record d m.r 0 order
     let gate := s.part.control.gate
     let free := ((m.slots.take gate).filter Option.isNone).length
     let granted := queue.take free
     let stops : List Nat :=
       if queue = [] ∧ ∀ f ∈ m.fans, ¬ (f.state = .running ∧ f.stopReq = true) then
         match Rule.lastUseful m.record order with
         | some l => if (m.r : Int) - d ≥ ((Rule.useful m.record l.e).1 + s.part.control.hysteresis : Nat)
             then [l.e.num] else []
         | none => []
       else []
     let start := fun (n : Nat) => match fan n with
       | some f => if (Rule.useful m.record f.e).2 = some .rev then OrderKind.startRev else .startFwd
       | none => .startFwd
     let kinds := fun (l : List OrderRec) => l.map fun r => (r.fan, r.kind)
     (∀ r ∈ s.part.ord.records, r.fan ∉ granted ∧ r.fan ∉ stops) →
     ∃ t, exec (.demandUpdate d) s = .next t ∧ t.part.fm.queue = queue.drop free ∧
       (∀ n f, fan n = some f → (t.part.fm.fans.find? fun g => g.e.num == n) = some (
         if n ∈ granted then
           { f with state := .starting, dir := (Rule.useful m.record f.e).2, accepted := false, runUp := none,
                    runDown := none, downOver := false }
         else if n ∈ stops then { f with stopReq := true } else f)) ∧
       (∀ n ∈ granted, some n ∈ t.part.fm.slots.take gate) ∧
       (∀ (k n : Nat), m.slots[k]? = some (some n) → t.part.fm.slots[k]? = some (some n)) ∧
       kinds t.part.ord.records =
         kinds s.part.ord.records ++ granted.map (fun n => (n, start n)) ++ stops.map fun n => (n, .stop)) ∧
  (∀ (h : RecordHandOn) (s : State), Quiescent s → h.record.state = .clearing → h.before ≠ .clearing →
     (∃ f ∈ s.part.fm.fans, Rule.holdsOpen f) →
     ∃ t, exec (.incidentRecordToFanManager h) s = .next t ∧ t.part.fm.record = h.record ∧ t.part.fm.queue = [] ∧
       t.part.fm.clearingSent = false ∧
       t.part.fm.stopSpacing = some (s.part.now + BitVec.ofNat 32 (1000 * s.part.control.stopSpacing)) ∧
       ∀ pre n post f, t.part.fm.preference = pre ++ n :: post →
         s.part.fm.fans.find? (fun g => g.e.num == n) = some f → f.state = .running → f.stopReq = false →
         (∀ m ∈ post, ∀ g, s.part.fm.fans.find? (fun x => x.e.num == m) = some g →
           ¬ (g.state = .running ∧ g.stopReq = false)) →
         (∃ g, t.part.fm.fans.find? (fun x => x.e.num == n) = some g ∧ g.state = .running ∧ g.stopReq = true) ∧
         (∃ r ∈ t.part.ord.records, r.fan = n ∧ (r.kind = .stop ∨ r.successor = some .stop)) ∧
         ∀ m g', m ≠ n → t.part.fm.fans.find? (fun x => x.e.num == m) = some g' → g'.stopReq = true →
           ∃ g, s.part.fm.fans.find? (fun x => x.e.num == m) = some g ∧ g.stopReq = true)

/-- R116 to R120: an output of a FAN REPORT whose other outputs name other fans: alone and unmatched, it is counted;
matched, a fault code fails the fan, LOCAL isolates it, a STARTING fan becomes RUNNING by its own run state and
FAILED by the opposite one, and a RUNNING fan reported STOPPED or STOPPING takes that state and rests. R121: a
STOPPING fan takes nothing from its run state until run-down is over, then is STOPPED or FAILED. R122: a STOPPED fan
stays so unless it is found running, which is counted; an UNKNOWN or LOST fan is settled by its run state. R125,
R127: the report makes its station REACHABLE; where it was UNREACHABLE, its LOST fans that the report does not name
become UNKNOWN with a QUERY requested. The QUERYs are requested for a report of 1 or 2 outputs (R20) and fans
numbered 1 to 48, each number once (R107), which every step keeps (StepKeepsFansAndPool): so few that no hand-on of
the event is dropped [13]. -/
def Obligations.FanReportJudged : Prop :=
  ∀ (source : Nat) (pre post : List ReportOutput) (o : ReportOutput) (s : State), Quiescent s →
    let reached : Prop := ∀ r ∈ s.part.fm.reach, r.station = source → r.state = .reachable
    reached ∨ FansDistinct s →
    let bounded : Prop := FansDistinct s ∧ FansNumbered s ∧ (pre ++ o :: post).length ≤ 2
    let named := fun (o : ReportOutput) => s.part.fm.fans.find? fun f =>
      f.e.station == source && f.e.output == o.output && f.state != .unconfigured
    ∃ t, exec (.fanReport source (pre ++ o :: post)) s = .next t ∧
      (t.part.fm.reach = s.part.fm.reach.map fun r => if r.station = source then
        { r with state := .reachable, silence := some (s.part.now + 5000), time := some s.part.now } else r) ∧
      (named o = none → pre = [] → post = [] → t.part.fm.unmatched = bump s.part.fm.unmatched ∧
        (reached → t.part.fm.fans.map (·.state) = s.part.fm.fans.map (·.state))) ∧
      (∀ f ∈ s.part.fm.fans, f.e.station = source → f.state = .lost →
        (∃ r ∈ s.part.fm.reach, r.station = source ∧ r.state = .unreachable) →
        (∀ x ∈ pre ++ o :: post, x.output ≠ f.e.output) →
        (∃ g, t.part.fm.fans.find? (fun x => x.e.num == f.e.num) = some g ∧ g.state = .unknown ∧ g.known = f.known) ∧
        (bounded → Rule.queried t.part f.e.num)) ∧
      ∀ f, named o = some f → s.part.fm.fans.find? (fun x => x.e.num == f.e.num) = some f →
        (∀ x ∈ pre ++ post, ∀ h ∈ s.part.fm.fans, h.e.station = source → h.e.output = x.output → h.e.num ≠ f.e.num) →
        ∃ g, t.part.fm.fans.find? (fun x => x.e.num == f.e.num) = some g ∧
          g.last = some ⟨o.run, some o.control, some o.fault, s.part.now⟩ ∧
          (o.fault ≠ 0 → f.state ≠ .failed → g.state = .failed ∧ t.part.fc.flags &&& 0x0080 ≠ 0) ∧
          (f.state = .failed → g.state = .failed) ∧
          (o.fault = 0 → f.state ≠ .failed → o.control = .localMode → g.state = .isolated ∧ g.reportIso = true) ∧
          (o.fault = 0 → o.control = .remote → f.reportIso = false → f.state = .starting →
            (o.run = .runFwd → f.dir = some .fwd → g.state = .running ∧ g.dir = some .fwd) ∧
            (o.run = .runRev → f.dir = some .rev → g.state = .running ∧ g.dir = some .rev) ∧
            (o.run = .runFwd → f.dir = some .rev → g.state = .failed) ∧
            (o.run = .runRev → f.dir = some .fwd → g.state = .failed)) ∧
          (o.fault = 0 → o.control = .remote → f.reportIso = false → f.state = .running →
            (o.run = .stopped → g.state = .stopped ∧ g.resting = true) ∧
            (o.run = .stopping → g.state = .stopping ∧ g.resting = true ∧
              g.runDown = some (s.part.now + BitVec.ofNat 32 (1000 * f.e.runDown)))) ∧
          (o.fault = 0 → o.control = .remote → f.reportIso = false → f.state = .stopping →
            (f.downOver = false → g.state = .stopping ∧ g.dir = f.dir ∧ g.runDown = f.runDown) ∧
            (f.downOver = true → o.run = .stopped → QueueEligible s → g.state = .stopped ∧ g.dir = none) ∧
            (f.downOver = true → o.run ≠ .stopped → g.state = .failed)) ∧
          (o.fault = 0 → o.control = .remote → f.reportIso = false → f.state = .stopped → pre = [] → post = [] →
            (o.run = .runFwd → g.state = .running ∧ g.dir = some .fwd ∧
              t.part.fm.unexpected = bump s.part.fm.unexpected) ∧
            (o.run = .runRev → g.state = .running ∧ g.dir = some .rev ∧
              t.part.fm.unexpected = bump s.part.fm.unexpected) ∧
            (o.run ≠ .runFwd → o.run ≠ .runRev → reached → g.state = .stopped)) ∧
          (o.fault = 0 → o.control = .remote → f.reportIso = false → f.state = .unknown ∨ f.state = .lost →
            (o.run = .stopped → g.state = .stopped ∧ g.resting = true) ∧
            (o.run = .runFwd → g.state = .running ∧ g.dir = some .fwd) ∧
            (o.run = .runRev → g.state = .running ∧ g.dir = some .rev) ∧
            (o.run = .stopping → g.state = .stopping ∧ g.dir = f.known.bind (·.dir) ∧ g.resting = true ∧
              g.runDown = some (s.part.now + BitVec.ofNat 32 (1000 * f.e.runDown))) ∧
            (o.run = .starting → g.state = .unknown ∧ (bounded → Rule.queried t.part f.e.num)))

/-- R114, R121: the rest timer's expiry clears the rest, and the run-down timer's expiry in STOPPING sets run-down
over; unarmed [4], or for a number that names no fan [23], neither changes a fan; while the state held is not CLEARING,
the first changes no other fan field, and of the Fan Manager at most A, R and the start queue. R117, R119: the run-up
timer's expiry in STARTING fails the fan; elsewhere, unarmed [4] or for no fan [23] it changes nothing.
R126: the silence timer's expiry makes a REACHABLE station UNREACHABLE, and each of its fans LOST that is UNKNOWN,
STOPPED, STARTING, RUNNING, STOPPING or ISOLATED by its report alone, with its last known state; a fan FAILED,
UNCONFIGURED, LOST or under manager isolation stays as it was; FAN_LOST is raised. -/
def Obligations.FanTimersExpire : Prop :=
  (∀ (n : Nat) (s : State), Quiescent s →
     exec (.runDownTimerExpiry n) s = nextPart s { s.part with fm := { s.part.fm with
       fans := s.part.fm.fans.map fun f =>
         if f.e.num = n ∧ f.runDown ≠ none ∧ f.state = .stopping then { f with runDown := none, downOver := true }
         else f } } ∧
     (s.part.fm.record.state ≠ .clearing →
       ∃ t, exec (.restTimerExpiry n) s = .next t ∧
         (t.part.fm.fans = s.part.fm.fans.map fun f =>
           if f.e.num = n ∧ f.restTimer ≠ none then { f with resting := false, eligibleAt := none, restTimer := none }
           else f) ∧
         t.part = formHealth { s.part with fm := { t.part.fm with
           reach := s.part.fm.reach, zoneTemps := s.part.fm.zoneTemps, record := s.part.fm.record,
           preference := s.part.fm.preference, slots := s.part.fm.slots, lastDemand := s.part.fm.lastDemand,
           stopSpacing := s.part.fm.stopSpacing, unmatched := s.part.fm.unmatched, unexpected := s.part.fm.unexpected,
           clearingSent := s.part.fm.clearingSent } })) ∧
  (∀ (n : Nat) (s : State), Quiescent s →
     (∀ f, s.part.fm.fans.find? (fun x => x.e.num == n) = some f → f.runUp ≠ none → f.state = .starting →
       ∃ t g, exec (.runUpTimerExpiry n) s = .next t ∧ t.part.fm.fans.find? (fun x => x.e.num == n) = some g ∧
         g.state = .failed ∧ g.known = some ⟨.starting, f.dir⟩ ∧ t.part.fc.flags &&& 0x0080 ≠ 0) ∧
     ((∀ f, s.part.fm.fans.find? (fun x => x.e.num == n) = some f → f.runUp = none ∨ f.state ≠ .starting) →
       exec (.runUpTimerExpiry n) s = nextPart s s.part)) ∧
  (∀ (station : Nat) (s : State), Quiescent s →
     (∀ r ∈ s.part.fm.reach, r.station = station → r.state = .reachable ∧ r.silence ≠ none) →
     (∃ r ∈ s.part.fm.reach, r.station = station) →
     ∃ t, exec (.reportSilenceTimerExpiry station) s = .next t ∧ t.part.fc.flags &&& 0x0040 ≠ 0 ∧
       (t.part.fm.reach = s.part.fm.reach.map fun r =>
         if r.station = station then { r with state := .unreachable, silence := none } else r) ∧
       ∀ n f, s.part.fm.fans.find? (fun x => x.e.num == n) = some f → f.e.station = station →
         ∃ g, t.part.fm.fans.find? (fun x => x.e.num == n) = some g ∧ g.e = f.e ∧ g.mgrIso = f.mgrIso ∧
           (f.state ∈ [.unknown, .stopped, .starting, .running, .stopping] ∨ (f.state = .isolated ∧ f.mgrIso = false) →
             g.state = .lost ∧ g.known = Rule.knownAfter f ∧ g.reportIso = false ∧ g.runUp = none ∧
             g.runDown = none) ∧
           (f.state ∈ [.failed, .unconfigured, .lost] ∨ (f.state = .isolated ∧ f.mgrIso = true) →
             g.state = f.state ∧ g.known = f.known ∧ g.reportIso = f.reportIso))

/-- R123: outcomes handed to the fan they concern, while the state held is not CLEARING: START accepted arms the
run-up timer of a STARTING fan; STOP accepted takes a RUNNING fan to STOPPING; REFUSED_FAULT fails it and
REFUSED_LOCAL isolates it [24]; a failed order makes its station UNREACHABLE. -/
def Obligations.OrderOutcomeTaken : Prop :=
  ∀ (n : Nat) (f : FanRec) (s : State), Quiescent s → s.part.fm.record.state ≠ .clearing →
    s.part.fm.fans.find? (fun x => x.e.num == n) = some f → f.state ≠ .unconfigured →
    let leaves := fun (order : OrderKind) (outcome : OrderOutcome) (good : FanRec → Prop) =>
      ∃ t g, exec (.orderOutcome n order outcome) s = .next t ∧
        t.part.fm.fans.find? (fun x => x.e.num == n) = some g ∧ good g
    ∀ order,
      (order = .startFwd ∨ order = .startRev → f.state = .starting →
        leaves order (.accepted none) fun g => g.state = .starting ∧ g.accepted = true ∧
          g.runUp = some (s.part.now + BitVec.ofNat 32 (1000 * f.e.runUp))) ∧
      (order = .stop → f.state = .running →
        leaves order (.accepted none) fun g => g.state = .stopping ∧ g.dir = f.dir ∧ g.stopReq = false ∧
          g.resting = true ∧ g.runDown = some (s.part.now + BitVec.ofNat 32 (1000 * f.e.runDown))) ∧
      (order ≠ .query → f.state ≠ .failed → leaves order .refusedFault fun g => g.state = .failed) ∧
      (order ≠ .query → f.state ≠ .failed →
        leaves order .refusedLocal fun g => g.state = .isolated ∧ g.reportIso = true) ∧
      (∃ t, exec (.orderOutcome n order .failed) s = .next t ∧
        ∀ r ∈ t.part.fm.reach, r.station = f.e.station →
          (∃ q ∈ s.part.fm.reach, q.station = f.e.station ∧ q.state = .reachable) → r.state = .unreachable)

/-! ### Fan orders (08) -/

/-- R158: an answer on a QUARANTINE tag is late, on a FREE tag, or on a BUSY tag whose record is in RETRY_WAIT,
unexpected, and one whose output or outcome does not fit the record is mismatched: each is counted and changes
nothing else. R160: a BUSY answer matched while the retry window is open: RETRY_WAIT for 200 ms, the tag held,
nothing sent. -/
def Obligations.AnswerCountedOrRetried : Prop :=
  (∀ (station tag output : Nat) (o : AnswerOutcome) (run : RunState) (g : TagRec) (s : State), Quiescent s →
     s.part.ord.tags.find? (fun t => t.station == station && t.tag == tag) = some g →
     let c := s.part.ord.counters
     let holder := s.part.ord.records.find? fun r => r.station == station && r.tag == some tag
     let becomes := fun (c : OrderCounters) => exec (.fanAnswer station tag output o run) s =
       nextPart s { s.part with ord := { s.part.ord with counters := c } }
     (g.state = .quarantine → becomes { c with late := bump c.late }) ∧
     (g.state = .free → becomes { c with unexpected := bump c.unexpected }) ∧
     (∀ r, g.state = .busy → holder = some r →
       (r.state = .retryWait → becomes { c with unexpected := bump c.unexpected }) ∧
       (r.state ≠ .retryWait →
         r.output ≠ output ∨ ((r.state = .querying ∨ r.kind = .query) ↔ o ≠ .state) →
         becomes { c with mismatched := bump c.mismatched }))) ∧
  (∀ (station tag : Nat) (run : RunState) (g : TagRec) (r : OrderRec) (s : State), Quiescent s →
     s.part.ord.tags.find? (fun t => t.station == station && t.tag == tag) = some g → g.state = .busy →
     s.part.ord.records.find? (fun r => r.station == station && r.tag == some tag) = some r →
     r.state = .sent → r.kind ≠ .query → r.windowOpen = true →
     exec (.fanAnswer station tag r.output .busy run) s = nextPart s { s.part with ord := { s.part.ord with
       counters := { s.part.ord.counters with busy := bump s.part.ord.counters.busy },
       records := s.part.ord.records.map fun x =>
         if x.fan = r.fan then
           { x with response := none, state := .retryWait, busySeen := true, retry := some (s.part.now + 200) }
         else x } })

/-- R159, R161, R162, R170: a matched answer that ends an order is counted: ACCEPTED as accepted, a refusal as
refused with ORDER_FAILED raised, a STATE to a QUERY order as neither. R165: the answer to a recovery query is judged:
an order that took effect is counted as accepted and recovered, and ORDER_RECOVERED reported; one found running the
contrary way ends uncounted; one without effect is sent once more on its tag while its window is open and it has not
been sent again before, a START that fails the start check being withdrawn, and is otherwise failed. -/
def Obligations.AnswerEndsOrder : Prop :=
  (∀ (station tag : Nat) (run : RunState) (g : TagRec) (r : OrderRec) (s : State), Quiescent s →
     s.part.ord.tags.find? (fun t => t.station == station && t.tag == tag) = some g → g.state = .busy →
     s.part.ord.records.find? (fun r => r.station == station && r.tag == some tag) = some r → r.state = .sent →
     let c := s.part.ord.counters
     (r.kind ≠ .query → ∃ t, exec (.fanAnswer station tag r.output .accepted run) s = .next t ∧
       t.part.ord.counters.accepted = bump c.accepted ∧ t.part.ord.counters.refused = c.refused ∧
       t.part.ord.counters.failed = c.failed ∧
       (r.busySeen = true → t.part.fc.counts[5]? = (s.part.fc.counts[5]?).map bump)) ∧
     (r.kind ≠ .query → ∀ o, o = .refusedLocal ∨ o = .refusedFault →
       ∃ t, exec (.fanAnswer station tag r.output o run) s = .next t ∧
         t.part.ord.counters.refused = bump c.refused ∧ t.part.ord.counters.accepted = c.accepted ∧
         t.part.fc.flags &&& 0x0020 ≠ 0) ∧
     (r.kind = .query → ∃ t, exec (.fanAnswer station tag r.output .state run) s = .next t ∧
       t.part.ord.counters.accepted = c.accepted ∧ t.part.ord.counters.refused = c.refused ∧
       t.part.ord.counters.mismatched = c.mismatched)) ∧
  (∀ (station tag : Nat) (run : RunState) (g : TagRec) (r : OrderRec) (s : State), Quiescent s →
     s.part.ord.tags.find? (fun t => t.station == station && t.tag == tag) = some g → g.state = .busy →
     s.part.ord.records.find? (fun r => r.station == station && r.tag == some tag) = some r → r.state = .querying →
     r.kind ≠ .query →
     let p := s.part
     let c := p.ord.counters
     let effect : Prop :=
       r.kind = .startFwd ∧ (run = .runFwd ∨ run = .starting) ∨ r.kind = .startRev ∧ (run = .runRev ∨ run = .starting) ∨
       r.kind = .stop ∧ (run = .stopped ∨ run = .stopping)
     let contrary : Prop := r.kind = .startFwd ∧ run = .runRev ∨ r.kind = .startRev ∧ run = .runFwd
     let again : Prop := r.reissued = false ∧ r.windowOpen = true
     let answered := fun (good : State → Prop) =>
       ∃ t, exec (.fanAnswer station tag r.output .state run) s = .next t ∧ good t
     (effect → answered fun t =>
       t.part.ord.counters.accepted = bump c.accepted ∧ t.part.ord.counters.recovered = bump c.recovered ∧
       t.part.ord.counters.refused = c.refused ∧ t.part.ord.counters.failed = c.failed ∧
       t.part.fc.counts[6]? = (p.fc.counts[6]?).map bump) ∧
     (contrary → answered fun t =>
       t.part.ord.counters.accepted = c.accepted ∧ t.part.ord.counters.recovered = c.recovered ∧
       t.part.ord.counters.refused = c.refused ∧ t.part.ord.counters.failed = c.failed) ∧
     (¬ effect → ¬ contrary → again → Rule.mayStart p r → answered fun t =>
       exec (.queueOwnTelegram (.fanOrder station tag r.output r.kind)) { s with part := { p with ord := { p.ord with
         records := p.ord.records.map fun x => if x.fan = r.fan then
             { x with state := .sent, reissued := true, tag := some tag,
                      response := some (p.now + BitVec.ofNat 32 (match p.mgmt.control with
                        | some c => c.response
                        | none => 2000)) }
           else x,
         counters := { c with issued := bump c.issued } } } } = .next t) ∧
     (¬ effect → ¬ contrary → again → ¬ Rule.mayStart p r → answered fun t =>
       (bump c.withdrawn).toNat ≤ t.part.ord.counters.withdrawn.toNat ∧ t.part.ord.counters.failed = c.failed) ∧
     (¬ effect → ¬ contrary → ¬ again → answered fun t =>
       t.part.ord.counters.failed = bump c.failed ∧ t.part.ord.counters.accepted = c.accepted ∧
       t.part.ord.counters.refused = c.refused ∧ t.part.fc.flags &&& 0x0020 ≠ 0))

/-- R163, R164, R166, R167: the response timer's expiry quarantines the order's tag for 2 s; unarmed, nothing happens
[4]. A QUERY not yet issued again returns to WAITING and a START or STOP enters QUERYING, as does a recovery query whose
first timeout it is; with no other order in the backlog it is issued at once on the lowest FREE tag of its station, if
the pool has a slot (R155). A QUERY issued again and a recovery query's second timeout are failures: counted, ORDER_FAILED
raised for a START or STOP, and, with no successor and outside CONTROL, no order of the fan stands after it. -/
def Obligations.ResponseTimeout : Prop :=
  ∀ (n tag : Nat) (g : TagRec) (r : OrderRec) (s : State), Quiescent s →
    s.part.ord.records.find? (fun x => x.fan == n) = some r →
    (r.response = none → exec (.responseTimerExpiry n) s = nextPart s s.part) ∧
    (r.response ≠ none → r.state = .sent ∨ r.state = .querying → r.tag = some tag →
      s.part.ord.tags.find? (fun t => t.station == r.station && t.tag == tag) = some g → g.state = .busy →
      let o := s.part.ord
      let issuedOn : Option Nat :=
        if (o.tags.filter fun t => t.state != .free).length < 16 then
          (o.tags.find? fun t => t.station == r.station && t.state == .free).map (·.tag)
        else none
      ∃ t, exec (.responseTimerExpiry n) s = .next t ∧
        let stands := fun (good : OrderRec → Prop) => o.backlog = [] →
          (∃ x, t.part.ord.records.find? (fun x => x.fan == n) = some x ∧ x.kind = r.kind ∧ x.tag = issuedOn ∧
            (x.response = none ↔ issuedOn = none) ∧ good x) ∧
          t.part.ord.backlog = (if issuedOn = none then [n] else []) ∧
          t.part.ord.counters.issued = (if issuedOn = none then o.counters.issued else bump o.counters.issued)
        let fails : Prop := t.part.ord.counters.failed = bump o.counters.failed ∧
          (r.kind ≠ .query → t.part.fc.flags &&& 0x0020 ≠ 0 ∧
            t.part.fc.counts[13]? = (s.part.fc.counts[13]?).map bump) ∧
          (r.kind = .query → t.part.fc.counts[13]? = s.part.fc.counts[13]?) ∧
          (o.backlog = [] → r.successor = none → s.part.fm.record.state ≠ .control →
            ∀ x ∈ t.part.ord.records, x.fan ≠ n)
        (∃ q, t.part.ord.tags.find? (fun t => t.station == r.station && t.tag == tag) = some q ∧
          q.state = .quarantine ∧ q.quarantine = some (s.part.now + 2000)) ∧
        (r.state = .sent → r.kind = .query → r.reissued = false →
          stands fun x => x.state = (if issuedOn = none then .waiting else .sent) ∧ x.reissued = true) ∧
        (r.state = .sent → r.kind = .query → r.reissued = true → fails) ∧
        (r.state = .sent → r.kind ≠ .query → stands fun x => x.state = .querying ∧ x.queryTimeouts = 0) ∧
        (r.state = .querying → r.queryTimeouts = 0 → stands fun x => x.state = .querying ∧ x.queryTimeouts = 1) ∧
        (r.state = .querying → 1 ≤ r.queryTimeouts → fails))

/-- R160: the retry window timer's expiry closes the window and changes nothing else; the retry-spacing timer's
expiry in RETRY_WAIT sends a STOP, and a START that passes the start check of R155, once more on the tag it holds; a
START that fails it is withdrawn; unarmed [4], in another state, or for a fan without a record [23], nothing happens.
R167: the quarantine timer's expiry frees the tag; with no record waiting, that is all; unarmed [4] or in another
state, nothing happens. -/
def Obligations.RetryAndQuarantineExpire : Prop :=
  (∀ (n : Nat) (s : State), Quiescent s →
     exec (.retryWindowTimerExpiry n) s = nextPart s { s.part with ord := { s.part.ord with
       records := s.part.ord.records.map fun r =>
         if r.fan = n ∧ r.window ≠ none then { r with windowOpen := false, window := none } else r } } ∧
     (s.part.ord.records.find? (fun x => x.fan == n) = none →
       exec (.retrySpacingTimerExpiry n) s = nextPart s s.part) ∧
     ∀ r, s.part.ord.records.find? (fun x => x.fan == n) = some r →
       (r.retry = none ∨ r.state ≠ .retryWait → exec (.retrySpacingTimerExpiry n) s = nextPart s s.part) ∧
       (∀ tag, r.retry ≠ none → r.state = .retryWait → r.kind ≠ .query → r.tag = some tag →
         let p := s.part
         let records := p.ord.records.map fun x => if x.fan = n then
             { x with retry := none, state := .sent, tag := some tag,
                      response := some (p.now + BitVec.ofNat 32 (match p.mgmt.control with
                        | some c => c.response
                        | none => 2000)) }
           else x
         (Rule.mayStart p r → ∃ t, exec (.retrySpacingTimerExpiry n) s = .next t ∧
           exec (.queueOwnTelegram (.fanOrder r.station tag r.output r.kind)) { s with part := { p with
             ord := { p.ord with
               records := records, counters := { p.ord.counters with issued := bump p.ord.counters.issued } } } } =
             .next t) ∧
         (¬ Rule.mayStart p r → ∃ t, exec (.retrySpacingTimerExpiry n) s = .next t ∧
           (bump p.ord.counters.withdrawn).toNat ≤ t.part.ord.counters.withdrawn.toNat ∧
           t.part.ord.counters.failed = p.ord.counters.failed))) ∧
  (∀ (station tag : Nat) (g : TagRec) (s : State), Quiescent s →
     s.part.ord.tags.find? (fun t => t.station == station && t.tag == tag) = some g →
     (g.state ≠ .quarantine ∨ g.quarantine = none → exec (.quarantineTimerExpiry station tag) s = nextPart s s.part) ∧
     (g.state = .quarantine → g.quarantine ≠ none →
       (∃ t q, exec (.quarantineTimerExpiry station tag) s = .next t ∧
         t.part.ord.tags.find? (fun t => t.station == station && t.tag == tag) = some q ∧ q.state ≠ .quarantine) ∧
       (s.part.ord.backlog = [] → ∀ pre post, s.part.ord.tags = pre ++ g :: post →
         (∀ t ∈ pre, ¬ (t.station = station ∧ t.tag = tag)) →
         exec (.quarantineTimerExpiry station tag) s = nextPart s { s.part with ord := { s.part.ord with
           tags := pre ++ { g with state := .free, quarantine := none } :: post } })))

/-! ### Section coordination (09) -/

/-- R173, R174, R175: the bulletin timer's expiry builds a bulletin from the values that stand in the blocks, counts
it, arms the timer with the control period (5 s with no CONTROL table), and has it queued; unarmed, nothing happens
[4]. -/
def Obligations.BulletinSent : Prop :=
  ∀ s : State, Quiescent s → HealthFormed s →
    let p := s.part
    let ms : Nat := match p.mgmt.control with | some c => 1000 * c.period | none => 5000
    (p.coord.timer = none → exec .bulletinTimerExpiry s = nextPart s p) ∧
    (p.coord.timer ≠ none → ∃ t, exec .bulletinTimerExpiry s = .next t ∧
      exec (.queueOwnTelegram (.bulletin (Rule.bulletin p))) { s with part := { p with coord := { p.coord with
        built := bump p.coord.built, timer := some (p.now + BitVec.ofNat 32 ms) } } } = .next t)

/-- R173, R174, R176, R179: a record handed to the Coordinator gives it the held id and the role; a changed id has
the lead view judged afresh, the lowest address among the fresh peers that claim lead for it; and a change of state has a
bulletin built from the values that stand in the blocks, counted and queued, and the timer armed. R180: that judgement
sets the two-leads mark when it finds two claimants or more, the part itself being one when its role is LEAD, and clears
it otherwise; where the mark was clear, TWO_LEADS is reported with its object, the lowest claimant for a part that is
LEAD and the lowest but the lead view for another, and no fault is reported else; the peers' addresses are distinct,
which every step keeps (StepKeepsControlAtRest). The model's choice [29]: the lead view is judged, and TWO_LEADS
reported, before the bulletin is built, so that the bulletin's flags and health show that report. -/
def Obligations.CoordinatorTakesRecord : Prop :=
  ∀ (h : RecordHandOn) (s : State), Quiescent s →
    let ms : Nat := match s.part.mgmt.control with | some c => 1000 * c.period | none => 5000
    let c := s.part.coord
    ∃ t, exec (.incidentRecordToCoordinator h) s = .next t ∧
      t.part.coord.heldId = h.record.id ∧ t.part.coord.role = h.record.role ∧ t.part.coord.peers = c.peers ∧
      (h.record.id ≠ c.heldId → t.part.coord.leadView = leadViewFor h.record.id c.peers) ∧
      (h.record.id = c.heldId → t.part.coord.leadView = c.leadView ∧ t.part.coord.twoLeads = c.twoLeads) ∧
      (let id := h.record.id
       let conflict : Prop := id ≠ c.heldId ∧ Rule.Conflict id h.record.role c.peers
       let reported : Prop := conflict ∧ c.twoLeads = false
       (id ≠ c.heldId → Rule.IsLeadView id c.peers t.part.coord.leadView ∧ (t.part.coord.twoLeads = true ↔ conflict)) ∧
       (reported → (c.peers.map (·.address)).Nodup → ∃ n u, Rule.IsTwoLeadsObject id h.record.role c.peers n ∧
         exec (.faultReport .twoLeads ⟨.station, n⟩) s = .next u ∧ t.part.fc = u.part.fc) ∧
       (¬ reported → t.part.fc = (formHealth s.part).fc)) ∧
      (h.before ≠ h.record.state →
        t.part.coord.built = bump c.built ∧ t.part.coord.timer = some (s.part.now + BitVec.ofNat 32 ms) ∧
        exec (.queueOwnTelegram (.bulletin (Rule.bulletin { s.part with fc := t.part.fc })))
          { s with part := { s.part with coord := t.part.coord, fc := t.part.fc } } = .next t) ∧
      (h.before = h.record.state → t.part.coord.built = c.built ∧ t.part.coord.timer = c.timer ∧
        t.part.line = s.part.line) ∧
      t.part.reg = s.part.reg ∧ t.part.ctl = s.part.ctl ∧ t.part.fm = s.part.fm ∧ t.part.ord = s.part.ord ∧
      t.part.meas = s.part.meas ∧ t.part.disp = s.part.disp ∧ t.part.mgmt = s.part.mgmt

/-- R176, R177, R178: a BULLETIN from a peer replaces the last bulletin of its record, which becomes fresh with its
timer armed; other peers' records stand; one from a station without a peer record changes nothing [23]. R178: the
freshness timer's expiry clears fresh, keeps the last bulletin, and counts; unarmed, nothing happens [4]. R78, R79:
a complete view, not of the last cleared id, is joined in QUIET or ALERT, and replaces an incident of a higher id.
R80: a view whose last cleared id is the id held, be it the id just joined, has it cleared, as a CLEAR does. R75 to
R77, R81: the lead view for the held id is copied by a part that is FOLLOWER or LOCAL, a LOCAL part that its share
list names [18] being FOLLOWER again, or is recorded under the store-write hold; any other view changes nothing at
the Register. R100, R101, R182, R184: while the record stays, a controller in SHARE or SHARE_HELD takes the lead
view's share, and one in SHARE whose lead is lost, or does not name it, holds its share; when a bulletin or an
expiry moves the lead view to another peer, that peer's view is taken so, the peers' addresses being distinct, which
every step keeps (StepKeepsControlAtRest). R179, R180: a bulletin, and a freshness timer's expiry, have the lead view
judged afresh for the held id; while the Register stays, the two-leads mark is set when two claimants or more are found
and clear otherwise, and TWO_LEADS is reported, with its object, when it becomes set. -/
def Obligations.BulletinsTaken : Prop :=
  (∀ (source : Nat) (b : Bulletin) (s : State), Quiescent s →
     let ms : Nat := match s.part.mgmt.control with | some c => 1000 * c.freshTime | none => 10000
     ((∀ q ∈ s.part.coord.peers, q.address ≠ source) → exec (.bulletin source b) s = nextPart s s.part) ∧
     ((∃ q ∈ s.part.coord.peers, q.address = source) → ∃ t, exec (.bulletin source b) s = .next t ∧
       (t.part.coord.peers = s.part.coord.peers.map fun q => if q.address = source then
           { q with held := some b, arrival := s.part.now, fresh := true,
                    freshness := some (s.part.now + BitVec.ofNat 32 ms) }
         else q) ∧
       t.part.coord.taken = bump s.part.coord.taken ∧ t.part.coord.stale = s.part.coord.stale)) ∧
  (∀ (address : Nat) (q : PeerRec) (s : State), Quiescent s →
     s.part.coord.peers.find? (fun x => x.address == address) = some q →
     (q.freshness = none → exec (.freshnessTimerExpiry address) s = nextPart s s.part) ∧
     (q.freshness ≠ none → ∃ t, exec (.freshnessTimerExpiry address) s = .next t ∧
       (t.part.coord.peers = s.part.coord.peers.map fun x =>
         if x.address = address then { x with fresh := false, freshness := none } else x) ∧
       t.part.coord.stale = bump s.part.coord.stale ∧ t.part.coord.taken = s.part.coord.taken) ∧
     (q.freshness ≠ none →
       let g := s.part.reg
       let peers := s.part.coord.peers.map fun x =>
         if x.address = address then { x with fresh := false, freshness := none } else x
       let before := s.part.coord.leadView
       let lead := leadViewFor s.part.coord.heldId peers
       ∃ t, exec (.freshnessTimerExpiry address) s = .next t ∧
         (before = none ∨ lead = before → t.part.reg = g ∧ t.part.ctl = s.part.ctl) ∧
         (before ≠ none → lead = none → t.part.reg = g ∧ t.part.ctl = Rule.shareTaken s.part none) ∧
         ∀ a x b, (s.part.coord.peers.map (·.address)).Nodup → before ≠ none → lead ≠ before → lead = some a →
           peers.find? (fun x => x.address == a) = some x → x.held = some b → s.part.coord.heldId = g.record.id →
           g.record.role = .follower ∨ g.record.role = .lead → g.record.state = .control → b.state = .control →
           b.lastCleared ≠ g.record.id →
           t.part.reg = g ∧ t.part.ctl = Rule.shareTaken s.part (Rule.shareOf s.part b))) ∧
  (∀ (c : Instr) (peers : List PeerRec) (s t : State), Quiescent s → (s.part.coord.peers.map (·.address)).Nodup →
     let ms : Nat := match s.part.mgmt.control with | some x => 1000 * x.freshTime | none => 10000
     (∃ source b, c = .bulletin source b ∧ (∃ q ∈ s.part.coord.peers, q.address = source) ∧
       peers = s.part.coord.peers.map fun q => if q.address = source then
           { q with held := some b, arrival := s.part.now, fresh := true,
                    freshness := some (s.part.now + BitVec.ofNat 32 ms) }
         else q) ∨
     (∃ address, c = .freshnessTimerExpiry address ∧
       (∃ q ∈ s.part.coord.peers, q.address = address ∧ q.freshness ≠ none) ∧
       peers = s.part.coord.peers.map fun q =>
         if q.address = address then { q with fresh := false, freshness := none } else q) →
     exec c s = .next t → t.part.reg = s.part.reg →
     let id := s.part.coord.heldId
     let role := s.part.coord.role
     Rule.IsLeadView id peers t.part.coord.leadView ∧
     (t.part.coord.twoLeads = true ↔ Rule.Conflict id role peers) ∧
     (Rule.Conflict id role peers → s.part.coord.twoLeads = false → ∃ n u, Rule.IsTwoLeadsObject id role peers n ∧
       exec (.faultReport .twoLeads ⟨.station, n⟩) s = .next u ∧ t.part.fc = u.part.fc) ∧
     (¬ Rule.Conflict id role peers ∨ s.part.coord.twoLeads = true → t.part.fc = (formHealth s.part).fc)) ∧
  (∀ (source : Nat) (b : Bulletin) (moved : Option Bulletin) (s : State), Quiescent s →
     (∃ q ∈ s.part.coord.peers, q.address = source) →
     let ms : Nat := match s.part.mgmt.control with | some c => 1000 * c.freshTime | none => 10000
     let peers := s.part.coord.peers.map fun q => if q.address = source then
         { q with held := some b, arrival := s.part.now, fresh := true,
                  freshness := some (s.part.now + BitVec.ofNat 32 ms) }
       else q
     let before := s.part.coord.leadView
     let lead := leadViewFor s.part.coord.heldId peers
     let g := s.part.reg
     let r := g.record
     moved = none ∧ (before = none ∨ lead = none ∨ lead = some source ∨ lead = before) ∨
       (∃ a x v, before ≠ none ∧ lead = some a ∧ a ≠ source ∧ lead ≠ before ∧
         (s.part.coord.peers.map (·.address)).Nodup ∧ peers.find? (fun x => x.address == a) = some x ∧
         x.held = some v ∧ moved = some v ∧ s.part.coord.heldId = r.id ∧ (r.role = .follower ∨ r.role = .lead) ∧
         r.state = .control ∧ v.state = .control ∧ v.lastCleared ≠ r.id) →
     let marked : Prop := leadViewFor b.id peers = some source
     let leads : Prop := b.state = .control ∨ b.state = .hold
     let responds : Prop := r.state = .declared ∨ r.state = .control ∨ r.state = .hold
     let complete : Prop := (b.state = .declared ∨ leads) ∧
       (1 ≤ b.id ∧ b.id ≤ 0xEFFF ∨ 0xF001 ≤ b.id ∧ b.id ≤ 0xF0EF) ∧ b.fire ≤ 20000 ∧ b.direction ≠ none ∧
       1 ≤ b.heat ∧ b.heat ≤ 6
     let joins : Prop := complete ∧ b.id ≠ g.lastCleared ∧
       ((r.state = .quiet ∨ r.state = .alert) ∧ s.part.mgmt.control ≠ none ∨ responds ∧ b.id < r.id)
     let clears : Prop := responds ∧ b.lastCleared = r.id
     let inSection : Prop := ∃ x, s.part.mgmt.sections = some x ∧ x.lo ≤ b.fire ∧ b.fire < x.hi
     let pending : PendingEntry := if b.state = .control then .leadViewControl else .leadViewHold
     let follows : Prop := r.role = .follower ∨ r.role = .localRole
     ∃ t, exec (.bulletin source b) s = .next t ∧
       (joins → b.lastCleared ≠ b.id →
         let u := t.part.reg
         let waits : Prop := ¬ inSection ∧ (¬ (marked ∧ leads) ∨ g.storeHold = true)
         u.record.id = b.id ∧ u.record.fire = some b.fire ∧ u.record.head = none ∧ u.record.tail = none ∧
         u.record.dir = b.direction ∧ u.record.dirSource = some .adopted ∧ u.record.heat = some b.heat ∧
         (inSection → u.record.role = .lead ∧ u.record.state = (if g.storeHold then .declared else .control)) ∧
         (waits → u.record.state = .declared ∧
           u.record.role = (if r.role = .localRole then .localRole else .follower) ∧
           u.leadWait = some (s.part.now + BitVec.ofNat 32 (1000 * s.part.control.leadWait))) ∧
         (¬ inSection → ¬ waits → u.record.state = b.state ∧ u.record.role = .follower ∧ u.leadWait = none) ∧
         u.entry = (if g.storeHold = true ∧ marked ∧ leads then some pending else none) ∧
         (u.record.controlled = true ↔ u.record.state = .control) ∧ u.autoDeclare = none ∧
         u.detection = g.detection ∧ u.lastCleared = g.lastCleared ∧ u.outcome = g.outcome ∧
         (responds → b.direction ≠ r.dir → t.part.fc.flags &&& 0x0010 ≠ 0)) ∧
       (joins → b.lastCleared = b.id → t.part.reg.leadWait = none ∧ t.part.reg.entry = none ∧
         (t.part.reg.record.state = .clearing ∧ t.part.reg.record.id = b.id ∧
           t.part.reg.lastCleared = g.lastCleared ∨
          t.part.reg.record = .empty .quiet ∧ t.part.reg.lastCleared = b.id ∧ t.part.reg.detection = [])) ∧
       (¬ joins → clears → t.part.reg.leadWait = none ∧ t.part.reg.entry = none ∧
         ((∃ f ∈ s.part.fm.fans, Rule.holdsOpen f) ∨ s.part.ord.records ≠ [] →
           t.part.reg.record = { r with state := .clearing } ∧ t.part.reg.lastCleared = g.lastCleared ∧
           t.part.reg.detection = g.detection) ∧
         (¬ (∃ f ∈ s.part.fm.fans, Rule.holdsOpen f) → s.part.ord.records = [] →
           t.part.reg.record = .empty .quiet ∧ t.part.reg.lastCleared = r.id ∧ t.part.reg.detection = [])) ∧
       (¬ joins → ¬ clears → marked → b.id = r.id →
         (r.state = .declared → g.storeHold = true →
           t.part.reg = { g with entry := if leads then some pending else g.entry }) ∧
         (r.state = .declared → g.storeHold = false → t.part.reg = if follows ∧ leads then
             { g with leadWait := none, entry := none,
                      record := { r with state := b.state, role := .follower,
                                         controlled := r.controlled || b.state == .control } }
           else g) ∧
         (r.state = .control ∨ r.state = .hold →
           let named : Prop := r.role = .localRole ∧ leads ∧ ∃ e ∈ b.shares, e.node = s.part.line.node.toNat
           t.part.reg = { g with record := { r with
             role := if named then .follower else r.role, state := if follows ∧ leads then b.state else r.state,
             controlled := r.controlled || decide (r.state = .hold ∧ follows ∧ b.state = .control) } })) ∧
       (¬ joins → ¬ clears → ¬ (marked ∧ b.id = r.id ∧ responds) → t.part.reg = g) ∧
       (s.part.coord.heldId = r.id → b.lastCleared ≠ b.id → t.part.reg.record = r → t.part.ctl =
         if lead = some source then Rule.shareTaken s.part (Rule.shareOf s.part b)
         else if moved ≠ none then Rule.shareTaken s.part (moved.bind (Rule.shareOf s.part))
         else if before ≠ none ∧ lead = none then Rule.shareTaken s.part none
         else s.part.ctl))

/-! ### Management and table loading (11) -/

/-- R198, R42, R200, R210: a request of an unknown kind, of a wrong argument length, with a code not listed, or
naming no object (a fan, an instrument that is not ABSENT, an object of a READ_STATUS selector), is refused with its
reason and changes nothing. -/
def Obligations.RequestsRefused : Prop :=
  ∀ (src : Byte) (num : BitVec 16) (args : List Byte) (s : State), Quiescent s →
    let q : Request := ⟨src, num, args⟩
    let refused := fun (c : Instr) (kind reason : Byte) => ∃ t, exec c s = .next t ∧
      exec (.queueOwnTelegram (.mgmtReply src (beBytes 2 num.toNat ++ [kind, 1, reason]))) s = .next t
    let noFan : Byte → Prop := fun n =>
      ∀ f, s.part.fm.fans.find? (fun x => x.e.num == n.toNat) = some f → f.state = .unconfigured
    (∀ kind, refused (.mgmtRequestUnknownKind kind q) kind 1) ∧
    (args.length ≠ 3 → refused (.readStatus q) 1 4 ∧ refused (.loadBegin q) 2 4) ∧
    (args.length < 3 ∨ 226 < args.length → refused (.loadBlock q) 3 4) ∧
    (args.length ≠ 2 → refused (.loadEnd q) 4 4 ∧ refused (.ackEvents q) 6 4 ∧ refused (.admitObject q) 8 4) ∧
    (args.length ≠ 1 → refused (.activate q) 5 4 ∧ refused (.isolate q) 9 4) ∧
    (args.length ≠ 0 → refused (.clearFault q) 7 4 ∧ ∀ seq, refused (.restart q seq) 10 4) ∧
    (∀ selector object option, args = [selector, object, option] →
      selector = 0 ∨ 9 < selector.toNat ∨ 1 < option.toNat ∨ (option = 1 ∧ selector ≠ 9) →
      refused (.readStatus q) 1 1) ∧
    (∀ k x y, args = [k, x, y] → k = 0 ∨ 4 < k.toNat → refused (.loadBegin q) 2 1) ∧
    (∀ k, args = [k] → k = 0 ∨ 4 < k.toNat → refused (.activate q) 5 1) ∧
    (∀ c n, args = [c, n] → c = 0 ∨ 4 < c.toNat → refused (.admitObject q) 8 1) ∧
    (∀ n, args = [n] → noFan n → refused (.isolate q) 9 12) ∧
    (∀ n, args = [4, n] → noFan n → refused (.admitObject q) 8 12) ∧
    (∀ (c n : Byte) (cls : InstrumentClass), args = [c, n] →
      (c = 1 ∧ cls = .velocity) ∨ (c = 2 ∧ cls = .opacity) ∨ (c = 3 ∧ cls = .temperature) →
      (∀ x ∈ instruments s.part.meas, x.1 = ⟨cls, n.toNat⟩ → x.2.state = .absent) → refused (.admitObject q) 8 12) ∧
    (∀ selector object option, args = [selector, object, option] → option = 0 ∨ option = 1 ∧ selector = 9 →
      let n := object.toNat
      (selector = 1 ∨ selector = 2 ∨ selector = 8 → object ≠ 0 → refused (.readStatus q) 1 1) ∧
      (selector = 3 → (∀ y ∈ s.part.meas.points, y.num ≠ n) → refused (.readStatus q) 1 12) ∧
      (selector = 4 → (∀ y ∈ s.part.meas.zones, y.num ≠ n) → refused (.readStatus q) 1 12) ∧
      (selector = 5 → object ≠ 0 → (∀ y ∈ s.part.fm.fans, y.e.num ≠ n) → refused (.readStatus q) 1 12) ∧
      (selector = 6 → object ≠ 0 → (∀ y ∈ s.part.coord.peers, y.address ≠ n) → refused (.readStatus q) 1 12) ∧
      (selector = 7 → 48 < n → refused (.readStatus q) 1 12) ∧
      (selector = 9 → s.part.disp.stations.length < n → refused (.readStatus q) 1 12))

/-- R200: READ_STATUS without the clear-after-read option changes nothing but for its reply; with the option,
selector COUNTERS gives the same reply and sets the counters of the object to 0 before the reply is queued. R21, R22,
R83, R104, R170, R185, R194: for every selector and object number that R200 accepts, the reply carries the items of the
selector, where they fit in 240 bytes with the envelope; where they do not, those that fit in ascending order and item
255 with the number left out. The model's choices are the widths and codes of [16], a G absent with no CONTROL table
[7], part times compared modulo 2^32 [10], the form of the fields of an order record beyond item 20 with object 0, their
numbers left open [32], the orders of [35], the byte of a tag and its state [38], which
items fit [39], and the byte of a number above 255, left open [17]. The health that selector
FAULT returns is that of the inputs, which every step keeps (StepKeepsEventsWhole). -/
def Obligations.ReadStatus : Prop :=
  ∀ (src : Byte) (num : BitVec 16) (s : State), Quiescent s →
    (∀ selector object : Byte, ∃ payload t, exec (.readStatus ⟨src, num, [selector, object, 0]⟩) s = .next t ∧
      exec (.queueOwnTelegram (.mgmtReply src payload)) s = .next t) ∧
    (∀ object : Byte, object.toNat ≤ s.part.disp.stations.length →
      ∃ payload t u, exec (.readStatus ⟨src, num, [9, object, 0]⟩) s = .next t ∧
        exec (.queueOwnTelegram (.mgmtReply src payload)) s = .next t ∧
        exec (.readStatus ⟨src, num, [9, object, 1]⟩) s = .next u ∧
        exec (.queueOwnTelegram (.mgmtReply src payload)) { s with part := Rule.cleared object.toNat s.part } =
          .next u) ∧
    (∀ (selector object : Byte) (items : List Rule.Item),
      Rule.statusItems s.part selector.toNat object.toNat = some items → (selector = 8 → HealthFormed s) →
      let replied := fun (data : List Byte) => ∃ t, exec (.readStatus ⟨src, num, [selector, object, 0]⟩) s = .next t ∧
        exec (.queueOwnTelegram (.mgmtReply src (beBytes 2 num.toNat ++ [1, 0, 0] ++ data))) s = .next t
      ((Rule.itemBytes items).length ≤ 235 → replied (Rule.itemBytes items)) ∧
      (235 < (Rule.itemBytes items).length →
        ∀ kept next left, items = kept ++ next :: left → (Rule.itemBytes kept).length + 3 ≤ 235 →
          235 < (Rule.itemBytes (kept ++ [next])).length + 3 → left.length < 255 →
          replied (Rule.itemBytes kept ++ [255, 1, BitVec.ofNat 8 (left.length + 1)]))) ∧
    let g := s.part.reg
    let r := g.record
    let two : Option Nat → List Byte := fun v => match v with | some x => beBytes 2 x | none => [0xFF, 0xFF]
    let bytes : List Byte → List Byte := id
    let source : Byte := match r.dirSource with
      | some .explicit => 0 | some .train => 1 | some .default => 2 | some .adopted => 3 | none => 0xFF
    (g.detection.length ≤ 16 → g.autoDeclare = none → g.leadWait = none → g.entry = none →
      ∃ t, exec (.readStatus ⟨src, num, [1, 0, 0]⟩) s = .next t ∧ exec (.queueOwnTelegram (.mgmtReply src
        (beBytes 2 num.toNat ++ bytes [1, 0, 0] ++
          bytes [1, 1, BitVec.ofNat 8 (stateCode r.state)] ++ bytes [2, 2] ++ beBytes 2 r.id ++
          bytes [3, 2] ++ two r.fire ++ bytes [4, 2] ++ two r.head ++ bytes [5, 2] ++ two r.tail ++
          bytes [6, 1, match r.dir with | some .ab => 1 | some .ba => 2 | none => 0xFF] ++ bytes [7, 1, source] ++
          bytes [8, 1, match r.heat with | some c => BitVec.ofNat 8 c | none => 0xFF] ++
          bytes [9, 1, BitVec.ofNat 8 (roleCode r.role)] ++ bytes [10, 1, if r.controlled then 1 else 0] ++
          bytes [11, 1, BitVec.ofNat 8 g.detection.length] ++
          (g.detection.flatMap fun z => bytes [12, 1, BitVec.ofNat 8 z]) ++
          bytes [13, 1, BitVec.ofNat 8 (outcomeCode g.outcome)] ++ bytes [14, 2] ++ beBytes 2 g.lastCleared ++
          bytes [15, 4, 0, 0, 0, 0] ++ bytes [16, 4, 0, 0, 0, 0] ++ bytes [17, 1, if g.storeHold then 1 else 0] ++
          bytes [18, 1, 0]))) s = .next t)

/-- R202, R203, R204: the load buffer under LOAD_BEGIN, LOAD_BLOCK and LOAD_END: refused with BUSY while it is locked,
judged by its state otherwise. R201, R204 to R206: in LOADING the image is checked as a whole, and the first check that
it fails, of LENGTH, CHECKSUM, IDENTITY, FILL, RANGE and CONFLICT in this order, is the reason of the refusal, the buffer
becoming REJECTED; an image that passes them all is VERIFIED. -/
def Obligations.LoadBufferJudged : Prop :=
  ∀ (src : Byte) (num : BitVec 16) (s : State), Quiescent s →
    let b := s.part.mgmt.buffer
    let locked : Prop := s.part.mgmt.write ≠ none
    let replied := fun (c : Instr) (tail : List Byte) (b : LoadBuffer) => ∃ t, exec c s = .next t ∧
      exec (.queueOwnTelegram (.mgmtReply src (beBytes 2 num.toNat ++ tail)))
        { s with part := { s.part with mgmt := { s.part.mgmt with buffer := b } } } = .next t
    (∀ (k l1 l0 : Byte) (kind : TableKind) (length : Nat),
      (k = 1 ∧ kind = .stations ∧ length = 400) ∨ (k = 2 ∧ kind = .sections ∧ length = 676) ∨
        (k = 3 ∧ kind = .fans ∧ length = 976) ∨ (k = 4 ∧ kind = .control ∧ length = 80) →
      let c : Instr := .loadBegin ⟨src, num, [k, l1, l0]⟩
      (locked → replied c [2, 1, 11] b) ∧
      (¬ locked → 256 * l1.toNat + l0.toNat ≠ length → replied c [2, 1, 4] b) ∧
      (¬ locked → 256 * l1.toNat + l0.toNat = length →
        replied c [2, 0, 0] ⟨.loading, some kind, length, 0, some 1, []⟩)) ∧
    (∀ (n1 n0 : Byte) (data : List Byte), 1 ≤ data.length ∧ data.length ≤ 224 →
      let c : Instr := .loadBlock ⟨src, num, n1 :: n0 :: data⟩
      let n := 256 * n1.toNat + n0.toNat
      (locked → replied c [3, 1, 11] b) ∧
      (¬ locked → b.state = .broken → replied c [3, 1, 3] b) ∧
      (¬ locked → b.state = .empty ∨ b.state = .verified ∨ b.state = .rejected → replied c [3, 1, 2] b) ∧
      (¬ locked → b.state = .loading →
        (b.next ≠ some n → replied c [3, 1, 3] { b with state := .broken }) ∧
        (b.next = some n → b.declared < b.count + data.length → replied c [3, 1, 4] { b with state := .broken }) ∧
        (b.next = some n → b.count + data.length ≤ b.declared → replied c [3, 0, 0]
          { b with count := b.count + data.length, next := some (n + 1), bytes := b.bytes ++ data }))) ∧
    (∀ (c1 c0 : Byte),
      let c : Instr := .loadEnd ⟨src, num, [c1, c0]⟩
      (locked → replied c [4, 1, 11] b) ∧
      (¬ locked → b.state = .broken → replied c [4, 1, 3] b) ∧
      (¬ locked → b.state = .empty ∨ b.state = .verified ∨ b.state = .rejected → replied c [4, 1, 2] b) ∧
      (∀ kind, ¬ locked → b.state = .loading → b.kind = some kind →
        (b.count < b.declared → replied c [4, 1, 4] { b with state := .rejected }) ∧
        (b.declared ≤ b.count → (b.bytes.map BitVec.toNat).sum % 65536 ≠ 256 * c1.toNat + c0.toNat →
          replied c [4, 1, 5] { b with state := .rejected }) ∧
        (b.declared ≤ b.count → (b.bytes.map BitVec.toNat).sum % 65536 = 256 * c1.toNat + c0.toNat →
          b.bytes.take 6 ≠ [0x50, 0x53, 0x32, 0x31, 0x34, 0x30] → replied c [4, 1, 6] { b with state := .rejected }) ∧
        (imageFault kind b.declared b.count (c1 ++ c0) s.part.line.node.toNat b.bytes = none →
          replied c [4, 0, 0] { b with state := .verified }) ∧
        let rejected := fun (reason : Byte) => replied c [4, 1, reason] { b with state := .rejected }
        (b.declared ≤ b.count → (b.bytes.map BitVec.toNat).sum % 65536 = 256 * c1.toNat + c0.toNat →
          (¬ Rule.identified kind b.bytes → rejected 6) ∧
          (Rule.identified kind b.bytes →
            (¬ Rule.filled kind b.bytes → rejected 7) ∧
            (Rule.filled kind b.bytes →
              (¬ Rule.inRange kind b.bytes → rejected 8) ∧
              (Rule.inRange kind b.bytes →
                (¬ Rule.apart kind s.part.line.node.toNat b.bytes → rejected 9) ∧
                (Rule.apart kind s.part.line.node.toNat b.bytes → replied c [4, 0, 0] { b with state := .verified })))))))

/-- R208: ACTIVATE is refused with PROTECTED outside QUIET, BUSY while a write is in flight, WRONG_STATE without a
VERIFIED image of the kind; otherwise a store write begins: the slot is WRITING, the write has its own copy of the
image and the reply to come, the store-write hold is held, and no reply is queued yet. R209, R76: the end of a store
write: the slot is VALID with the new image and its checksum, the image is the active table of its kind, the buffer
is EMPTY, TABLE_EVENT is raised and the store-write hold is over; with no write in flight nothing happens. R24, R36,
R109, R169, R176: the blocks that use the table are rebuilt from it: the station records, the peer records [36] and
the provisional ones; the tags and the order records; the instruments [11] with the points and zones; the fans,
those treated as new with a QUERY requested (the clauses on order records and on kept states outside CONTROL, which no
rebuilt fan record meets: the Notes of R109); and the DONE reply is queued last. The invariants it asks for, of them that
no write runs in CONTROL or HOLD (R76, R208), are kept by every step (StepKeepsIncidentWhole, StepKeepsControlAtRest, StepKeepsFansAndPool). -/
def Obligations.ActivationAndStoreWrite : Prop :=
  (∀ (src : Byte) (num : BitVec 16) (k : Byte) (kind : TableKind) (s : State), Quiescent s →
     (k = 1 ∧ kind = .stations) ∨ (k = 2 ∧ kind = .sections) ∨ (k = 3 ∧ kind = .fans) ∨ (k = 4 ∧ kind = .control) →
     let m := s.part.mgmt
     let c : Instr := .activate ⟨src, num, [k]⟩
     let refused := fun (reason : Byte) => ∃ t, exec c s = .next t ∧
       exec (.queueOwnTelegram (.mgmtReply src (beBytes 2 num.toNat ++ [5, 1, reason]))) s = .next t
     let ready : Prop := m.buffer.state = .verified ∧ m.buffer.kind = some kind
     let writing : ManagementAgent := match kind with
       | .stations => { m with slotStation := { m.slotStation with state := .writing } }
       | .sections => { m with slotSection := { m.slotSection with state := .writing } }
       | .fans => { m with slotFan := { m.slotFan with state := .writing } }
       | .control => { m with slotControl := { m.slotControl with state := .writing } }
     (s.part.reg.record.state ≠ .quiet → refused 10) ∧
     (s.part.reg.record.state = .quiet → m.write ≠ none → refused 11) ∧
     (s.part.reg.record.state = .quiet → m.write = none → ¬ ready → refused 2) ∧
     (s.part.reg.record.state = .quiet → m.write = none → ready →
       exec c s = nextPart s { s.part with
         reg := { s.part.reg with storeHold := true },
         mgmt := { writing with write := some ⟨kind, m.buffer.bytes, src, num⟩ } })) ∧
  (∀ s : State, Quiescent s →
     (s.part.mgmt.write = none → exec .storeWriteEnd s = nextPart s s.part) ∧
     ∀ w, s.part.mgmt.write = some w → ∃ t, exec .storeWriteEnd s = .next t ∧
       let m := s.part.mgmt
       let slot : StoreSlot := ⟨.valid, w.image, BitVec.ofNat 16 (w.image.map BitVec.toNat).sum⟩
       t.part.mgmt.write = none ∧ t.part.mgmt.buffer = ⟨.empty, none, 0, 0, none, []⟩ ∧
       t.part.mgmt.slotStation = (if w.kind = .stations then slot else m.slotStation) ∧
       t.part.mgmt.slotSection = (if w.kind = .sections then slot else m.slotSection) ∧
       t.part.mgmt.slotFan = (if w.kind = .fans then slot else m.slotFan) ∧
       t.part.mgmt.slotControl = (if w.kind = .control then slot else m.slotControl) ∧
       (∀ x, parseTable w.kind w.image = some (.stations x) → t.part.mgmt.stations = some x) ∧
       (∀ x, parseTable w.kind w.image = some (.sections x) → t.part.mgmt.sections = some x) ∧
       (∀ x, parseTable w.kind w.image = some (.fans x) → t.part.mgmt.fans = some x) ∧
       (∀ x, parseTable w.kind w.image = some (.control x) → t.part.mgmt.control = some x) ∧
       t.part.fc.flags &&& 0x0004 ≠ 0 ∧ t.part.reg.storeHold = false ∧ t.part.reg.entry = none) ∧
  (∀ (s : State) (w : StoreWrite) (table : Table), Quiescent s → AddressesDistinct s → FansDistinct s → FansNumbered s →
     HoldWhileWriting s → WriteOutsideControl s → s.part.mgmt.write = some w → parseTable w.kind w.image = some table →
     ∃ t, exec .storeWriteEnd s = .next t ∧
       let p := s.part
       let u := t.part
       let stations : Prop := w.kind = .stations
       let source := Rule.slotSource u.mgmt.sections
       let configuredPoint := fun (n : Nat) => u.pointEntries.any fun e => e.num == n
       let configuredZone := fun (n : Nat) => u.zoneEntries.any fun e => e.num == n
       (∀ x, table = .stations x → u.disp.stations = x.entries.map (Rule.stationOf p.disp.stations) ∧
         u.disp.provisional = [] ∧ u.coord.peers = Rule.peersOf u.disp.stations p.coord.peers) ∧
       (¬ stations → u.disp.stations = p.disp.stations ∧ u.coord.peers = p.coord.peers) ∧
       (stations ∨ w.kind = .fans →
         (∀ r ∈ u.disp.stations, r.role = .fanStation →
           let tags := fun (l : List TagRec) => (l.filter fun g => g.station == r.address).map (·.tag)
           tags u.ord.tags = if (tags p.ord.tags).length = r.tagCount then tags p.ord.tags
             else List.range r.tagCount) ∧
         (∀ g ∈ u.ord.tags, ∃ r ∈ u.disp.stations, r.address = g.station ∧ r.role = .fanStation) ∧
         (p.fm.record.state ≠ .control →
           ∀ r ∈ u.ord.records, ∃ f ∈ u.fm.fans, f.e.num = r.fan ∧ f.state ≠ .unconfigured)) ∧
       (stations ∨ w.kind = .sections →
         (∀ x ∈ instruments p.meas, ∃ i, (x.1, i) ∈ instruments u.meas ∧ i.source = source x.1 ∧
           (i.state = .absent ↔ Rule.fromSensor u.disp.stations (source x.1) = false) ∧
           (x.1.cls ≠ .velocity → i = Rule.judged u.disp.stations (source x.1) x.2)) ∧
         (∀ q ∈ u.meas.points, configuredPoint q.num = false →
           q.quality = .unknown ∧ q.voted = none ∧ q.holdTimer = none) ∧
         ∀ z ∈ u.meas.zones, configuredZone z.num = false → z.state = .unknown ∧ z.opacity = none ∧
           z.temperature = none ∧ z.confirm = 0 ∧ z.holdO = false ∧ z.holdT = false) ∧
       (w.kind ≠ .control → (u.mgmt.fans = none → u.fm.fans = []) ∧ ∀ x, u.mgmt.fans = some x →
         (∀ f ∈ u.fm.fans, f.e ∈ x.entries) ∧
         ∀ e ∈ x.entries, ∃ f, u.fm.fans.find? (fun f => f.e.num == e.num) = some f ∧ f.e = e ∧
           let old := p.fm.fans.find? fun f => f.e.num == e.num
           let kept : Prop := ∃ g, old = some g ∧ Rule.keeps g e
           (¬ Rule.configured u e → f.state = .unconfigured) ∧
           (Rule.configured u e → ¬ kept → f.state = .unknown ∧ Rule.queried u e.num) ∧
           (¬ (Rule.configured u e ∧ kept) → f.known = none ∧ f.last = none ∧ f.reportIso = false ∧ f.mgrIso = false ∧
             f.resting = false ∧ f.runUp = none ∧ f.runDown = none ∧ f.stopReq = false) ∧
           ∀ g, Rule.configured u e → old = some g → Rule.keeps g e → f.last = g.last ∧ f.reportIso = g.reportIso ∧
             f.mgrIso = g.mgrIso ∧ (p.fm.record.state ≠ .control → u.fm.record.state ≠ .control →
               g.state ≠ .starting → f.state = g.state)) ∧
       let replies := fun (l : LineInterface) =>
         (l.own.filter fun e => e.cls == .mgmtReply).map fun e => (e.telegram.dest, e.telegram.payload)
       (1 ≤ p.line.node.toNat ∧ p.line.node.toNat ≤ 239 → p.line.portA.state = .up ∨ p.line.portB.state = .up →
         if (replies p.line).length < 4 then
           replies u.line = replies p.line ++ [(w.source, beBytes 2 w.number.toNat ++ [5, 0, 0])]
         else replies u.line = replies p.line ∧ u.line.droppedReplies = bump p.line.droppedReplies))

/-- R42, R128, R129: ISOLATE marks the fan and, unless it was FAILED, has it ISOLATED; ADMIT takes a FAILED fan, and
one under manager isolation alone, to UNKNOWN with a QUERY requested, or to LOST while its station is UNREACHABLE;
one that its report isolates as well stays ISOLATED, the manager's mark cleared; a fan in any other state is left as
it stands; ADMIT clears the marks and streaks of an instrument, and a REJECTED one qualifies afresh. -/
def Obligations.IsolateAndAdmit : Prop :=
  ∀ (src n : Byte) (num : BitVec 16) (s : State), Quiescent s →
    (∀ f, s.part.fm.fans.find? (fun x => x.e.num == n.toNat) = some f → f.state ≠ .unconfigured →
      (∃ t g, exec (.isolate ⟨src, num, [n]⟩) s = .next t ∧
        t.part.fm.fans.find? (fun x => x.e.num == n.toNat) = some g ∧ g.mgrIso = true ∧
        g.state = (if f.state = .failed then .failed else .isolated)) ∧
      (f.state = .failed → ∃ t g, exec (.admitObject ⟨src, num, [4, n]⟩) s = .next t ∧
        t.part.fm.fans.find? (fun x => x.e.num == n.toNat) = some g ∧ g.mgrIso = false ∧ g.known = f.known ∧
        g.state = (if ∃ r ∈ s.part.fm.reach, r.station = f.e.station ∧ r.state = .unreachable then .lost
          else .unknown)) ∧
      (f.state = .isolated → f.mgrIso = true → ∃ t g, exec (.admitObject ⟨src, num, [4, n]⟩) s = .next t ∧
        t.part.fm.fans.find? (fun x => x.e.num == n.toNat) = some g ∧ g.mgrIso = false ∧ g.known = f.known ∧
        g.reportIso = f.reportIso ∧
        g.state = (if f.reportIso = true then .isolated
          else if ∃ r ∈ s.part.fm.reach, r.station = f.e.station ∧ r.state = .unreachable then .lost else .unknown)) ∧
      (f.state = .failed ∨ f.state = .isolated ∧ f.mgrIso = true ∧ f.reportIso = false →
        (∀ r ∈ s.part.fm.reach, r.station = f.e.station → r.state ≠ .unreachable) →
        ∃ t, exec (.admitObject ⟨src, num, [4, n]⟩) s = .next t ∧ Rule.queried t.part n.toNat) ∧
      (f.state ≠ .failed → ¬ (f.state = .isolated ∧ f.mgrIso = true) →
        ∃ t, exec (.admitObject ⟨src, num, [4, n]⟩) s = .next t ∧
          exec (.queueOwnTelegram (.mgmtReply src (beBytes 2 num.toNat ++ [8, 0, 0]))) s = .next t)) ∧
    (∀ (c : Byte) (cls : InstrumentClass) (i : Instrument),
      (c = 1 ∧ cls = .velocity) ∨ (c = 2 ∧ cls = .opacity) ∨ (c = 3 ∧ cls = .temperature) →
      instrument? s.part ⟨cls, n.toNat⟩ = some i → cls ≠ .velocity ∨ i.state ≠ .valid →
      ∃ t, exec (.admitObject ⟨src, num, [c, n]⟩) s = .next t ∧
        instruments t.part.meas = (instruments s.part.meas).map fun y =>
          if y.1 = ⟨cls, n.toNat⟩ then
            (y.1, if y.2.state = .rejected then
                { y.2 with reversed := false, saturated := false, outlier := 0, polarity := 0, state := .qualifying,
                           qualify := 0, stale := none }
              else { y.2 with reversed := false, saturated := false, outlier := 0, polarity := 0 })
          else y)

/-- R211 with R34, R58, R59, R106, R132, R151, R172: RESTART forgets the sequences of all stations but its own
source; has every instrument qualify afresh but those ABSENT or REJECTED, every usable point HELD with its timer
armed, every configured zone that is not in ALARM UNKNOWN, each zone value under its restart hold, the requalify
timer armed, and the quality DEGRADED or LOST; re-arms the controller's timers that were armed and keeps the rest of
it; puts every BUSY tag into QUARANTINE, discards every order record and purges the FAN ORDERs; empties the start
queue and the gate; makes every fan UNKNOWN, with its last known state, but those FAILED, UNCONFIGURED or under manager
isolation, which stay so, and every fan station REACHABLE; has a QUERY requested for each UNKNOWN fan; empties the
buffer unless it is locked; and keeps the tables and the store. R85, R187: in every incident state it leaves the Incident
Register and the Coordinator as they stand. R146, R172: in CLEARING, where it discards an order record and no fan holds
the clearing open, the end of clearing has been reported; such a report is left on its way [40]. -/
def Obligations.RestartActs : Prop :=
  ∀ (src seq : Byte) (num : BitVec 16) (s : State), Quiescent s →
    ∃ t, exec (.restart ⟨src, num, []⟩ seq) s = .next t ∧
      (t.part.disp = { s.part.disp with
        stations := s.part.disp.stations.map fun r =>
          if r.address = src.toNat then { r with known := true, lastSeq := seq }
          else { r with known := false, lastSeq := 0 },
        provisional := s.part.disp.provisional.filter fun r => r.source == src.toNat }) ∧
      t.part.fm.queue = [] ∧ (∀ x ∈ t.part.fm.slots, x = none) ∧
      t.part.fm.fans = s.part.fm.fans.map Rule.restarted ∧
      (t.part.fm.reach = s.part.fm.reach.map fun r =>
        { r with state := .reachable, silence := some (s.part.now + 5000) }) ∧
      t.part.mgmt = { s.part.mgmt with
        buffer := if s.part.mgmt.write = none then ⟨.empty, none, 0, 0, none, []⟩ else s.part.mgmt.buffer } ∧
      t.part.reg = s.part.reg ∧
      (let p := s.part
       let u := t.part
       let seconds := fun (n : Nat) => some (p.now + BitVec.ofNat 32 (1000 * n))
       let again := fun (timer : Timer) (n : Nat) => if timer = none then none else seconds n
       instruments u.meas = (instruments p.meas).map (fun x => (x.1, Rule.requalified x.2)) ∧
       u.meas.points.map (fun q => (q.num, q.quality, q.voted, q.holdTimer)) = p.meas.points.map (fun q =>
         if q.quality = .unknown then (q.num, q.quality, q.voted, q.holdTimer)
         else (q.num, .held, q.voted, seconds p.sections.holdTime)) ∧
       u.meas.zones.map (fun z => (z.num, z.state, z.confirm, z.opacity, z.temperature, z.holdO, z.holdT)) =
         p.meas.zones.map (fun z =>
           let configured := p.zoneEntries.any fun e => e.num == z.num
           (z.num, (if z.state ≠ .alarm ∧ configured = true then .unknown else z.state),
             (if z.state ≠ .alarm ∧ configured = true then 0 else z.confirm), z.opacity, z.temperature,
             z.opacity.isSome, z.temperature.isSome)) ∧
       u.meas.requalify = seconds (3 * p.sections.staleTime) ∧
       u.meas.quality = (if p.pointEntries = [] ∨ ∀ q ∈ p.meas.points, q.quality = .unknown then .lost
         else .degraded) ∧
       u.ctl = { p.ctl with
         period := again p.ctl.period p.control.period,
         velocityHold := again p.ctl.velocityHold p.control.velocityHold,
         leadLoss := again p.ctl.leadLoss p.control.leadLossHold } ∧
       (∀ r ∈ u.ord.records, r.kind = .query) ∧ u.coord = p.coord ∧
       (∀ e ∈ u.line.own, ∀ station tag, e.cls = .fanOrder station tag → p.line.nextPlace ≤ e.place) ∧
       (AddressesDistinct s → ∀ g ∈ p.ord.tags, ∃ h ∈ u.ord.tags, h.station = g.station ∧ h.tag = g.tag ∧
         (g.state = .busy → h.state = .quarantine ∧ h.quarantine = seconds 2) ∧
         (g.state = .quarantine → h = g) ∧ (g.state = .free → h.state ≠ .quarantine)) ∧
       (FansDistinct s → FansNumbered s → ∀ f ∈ u.fm.fans, f.state = .unknown → Rule.queried u f.e.num) ∧
       (p.fm.record.state = .clearing → p.ord.records ≠ [] → (∀ f ∈ p.fm.fans, ¬ Rule.holdsOpen f) →
         u.fm.clearingSent = true))

/-! ### What commands leave alone -/

/-- The frame of every command, block by block: the part time, the addresses, the station table, the ports, the
instruments with the points and Vm, the peers, and the Management Agent's registers change only under the commands
listed. -/
def Obligations.CommandsLeaveBlocks : Prop :=
  ∀ (c : Instr) (s t : State), Quiescent s → exec c s = .next t → (∀ b, c ≠ .powerOnReset b) →
    let p := s.part
    let q := t.part
    let takes : Prop := ∃ i bytes, c = .telegramReceived i bytes
    let reads : Prop := ∃ r, c = .readStatus r
    let loads : Prop := ∃ r, c = .loadBegin r ∨ c = .loadBlock r ∨ c = .loadEnd r ∨ c = .activate r
    let restarts : Prop := ∃ r seq, c = .restart r seq
    let port : Prop := ∃ i, c = .signalEnergyDetected i ∨ c = .signalLost i ∨ c = .huntFillCountReached i ∨
      c = .qualificationTimerExpiry i ∨ (∃ n, c = .holdWindowClose i n) ∨ c = .badStart i ∨ c = .runaway i ∨
      c = .outputArbiterChoice i ∨ c = .forwardedTelegramSent i ∨ c = .ownTelegramSent i
    let measures : Prop := (∃ a l, c = .sample a l) ∨ (∃ k n, c = .staleTimerExpiry k n) ∨
      (∃ n, c = .pointHoldTimerExpiry n) ∨ (∃ r, c = .admitObject r) ∨ c = .storeWriteEnd
    let hears : Prop := (∃ a b, c = .bulletin a b) ∨ (∃ a, c = .freshnessTimerExpiry a) ∨ c = .storeWriteEnd
    q.now = p.now ∧ q.line.node = p.line.node ∧ q.line.straps = p.line.straps ∧
    (¬ takes → ¬ reads → ¬ restarts → c ≠ .storeWriteEnd → q.disp = p.disp) ∧
    (¬ takes → ¬ loads → ¬ restarts → c ≠ .storeWriteEnd → q.mgmt = p.mgmt) ∧
    (¬ takes → ¬ reads → ¬ port → q.line.portA = p.line.portA ∧ q.line.portB = p.line.portB) ∧
    (¬ takes → ¬ reads → q.line.unknownKinds = p.line.unknownKinds ∧ q.line.malformed = p.line.malformed) ∧
    (¬ takes → ¬ restarts → ¬ measures → q.meas.points = p.meas.points ∧ q.meas.vm = p.meas.vm ∧
      q.meas.quality = p.meas.quality ∧ instruments q.meas = instruments p.meas) ∧
    (¬ takes → ¬ restarts → ¬ hears → q.coord.peers = p.coord.peers)

/-- The frame of the fan and order commands while the state held by the Fan Manager is not CLEARING: the Incident
Register, the controller, the Coordinator and the Measurement Unit are as before, and so are the record, the
preference order, the zone temperatures and the static fields of the fans that the Fan Manager holds. -/
def Obligations.FanAndOrderFrame : Prop :=
  ∀ (c : Instr) (s t : State), Quiescent s → s.part.fm.record.state ≠ .clearing → exec c s = .next t →
    (∃ n, c = .demandUpdate n ∨ c = .restTimerExpiry n ∨ c = .runUpTimerExpiry n ∨ c = .runDownTimerExpiry n ∨
      c = .reportSilenceTimerExpiry n ∨ c = .responseTimerExpiry n ∨ c = .retrySpacingTimerExpiry n ∨
      c = .retryWindowTimerExpiry n) ∨ c = .stopSpacingTimerExpiry ∨ (∃ a l, c = .fanReport a l) ∨
      (∃ n k o, c = .orderOutcome n k o) ∨ (∃ a n x o r, c = .fanAnswer a n x o r) ∨
      (∃ a n, c = .quarantineTimerExpiry a n) →
    t.part.reg = s.part.reg ∧ t.part.ctl = s.part.ctl ∧ t.part.coord = s.part.coord ∧ t.part.meas = s.part.meas ∧
    t.part.fm.record = s.part.fm.record ∧ t.part.fm.preference = s.part.fm.preference ∧
    t.part.fm.zoneTemps = s.part.fm.zoneTemps ∧ t.part.fm.fans.map (·.e) = s.part.fm.fans.map (·.e)

/-! ### Reset -/

/-- R16, R33, R48, R57, R84, R105, R131, R150, R171, R186, R195, R207, R212: what power-on reset leaves, from every
state and for every strap value: each slot that is VALID and passes its tests made the active table of its kind, the
others, WRITING, of a failed checksum or a STATION image that holds the latched address among them, INVALID with no
active table of their kind and TABLE_INVALID reported for each (an image that spells no table, which no VALID slot
holds, is taken so too [28]); the station records, peer records and tags built from the
STATION table; the fault counters and flags clear but for those reports and for TABLE_EVENT where a reference
dangles; the instruments and the fans judged from the tables; the bulletin timer armed; and every other value of the
blocks at reset. -/
def Obligations.PowerOnReset : Prop :=
  ∀ (straps : Byte) (s : State), ∃ t, exec (.powerOnReset straps) s = .next t ∧
    let p := t.part
    let port : Port → Prop := fun q =>
      q.state = (if q.signal then .hunt else .down) ∧ q.fillCount = 0 ∧ q.qualTimer = none ∧ q.window = none ∧
      q.checkRun = 0 ∧ q.forward = [] ∧ q.runCount = 0 ∧ q.sending = none ∧
      q.counters = ⟨0, 0, 0, 0, 0, 0, 0, 0, 0, 0⟩
    p.now = 0 ∧ port p.line.portA ∧ port p.line.portB ∧ p.line.portA.signal = s.part.line.portA.signal ∧
    p.line.portB.signal = s.part.line.portB.signal ∧ p.line.own = [] ∧ p.line.seq = 0 ∧ p.line.node = straps ∧
    p.line.unknownKinds = 0 ∧ p.line.malformed = 0 ∧ p.line.ownUnsent = 0 ∧ p.line.droppedReplies = 0 ∧
    p.disp.provisional = [] ∧ p.disp.counters = ⟨0, 0, 0, 0, 0, 0, 0, 0, 0⟩ ∧
    (p.mgmt.stations = none → p.disp.stations = []) ∧
    (∀ r ∈ p.disp.stations, r.known = false ∧ r.lastSeq = 0 ∧ r.delivered = 0 ∧ r.duplicates = 0 ∧ r.gaps = 0) ∧
    InstrumentsNumbered t ∧
    (∀ q ∈ p.meas.points, q.quality = .unknown ∧ q.voted = none ∧ q.holdTimer = none) ∧
    (∀ z ∈ p.meas.zones, z.state = .unknown ∧ z.opacity = none ∧ z.temperature = none ∧ z.confirm = 0 ∧
      z.holdO = false ∧ z.holdT = false) ∧
    (∀ x ∈ instruments p.meas,
      let source := Rule.slotSource p.mgmt.sections x.1
      x.2 = ⟨source, if Rule.fromSensor p.disp.stations source then .qualifying else .absent, 0, 0, false, false, 0, 0,
        none⟩) ∧
    p.meas.vm = 0 ∧ p.meas.quality = .lost ∧ p.meas.requalify = none ∧ p.meas.unmatched = 0 ∧
    p.meas.mismatches = 0 ∧ p.meas.ignored = 0 ∧
    p.reg = { record := { state := .quiet, id := 0, fire := none, head := none, tail := none, dir := none,
                          dirSource := none, heat := none, role := .none, controlled := false },
              detection := [], outcome := .none, lastCleared := 0, autoDeclare := none, leadWait := none,
              storeHold := false, entry := none } ∧
    p.ctl.mode = .idle ∧ p.ctl.condition = .ok ∧ p.ctl.integral = 0 ∧ p.ctl.lastD = 0 ∧ p.ctl.ownDemand = 0 ∧
    p.ctl.lastP = 0 ∧ p.ctl.lastShare = 0 ∧ p.ctl.boundA = 0 ∧ p.ctl.aSum = 0 ∧ p.ctl.shares = [] ∧
    p.ctl.period = none ∧ p.ctl.velocityHold = none ∧ p.ctl.leadLoss = none ∧ p.ctl.record = p.reg.record ∧
    (p.mgmt.fans = none → p.fm.fans = []) ∧
    (∀ x, p.mgmt.fans = some x → (∀ e ∈ x.entries, ∃ f ∈ p.fm.fans, f.e = e) ∧ ∀ f ∈ p.fm.fans, f.e ∈ x.entries) ∧
    (∀ f ∈ p.fm.fans, ∃ state, f = ⟨f.e, state, none, none, false, false, false, false, false, none, none, false, none,
        none, false, false, none⟩ ∧
      (Rule.configured p f.e → state = .unknown) ∧ (¬ Rule.configured p f.e → state = .unconfigured)) ∧
    p.fm.reach = (p.disp.stations.filter fun r => r.role == .fanStation).map (fun r =>
      ⟨r.address, .reachable, some 5000, none⟩) ∧
    p.fm.zoneTemps = sixteen.map (fun n => ⟨n, none⟩) ∧ p.fm.record = p.reg.record ∧ p.fm.unmatched = 0 ∧
    p.fm.unexpected = 0 ∧ p.fm.a = 0 ∧ p.fm.r = 0 ∧ p.fm.preference = [] ∧ p.fm.queue = [] ∧ p.fm.slots = [none, none, none, none] ∧
    p.fm.lastDemand = 0 ∧ p.fm.stopSpacing = none ∧ p.fm.clearingSent = false ∧
    p.ord.records = [] ∧ p.ord.backlog = [] ∧ (∀ g ∈ p.ord.tags, g.state = .free) ∧
    p.ord.counters = ⟨0, 0, 0, 0, 0, 0, 0, 0, 0, 0⟩ ∧
    (∀ q ∈ p.coord.peers, q.held = none ∧ q.fresh = false ∧ q.freshness = none) ∧ p.coord.heldId = 0 ∧
    p.coord.role = .none ∧ p.coord.leadView = none ∧ p.coord.twoLeads = false ∧ p.coord.built = 0 ∧
    p.coord.taken = 0 ∧ p.coord.stale = 0 ∧
    p.mgmt.buffer = ⟨.empty, none, 0, 0, none, []⟩ ∧ p.mgmt.write = none ∧
    (∀ m : TableKind, let slot := match m with
        | .stations => p.mgmt.slotStation | .sections => p.mgmt.slotSection | .fans => p.mgmt.slotFan
        | .control => p.mgmt.slotControl
      slot.state = .valid ∨ slot.state = .invalid) ∧
    (p.mgmt.slotStation.state = .invalid → p.mgmt.stations = none) ∧
    (p.mgmt.slotSection.state = .invalid → p.mgmt.sections = none) ∧
    (p.mgmt.slotFan.state = .invalid → p.mgmt.fans = none) ∧
    (p.mgmt.slotControl.state = .invalid → p.mgmt.control = none) ∧
    (let passes := fun (x : StoreSlot) =>
       x.state = .valid ∧ (x.image.map BitVec.toNat).sum % 65536 = x.checksum.toNat
     let m := s.part.mgmt
     (∀ x, passes m.slotStation → parseTable .stations m.slotStation.image = some (.stations x) →
       (∀ e ∈ x.entries, e.address ≠ straps.toNat) → p.mgmt.stations = some x ∧ p.mgmt.slotStation = m.slotStation) ∧
     (∀ x, passes m.slotSection → parseTable .sections m.slotSection.image = some (.sections x) →
       p.mgmt.sections = some x ∧ p.mgmt.slotSection = m.slotSection) ∧
     (∀ x, passes m.slotFan → parseTable .fans m.slotFan.image = some (.fans x) →
       p.mgmt.fans = some x ∧ p.mgmt.slotFan = m.slotFan) ∧
     (∀ x, passes m.slotControl → parseTable .control m.slotControl.image = some (.control x) →
       p.mgmt.control = some x ∧ p.mgmt.slotControl = m.slotControl) ∧
     (¬ (passes m.slotStation ∧ ∃ x, parseTable .stations m.slotStation.image = some (.stations x) ∧
         ∀ e ∈ x.entries, e.address ≠ straps.toNat) →
       p.mgmt.stations = none ∧ p.mgmt.slotStation = { m.slotStation with state := .invalid }) ∧
     (¬ (passes m.slotSection ∧ parseTable .sections m.slotSection.image ≠ none) →
       p.mgmt.sections = none ∧ p.mgmt.slotSection = { m.slotSection with state := .invalid }) ∧
     (¬ (passes m.slotFan ∧ parseTable .fans m.slotFan.image ≠ none) →
       p.mgmt.fans = none ∧ p.mgmt.slotFan = { m.slotFan with state := .invalid }) ∧
     (¬ (passes m.slotControl ∧ parseTable .control m.slotControl.image ≠ none) →
       p.mgmt.control = none ∧ p.mgmt.slotControl = { m.slotControl with state := .invalid })) ∧
    (∀ x, p.mgmt.stations = some x → p.disp.stations = x.entries.map (Rule.stationOf [])) ∧
    p.coord.peers = Rule.peersOf p.disp.stations [] ∧
    p.ord.tags = (p.disp.stations.filter fun r => r.role == .fanStation).flatMap (fun r =>
      (List.range r.tagCount).map fun k => ⟨r.address, k, .free, none⟩) ∧
    p.coord.timer = some (BitVec.ofNat 32 (match p.mgmt.control with | some c => 1000 * c.period | none => 5000)) ∧
    (let invalid : List StoreSlot := [p.mgmt.slotStation, p.mgmt.slotSection, p.mgmt.slotFan, p.mgmt.slotControl].filter
       fun x => x.state == .invalid
     let dangling : Prop := (∃ f ∈ p.fm.fans, f.state = .unconfigured) ∨
       ∃ x ∈ instruments p.meas, x.2.source ≠ none ∧ x.2.state = .absent
     p.fc.counts = (List.range 17).map (fun k => if k = 16 then BitVec.ofNat 16 invalid.length else 0) ∧
     p.fc.flags &&& ~~~0x0007 = 0 ∧ (p.fc.flags &&& 0x0004 ≠ 0 ↔ dangling) ∧
     (p.fc.flags &&& 0x0002 ≠ 0 ↔ 1 ≤ invalid.length) ∧ (p.fc.flags &&& 0x0001 ≠ 0 ↔ 2 ≤ invalid.length) ∧
     (p.fc.record = none ↔ invalid = []) ∧
     ∀ r, p.fc.record = some r → (r.secondHard = true ↔ 2 ≤ invalid.length)) ∧
    (p.fc.record = none ∨ ∃ r, p.fc.record = some r ∧ r.kind = .tableInvalid ∧ r.cls = .hard ∧ r.object.cls = .table ∧
      r.incidentId = 0 ∧ r.time = 0) ∧
    p.line.straps = straps ∧ t.pending = s.pending

/-! ### Invariants -/

/-- Between events no hand-on is on its way and the health is that of the inputs: every step keeps it [1] [13].
Every step keeps the points and the zones numbered 1 to 16, each number once (R43, R51), and a temperature listed
for each zone 1 to 16, once (R113). -/
def Obligations.StepKeepsEventsWhole : Prop :=
  (KeptByStep fun s => Quiescent s ∧ HealthFormed s) ∧ KeptByStep InstrumentsNumbered ∧ KeptByStep ZoneTempsListed

/-- R1, R3, R4, R9, R12 to R14: every step keeps the bounds of the ports, their silence outside UP, and the order and
the port sets of the own transmit queue. -/
def Obligations.StepKeepsLineBounded : Prop := KeptByStep fun s => LineBounded s ∧ OwnQueueOrdered s

/-- R61, R69, R76, R208: every step keeps the incident record whole, the detection list bounded and without repeats,
and the store-write hold standing exactly while a write runs; with that hold, it keeps the incident out of CONTROL and
HOLD while a write runs. -/
def Obligations.StepKeepsIncidentWhole : Prop :=
  (KeptByStep fun s => RecordWhole s ∧ DetectionBounded s ∧ HoldWhileWriting s) ∧
  KeptByStep fun s => HoldWhileWriting s ∧ WriteOutsideControl s

/-- R87, R91, R179, R180: every step keeps the velocity condition VELOCITY_OK in the modes that do not run the law,
an IDLE controller at rest, and the lead view the lowest fresh claimant for the held id. R23, R154, R176, R206:
every step keeps the addresses of the station records, of the peer records and of the STATION tables distinct, and
the tags of a station. -/
def Obligations.StepKeepsControlAtRest : Prop :=
  (KeptByStep fun s => ControllerAtRest s ∧ LeadViewJudged s) ∧ KeptByStep AddressesDistinct

/-- R111, R141, R154: every step keeps A and R the sums that the fan records give, the start queue made of eligible
fans and empty outside CONTROL, and the order pool within its 16 slots. R107, R133, R134: every step keeps the fan
numbers of the fan records, of the preference order and of the FAN tables distinct, those of the records and of the
active table within 1 to 48, and the gate at its 4 slots. -/
def Obligations.StepKeepsFansAndPool : Prop :=
  (KeptByStep fun s => ThrustFormed s ∧ QueueEligible s ∧ PoolBounded s) ∧ KeptByStep FansDistinct ∧
  KeptByStep FansNumbered

/-- The machine right after reset has every invariant. -/
def Obligations.ResetHasInvariants : Prop :=
  let s := State.reset
  (Quiescent s ∧ HealthFormed s) ∧ (LineBounded s ∧ OwnQueueOrdered s) ∧
  (RecordWhole s ∧ DetectionBounded s ∧ HoldWhileWriting s ∧ WriteOutsideControl s) ∧ (ControllerAtRest s ∧ LeadViewJudged s) ∧
  (ThrustFormed s ∧ QueueEligible s ∧ PoolBounded s) ∧ InstrumentsNumbered s ∧ ZoneTempsListed s ∧
  AddressesDistinct s ∧ FansDistinct s ∧ FansNumbered s
end

