-- ==== Sys2Proof/Laws/State.lean ====
section
/-! SUPPORT. For every named update of the part: the block it writes, and the blocks it leaves alone, so that no proof
unfolds an update. -/

namespace Sys2Proof.Machine

@[simp] theorem onPort_line (i : PortId) (f : Port → Port) (p : Part) :
    (p.onPort i f).line =
      p.line.setPort i (f (p.line.port i)) := rfl
@[simp] theorem onPort_disp (i : PortId) (f : Port → Port) (p : Part) : (p.onPort i f).disp = p.disp := rfl
@[simp] theorem onPort_meas (i : PortId) (f : Port → Port) (p : Part) : (p.onPort i f).meas = p.meas := rfl
@[simp] theorem onPort_reg (i : PortId) (f : Port → Port) (p : Part) : (p.onPort i f).reg = p.reg := rfl
@[simp] theorem onPort_ctl (i : PortId) (f : Port → Port) (p : Part) : (p.onPort i f).ctl = p.ctl := rfl
@[simp] theorem onPort_fm (i : PortId) (f : Port → Port) (p : Part) : (p.onPort i f).fm = p.fm := rfl
@[simp] theorem onPort_ord (i : PortId) (f : Port → Port) (p : Part) : (p.onPort i f).ord = p.ord := rfl
@[simp] theorem onPort_coord (i : PortId) (f : Port → Port) (p : Part) : (p.onPort i f).coord = p.coord := rfl
@[simp] theorem onPort_fc (i : PortId) (f : Port → Port) (p : Part) : (p.onPort i f).fc = p.fc := rfl
@[simp] theorem onPort_mgmt (i : PortId) (f : Port → Port) (p : Part) : (p.onPort i f).mgmt = p.mgmt := rfl
@[simp] theorem onPort_now (i : PortId) (f : Port → Port) (p : Part) : (p.onPort i f).now = p.now := rfl
@[simp] theorem onPort_choice (i : PortId) (f : Port → Port) (p : Part) : (p.onPort i f).choice = p.choice := rfl
@[simp] theorem onPort_handOns (i : PortId) (f : Port → Port) (p : Part) : (p.onPort i f).handOns = p.handOns := rfl

@[simp] theorem countPort_line (i : PortId) (f : PortCounters → PortCounters) (p : Part) :
    (countPort i f p).line =
      p.line.setPort i { p.line.port i with counters := f (p.line.port i).counters } := rfl
@[simp] theorem countPort_disp (i : PortId) (f : PortCounters → PortCounters) (p : Part) : (countPort i f p).disp = p.disp := rfl
@[simp] theorem countPort_meas (i : PortId) (f : PortCounters → PortCounters) (p : Part) : (countPort i f p).meas = p.meas := rfl
@[simp] theorem countPort_reg (i : PortId) (f : PortCounters → PortCounters) (p : Part) : (countPort i f p).reg = p.reg := rfl
@[simp] theorem countPort_ctl (i : PortId) (f : PortCounters → PortCounters) (p : Part) : (countPort i f p).ctl = p.ctl := rfl
@[simp] theorem countPort_fm (i : PortId) (f : PortCounters → PortCounters) (p : Part) : (countPort i f p).fm = p.fm := rfl
@[simp] theorem countPort_ord (i : PortId) (f : PortCounters → PortCounters) (p : Part) : (countPort i f p).ord = p.ord := rfl
@[simp] theorem countPort_coord (i : PortId) (f : PortCounters → PortCounters) (p : Part) : (countPort i f p).coord = p.coord := rfl
@[simp] theorem countPort_fc (i : PortId) (f : PortCounters → PortCounters) (p : Part) : (countPort i f p).fc = p.fc := rfl
@[simp] theorem countPort_mgmt (i : PortId) (f : PortCounters → PortCounters) (p : Part) : (countPort i f p).mgmt = p.mgmt := rfl
@[simp] theorem countPort_now (i : PortId) (f : PortCounters → PortCounters) (p : Part) : (countPort i f p).now = p.now := rfl
@[simp] theorem countPort_choice (i : PortId) (f : PortCounters → PortCounters) (p : Part) : (countPort i f p).choice = p.choice := rfl
@[simp] theorem countPort_handOns (i : PortId) (f : PortCounters → PortCounters) (p : Part) : (countPort i f p).handOns = p.handOns := rfl

@[simp] theorem raise_fc (f : EventFlag) (p : Part) :
    (raise f p).fc =
      { p.fc with flags := p.fc.flags ||| flagBit f } := rfl
@[simp] theorem raise_line (f : EventFlag) (p : Part) : (raise f p).line = p.line := rfl
@[simp] theorem raise_disp (f : EventFlag) (p : Part) : (raise f p).disp = p.disp := rfl
@[simp] theorem raise_meas (f : EventFlag) (p : Part) : (raise f p).meas = p.meas := rfl
@[simp] theorem raise_reg (f : EventFlag) (p : Part) : (raise f p).reg = p.reg := rfl
@[simp] theorem raise_ctl (f : EventFlag) (p : Part) : (raise f p).ctl = p.ctl := rfl
@[simp] theorem raise_fm (f : EventFlag) (p : Part) : (raise f p).fm = p.fm := rfl
@[simp] theorem raise_ord (f : EventFlag) (p : Part) : (raise f p).ord = p.ord := rfl
@[simp] theorem raise_coord (f : EventFlag) (p : Part) : (raise f p).coord = p.coord := rfl
@[simp] theorem raise_mgmt (f : EventFlag) (p : Part) : (raise f p).mgmt = p.mgmt := rfl
@[simp] theorem raise_now (f : EventFlag) (p : Part) : (raise f p).now = p.now := rfl
@[simp] theorem raise_choice (f : EventFlag) (p : Part) : (raise f p).choice = p.choice := rfl
@[simp] theorem raise_handOns (f : EventFlag) (p : Part) : (raise f p).handOns = p.handOns := rfl


/-- A report raises the kind's counter and judges the record (R188, R189). -/
theorem report_eq (k : FaultKind) (o : FaultObject) (p : Part) :
    report k o p = { p with fc := (report k o p).fc } := by
  unfold report
  dsimp only
  split <;> rfl

@[simp] theorem report_counts (k : FaultKind) (o : FaultObject) (p : Part) :
    (report k o p).fc.counts = bumpCount (faultCode k) p.fc.counts := by
  unfold report
  dsimp only
  split <;> rfl

@[simp] theorem report_line (k : FaultKind) (o : FaultObject) (p : Part) : (report k o p).line = p.line := by rw [report_eq]
@[simp] theorem report_disp (k : FaultKind) (o : FaultObject) (p : Part) : (report k o p).disp = p.disp := by rw [report_eq]
@[simp] theorem report_meas (k : FaultKind) (o : FaultObject) (p : Part) : (report k o p).meas = p.meas := by rw [report_eq]
@[simp] theorem report_reg (k : FaultKind) (o : FaultObject) (p : Part) : (report k o p).reg = p.reg := by rw [report_eq]
@[simp] theorem report_ctl (k : FaultKind) (o : FaultObject) (p : Part) : (report k o p).ctl = p.ctl := by rw [report_eq]
@[simp] theorem report_fm (k : FaultKind) (o : FaultObject) (p : Part) : (report k o p).fm = p.fm := by rw [report_eq]
@[simp] theorem report_ord (k : FaultKind) (o : FaultObject) (p : Part) : (report k o p).ord = p.ord := by rw [report_eq]
@[simp] theorem report_coord (k : FaultKind) (o : FaultObject) (p : Part) : (report k o p).coord = p.coord := by rw [report_eq]
@[simp] theorem report_mgmt (k : FaultKind) (o : FaultObject) (p : Part) : (report k o p).mgmt = p.mgmt := by rw [report_eq]
@[simp] theorem report_now (k : FaultKind) (o : FaultObject) (p : Part) : (report k o p).now = p.now := by rw [report_eq]
@[simp] theorem report_choice (k : FaultKind) (o : FaultObject) (p : Part) : (report k o p).choice = p.choice := by rw [report_eq]
@[simp] theorem report_handOns (k : FaultKind) (o : FaultObject) (p : Part) : (report k o p).handOns = p.handOns := by rw [report_eq]
@[simp] theorem formHealth_fc (p : Part) :
    (formHealth p).fc =
      { p.fc with health := healthOf (healthConditions p), causes := causesOf (healthConditions p) } := rfl
@[simp] theorem formHealth_line (p : Part) : (formHealth p).line = p.line := rfl
@[simp] theorem formHealth_disp (p : Part) : (formHealth p).disp = p.disp := rfl
@[simp] theorem formHealth_meas (p : Part) : (formHealth p).meas = p.meas := rfl
@[simp] theorem formHealth_reg (p : Part) : (formHealth p).reg = p.reg := rfl
@[simp] theorem formHealth_ctl (p : Part) : (formHealth p).ctl = p.ctl := rfl
@[simp] theorem formHealth_fm (p : Part) : (formHealth p).fm = p.fm := rfl
@[simp] theorem formHealth_ord (p : Part) : (formHealth p).ord = p.ord := rfl
@[simp] theorem formHealth_coord (p : Part) : (formHealth p).coord = p.coord := rfl
@[simp] theorem formHealth_mgmt (p : Part) : (formHealth p).mgmt = p.mgmt := rfl
@[simp] theorem formHealth_now (p : Part) : (formHealth p).now = p.now := rfl
@[simp] theorem formHealth_choice (p : Part) : (formHealth p).choice = p.choice := rfl
@[simp] theorem formHealth_handOns (p : Part) : (formHealth p).handOns = p.handOns := rfl

@[simp] theorem ackFlags_fc (m : BitVec 16) (p : Part) :
    (ackFlags m p).fc =
      { p.fc with flags := p.fc.flags &&& ~~~m } := rfl
@[simp] theorem ackFlags_line (m : BitVec 16) (p : Part) : (ackFlags m p).line = p.line := rfl
@[simp] theorem ackFlags_disp (m : BitVec 16) (p : Part) : (ackFlags m p).disp = p.disp := rfl
@[simp] theorem ackFlags_meas (m : BitVec 16) (p : Part) : (ackFlags m p).meas = p.meas := rfl
@[simp] theorem ackFlags_reg (m : BitVec 16) (p : Part) : (ackFlags m p).reg = p.reg := rfl
@[simp] theorem ackFlags_ctl (m : BitVec 16) (p : Part) : (ackFlags m p).ctl = p.ctl := rfl
@[simp] theorem ackFlags_fm (m : BitVec 16) (p : Part) : (ackFlags m p).fm = p.fm := rfl
@[simp] theorem ackFlags_ord (m : BitVec 16) (p : Part) : (ackFlags m p).ord = p.ord := rfl
@[simp] theorem ackFlags_coord (m : BitVec 16) (p : Part) : (ackFlags m p).coord = p.coord := rfl
@[simp] theorem ackFlags_mgmt (m : BitVec 16) (p : Part) : (ackFlags m p).mgmt = p.mgmt := rfl
@[simp] theorem ackFlags_now (m : BitVec 16) (p : Part) : (ackFlags m p).now = p.now := rfl
@[simp] theorem ackFlags_choice (m : BitVec 16) (p : Part) : (ackFlags m p).choice = p.choice := rfl
@[simp] theorem ackFlags_handOns (m : BitVec 16) (p : Part) : (ackFlags m p).handOns = p.handOns := rfl

@[simp] theorem clearRecord_fc (p : Part) : (clearRecord p).fc = { p.fc with record := none } := rfl
@[simp] theorem clearRecord_line (p : Part) : (clearRecord p).line = p.line := rfl
@[simp] theorem clearRecord_disp (p : Part) : (clearRecord p).disp = p.disp := rfl
@[simp] theorem clearRecord_meas (p : Part) : (clearRecord p).meas = p.meas := rfl
@[simp] theorem clearRecord_reg (p : Part) : (clearRecord p).reg = p.reg := rfl
@[simp] theorem clearRecord_ctl (p : Part) : (clearRecord p).ctl = p.ctl := rfl
@[simp] theorem clearRecord_fm (p : Part) : (clearRecord p).fm = p.fm := rfl
@[simp] theorem clearRecord_ord (p : Part) : (clearRecord p).ord = p.ord := rfl
@[simp] theorem clearRecord_coord (p : Part) : (clearRecord p).coord = p.coord := rfl
@[simp] theorem clearRecord_mgmt (p : Part) : (clearRecord p).mgmt = p.mgmt := rfl
@[simp] theorem clearRecord_now (p : Part) : (clearRecord p).now = p.now := rfl
@[simp] theorem clearRecord_choice (p : Part) : (clearRecord p).choice = p.choice := rfl
@[simp] theorem clearRecord_handOns (p : Part) : (clearRecord p).handOns = p.handOns := rfl

@[simp] theorem countDispatch_disp (g : DispatchCounters → DispatchCounters) (p : Part) :
    (countDispatch g p).disp =
      { p.disp with counters := g p.disp.counters } := rfl
@[simp] theorem countDispatch_line (g : DispatchCounters → DispatchCounters) (p : Part) : (countDispatch g p).line = p.line := rfl
@[simp] theorem countDispatch_meas (g : DispatchCounters → DispatchCounters) (p : Part) : (countDispatch g p).meas = p.meas := rfl
@[simp] theorem countDispatch_reg (g : DispatchCounters → DispatchCounters) (p : Part) : (countDispatch g p).reg = p.reg := rfl
@[simp] theorem countDispatch_ctl (g : DispatchCounters → DispatchCounters) (p : Part) : (countDispatch g p).ctl = p.ctl := rfl
@[simp] theorem countDispatch_fm (g : DispatchCounters → DispatchCounters) (p : Part) : (countDispatch g p).fm = p.fm := rfl
@[simp] theorem countDispatch_ord (g : DispatchCounters → DispatchCounters) (p : Part) : (countDispatch g p).ord = p.ord := rfl
@[simp] theorem countDispatch_coord (g : DispatchCounters → DispatchCounters) (p : Part) : (countDispatch g p).coord = p.coord := rfl
@[simp] theorem countDispatch_fc (g : DispatchCounters → DispatchCounters) (p : Part) : (countDispatch g p).fc = p.fc := rfl
@[simp] theorem countDispatch_mgmt (g : DispatchCounters → DispatchCounters) (p : Part) : (countDispatch g p).mgmt = p.mgmt := rfl
@[simp] theorem countDispatch_now (g : DispatchCounters → DispatchCounters) (p : Part) : (countDispatch g p).now = p.now := rfl
@[simp] theorem countDispatch_choice (g : DispatchCounters → DispatchCounters) (p : Part) : (countDispatch g p).choice = p.choice := rfl
@[simp] theorem countDispatch_handOns (g : DispatchCounters → DispatchCounters) (p : Part) : (countDispatch g p).handOns = p.handOns := rfl

@[simp] theorem onStation_disp (n : Nat) (g : StationRec → StationRec) (p : Part) :
    (onStation n g p).disp =
      { p.disp with stations := updWhere (fun s => s.address == n) g p.disp.stations } := rfl
@[simp] theorem onStation_line (n : Nat) (g : StationRec → StationRec) (p : Part) : (onStation n g p).line = p.line := rfl
@[simp] theorem onStation_meas (n : Nat) (g : StationRec → StationRec) (p : Part) : (onStation n g p).meas = p.meas := rfl
@[simp] theorem onStation_reg (n : Nat) (g : StationRec → StationRec) (p : Part) : (onStation n g p).reg = p.reg := rfl
@[simp] theorem onStation_ctl (n : Nat) (g : StationRec → StationRec) (p : Part) : (onStation n g p).ctl = p.ctl := rfl
@[simp] theorem onStation_fm (n : Nat) (g : StationRec → StationRec) (p : Part) : (onStation n g p).fm = p.fm := rfl
@[simp] theorem onStation_ord (n : Nat) (g : StationRec → StationRec) (p : Part) : (onStation n g p).ord = p.ord := rfl
@[simp] theorem onStation_coord (n : Nat) (g : StationRec → StationRec) (p : Part) : (onStation n g p).coord = p.coord := rfl
@[simp] theorem onStation_fc (n : Nat) (g : StationRec → StationRec) (p : Part) : (onStation n g p).fc = p.fc := rfl
@[simp] theorem onStation_mgmt (n : Nat) (g : StationRec → StationRec) (p : Part) : (onStation n g p).mgmt = p.mgmt := rfl
@[simp] theorem onStation_now (n : Nat) (g : StationRec → StationRec) (p : Part) : (onStation n g p).now = p.now := rfl
@[simp] theorem onStation_choice (n : Nat) (g : StationRec → StationRec) (p : Part) : (onStation n g p).choice = p.choice := rfl
@[simp] theorem onStation_handOns (n : Nat) (g : StationRec → StationRec) (p : Part) : (onStation n g p).handOns = p.handOns := rfl

@[simp] theorem onFan_fm (n : Nat) (g : FanRec → FanRec) (p : Part) :
    (onFan n g p).fm =
      { p.fm with fans := updWhere (fun f => f.e.num == n) g p.fm.fans } := rfl
@[simp] theorem onFan_line (n : Nat) (g : FanRec → FanRec) (p : Part) : (onFan n g p).line = p.line := rfl
@[simp] theorem onFan_disp (n : Nat) (g : FanRec → FanRec) (p : Part) : (onFan n g p).disp = p.disp := rfl
@[simp] theorem onFan_meas (n : Nat) (g : FanRec → FanRec) (p : Part) : (onFan n g p).meas = p.meas := rfl
@[simp] theorem onFan_reg (n : Nat) (g : FanRec → FanRec) (p : Part) : (onFan n g p).reg = p.reg := rfl
@[simp] theorem onFan_ctl (n : Nat) (g : FanRec → FanRec) (p : Part) : (onFan n g p).ctl = p.ctl := rfl
@[simp] theorem onFan_ord (n : Nat) (g : FanRec → FanRec) (p : Part) : (onFan n g p).ord = p.ord := rfl
@[simp] theorem onFan_coord (n : Nat) (g : FanRec → FanRec) (p : Part) : (onFan n g p).coord = p.coord := rfl
@[simp] theorem onFan_fc (n : Nat) (g : FanRec → FanRec) (p : Part) : (onFan n g p).fc = p.fc := rfl
@[simp] theorem onFan_mgmt (n : Nat) (g : FanRec → FanRec) (p : Part) : (onFan n g p).mgmt = p.mgmt := rfl
@[simp] theorem onFan_now (n : Nat) (g : FanRec → FanRec) (p : Part) : (onFan n g p).now = p.now := rfl
@[simp] theorem onFan_choice (n : Nat) (g : FanRec → FanRec) (p : Part) : (onFan n g p).choice = p.choice := rfl
@[simp] theorem onFan_handOns (n : Nat) (g : FanRec → FanRec) (p : Part) : (onFan n g p).handOns = p.handOns := rfl

@[simp] theorem formThrust_fm (p : Part) :
    (formThrust p).fm =
      { p.fm with a := availableThrust p.fm, r := runningThrust p.fm } := rfl
@[simp] theorem formThrust_line (p : Part) : (formThrust p).line = p.line := rfl
@[simp] theorem formThrust_disp (p : Part) : (formThrust p).disp = p.disp := rfl
@[simp] theorem formThrust_meas (p : Part) : (formThrust p).meas = p.meas := rfl
@[simp] theorem formThrust_reg (p : Part) : (formThrust p).reg = p.reg := rfl
@[simp] theorem formThrust_ctl (p : Part) : (formThrust p).ctl = p.ctl := rfl
@[simp] theorem formThrust_ord (p : Part) : (formThrust p).ord = p.ord := rfl
@[simp] theorem formThrust_coord (p : Part) : (formThrust p).coord = p.coord := rfl
@[simp] theorem formThrust_fc (p : Part) : (formThrust p).fc = p.fc := rfl
@[simp] theorem formThrust_mgmt (p : Part) : (formThrust p).mgmt = p.mgmt := rfl
@[simp] theorem formThrust_now (p : Part) : (formThrust p).now = p.now := rfl
@[simp] theorem formThrust_choice (p : Part) : (formThrust p).choice = p.choice := rfl
@[simp] theorem formThrust_handOns (p : Part) : (formThrust p).handOns = p.handOns := rfl

@[simp] theorem pruneQueue_fm (p : Part) :
    (pruneQueue p).fm =
      { p.fm with queue := p.fm.queue.filter (eligibleNum p.fm) } := rfl
@[simp] theorem pruneQueue_line (p : Part) : (pruneQueue p).line = p.line := rfl
@[simp] theorem pruneQueue_disp (p : Part) : (pruneQueue p).disp = p.disp := rfl
@[simp] theorem pruneQueue_meas (p : Part) : (pruneQueue p).meas = p.meas := rfl
@[simp] theorem pruneQueue_reg (p : Part) : (pruneQueue p).reg = p.reg := rfl
@[simp] theorem pruneQueue_ctl (p : Part) : (pruneQueue p).ctl = p.ctl := rfl
@[simp] theorem pruneQueue_ord (p : Part) : (pruneQueue p).ord = p.ord := rfl
@[simp] theorem pruneQueue_coord (p : Part) : (pruneQueue p).coord = p.coord := rfl
@[simp] theorem pruneQueue_fc (p : Part) : (pruneQueue p).fc = p.fc := rfl
@[simp] theorem pruneQueue_mgmt (p : Part) : (pruneQueue p).mgmt = p.mgmt := rfl
@[simp] theorem pruneQueue_now (p : Part) : (pruneQueue p).now = p.now := rfl
@[simp] theorem pruneQueue_choice (p : Part) : (pruneQueue p).choice = p.choice := rfl
@[simp] theorem pruneQueue_handOns (p : Part) : (pruneQueue p).handOns = p.handOns := rfl

@[simp] theorem post_handOns (h : HandOn) (p : Part) : (post h p).handOns = p.handOns ++ [h] := rfl
@[simp] theorem post_line (h : HandOn) (p : Part) : (post h p).line = p.line := rfl
@[simp] theorem post_disp (h : HandOn) (p : Part) : (post h p).disp = p.disp := rfl
@[simp] theorem post_meas (h : HandOn) (p : Part) : (post h p).meas = p.meas := rfl
@[simp] theorem post_reg (h : HandOn) (p : Part) : (post h p).reg = p.reg := rfl
@[simp] theorem post_ctl (h : HandOn) (p : Part) : (post h p).ctl = p.ctl := rfl
@[simp] theorem post_fm (h : HandOn) (p : Part) : (post h p).fm = p.fm := rfl
@[simp] theorem post_ord (h : HandOn) (p : Part) : (post h p).ord = p.ord := rfl
@[simp] theorem post_coord (h : HandOn) (p : Part) : (post h p).coord = p.coord := rfl
@[simp] theorem post_fc (h : HandOn) (p : Part) : (post h p).fc = p.fc := rfl
@[simp] theorem post_mgmt (h : HandOn) (p : Part) : (post h p).mgmt = p.mgmt := rfl
@[simp] theorem post_now (h : HandOn) (p : Part) : (post h p).now = p.now := rfl
@[simp] theorem post_choice (h : HandOn) (p : Part) : (post h p).choice = p.choice := rfl

@[simp] theorem askQuery_handOns (n : Nat) (p : Part) :
    (askQuery n p).handOns =
      p.handOns ++ [.orderRequest n .query] := rfl
@[simp] theorem askQuery_line (n : Nat) (p : Part) : (askQuery n p).line = p.line := rfl
@[simp] theorem askQuery_disp (n : Nat) (p : Part) : (askQuery n p).disp = p.disp := rfl
@[simp] theorem askQuery_meas (n : Nat) (p : Part) : (askQuery n p).meas = p.meas := rfl
@[simp] theorem askQuery_reg (n : Nat) (p : Part) : (askQuery n p).reg = p.reg := rfl
@[simp] theorem askQuery_ctl (n : Nat) (p : Part) : (askQuery n p).ctl = p.ctl := rfl
@[simp] theorem askQuery_fm (n : Nat) (p : Part) : (askQuery n p).fm = p.fm := rfl
@[simp] theorem askQuery_ord (n : Nat) (p : Part) : (askQuery n p).ord = p.ord := rfl
@[simp] theorem askQuery_coord (n : Nat) (p : Part) : (askQuery n p).coord = p.coord := rfl
@[simp] theorem askQuery_fc (n : Nat) (p : Part) : (askQuery n p).fc = p.fc := rfl
@[simp] theorem askQuery_mgmt (n : Nat) (p : Part) : (askQuery n p).mgmt = p.mgmt := rfl
@[simp] theorem askQuery_now (n : Nat) (p : Part) : (askQuery n p).now = p.now := rfl
@[simp] theorem askQuery_choice (n : Nat) (p : Part) : (askQuery n p).choice = p.choice := rfl

@[simp] theorem onOrder_ord (n : Nat) (g : OrderRec → OrderRec) (p : Part) :
    (onOrder n g p).ord =
      { p.ord with records := updWhere (fun r => r.fan == n) g p.ord.records } := rfl
@[simp] theorem onOrder_line (n : Nat) (g : OrderRec → OrderRec) (p : Part) : (onOrder n g p).line = p.line := rfl
@[simp] theorem onOrder_disp (n : Nat) (g : OrderRec → OrderRec) (p : Part) : (onOrder n g p).disp = p.disp := rfl
@[simp] theorem onOrder_meas (n : Nat) (g : OrderRec → OrderRec) (p : Part) : (onOrder n g p).meas = p.meas := rfl
@[simp] theorem onOrder_reg (n : Nat) (g : OrderRec → OrderRec) (p : Part) : (onOrder n g p).reg = p.reg := rfl
@[simp] theorem onOrder_ctl (n : Nat) (g : OrderRec → OrderRec) (p : Part) : (onOrder n g p).ctl = p.ctl := rfl
@[simp] theorem onOrder_fm (n : Nat) (g : OrderRec → OrderRec) (p : Part) : (onOrder n g p).fm = p.fm := rfl
@[simp] theorem onOrder_coord (n : Nat) (g : OrderRec → OrderRec) (p : Part) : (onOrder n g p).coord = p.coord := rfl
@[simp] theorem onOrder_fc (n : Nat) (g : OrderRec → OrderRec) (p : Part) : (onOrder n g p).fc = p.fc := rfl
@[simp] theorem onOrder_mgmt (n : Nat) (g : OrderRec → OrderRec) (p : Part) : (onOrder n g p).mgmt = p.mgmt := rfl
@[simp] theorem onOrder_now (n : Nat) (g : OrderRec → OrderRec) (p : Part) : (onOrder n g p).now = p.now := rfl
@[simp] theorem onOrder_choice (n : Nat) (g : OrderRec → OrderRec) (p : Part) : (onOrder n g p).choice = p.choice := rfl
@[simp] theorem onOrder_handOns (n : Nat) (g : OrderRec → OrderRec) (p : Part) : (onOrder n g p).handOns = p.handOns := rfl

@[simp] theorem countOrder_ord (g : OrderCounters → OrderCounters) (p : Part) :
    (countOrder g p).ord =
      { p.ord with counters := g p.ord.counters } := rfl
@[simp] theorem countOrder_line (g : OrderCounters → OrderCounters) (p : Part) : (countOrder g p).line = p.line := rfl
@[simp] theorem countOrder_disp (g : OrderCounters → OrderCounters) (p : Part) : (countOrder g p).disp = p.disp := rfl
@[simp] theorem countOrder_meas (g : OrderCounters → OrderCounters) (p : Part) : (countOrder g p).meas = p.meas := rfl
@[simp] theorem countOrder_reg (g : OrderCounters → OrderCounters) (p : Part) : (countOrder g p).reg = p.reg := rfl
@[simp] theorem countOrder_ctl (g : OrderCounters → OrderCounters) (p : Part) : (countOrder g p).ctl = p.ctl := rfl
@[simp] theorem countOrder_fm (g : OrderCounters → OrderCounters) (p : Part) : (countOrder g p).fm = p.fm := rfl
@[simp] theorem countOrder_coord (g : OrderCounters → OrderCounters) (p : Part) : (countOrder g p).coord = p.coord := rfl
@[simp] theorem countOrder_fc (g : OrderCounters → OrderCounters) (p : Part) : (countOrder g p).fc = p.fc := rfl
@[simp] theorem countOrder_mgmt (g : OrderCounters → OrderCounters) (p : Part) : (countOrder g p).mgmt = p.mgmt := rfl
@[simp] theorem countOrder_now (g : OrderCounters → OrderCounters) (p : Part) : (countOrder g p).now = p.now := rfl
@[simp] theorem countOrder_choice (g : OrderCounters → OrderCounters) (p : Part) : (countOrder g p).choice = p.choice := rfl
@[simp] theorem countOrder_handOns (g : OrderCounters → OrderCounters) (p : Part) : (countOrder g p).handOns = p.handOns := rfl

@[simp] theorem setTag_line (a k : Nat) (x : TagState) (q : Timer) (p : Part) : (setTag a k x q p).line = p.line := rfl
@[simp] theorem setTag_disp (a k : Nat) (x : TagState) (q : Timer) (p : Part) : (setTag a k x q p).disp = p.disp := rfl
@[simp] theorem setTag_meas (a k : Nat) (x : TagState) (q : Timer) (p : Part) : (setTag a k x q p).meas = p.meas := rfl
@[simp] theorem setTag_reg (a k : Nat) (x : TagState) (q : Timer) (p : Part) : (setTag a k x q p).reg = p.reg := rfl
@[simp] theorem setTag_ctl (a k : Nat) (x : TagState) (q : Timer) (p : Part) : (setTag a k x q p).ctl = p.ctl := rfl
@[simp] theorem setTag_fm (a k : Nat) (x : TagState) (q : Timer) (p : Part) : (setTag a k x q p).fm = p.fm := rfl
@[simp] theorem setTag_coord (a k : Nat) (x : TagState) (q : Timer) (p : Part) : (setTag a k x q p).coord = p.coord := rfl
@[simp] theorem setTag_fc (a k : Nat) (x : TagState) (q : Timer) (p : Part) : (setTag a k x q p).fc = p.fc := rfl
@[simp] theorem setTag_mgmt (a k : Nat) (x : TagState) (q : Timer) (p : Part) : (setTag a k x q p).mgmt = p.mgmt := rfl
@[simp] theorem setTag_now (a k : Nat) (x : TagState) (q : Timer) (p : Part) : (setTag a k x q p).now = p.now := rfl
@[simp] theorem setTag_choice (a k : Nat) (x : TagState) (q : Timer) (p : Part) : (setTag a k x q p).choice = p.choice := rfl
@[simp] theorem setTag_handOns (a k : Nat) (x : TagState) (q : Timer) (p : Part) : (setTag a k x q p).handOns = p.handOns := rfl

@[simp] theorem takeTag_line (a k : Nat) (p : Part) : (takeTag a k p).line = p.line := rfl
@[simp] theorem takeTag_disp (a k : Nat) (p : Part) : (takeTag a k p).disp = p.disp := rfl
@[simp] theorem takeTag_meas (a k : Nat) (p : Part) : (takeTag a k p).meas = p.meas := rfl
@[simp] theorem takeTag_reg (a k : Nat) (p : Part) : (takeTag a k p).reg = p.reg := rfl
@[simp] theorem takeTag_ctl (a k : Nat) (p : Part) : (takeTag a k p).ctl = p.ctl := rfl
@[simp] theorem takeTag_fm (a k : Nat) (p : Part) : (takeTag a k p).fm = p.fm := rfl
@[simp] theorem takeTag_coord (a k : Nat) (p : Part) : (takeTag a k p).coord = p.coord := rfl
@[simp] theorem takeTag_fc (a k : Nat) (p : Part) : (takeTag a k p).fc = p.fc := rfl
@[simp] theorem takeTag_mgmt (a k : Nat) (p : Part) : (takeTag a k p).mgmt = p.mgmt := rfl
@[simp] theorem takeTag_now (a k : Nat) (p : Part) : (takeTag a k p).now = p.now := rfl
@[simp] theorem takeTag_choice (a k : Nat) (p : Part) : (takeTag a k p).choice = p.choice := rfl
@[simp] theorem takeTag_handOns (a k : Nat) (p : Part) : (takeTag a k p).handOns = p.handOns := rfl

@[simp] theorem joinBack_ord (n : Nat) (p : Part) :
    (joinBack n p).ord =
      { p.ord with backlog := p.ord.backlog ++ [n] } := rfl
@[simp] theorem joinBack_line (n : Nat) (p : Part) : (joinBack n p).line = p.line := rfl
@[simp] theorem joinBack_disp (n : Nat) (p : Part) : (joinBack n p).disp = p.disp := rfl
@[simp] theorem joinBack_meas (n : Nat) (p : Part) : (joinBack n p).meas = p.meas := rfl
@[simp] theorem joinBack_reg (n : Nat) (p : Part) : (joinBack n p).reg = p.reg := rfl
@[simp] theorem joinBack_ctl (n : Nat) (p : Part) : (joinBack n p).ctl = p.ctl := rfl
@[simp] theorem joinBack_fm (n : Nat) (p : Part) : (joinBack n p).fm = p.fm := rfl
@[simp] theorem joinBack_coord (n : Nat) (p : Part) : (joinBack n p).coord = p.coord := rfl
@[simp] theorem joinBack_fc (n : Nat) (p : Part) : (joinBack n p).fc = p.fc := rfl
@[simp] theorem joinBack_mgmt (n : Nat) (p : Part) : (joinBack n p).mgmt = p.mgmt := rfl
@[simp] theorem joinBack_now (n : Nat) (p : Part) : (joinBack n p).now = p.now := rfl
@[simp] theorem joinBack_choice (n : Nat) (p : Part) : (joinBack n p).choice = p.choice := rfl
@[simp] theorem joinBack_handOns (n : Nat) (p : Part) : (joinBack n p).handOns = p.handOns := rfl

@[simp] theorem joinFront_ord (n : Nat) (p : Part) :
    (joinFront n p).ord =
      { p.ord with backlog := n :: p.ord.backlog } := rfl
@[simp] theorem joinFront_line (n : Nat) (p : Part) : (joinFront n p).line = p.line := rfl
@[simp] theorem joinFront_disp (n : Nat) (p : Part) : (joinFront n p).disp = p.disp := rfl
@[simp] theorem joinFront_meas (n : Nat) (p : Part) : (joinFront n p).meas = p.meas := rfl
@[simp] theorem joinFront_reg (n : Nat) (p : Part) : (joinFront n p).reg = p.reg := rfl
@[simp] theorem joinFront_ctl (n : Nat) (p : Part) : (joinFront n p).ctl = p.ctl := rfl
@[simp] theorem joinFront_fm (n : Nat) (p : Part) : (joinFront n p).fm = p.fm := rfl
@[simp] theorem joinFront_coord (n : Nat) (p : Part) : (joinFront n p).coord = p.coord := rfl
@[simp] theorem joinFront_fc (n : Nat) (p : Part) : (joinFront n p).fc = p.fc := rfl
@[simp] theorem joinFront_mgmt (n : Nat) (p : Part) : (joinFront n p).mgmt = p.mgmt := rfl
@[simp] theorem joinFront_now (n : Nat) (p : Part) : (joinFront n p).now = p.now := rfl
@[simp] theorem joinFront_choice (n : Nat) (p : Part) : (joinFront n p).choice = p.choice := rfl
@[simp] theorem joinFront_handOns (n : Nat) (p : Part) : (joinFront n p).handOns = p.handOns := rfl

@[simp] theorem withdraw_line (a k : Nat) (p : Part) :
    (withdraw a k p).line =
      removeOwn (fun e => e.cls == .fanOrder a k) p.line := rfl
@[simp] theorem withdraw_disp (a k : Nat) (p : Part) : (withdraw a k p).disp = p.disp := rfl
@[simp] theorem withdraw_meas (a k : Nat) (p : Part) : (withdraw a k p).meas = p.meas := rfl
@[simp] theorem withdraw_reg (a k : Nat) (p : Part) : (withdraw a k p).reg = p.reg := rfl
@[simp] theorem withdraw_ctl (a k : Nat) (p : Part) : (withdraw a k p).ctl = p.ctl := rfl
@[simp] theorem withdraw_fm (a k : Nat) (p : Part) : (withdraw a k p).fm = p.fm := rfl
@[simp] theorem withdraw_ord (a k : Nat) (p : Part) : (withdraw a k p).ord = p.ord := rfl
@[simp] theorem withdraw_coord (a k : Nat) (p : Part) : (withdraw a k p).coord = p.coord := rfl
@[simp] theorem withdraw_fc (a k : Nat) (p : Part) : (withdraw a k p).fc = p.fc := rfl
@[simp] theorem withdraw_mgmt (a k : Nat) (p : Part) : (withdraw a k p).mgmt = p.mgmt := rfl
@[simp] theorem withdraw_now (a k : Nat) (p : Part) : (withdraw a k p).now = p.now := rfl
@[simp] theorem withdraw_choice (a k : Nat) (p : Part) : (withdraw a k p).choice = p.choice := rfl
@[simp] theorem withdraw_handOns (a k : Nat) (p : Part) : (withdraw a k p).handOns = p.handOns := rfl

@[simp] theorem onInstrument_meas (d : InstrumentId) (g : Instrument → Instrument) (p : Part) :
    (onInstrument d g p).meas =
      mapInstruments (fun j i => if j = d then g i else i) p.meas := rfl
@[simp] theorem onInstrument_line (d : InstrumentId) (g : Instrument → Instrument) (p : Part) : (onInstrument d g p).line = p.line := rfl
@[simp] theorem onInstrument_disp (d : InstrumentId) (g : Instrument → Instrument) (p : Part) : (onInstrument d g p).disp = p.disp := rfl
@[simp] theorem onInstrument_reg (d : InstrumentId) (g : Instrument → Instrument) (p : Part) : (onInstrument d g p).reg = p.reg := rfl
@[simp] theorem onInstrument_ctl (d : InstrumentId) (g : Instrument → Instrument) (p : Part) : (onInstrument d g p).ctl = p.ctl := rfl
@[simp] theorem onInstrument_fm (d : InstrumentId) (g : Instrument → Instrument) (p : Part) : (onInstrument d g p).fm = p.fm := rfl
@[simp] theorem onInstrument_ord (d : InstrumentId) (g : Instrument → Instrument) (p : Part) : (onInstrument d g p).ord = p.ord := rfl
@[simp] theorem onInstrument_coord (d : InstrumentId) (g : Instrument → Instrument) (p : Part) : (onInstrument d g p).coord = p.coord := rfl
@[simp] theorem onInstrument_fc (d : InstrumentId) (g : Instrument → Instrument) (p : Part) : (onInstrument d g p).fc = p.fc := rfl
@[simp] theorem onInstrument_mgmt (d : InstrumentId) (g : Instrument → Instrument) (p : Part) : (onInstrument d g p).mgmt = p.mgmt := rfl
@[simp] theorem onInstrument_now (d : InstrumentId) (g : Instrument → Instrument) (p : Part) : (onInstrument d g p).now = p.now := rfl
@[simp] theorem onInstrument_choice (d : InstrumentId) (g : Instrument → Instrument) (p : Part) : (onInstrument d g p).choice = p.choice := rfl
@[simp] theorem onInstrument_handOns (d : InstrumentId) (g : Instrument → Instrument) (p : Part) : (onInstrument d g p).handOns = p.handOns := rfl

@[simp] theorem onPoint_meas (n : Nat) (g : PointRec → PointRec) (p : Part) :
    (onPoint n g p).meas =
      { p.meas with points := updWhere (fun q => q.num == n) g p.meas.points } := rfl
@[simp] theorem onPoint_line (n : Nat) (g : PointRec → PointRec) (p : Part) : (onPoint n g p).line = p.line := rfl
@[simp] theorem onPoint_disp (n : Nat) (g : PointRec → PointRec) (p : Part) : (onPoint n g p).disp = p.disp := rfl
@[simp] theorem onPoint_reg (n : Nat) (g : PointRec → PointRec) (p : Part) : (onPoint n g p).reg = p.reg := rfl
@[simp] theorem onPoint_ctl (n : Nat) (g : PointRec → PointRec) (p : Part) : (onPoint n g p).ctl = p.ctl := rfl
@[simp] theorem onPoint_fm (n : Nat) (g : PointRec → PointRec) (p : Part) : (onPoint n g p).fm = p.fm := rfl
@[simp] theorem onPoint_ord (n : Nat) (g : PointRec → PointRec) (p : Part) : (onPoint n g p).ord = p.ord := rfl
@[simp] theorem onPoint_coord (n : Nat) (g : PointRec → PointRec) (p : Part) : (onPoint n g p).coord = p.coord := rfl
@[simp] theorem onPoint_fc (n : Nat) (g : PointRec → PointRec) (p : Part) : (onPoint n g p).fc = p.fc := rfl
@[simp] theorem onPoint_mgmt (n : Nat) (g : PointRec → PointRec) (p : Part) : (onPoint n g p).mgmt = p.mgmt := rfl
@[simp] theorem onPoint_now (n : Nat) (g : PointRec → PointRec) (p : Part) : (onPoint n g p).now = p.now := rfl
@[simp] theorem onPoint_choice (n : Nat) (g : PointRec → PointRec) (p : Part) : (onPoint n g p).choice = p.choice := rfl
@[simp] theorem onPoint_handOns (n : Nat) (g : PointRec → PointRec) (p : Part) : (onPoint n g p).handOns = p.handOns := rfl

@[simp] theorem onZone_meas (n : Nat) (g : ZoneRec → ZoneRec) (p : Part) :
    (onZone n g p).meas =
      { p.meas with zones := updWhere (fun z => z.num == n) g p.meas.zones } := rfl
@[simp] theorem onZone_line (n : Nat) (g : ZoneRec → ZoneRec) (p : Part) : (onZone n g p).line = p.line := rfl
@[simp] theorem onZone_disp (n : Nat) (g : ZoneRec → ZoneRec) (p : Part) : (onZone n g p).disp = p.disp := rfl
@[simp] theorem onZone_reg (n : Nat) (g : ZoneRec → ZoneRec) (p : Part) : (onZone n g p).reg = p.reg := rfl
@[simp] theorem onZone_ctl (n : Nat) (g : ZoneRec → ZoneRec) (p : Part) : (onZone n g p).ctl = p.ctl := rfl
@[simp] theorem onZone_fm (n : Nat) (g : ZoneRec → ZoneRec) (p : Part) : (onZone n g p).fm = p.fm := rfl
@[simp] theorem onZone_ord (n : Nat) (g : ZoneRec → ZoneRec) (p : Part) : (onZone n g p).ord = p.ord := rfl
@[simp] theorem onZone_coord (n : Nat) (g : ZoneRec → ZoneRec) (p : Part) : (onZone n g p).coord = p.coord := rfl
@[simp] theorem onZone_fc (n : Nat) (g : ZoneRec → ZoneRec) (p : Part) : (onZone n g p).fc = p.fc := rfl
@[simp] theorem onZone_mgmt (n : Nat) (g : ZoneRec → ZoneRec) (p : Part) : (onZone n g p).mgmt = p.mgmt := rfl
@[simp] theorem onZone_now (n : Nat) (g : ZoneRec → ZoneRec) (p : Part) : (onZone n g p).now = p.now := rfl
@[simp] theorem onZone_choice (n : Nat) (g : ZoneRec → ZoneRec) (p : Part) : (onZone n g p).choice = p.choice := rfl
@[simp] theorem onZone_handOns (n : Nat) (g : ZoneRec → ZoneRec) (p : Part) : (onZone n g p).handOns = p.handOns := rfl

@[simp] theorem clearAlarms_meas (p : Part) :
    (clearAlarms p).meas =
      { p.meas with zones := p.meas.zones.map clearAlarm } := rfl
@[simp] theorem clearAlarms_line (p : Part) : (clearAlarms p).line = p.line := rfl
@[simp] theorem clearAlarms_disp (p : Part) : (clearAlarms p).disp = p.disp := rfl
@[simp] theorem clearAlarms_reg (p : Part) : (clearAlarms p).reg = p.reg := rfl
@[simp] theorem clearAlarms_ctl (p : Part) : (clearAlarms p).ctl = p.ctl := rfl
@[simp] theorem clearAlarms_fm (p : Part) : (clearAlarms p).fm = p.fm := rfl
@[simp] theorem clearAlarms_ord (p : Part) : (clearAlarms p).ord = p.ord := rfl
@[simp] theorem clearAlarms_coord (p : Part) : (clearAlarms p).coord = p.coord := rfl
@[simp] theorem clearAlarms_fc (p : Part) : (clearAlarms p).fc = p.fc := rfl
@[simp] theorem clearAlarms_mgmt (p : Part) : (clearAlarms p).mgmt = p.mgmt := rfl
@[simp] theorem clearAlarms_now (p : Part) : (clearAlarms p).now = p.now := rfl
@[simp] theorem clearAlarms_choice (p : Part) : (clearAlarms p).choice = p.choice := rfl
@[simp] theorem clearAlarms_handOns (p : Part) : (clearAlarms p).handOns = p.handOns := rfl

@[simp] theorem setBuffer_mgmt (b : LoadBuffer) (p : Part) : (setBuffer b p).mgmt = { p.mgmt with buffer := b } := rfl
@[simp] theorem setBuffer_line (b : LoadBuffer) (p : Part) : (setBuffer b p).line = p.line := rfl
@[simp] theorem setBuffer_disp (b : LoadBuffer) (p : Part) : (setBuffer b p).disp = p.disp := rfl
@[simp] theorem setBuffer_meas (b : LoadBuffer) (p : Part) : (setBuffer b p).meas = p.meas := rfl
@[simp] theorem setBuffer_reg (b : LoadBuffer) (p : Part) : (setBuffer b p).reg = p.reg := rfl
@[simp] theorem setBuffer_ctl (b : LoadBuffer) (p : Part) : (setBuffer b p).ctl = p.ctl := rfl
@[simp] theorem setBuffer_fm (b : LoadBuffer) (p : Part) : (setBuffer b p).fm = p.fm := rfl
@[simp] theorem setBuffer_ord (b : LoadBuffer) (p : Part) : (setBuffer b p).ord = p.ord := rfl
@[simp] theorem setBuffer_coord (b : LoadBuffer) (p : Part) : (setBuffer b p).coord = p.coord := rfl
@[simp] theorem setBuffer_fc (b : LoadBuffer) (p : Part) : (setBuffer b p).fc = p.fc := rfl
@[simp] theorem setBuffer_now (b : LoadBuffer) (p : Part) : (setBuffer b p).now = p.now := rfl
@[simp] theorem setBuffer_choice (b : LoadBuffer) (p : Part) : (setBuffer b p).choice = p.choice := rfl
@[simp] theorem setBuffer_handOns (b : LoadBuffer) (p : Part) : (setBuffer b p).handOns = p.handOns := rfl

@[simp] theorem acceptNotice_reg (p : Part) : (acceptNotice p).reg = { p.reg with outcome := .accepted } := rfl
@[simp] theorem acceptNotice_line (p : Part) : (acceptNotice p).line = p.line := rfl
@[simp] theorem acceptNotice_disp (p : Part) : (acceptNotice p).disp = p.disp := rfl
@[simp] theorem acceptNotice_meas (p : Part) : (acceptNotice p).meas = p.meas := rfl
@[simp] theorem acceptNotice_ctl (p : Part) : (acceptNotice p).ctl = p.ctl := rfl
@[simp] theorem acceptNotice_fm (p : Part) : (acceptNotice p).fm = p.fm := rfl
@[simp] theorem acceptNotice_ord (p : Part) : (acceptNotice p).ord = p.ord := rfl
@[simp] theorem acceptNotice_coord (p : Part) : (acceptNotice p).coord = p.coord := rfl
@[simp] theorem acceptNotice_fc (p : Part) : (acceptNotice p).fc = p.fc := rfl
@[simp] theorem acceptNotice_mgmt (p : Part) : (acceptNotice p).mgmt = p.mgmt := rfl
@[simp] theorem acceptNotice_now (p : Part) : (acceptNotice p).now = p.now := rfl
@[simp] theorem acceptNotice_choice (p : Part) : (acceptNotice p).choice = p.choice := rfl
@[simp] theorem acceptNotice_handOns (p : Part) : (acceptNotice p).handOns = p.handOns := rfl

@[simp] theorem departControl_line (p : Part) : (departControl p).line = p.line := rfl
@[simp] theorem departControl_disp (p : Part) : (departControl p).disp = p.disp := rfl
@[simp] theorem departControl_meas (p : Part) : (departControl p).meas = p.meas := rfl
@[simp] theorem departControl_reg (p : Part) : (departControl p).reg = p.reg := rfl
@[simp] theorem departControl_fm (p : Part) : (departControl p).fm = p.fm := rfl
@[simp] theorem departControl_ord (p : Part) : (departControl p).ord = p.ord := rfl
@[simp] theorem departControl_coord (p : Part) : (departControl p).coord = p.coord := rfl
@[simp] theorem departControl_fc (p : Part) : (departControl p).fc = p.fc := rfl
@[simp] theorem departControl_mgmt (p : Part) : (departControl p).mgmt = p.mgmt := rfl
@[simp] theorem departControl_now (p : Part) : (departControl p).now = p.now := rfl
@[simp] theorem departControl_choice (p : Part) : (departControl p).choice = p.choice := rfl
@[simp] theorem departControl_handOns (p : Part) : (departControl p).handOns = p.handOns := rfl

@[simp] theorem zeroControl_line (p : Part) : (zeroControl p).line = p.line := rfl
@[simp] theorem zeroControl_disp (p : Part) : (zeroControl p).disp = p.disp := rfl
@[simp] theorem zeroControl_meas (p : Part) : (zeroControl p).meas = p.meas := rfl
@[simp] theorem zeroControl_reg (p : Part) : (zeroControl p).reg = p.reg := rfl
@[simp] theorem zeroControl_fm (p : Part) : (zeroControl p).fm = p.fm := rfl
@[simp] theorem zeroControl_ord (p : Part) : (zeroControl p).ord = p.ord := rfl
@[simp] theorem zeroControl_coord (p : Part) : (zeroControl p).coord = p.coord := rfl
@[simp] theorem zeroControl_fc (p : Part) : (zeroControl p).fc = p.fc := rfl
@[simp] theorem zeroControl_mgmt (p : Part) : (zeroControl p).mgmt = p.mgmt := rfl
@[simp] theorem zeroControl_now (p : Part) : (zeroControl p).now = p.now := rfl
@[simp] theorem zeroControl_choice (p : Part) : (zeroControl p).choice = p.choice := rfl
@[simp] theorem zeroControl_handOns (p : Part) : (zeroControl p).handOns = p.handOns := rfl


end Sys2Proof.Machine
end

