-- ==== Sys2Proof/Laws/Fans.lean ====
section
/-! SUPPORT. What an operation of the Fan Manager can do: it writes the Fan Manager's own state, Fault Capture's, and the
hand-ons that wait, sets flags and clears none, and (`FanStep`) leaves the record, the preference order, the zone
temperatures and the fans' static fields as they are. -/

namespace Sys2Proof.Machine

/-- Every flag of `a` is set in `b`. -/
def FlagsKept (a b : BitVec 16) : Prop := a &&& b = a

theorem FlagsKept.refl (a : BitVec 16) : FlagsKept a a := BitVec.and_self

theorem FlagsKept.trans {a b c : BitVec 16} (h : FlagsKept a b) (k : FlagsKept b c) : FlagsKept a c := by
  unfold FlagsKept at *
  rw [← h, BitVec.and_assoc, k]

/-- A flag that is set stays set. -/
theorem FlagsKept.of_mask {a b m : BitVec 16} (h : FlagsKept a b) (k : a &&& m = m) : b &&& m = m := by
  unfold FlagsKept at h
  rw [← k, ← BitVec.and_assoc, BitVec.and_comm b a, h]

theorem flagsKept_or (a m : BitVec 16) : FlagsKept a (a ||| m) := by
  unfold FlagsKept
  ext i
  simp
  tauto

theorem raise_flagsKept (f : EventFlag) (p : Part) : FlagsKept p.fc.flags (raise f p).fc.flags := flagsKept_or _ _

theorem report_flagsKept (k : FaultKind) (o : FaultObject) (p : Part) :
    FlagsKept p.fc.flags (report k o p).fc.flags := by
  unfold report
  dsimp only
  split
  · exact FlagsKept.refl _
  · exact flagsKept_or _ _

/-- Of a part, only the Fan Manager, Fault Capture and the waiting hand-ons may differ, and no flag is cleared. -/
structure FmStep (p q : Part) : Prop where
  rest  : q = { p with fm := q.fm, fc := q.fc, handOns := q.handOns }
  flags : FlagsKept p.fc.flags q.fc.flags

/-- An `FmStep` that also leaves the record, the preference order, the zone temperatures and the static fields, and ends
no clearing unless the state held is CLEARING (R146). -/
structure FanStep (p q : Part) : Prop extends FmStep p q where
  record     : q.fm.record = p.fm.record
  preference : q.fm.preference = p.fm.preference
  zoneTemps  : q.fm.zoneTemps = p.fm.zoneTemps
  entries    : q.fm.fans.map (·.e) = p.fm.fans.map (·.e)
  noEnd      : p.fm.record.state ≠ .clearing → .clearingEnd ∉ p.handOns → .clearingEnd ∉ q.handOns

theorem FmStep.refl (p : Part) : FmStep p p := ⟨rfl, FlagsKept.refl _⟩

theorem FmStep.trans {p q r : Part} (h : FmStep p q) (k : FmStep q r) : FmStep p r :=
  ⟨by rw [k.rest, h.rest], h.flags.trans k.flags⟩

theorem FmStep.after {p q r : Part} (k : FmStep q r) (h : FmStep p q) : FmStep p r := FmStep.trans h k

theorem FanStep.refl (p : Part) : FanStep p p := ⟨FmStep.refl p, rfl, rfl, rfl, rfl, fun _ h => h⟩

theorem FanStep.trans {p q r : Part} (h : FanStep p q) (k : FanStep q r) : FanStep p r :=
  ⟨h.toFmStep.trans k.toFmStep, k.record.trans h.record, k.preference.trans h.preference,
    k.zoneTemps.trans h.zoneTemps, k.entries.trans h.entries,
    fun c e => k.noEnd (by rw [h.record]; exact c) (h.noEnd c e)⟩

theorem FanStep.after {p q r : Part} (k : FanStep q r) (h : FanStep p q) : FanStep p r := FanStep.trans h k

/-- A conditional operation whose branches are both steps is a step. -/
theorem FmStep.ite {p : Part} {c : Prop} [Decidable c] {a b : Part} (ha : FmStep p a)
    (hb : FmStep p b) : FmStep p (if c then a else b) := by
  split
  · exact ha
  · exact hb

theorem FanStep.ite {p : Part} {c : Prop} [Decidable c] {a b : Part} (ha : FanStep p a)
    (hb : FanStep p b) : FanStep p (if c then a else b) := by
  split
  · exact ha
  · exact hb

theorem FanStep.foldl {α : Type} (g : Part → α → Part) (step : ∀ p a, FanStep p (g p a)) (l : List α) :
    ∀ p, FanStep p (l.foldl g p) := by
  induction l with
  | nil => exact FanStep.refl
  | cons a l ih => exact fun p => (step p a).trans (ih _)

/-! ### Fan records -/

theorem keepKnown_e (f : FanRec) : (keepKnown f).e = f.e := by
  unfold keepKnown
  split <;> rfl

theorem enter_e (s : FanState) (d : Option RunDir) (f : FanRec) : (enter s d f).e = f.e := rfl

theorem becomeUnknown_e (f : FanRec) : (becomeUnknown f).e = f.e := keepKnown_e f

theorem loseFan_e (f : FanRec) : (loseFan f).e = f.e := keepKnown_e f

theorem beginRest_e (now : PartTime) (s : Nat) (f : FanRec) : (beginRest now s f).e = f.e := by
  unfold beginRest
  dsimp only
  repeat' split
  all_goals rfl

theorem beginStopping_e (now : PartTime) (d : Option RunDir) (f : FanRec) : (beginStopping now d f).e = f.e :=
  beginRest_e _ _ _

/-! ### The updates -/

theorem updWhere_map {α β : Type} (v : α → β) (k : α → Bool) (f : α → α) (h : ∀ x, v (f x) = v x) (l : List α) :
    (updWhere k f l).map v = l.map v := by
  unfold updWhere
  rw [List.map_map]
  apply List.map_congr_left
  intro x _
  dsimp only [Function.comp]
  split
  · exact h x
  · rfl

theorem onFan_step (n : Nat) (g : FanRec → FanRec) (p : Part)
    (h : ∀ f, (g f).e = f.e := by
      intro f
      first | rfl | exact keepKnown_e f | exact beginRest_e _ _ _ | (split <;> first | rfl | exact keepKnown_e f)) : FanStep p (onFan n g p) :=
  ⟨⟨rfl, FlagsKept.refl _⟩, rfl, rfl, rfl, updWhere_map _ _ _ h _, fun _ e => e⟩

theorem fm_step (m : FanManager) (p : Part) (hr : m.record = p.fm.record := by rfl)
    (hp : m.preference = p.fm.preference := by rfl) (hz : m.zoneTemps = p.fm.zoneTemps := by rfl)
    (he : m.fans.map (·.e) = p.fm.fans.map (·.e) := by rfl) : FanStep p { p with fm := m } :=
  ⟨⟨rfl, FlagsKept.refl _⟩, hr, hp, hz, he, fun _ e => e⟩

theorem request_step (n : Nat) (k : OrderKind) (p : Part) : FanStep p (post (.orderRequest n k) p) :=
  ⟨⟨rfl, FlagsKept.refl _⟩, rfl, rfl, rfl, rfl, fun _ e => by simp [e]⟩

theorem askQuery_step (n : Nat) (p : Part) : FanStep p (askQuery n p) := request_step _ _ _

theorem raise_step (f : EventFlag) (p : Part) : FanStep p (raise f p) :=
  ⟨⟨rfl, raise_flagsKept f p⟩, rfl, rfl, rfl, rfl, fun _ e => e⟩

theorem report_step (k : FaultKind) (o : FaultObject) (p : Part) : FanStep p (report k o p) :=
  ⟨⟨by rw [report_eq], report_flagsKept k o p⟩, by simp, by simp, by simp, by simp, fun _ e => by simpa using e⟩

theorem formThrust_step (p : Part) : FanStep p (formThrust p) := fm_step _ _

theorem pruneQueue_step (p : Part) : FanStep p (pruneQueue p) := fm_step _ _

/-! ### Stops, starts, slots -/

theorem askStop_step (n : Nat) (p : Part) : FanStep p (askStop n p) := by
  unfold askStop
  repeat' split
  · exact (request_step _ _ _).after (onFan_step _ _ _)
  all_goals exact FanStep.refl p

theorem testUnwanted_step (n : Nat) (p : Part) : FanStep p (testUnwanted n p) := by
  unfold testUnwanted
  repeat' split
  · exact askStop_step n p
  all_goals exact FanStep.refl p

theorem testAllUnwanted_step (p : Part) : FanStep p (testAllUnwanted p) :=
  FanStep.foldl _ (fun p n => testUnwanted_step n p) _ p

theorem grantOne_step (p : Part) : FanStep p (grantOne p) := by
  unfold grantOne
  repeat' split
  all_goals try exact FanStep.refl p
  exact ((request_step _ _ _).after (onFan_step _ _ _)).after (fm_step _ _)

theorem grants_step (p : Part) : FanStep p (grants p) :=
  (grantOne_step p).trans ((grantOne_step _).trans ((grantOne_step _).trans (grantOne_step _)))

theorem releaseSlots_step (p : Part) : FanStep p (releaseSlots p) := by
  unfold releaseSlots
  dsimp only
  have h := (pruneQueue_step _).after (fm_step { p.fm with slots := p.fm.slots.map fun s => s.filter (isStarting p)
      } p)
  split
  · exact (grants_step _).after h
  · exact h

theorem testClearing_step (p : Part) : FanStep p (testClearing p) := by
  unfold testClearing
  split
  · rename_i h
    refine ⟨⟨rfl, FlagsKept.refl _⟩, rfl, rfl, rfl, rfl, fun c _ => absurd ?_ c⟩
    simp only [Bool.and_eq_true, beq_iff_eq] at h
    exact h.1.1.1
  · exact FanStep.refl p

theorem fanTail_step (p : Part) : FanStep p (fanTail p) :=
  (pruneQueue_step p).trans ((formThrust_step _).trans (testClearing_step _))

/-! ### FAILED, ISOLATED, LOST -/

theorem failFan_step (n : Nat) (p : Part) : FanStep p (failFan n p) := by
  unfold failFan
  repeat' split
  · exact FanStep.refl p
  · exact (((releaseSlots_step _).after (raise_step _ _)).after (report_step _ _ _)).after (onFan_step _ _ _)
  · exact FanStep.refl p

theorem isolateByReport_step (n : Nat) (p : Part) : FanStep p (isolateByReport n p) := by
  unfold isolateByReport
  exact (releaseSlots_step _).after (onFan_step _ _ _)

theorem loseStation_step (station : Nat) (p : Part) : FanStep p (loseStation station p) := by
  unfold loseStation
  split
  · exact FanStep.refl p
  · exact (((releaseSlots_step _).after (raise_step _ _)).after (report_step _ _ _)).after (fm_step _ _ rfl rfl rfl (updWhere_map _ _ _ loseFan_e _))

/-! ### Judging a run state -/

theorem enterRunning_step (n : Nat) (d : RunDir) (p : Part) : FanStep p (enterRunning n d p) :=
  (onFan_step _ _ _).trans ((releaseSlots_step _).trans (testUnwanted_step _ _))

theorem settleFan_step (n : Nat) (run : RunState) (p : Part) : FanStep p (settleFan n run p) := by
  cases run
  · exact onFan_step _ _ _
  · exact (askQuery_step _ _).after (onFan_step _ _ _)
  · exact enterRunning_step n _ p
  · exact enterRunning_step n _ p
  · exact onFan_step _ _ _

theorem judgeStarting_step (n : Nat) (dir : Option RunDir) (run : RunState) (p : Part) :
    FanStep p (judgeStarting n dir run p) := by
  unfold judgeStarting
  repeat' split
  · exact FanStep.refl p
  · exact ((testUnwanted_step _ _).after (releaseSlots_step _)).after (onFan_step _ _ _)
  · exact failFan_step n p

theorem judgeRunning_step (f : FanRec) (run : RunState) (p : Part) : FanStep p (judgeRunning f run p) := by
  have unasked : ∀ q, FanStep q (if f.stopReq then q else report .fanStoppedUnasked (fanObject f.e.num) q) := by
    intro q
    split
    · exact FanStep.refl q
    · exact report_step _ _ q
  unfold judgeRunning
  cases run <;> dsimp only
  · exact (unasked _).after (onFan_step _ _ _)
  · exact FanStep.refl p
  · split
    · exact FanStep.refl p
    · exact failFan_step _ p
  · split
    · exact FanStep.refl p
    · exact failFan_step _ p
  · exact (unasked _).after (onFan_step _ _ _)

theorem judgeStopping_step (f : FanRec) (run : RunState) (p : Part) : FanStep p (judgeStopping f run p) := by
  unfold judgeStopping
  repeat' split
  · exact onFan_step _ _ _
  · exact failFan_step _ p
  · exact FanStep.refl p

theorem judgeStopped_step (n : Nat) (run : RunState) (p : Part) : FanStep p (judgeStopped n run p) := by
  unfold judgeStopped
  split
  · exact FanStep.refl p
  · exact (enterRunning_step _ _ _).after (fm_step { p.fm with unexpected := bump p.fm.unexpected } p)

theorem judgeRun_step (n : Nat) (run : RunState) (p : Part) : FanStep p (judgeRun n run p) := by
  unfold judgeRun
  repeat' split
  all_goals first
    | exact FanStep.refl p
    | exact judgeStarting_step _ _ _ p
    | exact judgeRunning_step _ _ p
    | exact judgeStopping_step _ _ p
    | exact judgeStopped_step _ _ p
    | exact settleFan_step _ _ p

/-! ### Reports and outcomes -/

theorem judgeControl_step (n : Nat) (o : ReportOutput) (p : Part) : FanStep p (judgeControl n o p) := by
  unfold judgeControl
  dsimp only
  repeat' split
  · exact FanStep.refl p
  · exact isolateByReport_step n p
  · exact onFan_step _ _ _
  · exact (settleFan_step _ _ _).after (onFan_step _ _ _)
  · exact (judgeRun_step _ _ _).after (onFan_step _ _ _)
  · exact judgeRun_step _ _ p

theorem judgeOutput_step (source : Nat) (p : Part) (o : ReportOutput) : FanStep p (judgeOutput source p o) := by
  unfold judgeOutput
  split
  · exact fm_step { p.fm with unmatched := bump p.fm.unmatched } p
  · rename_i f _
    have h := onFan_step f.e.num
      (fun f => { f with last := some ⟨o.run, some o.control, some o.fault, p.now⟩ }) p
    dsimp only
    repeat' split
    · exact h
    · exact (failFan_step _ _).after h
    · exact (judgeControl_step _ _ _).after h

theorem takeReport_step (source : Nat) (outputs : List ReportOutput) (p : Part) :
    FanStep p (takeReport source outputs p) := by
  have h := (FanStep.foldl _ (judgeOutput_step source) outputs _).after
    (fm_step { p.fm with reach := p.fm.reach.map (hearStation p.now source) } p)
  have ask : ∀ (p : Part) n, FanStep p (askQuery n (onFan n becomeUnknown p)) :=
    fun p n => (askQuery_step _ _).after (onFan_step _ _ _)
  unfold takeReport
  dsimp only
  split
  · exact ((fanTail_step _).after (FanStep.foldl _ ask _ _)).after h
  · exact (fanTail_step _).after h

theorem startAccepted_step (f : FanRec) (run : Option RunState) (p : Part) :
    FanStep p (startAccepted f run p) := by
  unfold startAccepted
  cases run
  · exact FanStep.ite (onFan_step _ _ _) (FanStep.refl p)
  · exact FanStep.ite (((judgeRun_step _ _ _).after (onFan_step _ _ _)).after (onFan_step _ _ _)) (FanStep.refl p)

theorem stopAccepted_step (f : FanRec) (p : Part) : FanStep p (stopAccepted f p) := by
  unfold stopAccepted
  split
  · exact onFan_step _ _ _
  · exact onFan_step _ _ _
  · exact onFan_step _ _ _
  · exact FanStep.refl p

theorem judgeOutcome_step (f : FanRec) (order : OrderKind) (outcome : OrderOutcome) (p : Part) :
    FanStep p (judgeOutcome f order outcome p) := by
  unfold judgeOutcome
  cases outcome <;> dsimp only
  · repeat' split
    · exact startAccepted_step _ _ p
    · exact stopAccepted_step _ p
    · exact FanStep.refl p
  · split
    · exact isolateByReport_step _ p
    · exact FanStep.refl p
  · split
    · exact failFan_step _ p
    · exact FanStep.refl p
  · exact loseStation_step _ p
  · repeat' split
    · exact FanStep.refl p
    · exact onFan_step _ _ _
    · exact (judgeRun_step _ _ _).after (onFan_step _ _ _)
  · split
    · exact ((askQuery_step _ _).after (releaseSlots_step _)).after (onFan_step _ _ _)
    · exact FanStep.refl p

theorem takeOutcome_step (n : Nat) (order : OrderKind) (outcome : OrderOutcome) (p : Part) :
    FanStep p (takeOutcome n order outcome p) := by
  unfold takeOutcome
  split
  · exact FanStep.refl p
  · extract_lets p1
    have h1 : FanStep p p1 := FanStep.ite (onFan_step _ _ _) (FanStep.refl p)
    exact ((fanTail_step _).after (judgeOutcome_step _ _ _ p1)).after h1

/-! ### Timers, isolation, admission -/

theorem restExpires_step (n : Nat) (p : Part) : FanStep p (restExpires n p) := by
  unfold restExpires
  exact (fanTail_step _).after (onFan_step _ _ _)

theorem runUpExpires_step (n : Nat) (p : Part) : FanStep p (runUpExpires n p) := by
  unfold runUpExpires
  repeat' split
  · exact (fanTail_step _).after (failFan_step n p)
  all_goals exact FanStep.refl p

theorem runDownExpires_step (n : Nat) (p : Part) : FanStep p (runDownExpires n p) := by
  unfold runDownExpires
  exact onFan_step _ _ _

theorem silenceExpires_step (station : Nat) (p : Part) : FanStep p (silenceExpires station p) := by
  unfold silenceExpires
  split
  · exact (fanTail_step _).after (loseStation_step station p)
  · exact FanStep.refl p

theorem isolateFan_step (n : Nat) (p : Part) : FanStep p (isolateFan n p) := by
  unfold isolateFan
  exact ((fanTail_step _).after (releaseSlots_step _)).after (onFan_step _ _ _)

theorem readmit_step (f : FanRec) (p : Part) : FanStep p (readmit f p) := by
  unfold readmit
  split
  · exact onFan_step _ _ _
  · exact (askQuery_step _ _).after (onFan_step _ _ _)

theorem admitFan_step (n : Nat) (p : Part) : FanStep p (admitFan n p) := by
  have c := onFan_step n (fun f => { f with mgrIso := false }) p
  unfold admitFan
  dsimp only
  repeat' split
  · exact FanStep.refl p
  · exact ((fanTail_step _).after (readmit_step _ _)).after c
  · exact (fanTail_step _).after c
  · exact ((fanTail_step _).after (readmit_step _ _)).after c
  all_goals exact FanStep.refl p

/-! ### Demand, clearing -/

theorem stopRule_step (p : Part) : FanStep p (stopRule p) := by
  unfold stopRule
  repeat' split
  · exact FanStep.refl p
  · exact FanStep.refl p
  · exact askStop_step _ p
  · exact FanStep.refl p

theorem takeDemand_step (d : Nat) (p : Part) : FanStep p (takeDemand d p) := by
  unfold takeDemand
  split
  · have h := (fm_step (rebuildQueue { p with fm := { p.fm with lastDemand := d } }).fm _).after
      (fm_step { p.fm with lastDemand := d } p)
    dsimp only
    split
    · exact ((((formThrust_step _).after (pruneQueue_step _)).after (grants_step _)).after (stopRule_step _)).after h
    · exact (((formThrust_step _).after (pruneQueue_step _)).after (grants_step _)).after h
  · exact FanStep.refl p

theorem staggeredStop_step (p : Part) : FanStep p (staggeredStop p) := by
  unfold staggeredStop
  split
  · exact (fm_step _ _).after (askStop_step _ p)
  · exact fm_step _ _

theorem spacingExpires_step (p : Part) : FanStep p (spacingExpires p) := by
  unfold spacingExpires
  repeat' split
  · exact staggeredStop_step p
  · exact fm_step _ _
  · exact FanStep.refl p

/-! ### Zone temperatures and incident records -/

theorem takeZoneTemp_step (zone : Nat) (v : Option Int) (p : Part) : FmStep p (takeZoneTemp zone v p) := by
  have own : ∀ (q : Part) m, FmStep q { q with fm := m } := fun q m => ⟨rfl, FlagsKept.refl _⟩
  unfold takeZoneTemp
  extract_lets before m0 p1
  have h1 : FmStep p p1 := own p _
  have tested : ∀ l (q : Part), FmStep q (testNewHeat l q) :=
    fun l q => (FanStep.foldl _ (fun p n => testUnwanted_step n p) _ q).toFmStep
  exact FmStep.ite h1 (((fanTail_step _).toFmStep.after ((tested _ _).after (own p1 _))).after h1)

theorem fansTakeRecord_step (h : RecordHandOn) (p : Part) : FmStep p (fansTakeRecord h p) := by
  have own : ∀ (q : Part) m, FmStep q { q with fm := m } := fun q m => ⟨rfl, FlagsKept.refl _⟩
  have refl := FmStep.refl
  unfold fansTakeRecord
  extract_lets old new idChanged moved entering m0 p1 p2 p3 p4 p5 p6 p7 p8 m8 p9
  have h1 : FmStep p p1 := own p _
  have h2 : FmStep p1 p2 := own p1 _
  have h3 : FmStep p2 p3 := FmStep.ite (own p2 _) (refl _)
  have h4 : FmStep p3 p4 := FmStep.ite (own p3 _) (refl _)
  have h5 : FmStep p4 p5 := FmStep.ite (own p4 _) (refl _)
  have h6 : FmStep p5 p6 := FmStep.ite (own p5 _) (own p5 _)
  have h7 : FmStep p6 p7 := own p6 _
  have h8 : FmStep p7 p8 := FmStep.ite (testAllUnwanted_step p7).toFmStep (refl _)
  have h9 : FmStep p8 p9 := FmStep.ite (FmStep.ite ((own p8 _).trans (staggeredStop_step _).toFmStep) (refl _))
      (own p8 _)
  exact ((((((((h9.trans (testClearing_step p9).toFmStep).after h8).after h7).after h6).after h5).after h4).after
      h3).after h2).after h1

end Sys2Proof.Machine
end

