-- ==== Sys2Proof/Laws/Orders.lean ====
section
/-! SUPPORT. What an operation of the Order Engine can do: it writes its own state, the own transmit queue with its
counters, and what the Fan Manager does with an outcome (`FanStep`). -/

namespace Sys2Proof.Machine

/-- Of the line, only the own queue, its places, the sequence counter and the two counters of own telegrams differ. -/
def OwnLine (l m : LineInterface) : Prop :=
  m = { l with own := m.own, nextPlace := m.nextPlace, seq := m.seq, ownUnsent := m.ownUnsent,
               droppedReplies := m.droppedReplies }

theorem OwnLine.refl (l : LineInterface) : OwnLine l l := rfl

theorem OwnLine.trans {l m n : LineInterface} (h : OwnLine l m) (k : OwnLine m n) : OwnLine l n := by
  unfold OwnLine at *
  rw [k, h]

/-- Of a part, only the Fan Manager, the Order Engine, the own queue, Fault Capture and the waiting hand-ons may differ,
within what a `FanStep` allows of the Fan Manager. -/
structure OrderStep (p q : Part) : Prop where
  rest       : q = { p with fm := q.fm, fc := q.fc, handOns := q.handOns, ord := q.ord, line := q.line }
  line       : OwnLine p.line q.line
  flags      : FlagsKept p.fc.flags q.fc.flags
  record     : q.fm.record = p.fm.record
  preference : q.fm.preference = p.fm.preference
  zoneTemps  : q.fm.zoneTemps = p.fm.zoneTemps
  entries    : q.fm.fans.map (·.e) = p.fm.fans.map (·.e)
  noEnd      : p.fm.record.state ≠ .clearing → .clearingEnd ∉ p.handOns → .clearingEnd ∉ q.handOns

theorem OrderStep.refl (p : Part) : OrderStep p p := ⟨rfl, rfl, FlagsKept.refl _, rfl, rfl, rfl, rfl, fun _ h => h⟩

theorem OrderStep.trans {p q r : Part} (h : OrderStep p q) (k : OrderStep q r) : OrderStep p r :=
  ⟨by rw [k.rest, h.rest], h.line.trans k.line, h.flags.trans k.flags, k.record.trans h.record,
    k.preference.trans h.preference, k.zoneTemps.trans h.zoneTemps, k.entries.trans h.entries,
    fun c e => k.noEnd (by rw [h.record]; exact c) (h.noEnd c e)⟩

theorem OrderStep.after {p q r : Part} (k : OrderStep q r) (h : OrderStep p q) : OrderStep p r := OrderStep.trans h k

theorem FanStep.order {p q : Part} (h : FanStep p q) : OrderStep p q := by
  refine ⟨?_, ?_, h.flags, h.record, h.preference, h.zoneTemps, h.entries, h.noEnd⟩
  · rw [h.rest]
  · rw [h.rest]
    exact OwnLine.refl _

theorem OrderStep.ite {p : Part} {c : Prop} [Decidable c] {a b : Part} (ha : OrderStep p a)
    (hb : OrderStep p b) : OrderStep p (if c then a else b) := by
  split
  · exact ha
  · exact hb

theorem OrderStep.foldl {α : Type} (g : Part → α → Part) (step : ∀ p a, OrderStep p (g p a)) (l : List α) :
    ∀ p, OrderStep p (l.foldl g p) := by
  induction l with
  | nil => exact OrderStep.refl
  | cons a l ih => exact fun p => (ih _).after (step p a)

/-! ### The updates -/

theorem ord_step (o : OrderEngine) (p : Part) : OrderStep p { p with ord := o } :=
  ⟨rfl, rfl, FlagsKept.refl _, rfl, rfl, rfl, rfl, fun _ h => h⟩

theorem own_step (l : LineInterface) (p : Part) (h : OwnLine p.line l) : OrderStep p { p with line := l } :=
  ⟨rfl, h, FlagsKept.refl _, rfl, rfl, rfl, rfl, fun _ h => h⟩

theorem onOrder_step (n : Nat) (g : OrderRec → OrderRec) (p : Part) : OrderStep p (onOrder n g p) := ord_step _ p

theorem countOrder_step (g : OrderCounters → OrderCounters) (p : Part) : OrderStep p (countOrder g p) := ord_step _ p

theorem setTag_step (a k : Nat) (x : TagState) (q : Timer) (p : Part) : OrderStep p (setTag a k x q p) := ord_step _ p

theorem takeTag_step (a k : Nat) (p : Part) : OrderStep p (takeTag a k p) := ord_step _ p

theorem joinBack_step (n : Nat) (p : Part) : OrderStep p (joinBack n p) := ord_step _ p

theorem joinFront_step (n : Nat) (p : Part) : OrderStep p (joinFront n p) := ord_step _ p

theorem withdraw_step (a k : Nat) (p : Part) : OrderStep p (withdraw a k p) := own_step _ p rfl

theorem purgeOrders_step (p : Part) : OrderStep p (purgeOrders p) := own_step _ p rfl

theorem queueOwn_step (r : OwnRequest) (p : Part) : OrderStep p (queueOwn r p) := by
  unfold queueOwn
  repeat' split
  · exact OrderStep.refl p
  all_goals exact own_step _ p rfl

theorem tagToFree_step (a k : Nat) (p : Part) : OrderStep p (tagToFree a k p) :=
  OrderStep.ite ((withdraw_step _ _ _).after (setTag_step _ _ _ _ _)) (OrderStep.refl p)

theorem tagToQuarantine_step (a k : Nat) (p : Part) : OrderStep p (tagToQuarantine a k p) :=
  OrderStep.ite ((withdraw_step _ _ _).after (setTag_step _ _ _ _ _)) (OrderStep.refl p)

theorem freeTagOf_step (r : OrderRec) (p : Part) : OrderStep p (freeTagOf r p) := by
  unfold freeTagOf
  split
  · exact tagToFree_step _ _ p
  · exact OrderStep.refl p

theorem quarantineTagOf_step (r : OrderRec) (p : Part) : OrderStep p (quarantineTagOf r p) := by
  unfold quarantineTagOf
  split
  · exact tagToQuarantine_step _ _ p
  · exact OrderStep.refl p

/-! ### Ends, issues, requests -/

theorem reportEmpty_step (p : Part) : OrderStep p (reportEmpty p) :=
  OrderStep.ite (testClearing_step p).order (OrderStep.refl p)

theorem finishRec_step (r : OrderRec) (outcome : OrderOutcome) (p : Part) : OrderStep p (finishRec r outcome p) := by
  unfold finishRec
  extract_lets p1 m p2
  have h : OrderStep p p2 := (ord_step _ p1).after (takeOutcome_step _ _ _ p).order
  split
  · exact h
  · exact ((joinBack_step _ _).after (ord_step _ p2)).after h

theorem withdrawRec_step (r : OrderRec) (p : Part) : OrderStep p (withdrawRec r p) :=
  (((reportEmpty_step _).after (finishRec_step _ _ _)).after (countOrder_step _ _)).after (freeTagOf_step r p)

theorem sendOrder_step (r : OrderRec) (tag : Nat) (p : Part) : OrderStep p (sendOrder r tag p) := by
  unfold sendOrder
  extract_lets p1 p2
  have h : OrderStep p p1 := queueOwn_step _ p
  exact ((countOrder_step _ p2).after (onOrder_step _ _ p1)).after h

theorem issue_step (r : OrderRec) (tag : Nat) (p : Part) : OrderStep p (issue r tag p) := by
  have h : OrderStep p (sendOrder r tag (takeTag r.station tag p)) := (sendOrder_step _ _ _).after (takeTag_step _ _ p)
  exact OrderStep.ite (OrderStep.ite ((onOrder_step _ _ _).after h)
    ((onOrder_step _ _ _).after ((onOrder_step _ _ _).after h))) h

theorem serveWith_step : ∀ (fuel : Nat) (p : Part), OrderStep p (serveWith fuel p)
  | 0, p => OrderStep.refl p
  | fuel + 1, p => by
      unfold serveWith
      repeat' split
      · exact OrderStep.refl p
      · exact (serveWith_step fuel _).after (OrderStep.ite ((issue_step _ _ _).after (ord_step _ p))
          ((withdrawRec_step _ _).after (ord_step _ p)))
      · exact OrderStep.refl p

theorem serve_step (p : Part) : OrderStep p (serve p) := serveWith_step _ p

theorem endRec_step (r : OrderRec) (outcome : OrderOutcome) (p : Part) : OrderStep p (endRec r outcome p) :=
  ((reportEmpty_step _).after (serve_step _)).after (finishRec_step _ _ p)

theorem failRec_step (r : OrderRec) (p : Part) : OrderStep p (failRec r p) :=
  (endRec_step _ _ _).after (OrderStep.ite
    ((((raise_step _ _).order).after (report_step _ _ _).order).after (countOrder_step _ p)) (countOrder_step _ p))

theorem dropStart_step (n : Nat) (old new : OrderKind) (p : Part) : OrderStep p (dropStart n old new p) :=
  OrderStep.ite ((takeOutcome_step _ _ _ _).order.after (countOrder_step _ p)) (OrderStep.refl p)

theorem requestOrder_step (n : Nat) (kind : OrderKind) (p : Part) : OrderStep p (requestOrder n kind p) := by
  unfold requestOrder
  split
  · split
    · exact OrderStep.refl p
    · exact ((serve_step _).after (joinBack_step _ _)).after (ord_step _ p)
  · refine OrderStep.ite ?_ (((serve_step _).after (dropStart_step _ _ _ _)).after (onOrder_step _ _ p))
    extract_lets p1
    split
    · exact onOrder_step _ _ p
    · exact (dropStart_step _ _ _ _).after (onOrder_step _ _ p)

/-! ### Answers and timers -/

theorem reissue_step (r : OrderRec) (p : Part) : OrderStep p (reissue r p) := by
  unfold reissue
  split
  · exact OrderStep.refl p
  · exact OrderStep.ite ((sendOrder_step _ _ _).after (onOrder_step _ _ p))
      ((serve_step _).after (withdrawRec_step _ p))

theorem answerAccepted_step (r : OrderRec) (p : Part) : OrderStep p (answerAccepted r p) := by
  have h := (countOrder_step (fun c => { c with accepted := bump c.accepted }) _).after (freeTagOf_step r p)
  exact (endRec_step _ _ _).after (OrderStep.ite ((report_step _ _ _).order.after h) h)

theorem answerBusy_step (r : OrderRec) (p : Part) : OrderStep p (answerBusy r p) :=
  OrderStep.ite ((onOrder_step _ _ _).after (countOrder_step _ p))
    (((failRec_step _ _).after (freeTagOf_step _ _)).after (countOrder_step _ p))

theorem answerRefused_step (r : OrderRec) (outcome : OrderOutcome) (p : Part) :
    OrderStep p (answerRefused r outcome p) :=
  ((((endRec_step _ _ _).after (raise_step _ _).order).after (report_step _ _ _).order).after
    (countOrder_step _ _)).after (freeTagOf_step r p)

theorem answerRecovery_step (r : OrderRec) (run : RunState) (p : Part) : OrderStep p (answerRecovery r run p) := by
  unfold answerRecovery
  split
  · exact (((endRec_step _ _ _).after (report_step _ _ _).order).after (countOrder_step _ _)).after
      (freeTagOf_step r p)
  · exact (endRec_step _ _ _).after (freeTagOf_step r p)
  · exact OrderStep.ite ((reissue_step _ _).after (onOrder_step _ _ p))
      ((failRec_step _ _).after (freeTagOf_step r p))

theorem answerMatched_step (r : OrderRec) (o : AnswerOutcome) (run : RunState) (p : Part) :
    OrderStep p (answerMatched r o run p) := by
  unfold answerMatched
  have h : OrderStep p (onOrder r.fan (fun x => { x with response := none }) p) := onOrder_step _ _ p
  cases o
  · exact (answerAccepted_step _ _).after h
  · exact (answerBusy_step _ _).after h
  · exact (answerRefused_step _ _ _).after h
  · exact (answerRefused_step _ _ _).after h
  · exact OrderStep.ite ((answerRecovery_step _ _ _).after h) (((endRec_step _ _ _).after (freeTagOf_step _ _)).after h)

theorem takeAnswer_step (station tag output : Nat) (o : AnswerOutcome) (run : RunState) (p : Part) :
    OrderStep p (takeAnswer station tag output o run p) := by
  unfold takeAnswer
  extract_lets unexpected
  split
  · exact countOrder_step _ p
  · split
    · exact countOrder_step _ p
    · exact countOrder_step _ p
    · split
      · exact countOrder_step _ p
      · exact OrderStep.ite (countOrder_step _ p) (OrderStep.ite (answerMatched_step _ _ _ p) (countOrder_step _ p))

theorem queryTimeout_step (r : OrderRec) (p : Part) : OrderStep p (queryTimeout r p) :=
  (OrderStep.ite (failRec_step _ _) (((serve_step _).after (joinBack_step _ _)).after (onOrder_step _ _ _))).after
    (quarantineTagOf_step r p)

theorem motionTimeout_step (r : OrderRec) (p : Part) : OrderStep p (motionTimeout r p) :=
  (((serve_step _).after (joinFront_step _ _)).after (onOrder_step _ _ _)).after (quarantineTagOf_step r p)

theorem recoveryTimeout_step (r : OrderRec) (p : Part) : OrderStep p (recoveryTimeout r p) := by
  have h := quarantineTagOf_step r p
  unfold recoveryTimeout
  dsimp only
  split
  · exact (failRec_step _ _).after h
  · exact (((serve_step _).after (joinFront_step _ _)).after (onOrder_step _ _ _)).after h

theorem responseExpires_step (n : Nat) (p : Part) : OrderStep p (responseExpires n p) := by
  unfold responseExpires
  split
  · exact OrderStep.refl p
  · refine OrderStep.ite (OrderStep.refl p) ?_
    split
    · exact OrderStep.ite (queryTimeout_step _ p) (motionTimeout_step _ p)
    · exact recoveryTimeout_step _ p
    · exact OrderStep.refl p

theorem retryExpires_step (n : Nat) (p : Part) : OrderStep p (retryExpires n p) := by
  unfold retryExpires
  split
  · exact OrderStep.refl p
  · exact OrderStep.ite ((reissue_step _ _).after (onOrder_step _ _ p)) (OrderStep.refl p)

theorem windowExpires_step (n : Nat) (p : Part) : OrderStep p (windowExpires n p) := onOrder_step _ _ p

theorem quarantineExpires_step (station tag : Nat) (p : Part) : OrderStep p (quarantineExpires station tag p) := by
  unfold quarantineExpires
  split
  · exact OrderStep.ite ((serve_step _).after (setTag_step _ _ _ _ p)) (OrderStep.refl p)
  · exact OrderStep.refl p

end Sys2Proof.Machine
end

