-- ==== Sys2Proof/Laws/Incident.lean ====
section
/-! SUPPORT. What an event of the Incident Register, the controller and the Coordinator can do, and what the hand-ons of
any event can do: the part time, the ports and the addresses, the station table, the instruments, the points and Vm, the
peers, the tables and the store are as before (`EventStep`). -/

namespace Sys2Proof.Machine

/-- What every event leaves alone that is not of the line, the Dispatcher, the Measurement Unit, the peers or the
Management Agent; of the zones only their alarms may be cleared. -/
structure EventStep (p q : Part) : Prop where
  now         : q.now = p.now
  disp        : q.disp = p.disp
  mgmt        : q.mgmt = p.mgmt
  line        : OwnLine p.line q.line
  meas        : q.meas = { p.meas with zones := q.meas.zones }
  instruments : instruments q.meas = instruments p.meas
  peers       : q.coord.peers = p.coord.peers
  taken       : q.coord.taken = p.coord.taken
  stale       : q.coord.stale = p.coord.stale
  flags       : FlagsKept p.fc.flags q.fc.flags

theorem EventStep.refl (p : Part) : EventStep p p :=
  ⟨rfl, rfl, rfl, OwnLine.refl _, rfl, rfl, rfl, rfl, rfl, FlagsKept.refl _⟩

theorem EventStep.trans {p q r : Part} (h : EventStep p q) (k : EventStep q r) : EventStep p r :=
  ⟨k.now.trans h.now, k.disp.trans h.disp, k.mgmt.trans h.mgmt, h.line.trans k.line, by rw [k.meas, h.meas],
    k.instruments.trans h.instruments, k.peers.trans h.peers, k.taken.trans h.taken, k.stale.trans h.stale,
    h.flags.trans k.flags⟩

theorem EventStep.after {p q r : Part} (k : EventStep q r) (h : EventStep p q) : EventStep p r := EventStep.trans h k

theorem OrderStep.event {p q : Part} (h : OrderStep p q) : EventStep p q := by
  refine ⟨?_, ?_, ?_, h.line, ?_, ?_, ?_, ?_, ?_, h.flags⟩ <;> rw [h.rest]

theorem FanStep.event {p q : Part} (h : FanStep p q) : EventStep p q := h.order.event

theorem FmStep.event {p q : Part} (h : FmStep p q) : EventStep p q := by
  refine ⟨?_, ?_, ?_, ?_, ?_, ?_, ?_, ?_, ?_, h.flags⟩ <;> rw [h.rest]
  exact OwnLine.refl _

theorem EventStep.ite {p : Part} {c : Prop} [Decidable c] {a b : Part} (ha : EventStep p a)
    (hb : EventStep p b) : EventStep p (if c then a else b) := by
  split
  · exact ha
  · exact hb

theorem EventStep.foldl {α : Type} (g : Part → α → Part) (step : ∀ p a, EventStep p (g p a)) (l : List α) :
    ∀ p, EventStep p (l.foldl g p) := by
  induction l with
  | nil => exact EventStep.refl
  | cons a l ih => exact fun p => (ih _).after (step p a)

/-! ### The updates -/

theorem reg_event (g : IncidentRegister) (p : Part) : EventStep p { p with reg := g } :=
  ⟨rfl, rfl, rfl, rfl, rfl, rfl, rfl, rfl, rfl, FlagsKept.refl _⟩

theorem ctl_event (c : AirflowController) (p : Part) : EventStep p { p with ctl := c } :=
  ⟨rfl, rfl, rfl, rfl, rfl, rfl, rfl, rfl, rfl, FlagsKept.refl _⟩

theorem coord_event (c : SectionCoordinator) (p : Part) (h : c.peers = p.coord.peers := by rfl)
    (k : c.taken = p.coord.taken := by rfl) (l : c.stale = p.coord.stale := by rfl) :
    EventStep p { p with coord := c } :=
  ⟨rfl, rfl, rfl, rfl, rfl, rfl, h, k, l, FlagsKept.refl _⟩

theorem choose_event (n : Nat) (p : Part) : EventStep p (choose n p).2 :=
  ⟨rfl, rfl, rfl, rfl, rfl, rfl, rfl, rfl, rfl, FlagsKept.refl _⟩

theorem formHealth_event (p : Part) : EventStep p (formHealth p) :=
  ⟨rfl, rfl, rfl, rfl, rfl, rfl, rfl, rfl, rfl, FlagsKept.refl _⟩

theorem handOns_event (l : List HandOn) (p : Part) : EventStep p { p with handOns := l } :=
  ⟨rfl, rfl, rfl, rfl, rfl, rfl, rfl, rfl, rfl, FlagsKept.refl _⟩

theorem raise_event (f : EventFlag) (p : Part) : EventStep p (raise f p) := (raise_step f p).event

theorem report_event (k : FaultKind) (o : FaultObject) (p : Part) : EventStep p (report k o p) :=
  (report_step k o p).event

/-- Zones changed without a change of their instruments leave every instrument as it is. -/
theorem zones_event (z : List ZoneRec) (p : Part)
    (h : instruments { p.meas with zones := z } = instruments p.meas) :
    EventStep p { p with meas := { p.meas with zones := z } } :=
  ⟨rfl, rfl, rfl, rfl, rfl, h, rfl, rfl, rfl, FlagsKept.refl _⟩

/-- The instruments of a zone. -/
def ZoneRec.four (z : ZoneRec) : Nat × Instrument × Instrument × Instrument × Instrument :=
  (z.num, z.o1, z.o2, z.t1, z.t2)

theorem instruments_zones (m : MeasurementUnit) (zs : List ZoneRec) (h : zs.map ZoneRec.four = m.zones.map ZoneRec.four) :
    instruments { m with zones := zs } = instruments m := by
  have one : ∀ l : List ZoneRec, (l.flatMap fun z =>
      [ ((⟨.opacity, zoneNum z.num 1⟩ : InstrumentId), z.o1), (⟨.opacity, zoneNum z.num 2⟩, z.o2),
        (⟨.temperature, zoneNum z.num 1⟩, z.t1), (⟨.temperature, zoneNum z.num 2⟩, z.t2) ]) =
      (l.map ZoneRec.four).flatMap fun x =>
        [ ((⟨.opacity, zoneNum x.1 1⟩ : InstrumentId), x.2.1), (⟨.opacity, zoneNum x.1 2⟩, x.2.2.1),
          (⟨.temperature, zoneNum x.1 1⟩, x.2.2.2.1), (⟨.temperature, zoneNum x.1 2⟩, x.2.2.2.2) ] := by
    intro l
    rw [List.flatMap_map]
    rfl
  unfold instruments
  rw [one, one, h]

theorem clearAlarm_four (z : ZoneRec) : (clearAlarm z).four = z.four := by
  unfold clearAlarm
  split <;> rfl

theorem clearAlarms_event (p : Part) : EventStep p (clearAlarms p) :=
  zones_event _ p (instruments_zones _ _ (by rw [List.map_map]; exact List.map_congr_left fun z _ => clearAlarm_four z))

/-! ### The controller -/

theorem compute_event (c : ComputeStart) (p : Part) : EventStep p (compute c p) := by
  have form : EventStep p (formDemand c p) := by
    unfold formDemand
    extract_lets own period
    split
    · exact EventStep.refl p
    all_goals exact ctl_event _ p
  exact EventStep.ite (EventStep.refl p) ((takeDemand_step _ _).event.after form)

theorem periodExpires_event (p : Part) : EventStep p (periodExpires p) :=
  EventStep.ite (compute_event _ p) (EventStep.refl p)

theorem takeShareMode_event (p : Part) : EventStep p (takeShareMode p) := by
  unfold takeShareMode
  dsimp only
  split <;> exact ctl_event _ p

theorem takeMode_event (p : Part) : EventStep p (takeMode p) := by
  unfold takeMode
  split
  · exact ctl_event _ p
  · exact ctl_event _ p
  · exact takeShareMode_event p
  · exact takeShareMode_event p

theorem changeRole_event (old : IncidentRole) (p : Part) : EventStep p (changeRole old p) := by
  unfold changeRole
  split
  all_goals first
    | exact EventStep.refl p
    | exact (compute_event _ _).after (ctl_event _ p)
    | exact ((compute_event _ _).after (takeShareMode_event _)).after (ctl_event _ p)

theorem ctlTakeRecord_event (h : RecordHandOn) (p : Part) : EventStep p (ctlTakeRecord h p) := by
  unfold ctlTakeRecord
  extract_lets old new m0 p1 m1 p2 p3
  have h1 : EventStep p p1 := ctl_event _ p
  have h2 : EventStep p1 p2 := EventStep.ite (ctl_event _ p1) (EventStep.refl p1)
  refine EventStep.ite ?_ (EventStep.ite ?_ ?_)
  · split
    · exact (((compute_event _ _).after (takeMode_event _)).after (ctl_event _ p2)).after (h1.trans h2)
    · exact ((compute_event _ _).after (takeMode_event p2)).after (h1.trans h2)
    · exact (changeRole_event _ p2).after (h1.trans h2)
  · exact ((ctl_event _ _).after (ctl_event _ p2)).after (h1.trans h2)
  · exact (ctl_event _ p2).after (h1.trans h2)

theorem takeLeadShare_event (share : Option Nat) (p : Part) : EventStep p (takeLeadShare share p) := by
  unfold takeLeadShare
  split
  all_goals first
    | exact EventStep.refl p
    | exact ctl_event _ p

/-! ### The Coordinator -/

theorem judgeLead_event (p : Part) : EventStep p (judgeLead p) := by
  unfold judgeLead
  extract_lets c cs lead own conflict p1
  have h : EventStep p p1 := coord_event _ p
  exact EventStep.ite ((report_event _ _ p1).after h) h

theorem sendBulletin_event (p : Part) : EventStep p (sendBulletin p) := by
  unfold sendBulletin
  extract_lets p1 p2
  have h : EventStep p p2 := (queueOwn_step _ p1).event.after (formHealth_event p)
  exact (coord_event _ p2).after h

theorem coordTakeRecord_event (h : RecordHandOn) (p : Part) : EventStep p (coordTakeRecord h p) := by
  unfold coordTakeRecord
  extract_lets changed m0 p1 p2
  have h1 : EventStep p p1 := coord_event _ p
  have h2 : EventStep p1 p2 := EventStep.ite (judgeLead_event p1) (EventStep.refl p1)
  exact EventStep.ite ((sendBulletin_event p2).after (h1.trans h2)) (h1.trans h2)

/-! ### The Register -/

theorem ctlMeetsRecord_event (h : RecordHandOn) (p : Part) : EventStep p (ctlMeetsRecord h p) :=
  EventStep.ite
    (((ctlTakeRecord_event h _).after (EventStep.ite (EventStep.refl _) (periodExpires_event _))).after
      (choose_event 2 p))
    (ctlTakeRecord_event h p)

theorem deliverRecord_event (h : RecordHandOn) (p : Part) : EventStep p (deliverRecord h p) := by
  have f : ∀ q, EventStep q (fansTakeRecord h q) := fun q => (fansTakeRecord_step h q).event
  have c := ctlMeetsRecord_event h
  have s := coordTakeRecord_event h
  have e := choose_event 6 p
  unfold deliverRecord
  dsimp only
  split
  · exact (((s _).after (c _)).after (f _)).after e
  · exact (((c _).after (s _)).after (f _)).after e
  · exact (((s _).after (f _)).after (c _)).after e
  · exact (((f _).after (s _)).after (c _)).after e
  · exact (((c _).after (f _)).after (s _)).after e
  · exact (((f _).after (c _)).after (s _)).after e

theorem putRecord_event (new : IncidentRecord) (p : Part) : EventStep p (putRecord new p) := by
  unfold putRecord
  extract_lets old stored m0 p1 p2 m2 p3
  have h1 : EventStep p p1 := reg_event _ p
  have h2 : EventStep p1 p2 := EventStep.ite (raise_event _ p1) (EventStep.refl p1)
  have h3 : EventStep p2 p3 := EventStep.ite ((clearAlarms_event _).after (reg_event _ p2)) (EventStep.refl p2)
  have h : EventStep p p3 := (h3.after h2).after h1
  exact EventStep.ite ((deliverRecord_event _ p3).after h) h

theorem dropWait_event (p : Part) : EventStep p (dropWait p) := reg_event _ p

theorem armLeadWait_event (p : Part) : EventStep p (armLeadWait p) :=
  EventStep.ite (EventStep.refl p) (reg_event _ p)

theorem leaveDeclared_event (state : IncidentState) (role : IncidentRole) (p : Part) :
    EventStep p (leaveDeclared state role p) := (putRecord_event _ _).after (dropWait_event p)

theorem proceed_event (p : Part) : EventStep p (proceed p) := by
  unfold proceed
  split
  · exact EventStep.ite (EventStep.refl p) (leaveDeclared_event _ _ p)
  · exact armLeadWait_event p

theorem takeOn_event (r : IncidentRecord) (p : Part) : EventStep p (takeOn r p) :=
  ((proceed_event _).after (putRecord_event _ _)).after (reg_event _ p)

theorem refuseNotice_event (o : NoticeOutcome) (p : Part) : EventStep p (refuseNotice o p) :=
  (raise_event _ _).after (reg_event _ p)

theorem acceptNotice_event (p : Part) : EventStep p (acceptNotice p) := reg_event _ p

theorem applyUpdate_event (n : Notice) (p : Part) : EventStep p (applyUpdate n p) := by
  unfold applyUpdate
  extract_lets old new p1 p2 p3
  have h1 : EventStep p p1 := acceptNotice_event p
  have h2 : EventStep p p2 := (EventStep.ite (raise_event _ p1) (EventStep.refl p1)).after h1
  have h3 : EventStep p p3 := (putRecord_event _ p2).after h2
  refine EventStep.ite (EventStep.ite ?_ (EventStep.ite h3 ((armLeadWait_event p3).after h3))) h3
  exact ((putRecord_event _ _).after (dropWait_event p2)).after h2

theorem judgeDeclare_event (n : Notice) (p : Part) : EventStep p (judgeDeclare n p) := by
  unfold judgeDeclare
  refine EventStep.ite (refuseNotice_event _ p) ?_
  split
  · exact refuseNotice_event _ p
  · extract_lets same
    have on := fun r => (takeOn_event r _).after (acceptNotice_event p)
    split
    · exact on _
    · exact on _
    · exact EventStep.ite (refuseNotice_event _ p) (on _)
    all_goals exact EventStep.ite (applyUpdate_event n p) (refuseNotice_event _ p)

theorem judgeUpdate_event (n : Notice) (p : Part) : EventStep p (judgeUpdate n p) := by
  unfold judgeUpdate
  refine EventStep.ite (refuseNotice_event _ p) ?_
  split
  all_goals first
    | exact EventStep.ite (applyUpdate_event n p) (refuseNotice_event _ p)
    | exact refuseNotice_event _ p

theorem judgeFreeze_event (a b : IncidentState) (n : Notice) (p : Part) : EventStep p (judgeFreeze a b n p) := by
  unfold judgeFreeze
  refine EventStep.ite (refuseNotice_event _ p) ?_
  split
  all_goals first
    | exact EventStep.ite (refuseNotice_event _ p) (EventStep.ite ((putRecord_event _ _).after (acceptNotice_event p))
        (refuseNotice_event _ p))
    | exact refuseNotice_event _ p

theorem enterClearing_event (p : Part) : EventStep p (enterClearing p) :=
  (putRecord_event _ _).after (dropWait_event p)

theorem judgeClear_event (n : Notice) (p : Part) : EventStep p (judgeClear n p) := by
  unfold judgeClear
  refine EventStep.ite (refuseNotice_event _ p) ?_
  split
  all_goals first
    | exact EventStep.ite ((enterClearing_event _).after (acceptNotice_event p)) (refuseNotice_event _ p)
    | exact refuseNotice_event _ p

theorem enterQuiet_event (p : Part) : EventStep p (enterQuiet p) := (putRecord_event _ _).after (reg_event _ p)

theorem judgeCancel_event (p : Part) : EventStep p (judgeCancel p) := by
  unfold judgeCancel
  split
  · exact (enterQuiet_event _).after (acceptNotice_event p)
  · exact refuseNotice_event _ p

theorem takeZone_event (zone : Nat) (p : Part) : EventStep p (takeZone zone p) := by
  unfold takeZone
  refine EventStep.ite (EventStep.refl p) ?_
  extract_lets m0 p1
  have h : EventStep p p1 := reg_event _ p
  split
  · exact ((putRecord_event _ _).after (reg_event _ p1)).after h
  · exact h

theorem autoDeclareExpires_event (p : Part) : EventStep p (autoDeclareExpires p) := by
  unfold autoDeclareExpires
  refine EventStep.ite (EventStep.refl p) ?_
  extract_lets m0 p1
  have h : EventStep p p1 := reg_event _ p
  split
  · exact (takeOn_event _ p1).after h
  · exact h

theorem leadWaitExpires_event (p : Part) : EventStep p (leadWaitExpires p) := by
  unfold leadWaitExpires
  refine EventStep.ite (EventStep.refl p) ?_
  extract_lets m0 p1
  have h : EventStep p p1 := reg_event _ p
  refine EventStep.ite h (EventStep.ite ?_ (EventStep.ite ((leaveDeclared_event _ _ p1).after h) h))
  split
  · exact h
  · exact h
  · exact (reg_event _ p1).after h

theorem takeClearingEnd_event (p : Part) : EventStep p (takeClearingEnd p) :=
  EventStep.ite ((enterQuiet_event _).after (reg_event _ p)) (EventStep.refl p)

theorem endStoreHold_event (p : Part) : EventStep p (endStoreHold p) := by
  unfold endStoreHold
  extract_lets entry m0 p1 r role
  have h : EventStep p p1 := reg_event _ p
  refine EventStep.ite h (EventStep.ite ((leaveDeclared_event _ _ p1).after h) ?_)
  rcases entry with _ | ⟨_ | _ | _⟩
  · exact ((armLeadWait_event _).after (putRecord_event _ p1)).after h
  all_goals exact (leaveDeclared_event _ _ p1).after h

theorem leadLossExpires_event (p : Part) : EventStep p (leadLossExpires p) := by
  have local' : ∀ n q, EventStep q (reportLocal n q) := fun n q =>
    EventStep.ite (putRecord_event _ q) (EventStep.refl q)
  exact EventStep.ite ((((compute_event _ _).after (local' _ _)).after (raise_event _ _)).after (ctl_event _ p))
    (EventStep.refl p)

/-! ### Views of peers -/

theorem joinView_event (b : Bulletin) (p : Part) : EventStep p (joinView b p) :=
  EventStep.ite (takeOn_event _ p) (EventStep.refl p)

theorem replaceView_event (b : Bulletin) (p : Part) : EventStep p (replaceView b p) :=
  EventStep.ite ((takeOn_event _ _).after (EventStep.ite (raise_event _ p) (EventStep.refl p))) (EventStep.refl p)

theorem clearView_event (b : Bulletin) (p : Part) : EventStep p (clearView b p) :=
  EventStep.ite (enterClearing_event p) (EventStep.refl p)

theorem followLead_event (b : Bulletin) (p : Part) : EventStep p (followLead b p) := by
  have copy : ∀ q, EventStep q (copyLead b q) := by
    intro q
    unfold copyLead
    dsimp only
    split
    · exact putRecord_event _ q
    · exact putRecord_event _ q
    · exact EventStep.refl q
  have rejoin : EventStep p (rejoinLead b p) := EventStep.ite (putRecord_event _ p) (EventStep.refl p)
  have declared : EventStep p (followDeclared b p) := by
    unfold followDeclared
    split
    · exact leaveDeclared_event _ _ p
    · exact leaveDeclared_event _ _ p
    · exact EventStep.refl p
  have pending : EventStep p (recordPending b p) := by
    unfold recordPending
    split
    · exact reg_event _ p
    · exact reg_event _ p
    · exact EventStep.refl p
  unfold followLead
  split
  · exact EventStep.ite pending (EventStep.ite declared (EventStep.refl p))
  · exact EventStep.ite ((copy _).after rejoin) (EventStep.refl p)
  · exact EventStep.ite ((copy _).after rejoin) (EventStep.refl p)
  · exact EventStep.refl p

theorem takeView_event (b : Bulletin) (mark : Bool) (p : Part) : EventStep p (takeView b mark p) := by
  unfold takeView
  extract_lets p1
  have h : EventStep p p1 := ((clearView_event b _).after (replaceView_event b _)).after (joinView_event b p)
  exact EventStep.ite ((followLead_event b p1).after h) h

end Sys2Proof.Machine
end

