-- ==== Sys2Proof/Laws/Settle.lean ====
section
/-! SUPPORT. How an event ends: with no hand-on waiting it is the event's own effect with the health formed; with some,
they do no more than an `EventStep`, or an `OrderStep` where no clearing ends. The steps of the machine. -/

namespace Sys2Proof.Machine

/-! ### No hand-on waits -/

theorem settle_of_quiet (take : HandOn → Part → Part) (n : Nat) (p : Part) (h : p.handOns = []) :
    settle take n p = p := by
  cases n with
  | zero => rfl
  | succ n => unfold settle; rw [h]

theorem settled_of_quiet (p : Part) (h : p.handOns = []) : settled p = p := by
  unfold settled
  rw [settle_of_quiet _ _ _ h, ← h]

theorem requestsSettled_of_quiet (p : Part) (h : p.handOns = []) : requestsSettled p = p := by
  unfold requestsSettled
  rw [settle_of_quiet _ _ _ h, ← h]

/-- An event that hands nothing on has its own effect alone. -/
theorem nextWith_of_quiet (f : Part → Part) (s : State) (h : (f s.part).handOns = []) :
    nextWith f s = nextPart s (f s.part) := by
  unfold nextWith finish nextPart
  rw [settled_of_quiet _ h]

/-- An event is over with no hand-on waiting. -/
theorem finish_handOns (p : Part) : (finish p).handOns = [] := rfl

theorem formHealth_idem (p : Part) : formHealth (formHealth p) = formHealth p := rfl

/-- At the end of an event the health is that of the inputs (R193). -/
theorem finish_formed (p : Part) : formHealth (finish p) = finish p := rfl

/-! ### Hand-ons taken -/

theorem takeHandOn_event (h : HandOn) (p : Part) : EventStep p (takeHandOn h p) := by
  cases h
  · exact (requestOrder_step _ _ p).event
  · exact takeClearingEnd_event p

theorem takeRequestOnly_event (h : HandOn) (p : Part) : EventStep p (takeRequestOnly h p) := by
  cases h
  · exact (requestOrder_step _ _ p).event
  · exact EventStep.refl p

theorem settle_event (take : HandOn → Part → Part) (taken : ∀ h p, EventStep p (take h p)) :
    ∀ (n : Nat) (p : Part), EventStep p (settle take n p)
  | 0, p => EventStep.refl p
  | n + 1, p => by
      unfold settle
      split
      · exact EventStep.refl p
      · exact ((settle_event take taken n _).after (taken _ _)).after (handOns_event _ p)

theorem settled_event (p : Part) : EventStep p (settled p) :=
  (handOns_event _ _).after (settle_event _ takeHandOn_event _ p)

theorem requestsSettled_event (p : Part) : EventStep p (requestsSettled p) :=
  (handOns_event _ _).after (settle_event _ takeRequestOnly_event _ p)

theorem finish_event (p : Part) : EventStep p (finish p) := (formHealth_event _).after (settled_event p)

theorem handOns_step (l : List HandOn) (p : Part) (h : .clearingEnd ∉ l) : OrderStep p { p with handOns := l } :=
  ⟨rfl, rfl, FlagsKept.refl _, rfl, rfl, rfl, rfl, fun _ _ => h⟩

/-- With the state held by the Fan Manager not CLEARING and no end of clearing waiting, the hand-ons are order
requests alone. -/
theorem settle_order : ∀ (n : Nat) (p : Part), p.fm.record.state ≠ .clearing → .clearingEnd ∉ p.handOns →
    OrderStep p { settle takeHandOn n p with handOns := [] }
  | 0, p, _, _ => handOns_step [] p (by simp)
  | n + 1, p, c, e => by
      unfold settle
      split
      · exact handOns_step [] p (by simp)
      · rename_i h rest w
        rw [w] at e
        obtain ⟨k, kind, rfl⟩ : ∃ k kind, h = .orderRequest k kind := by
          cases h
          · exact ⟨_, _, rfl⟩
          · simp at e
        have rest' : .clearingEnd ∉ rest := fun m => e (List.mem_cons_of_mem _ m)
        have taken := requestOrder_step k kind { p with handOns := rest }
        have both := taken.after (handOns_step rest p rest')
        exact (settle_order n _ (by rw [both.record]; exact c) (taken.noEnd c rest')).after both

theorem settled_order (p : Part) (c : p.fm.record.state ≠ .clearing) (e : .clearingEnd ∉ p.handOns) :
    OrderStep p (settled p) := settle_order settleBound p c e

/-- The hand-ons of a RESTART change the Order Engine, the Fan Manager, the own queue and Fault Capture alone, in every
state of the incident (R85, R187). -/
theorem settle_requests : ∀ (n : Nat) (p : Part),
    OrderStep p { settle takeRequestOnly n p with handOns := [] }
  | 0, p => handOns_step [] p (by simp)
  | n + 1, p => by
      unfold settle
      split
      · exact handOns_step [] p (by simp)
      · rename_i h rest w
        have fewer : OrderStep p { p with handOns := rest } :=
          ⟨rfl, rfl, FlagsKept.refl _, rfl, rfl, rfl, rfl, fun _ e m => e (w ▸ List.mem_cons_of_mem _ m)⟩
        have taken : OrderStep { p with handOns := rest } (takeRequestOnly h { p with handOns := rest }) := by
          cases h
          · exact requestOrder_step _ _ _
          · exact OrderStep.refl _
        exact ((settle_requests n _).after taken).after fewer

theorem requestsSettled_step (p : Part) : OrderStep p (requestsSettled p) := settle_requests settleBound p

/-- The incident record, the controller and the Coordinator are as before the hand-ons of a RESTART. -/
theorem requestsSettled_keeps (p : Part) : (requestsSettled p).reg = p.reg ∧ (requestsSettled p).ctl = p.ctl ∧
    (requestsSettled p).coord = p.coord := by
  refine ⟨?_, ?_, ?_⟩ <;> rw [(requestsSettled_step p).rest]

/-! ### The machine -/

/-- Every command is one event of the part, the waiting commands left as they are. -/
theorem exec_event (c : Instr) (s : State) : ∃ f : Part → Part, exec c s = nextWith f s := by
  cases c
  case readStatus r => exact ⟨fun p => answer 1 r (judgeReadStatus r p), rfl⟩
  case loadBegin r => exact ⟨fun p => answer 2 r (judgeLoadBegin r p), rfl⟩
  case loadBlock r => exact ⟨fun p => answer 3 r (judgeLoadBlock r p), rfl⟩
  case loadEnd r => exact ⟨fun p => answer 4 r (judgeLoadEnd r p), rfl⟩
  case ackEvents r => exact ⟨fun p => answer 6 r (judgeAckEvents r p), rfl⟩
  case clearFault r => exact ⟨fun p => answer 7 r (judgeClearFault r p), rfl⟩
  case admitObject r => exact ⟨fun p => answer 8 r (judgeAdmit r p), rfl⟩
  case isolate r => exact ⟨fun p => answer 9 r (judgeIsolate r p), rfl⟩
  case restart r q => exact ⟨fun p => answer 10 r (judgeRestart r q p), rfl⟩
  all_goals exact ⟨_, rfl⟩

/-- Every command answers a next state with no hand-on waiting and the health formed. -/
theorem exec_next (c : Instr) (s : State) : ∃ t, exec c s = .next t ∧ t.pending = s.pending ∧
    t.part.handOns = [] ∧ formHealth t.part = t.part := by
  obtain ⟨f, h⟩ := exec_event c s
  exact ⟨_, h, rfl, rfl, rfl⟩

/-- A step takes the command at the front of the queue. -/
theorem step_front (c : Instr) (rest : List Instr) (s : State) (h : s.pending = c :: rest) :
    step s = exec c { s with pending := rest } := by
  unfold step
  rw [h]

/-- What an event does is an `EventStep` where its own effect is one. -/
theorem nextWith_event (f : Part → Part) (s t : State) (h : nextWith f s = .next t)
    (e : EventStep s.part (f s.part)) : EventStep s.part t.part := by
  cases h
  exact (finish_event _).after e

end Sys2Proof.Machine
end

