-- ==== Sys2Proof/Laws/Line.lean ====
section
/-! SUPPORT. What an operation of the Line Interface's ports can do: it writes the line and Fault Capture, hands nothing
on, and leaves the addresses as they are. -/

namespace Sys2Proof.Machine

/-- Of a part, only the line and Fault Capture may differ, and the addresses not. -/
structure LineStep (p q : Part) : Prop where
  rest   : q = { p with line := q.line, fc := q.fc }
  node   : q.line.node = p.line.node
  straps : q.line.straps = p.line.straps
  flags  : FlagsKept p.fc.flags q.fc.flags

theorem LineStep.refl (p : Part) : LineStep p p := ⟨rfl, rfl, rfl, FlagsKept.refl _⟩

theorem LineStep.trans {p q r : Part} (h : LineStep p q) (k : LineStep q r) : LineStep p r :=
  ⟨by rw [k.rest, h.rest], k.node.trans h.node, k.straps.trans h.straps, h.flags.trans k.flags⟩

theorem LineStep.after {p q r : Part} (k : LineStep q r) (h : LineStep p q) : LineStep p r := LineStep.trans h k

theorem LineStep.ite {p : Part} {c : Prop} [Decidable c] {a b : Part} (ha : LineStep p a)
    (hb : LineStep p b) : LineStep p (if c then a else b) := by
  split
  · exact ha
  · exact hb

/-- Such an operation hands nothing on. -/
theorem LineStep.handOns {p q : Part} (h : LineStep p q) : q.handOns = p.handOns := by rw [h.rest]

/-- Where an event is such an operation and no hand-on waits, the next state is what it leaves. -/
theorem LineStep.next {f : Part → Part} {s : State} (h : LineStep s.part (f s.part)) (q : Quiescent s) :
    nextWith f s = nextPart s (f s.part) := nextWith_of_quiet f s (h.handOns.trans q)

theorem setPort_node (l : LineInterface) (i : PortId) (q : Port) : (l.setPort i q).node = l.node := by cases i <;> rfl

theorem setPort_straps (l : LineInterface) (i : PortId) (q : Port) : (l.setPort i q).straps = l.straps := by
  cases i <;> rfl

theorem port_setPort (l : LineInterface) (i : PortId) (q : Port) : (l.setPort i q).port i = q := by cases i <;> rfl

theorem port_setPort_other (l : LineInterface) (i : PortId) (q : Port) :
    (l.setPort i q).port (other i) = l.port (other i) := by cases i <;> rfl

theorem port_onPort (p : Part) (i : PortId) (f : Port → Port) : (p.onPort i f).port i = f (p.port i) := by
  cases i <;> rfl

theorem port_onPort_other (p : Part) (i : PortId) (f : Port → Port) :
    (p.onPort i f).port (other i) = p.port (other i) := by cases i <;> rfl

/-- Two changes of one port are one. -/
theorem onPort_onPort (p : Part) (i : PortId) (f g : Port → Port) :
    (p.onPort i f).onPort i g = p.onPort i (g ∘ f) := by cases i <;> rfl

/-- A change that leaves the port as it is leaves the part as it is. -/
theorem onPort_same (p : Part) (i : PortId) (f : Port → Port) (h : f (p.port i) = p.port i) : p.onPort i f = p := by
  cases i <;> simp only [Part.onPort, Part.port, LineInterface.port, LineInterface.setPort] at h ⊢ <;> rw [h]

/-- Two changes that agree on the port are the same change. -/
theorem onPort_congr (p : Part) (i : PortId) (f g : Port → Port) (h : f (p.port i) = g (p.port i)) :
    p.onPort i f = p.onPort i g := by
  cases i <;> simp only [Part.onPort, Part.port, LineInterface.port, LineInterface.setPort] at h ⊢ <;> rw [h]

theorem onPort_ofLine (p : Part) (i : PortId) (f : Port → Port) : LineStep p (p.onPort i f) :=
  ⟨rfl, setPort_node _ _ _, setPort_straps _ _ _, FlagsKept.refl _⟩

theorem countPort_ofLine (i : PortId) (f : PortCounters → PortCounters) (p : Part) : LineStep p (countPort i f p) :=
  onPort_ofLine p i _

theorem raise_ofLine (f : EventFlag) (p : Part) : LineStep p (raise f p) := ⟨rfl, rfl, rfl, raise_flagsKept f p⟩

theorem report_ofLine (k : FaultKind) (o : FaultObject) (p : Part) : LineStep p (report k o p) :=
  ⟨by rw [report_eq], by simp, by simp, report_flagsKept k o p⟩

theorem leaveUp_ofLine (i : PortId) (next : PortState) (p : Part) : LineStep p (leaveUp i next p) := by
  unfold leaveUp
  extract_lets p1 p2
  have h1 : LineStep p p1 := onPort_ofLine p i _
  have h2 : LineStep p1 p2 := ⟨rfl, rfl, rfl, FlagsKept.refl _⟩
  exact ((raise_ofLine _ _).after (report_ofLine _ _ p2)).after (h2.after h1)

theorem detectSignal_ofLine (i : PortId) (p : Part) : LineStep p (detectSignal i p) := by
  unfold detectSignal
  dsimp only
  split
  · exact (onPort_ofLine _ i _).after (onPort_ofLine p i _)
  · exact onPort_ofLine p i _

theorem loseSignal_ofLine (i : PortId) (p : Part) : LineStep p (loseSignal i p) := by
  unfold loseSignal
  dsimp only
  split
  · exact onPort_ofLine p i _
  · exact (leaveUp_ofLine i _ _).after (onPort_ofLine p i _)
  · exact (onPort_ofLine _ i _).after (onPort_ofLine p i _)

theorem fillComplete_ofLine (i : PortId) (p : Part) : LineStep p (fillComplete i p) := by
  unfold fillComplete
  split
  · exact onPort_ofLine p i _
  · exact LineStep.refl p

theorem qualify_ofLine (i : PortId) (p : Part) : LineStep p (qualify i p) :=
  LineStep.ite ((raise_ofLine _ _).after (onPort_ofLine p i _)) (LineStep.refl p)

theorem symbolError_ofLine (i : PortId) (f : PortCounters → PortCounters) (p : Part) :
    LineStep p (symbolError i f p) := by
  unfold symbolError
  split
  · exact LineStep.refl p
  · exact onPort_ofLine p i _
  · exact (countPort_ofLine i f _).after (onPort_ofLine p i _)
  · exact countPort_ofLine i f p

theorem closeWindow_ofLine (i : PortId) (fills : Nat) (p : Part) : LineStep p (closeWindow i fills p) := by
  unfold closeWindow
  extract_lets failed
  have counted : ∀ q, LineStep q (failed q) := fun q => countPort_ofLine i _ q
  split
  · split
    · exact onPort_ofLine p i _
    · exact (counted _).after (onPort_ofLine p i _)
  · split
    · exact onPort_ofLine p i _
    · exact (leaveUp_ofLine i _ _).after (counted p)
  · exact LineStep.refl p

theorem failCheckUp_ofLine (i : PortId) (p : Part) : LineStep p (failCheckUp i p) := by
  unfold failCheckUp
  extract_lets p1 p2
  have h : LineStep p p2 := (report_ofLine _ _ p1).after (onPort_ofLine p i _)
  split
  · exact (leaveUp_ofLine i _ p2).after h
  · exact h

theorem passCheck_ofLine (i : PortId) (p : Part) : LineStep p (passCheck i p) := onPort_ofLine p i _

theorem offer_ofLine (i : PortId) (t : Telegram) (p : Part) : LineStep p (offer i t p) := by
  unfold offer
  extract_lets out
  repeat' split
  · exact countPort_ofLine i _ p
  · exact countPort_ofLine out _ p
  · exact (report_ofLine _ _ _).after (countPort_ofLine out _ p)
  · exact onPort_ofLine p out _

theorem queueOwn_ofLine (r : OwnRequest) (p : Part) : LineStep p (queueOwn r p) := by
  unfold queueOwn
  repeat' split
  · exact LineStep.refl p
  all_goals exact ⟨rfl, rfl, rfl, FlagsKept.refl _⟩

theorem arbitrate_ofLine (i : PortId) (p : Part) : LineStep p (arbitrate i p) := by
  unfold arbitrate
  dsimp only
  repeat' split
  all_goals first
    | exact LineStep.refl p
    | exact onPort_ofLine p i _

theorem endForwarded_ofLine (i : PortId) (p : Part) : LineStep p (endForwarded i p) := by
  unfold endForwarded
  split
  · exact onPort_ofLine p i _
  · exact LineStep.refl p

theorem endOwn_ofLine (i : PortId) (p : Part) : LineStep p (endOwn i p) := by
  unfold endOwn
  split
  · refine LineStep.after ⟨rfl, rfl, rfl, FlagsKept.refl _⟩ (onPort_ofLine p i _)
  · exact LineStep.refl p

end Sys2Proof.Machine
end

