-- ==== Sys2Proof/Laws/Measurement.lean ====
section
/-! SUPPORT. What an operation of the Measurement Unit can do: it writes its own state and causes what an event of the
Incident Register and the Fan Manager can do (`MeasStep`); a recompute or an evaluation of a zone changes no instrument
(`EventStep`). -/

namespace Sys2Proof.Machine

/-- What every event of the Measurement Unit leaves alone. -/
structure MeasStep (p q : Part) : Prop where
  now   : q.now = p.now
  disp  : q.disp = p.disp
  mgmt  : q.mgmt = p.mgmt
  line  : OwnLine p.line q.line
  peers : q.coord.peers = p.coord.peers
  taken : q.coord.taken = p.coord.taken
  stale : q.coord.stale = p.coord.stale
  flags : FlagsKept p.fc.flags q.fc.flags

theorem EventStep.meas' {p q : Part} (h : EventStep p q) : MeasStep p q :=
  ⟨h.now, h.disp, h.mgmt, h.line, h.peers, h.taken, h.stale, h.flags⟩

theorem MeasStep.refl (p : Part) : MeasStep p p := (EventStep.refl p).meas'

theorem MeasStep.trans {p q r : Part} (h : MeasStep p q) (k : MeasStep q r) : MeasStep p r :=
  ⟨k.now.trans h.now, k.disp.trans h.disp, k.mgmt.trans h.mgmt, h.line.trans k.line, k.peers.trans h.peers,
    k.taken.trans h.taken, k.stale.trans h.stale, h.flags.trans k.flags⟩

theorem MeasStep.after {p q r : Part} (k : MeasStep q r) (h : MeasStep p q) : MeasStep p r := MeasStep.trans h k

theorem MeasStep.ite {p : Part} {c : Prop} [Decidable c] {a b : Part} (ha : MeasStep p a)
    (hb : MeasStep p b) : MeasStep p (if c then a else b) := by
  split
  · exact ha
  · exact hb

theorem MeasStep.foldl {α : Type} (g : Part → α → Part) (step : ∀ p a, MeasStep p (g p a)) (l : List α) :
    ∀ p, MeasStep p (l.foldl g p) := by
  induction l with
  | nil => exact MeasStep.refl
  | cons a l ih => exact fun p => (ih _).after (step p a)

theorem meas_step (m : MeasurementUnit) (p : Part) : MeasStep p { p with meas := m } :=
  ⟨rfl, rfl, rfl, rfl, rfl, rfl, rfl, FlagsKept.refl _⟩

theorem raised (f : EventFlag) (p : Part) : MeasStep p (raise f p) := (raise_event f p).meas'

theorem reported (k : FaultKind) (o : FaultObject) (p : Part) : MeasStep p (report k o p) := (report_event k o p).meas'

/-! ### Zones -/

/-- A zone changed without a change of its number and instruments leaves every instrument as it is. -/
theorem onZone_event (n : Nat) (g : ZoneRec → ZoneRec) (p : Part) (h : ∀ z, (g z).four = z.four) :
    EventStep p (onZone n g p) :=
  zones_event _ p (instruments_zones _ _ (updWhere_map _ _ _ h _))

theorem evaluated_four (e : ZoneEntry) (z : ZoneRec) : (evaluated e z).four = z.four := by
  unfold evaluated
  extract_lets z'
  repeat' split
  all_goals rfl

theorem recomputed_four (z : ZoneRec) : (recomputed z).four = z.four := by
  unfold recomputed
  extract_lets z'
  split <;> rfl

theorem handTemp_event (n : Nat) (p : Part) : EventStep p (handTemp n p) := by
  unfold handTemp
  split
  · exact (takeZoneTemp_step _ _ p).event
  · exact EventStep.refl p

theorem evaluateZone_event (n : Nat) (p : Part) : EventStep p (evaluateZone n p) := by
  unfold evaluateZone
  split
  · rename_i e z _ _
    extract_lets entered p1 p2
    have h : EventStep p p1 := onZone_event n _ p (evaluated_four e)
    exact (handTemp_event n p2).after ((EventStep.ite ((takeZone_event n _).after (raise_event _ p1))
      (EventStep.refl p1)).after h)
  · exact EventStep.refl p

theorem recomputeZone_event (n : Nat) (p : Part) : EventStep p (recomputeZone n p) :=
  EventStep.ite ((handTemp_event n _).after (onZone_event n _ p recomputed_four)) (EventStep.refl p)

/-! ### Points -/

theorem recomputeVm_step (p : Part) : MeasStep p (recomputeVm p) := by
  unfold recomputeVm
  extract_lets q entered m0 p1
  have h : MeasStep p p1 := meas_step _ p
  exact MeasStep.ite (((raised _ _).after (reported _ _ p1)).after h) h

theorem losePoint_step (n : Nat) (p : Part) : MeasStep p (losePoint n p) :=
  ((raised _ _).after (reported _ _ _)).after (meas_step _ p)

theorem rejectInstrument_step (d : InstrumentId) (p : Part) : MeasStep p (rejectInstrument d p) :=
  ((raised _ _).after (reported _ _ _)).after (meas_step _ p)

theorem voteChecks_step (n : Nat) (before : PointRec) (p : Part) : MeasStep p (voteChecks n before p) := by
  unfold voteChecks
  extract_lets t a b c judged p1 now p2
  have h1 : MeasStep p p1 := meas_step _ p
  have h2 : MeasStep p1 p2 := MeasStep.foldl _ (fun q s => rejectInstrument_step _ q) _ p1
  exact MeasStep.ite (((raised _ p2).after h2).after h1) (h2.after h1)

theorem voteOnly_step (n : Nat) (p : Part) : MeasStep p (voteOnly n p) := by
  unfold voteOnly
  split
  · exact MeasStep.refl p
  · extract_lets values r hold p1 p2
    have h1 : MeasStep p p1 := meas_step _ p
    have h2 : MeasStep p1 p2 := MeasStep.ite (reported _ _ p1) (MeasStep.refl p1)
    exact MeasStep.ite (losePoint_step n p) (MeasStep.ite ((voteChecks_step n _ p2).after (h2.after h1)) (h2.after h1))

theorem votePoint_step (n : Nat) (p : Part) : MeasStep p (votePoint n p) :=
  MeasStep.ite (voteOnly_step n p) (MeasStep.refl p)

/-! ### Samples, timers, admission -/

theorem takeReading_step (source : Nat) (acc : Part × Touched) (r : Reading) :
    MeasStep acc.1 (takeReading source acc r).1 := by
  obtain ⟨p, t⟩ := acc
  unfold takeReading
  dsimp only
  repeat' split
  all_goals exact meas_step _ p

theorem takeReadings_step (source : Nat) (l : List Reading) :
    ∀ acc : Part × Touched, MeasStep acc.1 (l.foldl (takeReading source) acc).1 := by
  induction l with
  | nil => exact fun acc => MeasStep.refl acc.1
  | cons r l ih => exact fun acc => (ih _).after (takeReading_step source acc r)

theorem takeSample_step (source : Nat) (readings : List Reading) (p : Part) :
    MeasStep p (takeSample source readings p) := by
  have h := takeReadings_step source readings (p, ⟨[], []⟩)
  unfold takeSample
  generalize readings.foldl (takeReading source) (p, ⟨[], []⟩) = acc at h ⊢
  obtain ⟨p0, t⟩ := acc
  dsimp only at h ⊢
  exact (((MeasStep.foldl _ (fun q n => (evaluateZone_event n q).meas') _ _).after
    (MeasStep.ite (MeasStep.refl _) (recomputeVm_step _))).after
    (MeasStep.foldl _ (fun q n => votePoint_step n q) _ p0)).after h

theorem refreshPlace_step (d : InstrumentId) (p : Part) : MeasStep p (refreshPlace d p) := by
  unfold refreshPlace
  split
  · exact (recomputeVm_step _).after (votePoint_step _ p)
  · exact (recomputeZone_event _ p).meas'
  · exact (recomputeZone_event _ p).meas'

theorem staleExpires_step (d : InstrumentId) (p : Part) : MeasStep p (staleExpires d p) := by
  unfold staleExpires
  split
  · exact MeasStep.refl p
  · refine MeasStep.ite (MeasStep.refl p) ?_
    extract_lets p1
    have h : MeasStep p p1 := meas_step _ p
    split
    · exact ((refreshPlace_step _ _).after (reported _ _ _)).after ((meas_step _ p1).after h)
    · exact MeasStep.ite ((meas_step _ p1).after h) h
    · exact (meas_step _ p1).after h
    · exact h

theorem pointHoldExpires_step (n : Nat) (p : Part) : MeasStep p (pointHoldExpires n p) := by
  unfold pointHoldExpires
  split
  · exact MeasStep.ite ((recomputeVm_step _).after (losePoint_step n p)) (MeasStep.refl p)
  · exact MeasStep.refl p

theorem requalifyExpires_step (p : Part) : MeasStep p (requalifyExpires p) :=
  MeasStep.ite (MeasStep.refl p)
    ((MeasStep.foldl _ (fun q n => (recomputeZone_event n q).meas') _ _).after (meas_step _ p))

theorem admitInstrument_step (d : InstrumentId) (p : Part) : MeasStep p (admitInstrument d p) := by
  unfold admitInstrument
  split
  · exact MeasStep.refl p
  · extract_lets p1
    have h : MeasStep p p1 := meas_step _ p
    split
    · exact MeasStep.ite ((refreshPlace_step d p1).after h) h
    · exact (refreshPlace_step d p1).after h
    · exact (refreshPlace_step d p1).after h

theorem restartMeasurement_step (p : Part) : MeasStep p (restartMeasurement p) :=
  (recomputeVm_step _).after (meas_step _ p)

end Sys2Proof.Machine
end

