-- ==== Sys2Proof/Laws/Status.lean ====
section
/-! SUPPORT. What the items of selector ORDERS are: the numbers of the fields that R170 lists and R200 does not number
[32], and the same items as the statements give them. -/

namespace Sys2Proof.Machine

/-- An item as the statements write it. -/
def Item.pair (i : Item) : Rule.Item := (i.num, i.value)

theorem recordFieldNumber_lt_succ (k : Nat) : recordFieldNumber k < recordFieldNumber (k + 1) := by
  simp only [recordFieldNumber]
  omega

theorem recordFieldNumber_le (k : Nat) : recordFieldNumber k ≤ 20 + 29 * k := by
  induction k with
  | zero => simp [recordFieldNumber]
  | succ k ih =>
    simp only [recordFieldNumber]
    omega

theorem recordFieldNumber_gt (k : Nat) : 20 < recordFieldNumber (k + 1) := by
  induction k with
  | zero => exact recordFieldNumber_lt_succ 0
  | succ k ih => exact ih.trans (recordFieldNumber_lt_succ (k + 1))

/-- The numbers of the eight fields lie between item 20 and item 255, which closes a cut reply. -/
theorem recordFieldNumber_range (k : Nat) (h : k < 8) :
    20 < recordFieldNumber (k + 1) ∧ recordFieldNumber (k + 1) < 255 :=
  ⟨recordFieldNumber_gt k, by have := recordFieldNumber_le (k + 1); omega⟩

theorem recordFieldNumber_rule (k : Nat) : recordFieldNumber k = Rule.fieldNumber k := by
  induction k with
  | zero => rfl
  | succ k ih =>
    simp only [recordFieldNumber, ih, Rule.fieldNumber, List.range_succ, List.map_append, List.sum_append, List.map_cons,
      List.map_nil, List.sum_cons, List.sum_nil]
    omega

@[simp] theorem markItem_rule (n : Nat) (b : Bool) : (markItem n b).pair = Rule.marked n b := by cases b <;> rfl

@[simp] theorem timeItem_rule (p : Part) (n : Nat) (t : Timer) : (timeItem p n t).pair = Rule.timeLeft p n t := by
  cases t with
  | none => rfl
  | some x => simp [Item.pair, timeItem, uItem, timeLeft, reached, Rule.timeLeft, Rule.unsigned]

@[simp] theorem successorItem_rule (n : Nat) (s : Option OrderKind) :
    (optItem n 1 (s.map orderCode)).pair = Rule.maybe n 1 (s.map fun k => 1 + Rule.orderKinds.idxOf k) := by
  rcases s with _ | k
  · rfl
  · cases k <;> rfl

/-- The items of an order record are those the statements give. -/
theorem orderItems_rule (p : Part) (r : OrderRec) : (orderItems p r).map Item.pair = Rule.orderItems p r := by
  have code : orderCode r.kind = 1 + Rule.orderKinds.idxOf r.kind := by cases r.kind <;> rfl
  have place : orderPos r.state = Rule.orderStates.idxOf r.state := by cases r.state <;> rfl
  have tag : (optItem 3 1 r.tag).pair = Rule.maybe 3 1 r.tag := by cases r.tag <;> rfl
  simp only [orderItems, recordFields, List.zipIdx_cons, List.zipIdx_nil, List.map_cons, List.map_nil, List.cons_append,
    List.nil_append, markItem_rule, timeItem_rule, successorItem_rule, code, place, tag, Rule.orderItems]
  rfl

/-- The items of the fields that item 20 does not have are those the statements give, field by field. -/
theorem recordFieldItems_rule (p : Part) :
    let field := fun (k : Nat) (item : Nat → OrderRec → Rule.Item) => p.ord.records.map (item (Rule.fieldNumber k))
    (recordFieldItems p).map Item.pair =
      field 1 (fun n r => Rule.maybe n 1 (r.successor.map fun k => 1 + Rule.orderKinds.idxOf k)) ++
      field 2 (fun n r => Rule.marked n r.busySeen) ++ field 3 (fun n r => Rule.marked n r.reissued) ++
      field 4 (fun n r => Rule.unsigned n 1 r.queryTimeouts) ++ field 5 (fun n r => Rule.marked n r.windowOpen) ++
      field 6 (fun n r => Rule.timeLeft p n r.response) ++ field 7 (fun n r => Rule.timeLeft p n r.retry) ++
      field 8 (fun n r => Rule.timeLeft p n r.window) := by
  simp only [recordFieldItems, recordFields, List.zipIdx_cons, List.zipIdx_nil, List.flatMap_cons, List.flatMap_nil,
    List.map_append, List.map_map, List.append_nil, List.append_assoc, Function.comp_def, markItem_rule, timeItem_rule,
    successorItem_rule, recordFieldNumber_rule]
  rfl

end Sys2Proof.Machine
end

