-- ==== Sys2Proof/WellFormed.lean ====
section
/-! DEFINITION. Which commands the environment can send: operands within the ranges the rules give them. The
meanings are total and do not rest on it. -/

namespace Sys2Proof

/-- A station address (00_scope, Node addresses). -/
def stationOk (n : Nat) : Bool := 1 ≤ n && n ≤ 239

/-- A fan number (R107). -/
def fanOk (n : Nat) : Bool := 1 ≤ n && n ≤ 48

/-- A point or zone number (R43, R51). -/
def sixteenOk (n : Nat) : Bool := 1 ≤ n && n ≤ 16

/-- An instrument number of a class (R35). -/
def instrumentOk : InstrumentClass → Nat → Bool
  | .velocity, n => 1 ≤ n && n ≤ 48
  | _, n => 1 ≤ n && n ≤ 32

/-- A value that a 2-byte field can carry. -/
def word16Ok (n : Nat) : Bool := n ≤ 0xFFFF

/-- A SAMPLE reading: channel 0 to 15, a signed 16-bit value (R20). -/
def readingOk (r : Reading) : Bool := r.channel ≤ 15 && -32768 ≤ r.value && r.value ≤ 32767

/-- One output of a FAN REPORT (R20). -/
def outputOk (o : ReportOutput) : Bool := (o.output == 1 || o.output == 2) && o.fault ≤ 255

/-- The fields of a notice fit their bytes, the optional chainages being other than the absent code (R21). -/
def noticeOk (n : Notice) : Bool :=
  word16Ok n.id && n.direction ≤ 255 && n.heat ≤ 255 &&
    [n.fire, n.head, n.tail].all fun c => match c with | none => true | some v => v < 0xFFFF

/-- The fields of a bulletin fit their bytes, and at most 8 shares are listed (R21). -/
def bulletinOk (b : Bulletin) : Bool :=
  word16Ok b.id && word16Ok b.fire && word16Ok b.lastCleared && b.heat ≤ 255 &&
    -32768 ≤ b.velocity && b.velocity ≤ 32767 && b.available < 2 ^ 24 && b.running < 2 ^ 24 &&
    b.demand < 2 ^ 24 && b.shares.length ≤ 8 && b.shares.all fun e => e.node ≤ 255 && e.share < 2 ^ 24

/-- An incident id that a record can hold (R61). -/
def heldIdOk (id : Nat) : Bool := (1 ≤ id && id ≤ 0xEFFF) || (0xF001 ≤ id && id ≤ 0xF0EF)

/-- A record that the Incident Register can hand on (R61, R62): the id is non-zero exactly in the four held
states and has a fire chainage, a direction and a heat class with it, and an entry to CONTROL, and only that, is of
one of the two kinds. -/
def handOnOk (h : RecordHandOn) : Bool :=
  let held := h.record.state == .declared || h.record.state == .control || h.record.state == .hold ||
    h.record.state == .clearing
  (if held then
      heldIdOk h.record.id && h.record.fire.isSome && h.record.dir.isSome && h.record.heat.isSome
    else h.record == IncidentRecord.empty h.record.state) &&
    (h.entry.isSome == (h.record.state == .control && h.before != .control))

/-- The class of object each fault kind names (R188). -/
def objectOk (k : FaultKind) (o : FaultObject) : Bool :=
  match k with
  | .checkError | .forwardOverflow | .portLost => o.cls == .port && (o.num == 1 || o.num == 2)
  | .sequenceGap | .twoLeads | .stationLost => o.cls == .station && stationOk o.num
  | .instrumentStale | .instrumentRejected =>
      (o.cls == .velocityInstrument && instrumentOk .velocity o.num) ||
        (o.cls == .opacityInstrument && instrumentOk .opacity o.num) ||
        (o.cls == .temperatureInstrument && instrumentOk .temperature o.num)
  | .pointDisputed | .pointLost => o.cls == .point && sixteenOk o.num
  | .orderRetried | .orderRecovered | .fanStoppedUnasked | .orderFailed | .fanFailed =>
      o.cls == .fan && fanOk o.num
  | .velocityLost => o.cls == .none && o.num == 0
  | .tableInvalid => o.cls == .table && 1 ≤ o.num && o.num ≤ 4

/-- A management request: a source that can be answered, and arguments that a telegram of 240 payload bytes can
carry behind the 3 bytes of the envelope (R22, R25). -/
def requestOk (r : Request) : Bool := stationOk r.source.toNat && r.args.length ≤ 237

/-- An own telegram request within the ranges of R20 to R22. -/
def ownRequestOk : OwnRequest → Bool
  | .fanOrder station tag output _ => stationOk station && tag ≤ 3 && (output == 1 || output == 2)
  | .bulletin b => bulletinOk b
  | .mgmtReply _ payload => 5 ≤ payload.length && payload.length ≤ 240

/-- A command whose operands lie in their ranges. -/
def Instr.wellFormed : Instr → Bool
  | .signalEnergyDetected _ | .signalLost _ | .huntFillCountReached _ | .qualificationTimerExpiry _
  | .badStart _ | .runaway _ | .outputArbiterChoice _ | .forwardedTelegramSent _ | .ownTelegramSent _
  | .powerOnReset _ | .zoneRequalifyTimerExpiry | .zoneAlarmsCleared | .autoDeclareTimerExpiry
  | .leadWaitTimerExpiry | .clearingEndReport | .controlPeriodTimerExpiry | .velocityHoldTimerExpiry
  | .leadLossHoldTimerExpiry | .stopSpacingTimerExpiry | .bulletinTimerExpiry | .eventRaised _
  | .storeWriteEnd => true
  | .holdWindowClose _ fills => fills ≤ 0xFFFF
  | .telegramReceived _ bytes => bytes.length ≤ 248
  | .queueOwnTelegram request => ownRequestOk request
  | .sample source readings =>
      stationOk source && 1 ≤ readings.length && readings.length ≤ 12 && readings.all readingOk
  | .staleTimerExpiry cls num => instrumentOk cls num
  | .pointHoldTimerExpiry point => sixteenOk point
  | .zoneAlarmHandOn zone => sixteenOk zone
  | .declare n | .update n | .hold n | .resume n | .clear n | .cancelAlert n => noticeOk n
  | .noticeBadAction action n => (action == 0 || 7 ≤ action) && action ≤ 255 && noticeOk n
  | .incidentRecordToController h | .incidentRecordToFanManager h | .incidentRecordToCoordinator h => handOnOk h
  | .demandUpdate demand => demand ≤ 1800000
  | .fanReport source outputs =>
      stationOk source && 1 ≤ outputs.length && outputs.length ≤ 2 && outputs.all outputOk
  | .restTimerExpiry fan | .runUpTimerExpiry fan | .runDownTimerExpiry fan | .responseTimerExpiry fan
  | .retrySpacingTimerExpiry fan | .retryWindowTimerExpiry fan => fanOk fan
  | .orderOutcome fan _ _ => fanOk fan
  | .reportSilenceTimerExpiry station => stationOk station
  | .fanAnswer source tag output _ _ => stationOk source && tag ≤ 3 && (output == 1 || output == 2)
  | .quarantineTimerExpiry station tag => stationOk station && tag ≤ 3
  | .bulletin source b => stationOk source && bulletinOk b
  | .freshnessTimerExpiry address => stationOk address
  | .faultReport kind object => objectOk kind object
  | .readStatus r | .loadBegin r | .loadBlock r | .loadEnd r | .activate r | .ackEvents r | .clearFault r
  | .admitObject r | .isolate r | .restart r _ => requestOk r
  | .mgmtRequestUnknownKind kind r => (kind == 0 || 11 ≤ kind.toNat) && requestOk r

end Sys2Proof
end

