-- ==== Sys2Proof/Tests/Slice0.lean ====
section
/-! SUPPORT. Tests: ill-formed commands are refused, byte forms and one-step effects agree with the worked cases of
spec/, and every statement's hypotheses are met by a concrete state. -/

namespace Sys2Proof.Tests

open Sys2Proof Sys2Proof.Machine

-- one theorem at a time: each waiting thread takes a stack of its own
set_option Elab.async false

/-! ### A small part -/

/-- Seven stations, one of each role at least. -/
def stationTable : StationTable :=
  ⟨1, [⟨10, .sensor, 0⟩, ⟨11, .sensor, 0⟩, ⟨20, .fanStation, 2⟩, ⟨30, .controlCentre, 0⟩, ⟨40, .peer, 0⟩,
       ⟨41, .peer, 0⟩, ⟨50, .manager, 0⟩]⟩

/-- The section [6000, 8400) with one point and one zone. -/
def sectionTable : SectionTable :=
  { revision := 1, lo := 6000, hi := 8400, tolerance := 40, polarity := 50, staleTime := 3, holdTime := 20,
    points := [⟨1, some ⟨10, 1⟩, some ⟨10, 2⟩, some ⟨10, 3⟩⟩],
    zones := [⟨1, 6000, 7000, 2, 500, 600, some ⟨11, 1⟩, none, some ⟨11, 2⟩, none⟩] }

/-- Two fans at one station. -/
def fanTable : FanTable :=
  ⟨1, [⟨1, 20, 1, 6100, .forwardAB, true, 1100, 900, 3000, 1, 5, 40, 90, 20⟩,
       ⟨2, 20, 2, 6700, .forwardBA, true, 1100, 900, 3000, 1, 5, 40, 90, 10⟩]⟩

/-- The CONTROL values of the worked cases. -/
def controlTable : ControlTable :=
  { revision := 1, vcrit := [150, 200, 250, 300, 350, 400], margin := 50, vmax := 1000, kp := 96, ki := 512,
    period := 2, velocityHold := 30, openLoop := [1000, 2000, 3000, 4000, 5000, 6000], leadLossHold := 30,
    freshTime := 8, exclusion := 150, gate := 2, hysteresis := 500, stopSpacing := 3, response := 500,
    retryWindow := 5, heat := 3, direction := .ab, autoDeclare := 60, leadWait := 10 }

/-- A port that is UP. -/
def upPort : Port := { Port.reset with state := .up, signal := true }

/-- A part at node 22 with its four tables active and both ports UP. -/
def base : State :=
  let p : Part := { Part.reset with
    line := { LineInterface.reset 22 with portA := upPort, portB := upPort },
    mgmt := { ManagementAgent.reset with stations := some stationTable, sections := some sectionTable,
                                         fans := some fanTable, control := some controlTable } }
  let p := resetCoord (resetOrders (resetFans (resetMeasurement (resetStations p))))
  { part := formHealth { p with fc := .cleared, handOns := [] }, pending := [] }

/-- The small part with something changed. -/
def on (f : Part → Part) : State := { base with part := f base.part }

/-- The small part with port A changed. -/
def onA (q : Port) : State := on fun p => { p with line := { p.line with portA := q } }

/-- The small part with another Incident Register. -/
def onReg (g : IncidentRegister) : State := on fun p => { p with reg := g }

/-- The small part with another Airflow Controller. -/
def onCtl (c : AirflowController) : State := on fun p => { p with ctl := c }

/-- The small part with its first fan changed, holding a record. -/
def onFan1 (r : IncidentRecord) (g : FanRec → FanRec) : State :=
  on fun p => { p with fm := { p.fm with record := r, fans := p.fm.fans.map fun f => if f.e.num = 1 then g f else f } }

/-- The small part with the Order Engine holding one record and the tag 0 of its station. -/
def onOrder (r : OrderRec) (g : TagRec) : State :=
  on fun p => { p with ord := { p.ord with records := [r], tags := [g] } }

/-- The incident of the worked cases, in a state and a role. -/
def incident (state : IncidentState) (role : IncidentRole) : IncidentRecord :=
  { state := state, id := 0x0412, fire := some 7300, head := none, tail := none, dir := some .ab,
    dirSource := some .explicit, heat := some 4, role := role, controlled := true }

/-- The Register holding that incident. -/
def held (state : IncidentState) (role : IncidentRole) : IncidentRegister :=
  { IncidentRegister.reset with record := incident state role }

/-- A notice for that incident. -/
def notice : Notice := ⟨0x0412, some 7300, none, none, 0, 0⟩

/-- An order to fan 1 on tag 0. -/
def order (kind : OrderKind) (state : OrderState) : OrderRec :=
  { fan := 1, station := 20, output := 1, kind := kind, state := state, tag := some 0, response := none,
    retry := none, windowOpen := true, window := some 5000, busySeen := false, reissued := false, queryTimeouts := 0,
    successor := none, issuedBefore := true }

/-- Fan 1 in a state, the Fan Manager holding a record. -/
def fanIn (r : IncidentRecord) (x : FanState) : State := onFan1 r fun f =>
  { f with state := x, dir := if x == .starting || x == .running || x == .stopping then some .fwd else none }

/-- Fan 1 ISOLATED by the manager, and by its report too or not. -/
def onIsolated (byReport : Bool) : State :=
  onFan1 (.empty .quiet) fun f => { f with state := .isolated, mgrIso := true, reportIso := byReport }

/-- A state with another Incident Register. -/
def withReg (g : IncidentRegister) (s : State) : State := { s with part := { s.part with reg := g } }

/-- A telegram to a destination from a source. -/
def telegram (dest src kind seq : Byte) (payload : List Byte) : Telegram :=
  sealTelegram ⟨dest, src, kind, seq, 240, payload, 0⟩

/-! ### Ill-formed commands are refused -/

theorem test_badLine :
    Instr.wellFormed (.holdWindowClose .a 0x10000) = false ∧
    Instr.wellFormed (.telegramReceived .a (List.replicate 249 0)) = false ∧
    Instr.wellFormed (.queueOwnTelegram (.fanOrder 240 0 1 .stop)) = false ∧
    Instr.wellFormed (.queueOwnTelegram (.fanOrder 1 4 1 .stop)) = false ∧
    Instr.wellFormed (.queueOwnTelegram (.fanOrder 1 0 3 .stop)) = false ∧
    Instr.wellFormed (.queueOwnTelegram (.mgmtReply 1 [0, 0, 1, 0])) = false := by decide +kernel

theorem test_badMeasurement :
    Instr.wellFormed (.sample 0 [⟨0, .velocity, .ok, 0⟩]) = false ∧
    Instr.wellFormed (.sample 1 []) = false ∧
    Instr.wellFormed (.sample 1 (List.replicate 13 ⟨0, .velocity, .ok, 0⟩)) = false ∧
    Instr.wellFormed (.sample 1 [⟨16, .velocity, .ok, 0⟩]) = false ∧
    Instr.wellFormed (.sample 1 [⟨0, .velocity, .ok, 32768⟩]) = false ∧
    Instr.wellFormed (.staleTimerExpiry .velocity 49) = false ∧
    Instr.wellFormed (.staleTimerExpiry .opacity 33) = false ∧
    Instr.wellFormed (.pointHoldTimerExpiry 17) = false ∧ Instr.wellFormed (.zoneAlarmHandOn 0) = false := by decide +kernel

theorem test_badNotices :
    Instr.wellFormed (.declare { notice with id := 0x10000 }) = false ∧
    Instr.wellFormed (.update { notice with fire := some 0xFFFF }) = false ∧
    Instr.wellFormed (.hold { notice with direction := 256 }) = false ∧
    Instr.wellFormed (.resume { notice with heat := 256 }) = false ∧
    Instr.wellFormed (.clear { notice with head := some 0xFFFF }) = false ∧
    Instr.wellFormed (.cancelAlert { notice with tail := some 0xFFFF }) = false ∧
    Instr.wellFormed (.noticeBadAction 6 notice) = false := by decide +kernel

theorem test_badHandOns :
    Instr.wellFormed (.incidentRecordToController ⟨.quiet, incident .control .lead, none⟩) = false ∧
    Instr.wellFormed (.incidentRecordToFanManager ⟨.quiet, { incident .hold .lead with id := 0 }, none⟩) = false ∧
    Instr.wellFormed (.incidentRecordToCoordinator ⟨.quiet, incident .quiet .lead, none⟩) = false ∧
    Instr.wellFormed (.incidentRecordToController ⟨.hold, { incident .hold .lead with heat := none }, none⟩) = false ∧
    Instr.wellFormed (.incidentRecordToController ⟨.hold, incident .hold .lead, none⟩) = true ∧
    Instr.wellFormed (.demandUpdate 1800001) = false := by decide +kernel

theorem test_badFansAndOrders :
    Instr.wellFormed (.fanReport 20 []) = false ∧
    Instr.wellFormed (.fanReport 20 [⟨3, .stopped, .remote, 0⟩]) = false ∧
    Instr.wellFormed (.fanReport 20 [⟨1, .stopped, .remote, 256⟩]) = false ∧
    Instr.wellFormed (.restTimerExpiry 49) = false ∧ Instr.wellFormed (.orderOutcome 0 .stop .failed) = false ∧
    Instr.wellFormed (.reportSilenceTimerExpiry 240) = false ∧
    Instr.wellFormed (.fanAnswer 20 4 1 .busy .stopped) = false ∧
    Instr.wellFormed (.fanAnswer 20 0 0 .busy .stopped) = false ∧
    Instr.wellFormed (.quarantineTimerExpiry 20 4) = false := by decide +kernel

/-- A bulletin with nothing in it. -/
def bulletin : Bulletin :=
  { id := 0x0412, state := .control, role := .lead, direction := some .ab, heat := 4, fire := 7300, mode := .lead,
    condition := .ok, velocity := 120, quality := .good, available := 8800, running := 0, demand := 9100,
    health := .normal, flags := 0, outcome := .accepted, lastCleared := 0, shares := [⟨22, 4044⟩] }

theorem test_badOthers :
    Instr.wellFormed (.bulletin 40 { bulletin with available := 2 ^ 24 }) = false ∧
    Instr.wellFormed (.bulletin 40 { bulletin with shares := List.replicate 9 ⟨1, 0⟩ }) = false ∧
    Instr.wellFormed (.freshnessTimerExpiry 0) = false ∧
    Instr.wellFormed (.faultReport .portLost ⟨.port, 3⟩) = false ∧
    Instr.wellFormed (.faultReport .velocityLost ⟨.none, 1⟩) = false ∧
    Instr.wellFormed (.readStatus ⟨0, 0, []⟩) = false ∧
    Instr.wellFormed (.loadBlock ⟨50, 0, List.replicate 238 0⟩) = false ∧
    Instr.wellFormed (.mgmtRequestUnknownKind 10 ⟨50, 0, []⟩) = false := by decide +kernel

/-! ### Byte forms and worked cases -/

/-- The CRC of R19 of the nine ASCII digits is that of the generator with the preset named there. -/
theorem test_crc : crc [0x31, 0x32, 0x33, 0x34, 0x35, 0x36, 0x37, 0x38, 0x39] = 0x29B1 := by decide +kernel

/-- A SAMPLE of one reading, written out from R20. -/
theorem test_sampleBytes : parsePayload .sample [1, 15, 2, 1, 0xFF, 0xFE] =
    some (.sample [⟨15, .opacity, .over, -2⟩]) := by decide +kernel

/-- An INCIDENT NOTICE, written out from R21. -/
theorem test_noticeBytes :
    parsePayload .incidentNotice [1, 0x04, 0x12, 0x1C, 0x84, 0xFF, 0xFF, 0xFF, 0xFF, 1, 4] =
      some (.notice 1 ⟨0x0412, some 7300, none, none, 1, 4⟩) := by decide +kernel

/-- A bulletin's payload is read back. -/
theorem test_bulletinBytes : parsePayload .bulletin (bulletinPayload bulletin) = some (.bulletin bulletin) := by
  decide +kernel

/-- The reset of a part as delivered, done by the command, is the state right after reset. -/
theorem test_reset : exec (.powerOnReset 0) State.reset = .next State.reset := by rfl

/-- The votes of the worked cases (R44). -/
theorem test_votes :
    Rule.voted 40 .unknown none [312, 298, 410] = (.good, some 312) ∧
    Rule.voted 40 .good none [312, 298] = (.paired, some 305) ∧
    Rule.voted 40 .good none [-311, -298] = (.paired, some (-304)) ∧
    Rule.voted 40 .paired (some 305) [312, 150] = (.disputed, some 312) ∧
    Rule.voted 40 .unknown none [312, 150] = (.disputed, some 150) ∧
    Rule.voted 40 .single (some 290) [] = (.held, some 290) := by decide +kernel

/-- The law of the worked cases (R92, R93, R96): P, I and D. -/
theorem test_law :
    targetVelocity controlTable 4 = 350 ∧ pTerm controlTable 230 = 1380 ∧
    stepIntegral 8800 512 230 1380 256000 = 373760 ∧ lawDemand 8800 1380 373760 = 2840 ∧
    stepIntegral 2200 512 230 1380 256000 = 256000 ∧ lawDemand 2200 1380 256000 = 2200 ∧
    stepIntegral 8800 512 (-130) (-780) 373760 = 307200 ∧ lawDemand 8800 (-780) 307200 = 420 ∧
    stepIntegral 8800 512 (-550) (-3300) 307200 = 307200 ∧ lawDemand 8800 (-3300) 307200 = 0 ∧
    stepIntegral 1000 512 230 1380 373760 = 256000 ∧ lawDemand 1000 1380 256000 = 1000 ∧
    roundDiv (-600) 16 = -38 ∧ roundDiv 500 16 = 31 ∧
    transferIntegral 8800 2200 1020 = 302080 ∧ stepIntegral 8800 512 170 1020 302080 = 389120 ∧
    lawDemand 8800 1020 389120 = 2540 := by decide +kernel

/-- The shares of the worked case (R99). -/
theorem test_shares : shareOf 9100 19800 ⟨21, 8800⟩ = ⟨21, 4044⟩ ∧ shareOf 9100 19800 ⟨23, 4400⟩ = ⟨23, 2022⟩ := by
  decide +kernel

/-- The small part is between events. -/
theorem test_quiescent : Quiescent base ∧ HealthFormed base := ⟨rfl, by unfold HealthFormed; decide +kernel⟩

theorem addresses_base : AddressesDistinct base := by
  refine ⟨by decide +kernel, by decide +kernel, by decide +kernel, fun x h => ?_, nofun, nofun, nofun⟩
  cases Option.some.inj h
  decide

theorem distinct_base : FansDistinct base := by
  refine ⟨by decide +kernel, .nil, rfl, fun x h => ?_, nofun, nofun, nofun⟩
  cases Option.some.inj h
  decide

theorem numbered_base : FansNumbered base := by
  refine ⟨by decide +kernel, fun x h => ?_⟩
  cases Option.some.inj h
  decide

/-! ### The hypotheses of the statements are met -/

/-! #### Steps and Fault Capture -/

theorem test_met_StepRunsFrontCommand :
    ({ base with pending := [.badStart .a, .storeWriteEnd] } : State).pending = .badStart .a :: [.storeWriteEnd] := rfl

/-- No expiry due, one due, two due, and an end-of-clearing report on its way. -/
theorem test_met_EmptyQueueStep :
    base.pending = [] ∧ dueExpiries base.part = [] ∧
    dueExpiries { base.part with now := 5000, fm := FanManager.reset } = [.bulletinTimerExpiry] ∧
    dueExpiries { base.part with now := 5000 } = [.reportSilenceTimerExpiry 20, .bulletinTimerExpiry] ∧
    dueExpiries { base.part with reg := held .clearing .lead, fm := { base.part.fm with clearingSent := true } } =
      [.clearingEndReport] := by
  decide +kernel

/-- The small part with a fault record. -/
def onFault (r : Option FaultRecord) : State := on fun p => { p with fc := { p.fc with record := r } }

/-- A fault record of a class. -/
def captured (c : FaultClass) : FaultRecord := ⟨c, .checkError, ⟨.port, 1⟩, 0, 0, false⟩

/-- The record empty, holding a soft fault, and holding a hard one. -/
theorem test_met_FaultReportJudged :
    (Quiescent (onFault none) ∧ (onFault none).part.fc.record = none) ∧
    (Quiescent (onFault (some (captured .soft))) ∧
      (onFault (some (captured .soft))).part.fc.record = some (captured .soft)) ∧
    (Quiescent (onFault (some (captured .hard))) ∧
      (onFault (some (captured .hard))).part.fc.record = some (captured .hard)) :=
  ⟨⟨rfl, rfl⟩, ⟨rfl, rfl⟩, rfl, rfl⟩

/-- EventFlags, ClearFaultEmptiesRecord and RequestsRefused ask no more than this of the state. -/
theorem test_met_EventFlags : Quiescent base := rfl

theorem test_met_ClearFaultEmptiesRecord : Quiescent base := rfl

/-! #### The line -/

/-- Port A in each state, with 7 check failures in a row, and the two ends of the length and fill bounds. -/
theorem test_met_SignalAndLeavingUp :
    (Quiescent State.reset ∧ (State.reset.part.port .a).state ≠ .up) ∧
    (Quiescent (onA { upPort with checkRun := 7 }) ∧ ((onA { upPort with checkRun := 7 }).part.port .a).state = .up) ∧
    7 < 8 ∧ (List.replicate 248 (0 : Byte)).length ≤ 248 ∧ parseTelegram (List.replicate 248 0) = none ∧
    7 ≤ ((onA { upPort with checkRun := 7 }).part.port .a).checkRun := by
  refine ⟨⟨rfl, ?_⟩, ⟨rfl, rfl⟩, ?_⟩ <;> decide +kernel

/-- A port in HUNT with 15 fill words, and one in QUALIFY. -/
def huntPort : Port := { Port.reset with state := .hunt, signal := true, fillCount := 15 }

def qualifyPort : Port :=
  { Port.reset with state := .qualify, signal := true, fillCount := 16, qualTimer := some 200, window := some 5 }

theorem test_met_Qualification :
    Quiescent (onA qualifyPort) ∧ ((onA qualifyPort).part.port .a).state = .qualify ∧
    248 < (List.replicate 249 (0 : Byte)).length ∧ parseTelegram (List.replicate 248 0) = none ∧
    ((onA qualifyPort).part.port .a).qualTimer ≠ none ∧
    Quiescent (onA huntPort) ∧ ((onA huntPort).part.port .a).state = .hunt := by
  refine ⟨rfl, rfl, ?_⟩
  refine ⟨?_, ?_, ?_, rfl, rfl⟩ <;> decide +kernel

/-- A telegram for the part, in bytes. -/
def requestBytes : List Byte := telegramBytes (telegram 22 50 0x61 1 [0, 1, 7])

theorem test_met_SymbolsAndChecks :
    8 ≤ 8 ∧ requestBytes.length ≤ 248 ∧ parseTelegram requestBytes ≠ none ∧
    (Quiescent (onA { upPort with checkRun := 6 }) ∧ (onA { upPort with checkRun := 6 }).part.line.portA.checkRun < 7 ∧
      ((onA { upPort with checkRun := 6 }).part.port .a).state = .up ∧ parseTelegram [] = none) ∧
    ((onA qualifyPort).part.port .a).state = .qualify ∧ ((onA huntPort).part.port .a).state = .hunt ∧
    (Quiescent State.reset ∧ (State.reset.part.port .a).state = .down) := by
  refine ⟨?_, ?_, ?_, ⟨rfl, ?_⟩, rfl, rfl, rfl, rfl⟩ <;> decide +kernel

/-- A telegram arrives whole at port A of a part. -/
def Arrives (s : State) (m : Telegram) : Prop :=
  Quiescent s ∧ (telegramBytes m).length ≤ 248 ∧ parseTelegram (telegramBytes m) = some m ∧
    (s.part.port .a).state = .up

/-- One of its own, one not taken, an unknown kind for the part and for another, and a malformed one to all and to the
part. -/
theorem test_met_TelegramStrippedOrForwarded :
    (Arrives base (telegram 255 22 0x51 1 []) ∧ (telegram 255 22 0x51 1 []).src = base.part.line.node) ∧
    (Arrives base (telegram 41 40 0x32 1 []) ∧ (telegram 41 40 0x32 1 []).src ≠ base.part.line.node) ∧
    (Arrives base (telegram 22 40 0x77 1 []) ∧ Arrives base (telegram 41 40 0x77 1 [])) ∧
    (Arrives base (telegram 255 40 0x51 1 []) ∧ Arrives base (telegram 22 40 0x51 1 []) ∧
      kindOfCode 0x51 = some .bulletin ∧ parsePayload .bulletin [] = none) ∧
    1 ≤ base.part.line.node.toNat ∧ base.part.line.node.toNat ≤ 239 := by
  unfold Arrives Quiescent
  decide +kernel

/-- An entry of the own queue that waits for both ports. -/
def waiting (c : OwnClass) (place : Nat) : OwnEntry :=
  { telegram := telegram 20 22 0x32 0 [0, 1, 3], cls := c, onA := true, onB := true, sentOnce := false, place := place }

/-- Port A UP with something to forward and a run count, and an own queue. -/
def onQueue (forward : List Telegram) (run : Nat) (own : List OwnEntry) : State :=
  on fun p => { p with line := { p.line with portA := { upPort with forward := forward, runCount := run }, own := own } }

/-- Nothing waits; something waits behind fewer than 4 and behind 4 forwarded telegrams; the next own telegram is an
order, a bulletin, a reply. -/
theorem test_met_ArbiterChoice :
    Quiescent (onQueue [telegram 41 40 0x32 1 []] 4 [waiting .bulletin 0, waiting (.fanOrder 20 0) 1]) ∧
    (base.part.line.own = [] ∧ (base.part.port .a).sending = none) ∧
    ((onQueue [telegram 41 40 0x32 1 []] 3 [waiting .mgmtReply 0]).part.port .a).runCount < 4 ∧
    (onQueue [telegram 41 40 0x32 1 []] 3 [waiting .mgmtReply 0]).part.line.own ≠ [] ∧
    (onQueue [telegram 41 40 0x32 1 []] 4 [waiting .bulletin 0, waiting (.fanOrder 20 0) 1]).part.line.own =
      [waiting .bulletin 0] ++ waiting (.fanOrder 20 0) 1 :: [] ∧
    (waiting .bulletin 0).cls = .bulletin ∧ (waiting .mgmtReply 0).cls = .mgmtReply ∧
    (∃ t, exec (.qualificationTimerExpiry .a) (onA qualifyPort) = .next t ∧ (t.part.port .a).state = .up) := by
  refine ⟨rfl, ⟨rfl, rfl⟩, ?_, ?_, rfl, rfl, rfl, ⟨_, rfl, rfl⟩⟩ <;> decide +kernel

theorem test_met_SendingEnds :
    (Quiescent (onA { upPort with forward := [telegram 41 40 0x32 1 []], sending := some .forwarded }) ∧
      ((onA { upPort with forward := [telegram 41 40 0x32 1 []], sending := some .forwarded }).part.port .a).sending =
        some .forwarded) ∧
    (Quiescent (onA { upPort with sending := some (.own (telegram 20 22 0x32 0 []) 0) }) ∧
      ((onA { upPort with sending := some (.own (telegram 20 22 0x32 0 []) 0) }).part.port .a).sending =
        some (.own (telegram 20 22 0x32 0 []) 0)) ∧
    (base.part.port .a).sending = none :=
  ⟨⟨rfl, rfl⟩, ⟨rfl, rfl⟩, rfl⟩

/-- Unaddressed at both bounds; addressed at both bounds with no port UP; both ports UP with 3 and 4 replies. -/
theorem test_met_OwnTelegramQueued :
    (Quiescent State.reset ∧ ¬ (1 ≤ State.reset.part.line.node.toNat ∧ State.reset.part.line.node.toNat ≤ 239)) ∧
    ¬ ((240 : Byte).toNat ≤ 239) ∧ (239 : Byte).toNat ≤ 239 ∧
    (let s := onA Port.reset; let t : State := { s with part := { s.part with line :=
        { s.part.line with portB := Port.reset } } };
      Quiescent t ∧ t.part.line.portA.state ≠ .up ∧ t.part.line.portB.state ≠ .up ∧ 1 ≤ t.part.line.node.toNat) ∧
    (Quiescent (onQueue [] 0 (List.replicate 4 (waiting .mgmtReply 0))) ∧
      4 ≤ ((onQueue [] 0 (List.replicate 4 (waiting .mgmtReply 0))).part.line.own.filter fun e =>
        e.cls == .mgmtReply).length ∧
      base.part.line.portA.state = .up) := by
  unfold Quiescent
  decide +kernel

/-- The longest payload; and bytes that fail their check in each of the four ways of R6 alone: 7 of them, a payload length
of 241, one byte too many, and a last byte changed. -/
theorem test_met_TelegramBytesReadBack :
    (telegram 0 0 0 0 (List.replicate 240 0)).payload.length ≤ 240 ∧
    parseTelegram (requestBytes.take 7) = none ∧
    parseTelegram (telegramBytes (sealTelegram (telegram 22 50 0x61 1 (List.replicate 241 0)))) = none ∧
    parseTelegram (requestBytes ++ [0]) = none ∧
    (let bytes := requestBytes.take 10 ++ [requestBytes.getD 10 0 + 1]
     requestBytes.length = 11 ∧ parseTelegram requestBytes ≠ none ∧ parseTelegram bytes = none ∧
       bytes.drop 9 ≠ beBytes 2 (crc (bytes.take 9)).toNat) := by
  decide +kernel

/-! #### Stations and dispatch -/

/-- A telegram for the part's own address or for all arrives whole, and its payload is that of a delivery. -/
def Taken (s : State) (m : Telegram) (k : TelegramKind) (d : Delivery) : Prop :=
  Arrives s m ∧ (1 ≤ s.part.line.node.toNat ∧ s.part.line.node.toNat ≤ 239) ∧ m.src ≠ s.part.line.node ∧
    (m.dest = s.part.line.node ∨ m.dest = 255) ∧ kindOfCode m.kind = some k ∧ parsePayload k m.payload = some d

/-- The small part having heard the last number 10 from station 50. -/
def heard : State :=
  on fun p => { p with disp := { p.disp with stations := p.disp.stations.map fun r =>
    if r.address = 50 then { r with known := true, lastSeq := 10 } else r } }

/-- The small part with no STATION table, and a provisional record of source 50. -/
def provisional : State :=
  on fun p => { p with
    disp := { p.disp with stations := [], provisional := [⟨50, 10, 0⟩] }, mgmt := { p.mgmt with stations := none } }

/-- Bad sources 0 and 240; no listed station of the role, with and without a table; a duplicate, and an old one at the
distances 224 and 255, of a listed and of a provisional station; each of them for all. -/
theorem test_met_TelegramNotDelivered :
    Taken base (telegram 22 0 0x61 1 [0, 1, 7]) .mgmtRequest (.mgmtRequest 7 1 []) ∧
    Taken base (telegram 22 240 0x61 1 [0, 1, 7]) .mgmtRequest (.mgmtRequest 7 1 []) ∧
    (Taken base (telegram 22 10 0x61 1 [0, 1, 7]) .mgmtRequest (.mgmtRequest 7 1 []) ∧
      (base.part.disp.stations.find? fun r => r.address == 10 && r.role == .manager) = none) ∧
    (Taken provisional (telegram 22 10 0x21 1 [1, 0, 1, 0, 0, 0]) .sample (.sample [⟨0, .velocity, .ok, 0⟩]) ∧
      provisional.part.mgmt.stations = none) ∧
    (Taken heard (telegram 22 50 0x61 10 [0, 1, 7]) .mgmtRequest (.mgmtRequest 7 1 []) ∧
      heard.part.mgmt.stations ≠ none ∧
      heard.part.disp.stations.find? (fun r => r.address == 50 && r.role == .manager) =
        some ⟨50, .manager, 0, true, 10, 0, 0, 0⟩ ∧
      224 ≤ ((234 : Byte) - 10).toNat ∧ 224 ≤ ((9 : Byte) - 10).toNat) ∧
    (Taken provisional (telegram 22 50 0x61 234 [0, 1, 7]) .mgmtRequest (.mgmtRequest 7 1 []) ∧
      provisional.part.disp.provisional.find? (fun x => x.source == 50) = some ⟨50, 10, 0⟩) ∧
    Taken base (telegram 255 0 0x51 1 (bulletinPayload bulletin)) .bulletin (.bulletin bulletin) ∧
    Taken provisional (telegram 255 240 0x61 1 [0, 1, 7]) .mgmtRequest (.mgmtRequest 7 1 []) ∧
    Taken provisional (telegram 255 0 0x51 1 (bulletinPayload bulletin)) .bulletin (.bulletin bulletin) ∧
    Taken heard (telegram 255 50 0x61 9 [0, 1, 7]) .mgmtRequest (.mgmtRequest 7 1 []) := by
  unfold Taken Arrives Quiescent
  refine ⟨?_, ?_, ?_, ?_, ?_, ?_, ?_, ?_, ?_, ?_⟩ <;> decide +kernel

/-- The small part with no STATION table, and provisional records of the sources from 60 on, of the given ages. -/
def onProvisional (ages : List Nat) : State :=
  on fun p => { p with
    disp := { p.disp with
      stations := [],
      provisional := ((List.range ages.length).zip ages).map fun (k, a) => ⟨60 + k, 3, 0 - BitVec.ofNat 32 a⟩ },
    mgmt := { p.mgmt with stations := none } }

/-- A request as the first of its station, and 1 and 223 ahead of the last number; a SAMPLE, a report, a notice and a
bulletin, the bulletin for all as well; an answer on the last tag its station has, and on the next. With no STATION table
a request of a new source with 7 records held and with 8, the eldest between younger ones and an equal; and one 1 and
223 ahead of the last number. -/
theorem test_met_TelegramDelivered :
    base.part.mgmt.stations ≠ none ∧
    (Taken base (telegram 22 50 0x61 0 [0, 1, 7]) .mgmtRequest (.mgmtRequest 7 1 []) ∧
      (base.part.disp.stations.find? fun r => r.address == 50 && r.role == requiredRole (.mgmtRequest 7 1 [])) =
        some ⟨50, .manager, 0, false, 0, 0, 0, 0⟩) ∧
    (Taken heard (telegram 22 50 0x61 11 [0, 1, 7]) .mgmtRequest (.mgmtRequest 7 1 []) ∧
      1 ≤ ((11 : Byte) - 10).toNat ∧ ((233 : Byte) - 10).toNat ≤ 223) ∧
    Taken base (telegram 22 10 0x21 0 [1, 0, 1, 0, 0, 0]) .sample (.sample [⟨0, .velocity, .ok, 0⟩]) ∧
    Taken base (telegram 22 20 0x31 0 [1, 1, 0, 0, 0]) .fanReport (.fanReport [⟨1, .stopped, .remote, 0⟩]) ∧
    Taken base (telegram 22 30 0x41 0 [6, 0, 1, 0, 0, 0, 0, 0, 0, 0, 0]) .incidentNotice
      (.notice 6 ⟨1, some 0, some 0, some 0, 0, 0⟩) ∧
    Taken base (telegram 22 40 0x51 0 (bulletinPayload bulletin)) .bulletin (.bulletin bulletin) ∧
    (Taken base (telegram 22 20 0x33 0 [1, 1, 1, 0]) .fanAnswer (.fanAnswer 1 1 .accepted .stopped) ∧
      Taken base (telegram 22 20 0x33 0 [2, 1, 1, 0]) .fanAnswer (.fanAnswer 2 1 .accepted .stopped) ∧
      (base.part.disp.stations.find? fun r => r.address == 20 && r.role == .fanStation) =
        some ⟨20, .fanStation, 2, false, 0, 0, 0, 0⟩) ∧
    Taken base (telegram 255 40 0x51 0 (bulletinPayload bulletin)) .bulletin (.bulletin bulletin) ∧
    (Taken (onProvisional [1, 2, 3, 4, 5, 6, 7]) (telegram 22 50 0x61 0 [0, 1, 7]) .mgmtRequest
        (.mgmtRequest 7 1 []) ∧
      (onProvisional [1, 2, 3, 4, 5, 6, 7]).part.mgmt.stations = none ∧
      (onProvisional [1, 2, 3, 4, 5, 6, 7]).part.disp.provisional.length = 7) ∧
    (let s := onProvisional [5, 9, 9, 1, 2, 3, 4, 0]
     let age := fun (x : ProvisionalRec) => (s.part.now - x.accepted).toNat
     Taken s (telegram 255 50 0x61 0 [0, 1, 7]) .mgmtRequest (.mgmtRequest 7 1 []) ∧
      (s.part.disp.provisional.find? fun x => x.source == 50) = none ∧ s.part.disp.provisional.length = 8 ∧
      s.part.disp.provisional.map age = [5] ++ 9 :: [9, 1, 2, 3, 4, 0]) ∧
    (Taken provisional (telegram 22 50 0x61 11 [0, 1, 7]) .mgmtRequest (.mgmtRequest 7 1 []) ∧
      Taken provisional (telegram 255 50 0x61 233 [0, 1, 7]) .mgmtRequest (.mgmtRequest 7 1 []) ∧
      ((11 : Byte) - 10).toNat = 1 ∧ ((233 : Byte) - 10).toNat = 223) := by
  unfold Taken Arrives Quiescent
  refine ⟨?_, ?_, ?_, ?_, ?_, ?_, ?_, ?_, ?_, ?_, ?_, ?_⟩ <;> decide +kernel

/-! #### Measurement -/

/-- The small part with the first velocity instrument of point 1 and the opacity instrument of zone 1 in a state. -/
def onInstruments (x : InstrumentState) (count : Nat) (stale : Timer) (quality : PointQuality) : State :=
  on fun p => { p with meas := { p.meas with
    points := p.meas.points.map fun q => if q.num = 1 then
      { q with quality := quality, holdTimer := some 20000,
               s1 := { q.s1 with state := x, qualify := count, stale := stale } } else q,
    zones := p.meas.zones.map fun z => if z.num = 1 then
      { z with state := .alarm, o1 := { z.o1 with state := x, qualify := count, stale := stale } } else z } }

/-- The small part with its zone 1 changed, the Fan Manager holding an incident in CONTROL. -/
def onZone (g : ZoneRec → ZoneRec) : State :=
  on fun p => { p with
    fm := { p.fm with record := incident .control .lead },
    meas := { p.meas with zones := p.meas.zones.map fun z => if z.num = 1 then g z else z } }

/-- A source that finds nothing, one that finds another class, one that is REJECTED, and one applied; a zone that the
reading takes to ALARM, one that it does not, and one in ALARM already. -/
theorem test_met_ReadingApplied :
    Quiescent base ∧
    (∀ r ∈ [(⟨1, .opacity, .ok, 500⟩ : Reading), ⟨2, .temperature, .over, 0⟩], r.quantity ≠ .velocity) ∧
    ((instruments base.part.meas).find? fun y => y.2.source == some ⟨11, 15⟩ && y.2.state != .absent) = none ∧
    (∃ x, ((instruments base.part.meas).find? fun y => y.2.source == some ⟨11, 1⟩ && y.2.state != .absent) = some x ∧
      x.1.cls = .opacity ∧ x.2.state ≠ .rejected) ∧
    (∃ x, ((instruments (onInstruments .rejected 0 none .unknown).part.meas).find? fun y =>
        y.2.source == some ⟨11, 1⟩ && y.2.state != .absent) = some x ∧ x.2.state = .rejected) ∧
    (let s := onZone fun z => { z with state := .pending, confirm := 1, o1 := { z.o1 with state := .valid } }
     Quiescent s ∧ InstrumentsNumbered s ∧ ZoneTempsListed s ∧ s.part.fm.record.id ≠ 0 ∧ s.part.reg.detection = [] ∧
      s.part.reg.record.state = .quiet ∧
      (((instruments s.part.meas).find? fun y => y.2.source == some ⟨11, 1⟩ && y.2.state != .absent).map fun x =>
        (x.1, x.2.state)) = some (⟨.opacity, 1⟩, .valid) ∧
      (s.part.zoneEntries.find? fun y => y.num == 1) = sectionTable.zones.head? ∧
      ∀ r ∈ [((500 : Int), ZoneState.alarm), (499, .normal)], ((s.part.meas.zones.find? fun y => y.num == 1).map fun z =>
        (Rule.zoneEvaluated ⟨1, 6000, 7000, 2, 500, 600, none, none, none, none⟩
          { z with o1 := { z.o1 with last := r.1 } }).state) = some r.2) ∧
    ((onZone fun z => { z with state := .alarm }).part.meas.zones.find? fun y => y.num == 1).map (·.state) =
      some .alarm :=
  ⟨rfl, by decide, by decide +kernel, ⟨_, rfl, rfl, by decide +kernel⟩, ⟨_, rfl, rfl⟩,
    by unfold Quiescent InstrumentsNumbered ZoneTempsListed; decide +kernel, by decide +kernel⟩

/-- The last instrument of point 1, its slot the upper bound, with the point UNKNOWN, and one that leaves QUALIFYING. -/
theorem test_met_PointVotedAfterReading :
    (Quiescent base ∧ InstrumentsNumbered base) ∧
    (∃ x, ((instruments base.part.meas).find? fun y => y.2.source == some ⟨10, 3⟩ && y.2.state != .absent) = some x ∧
      x.1 = ⟨.velocity, 3⟩ ∧ x.2.state ≠ .rejected) ∧
    ((instruments base.part.meas).find? fun y => y.2.source == some ⟨10, 15⟩ && y.2.state != .absent) = none ∧
    (3 - 1) / 3 + 1 = 1 ∧ (base.part.pointEntries.any fun e => e.num == 1) = true ∧
    (base.part.meas.points.find? fun y => y.num == 1).map (·.quality) = some .unknown ∧
    (∃ x, ((instruments (onInstruments .qualifying 2 none .held).part.meas).find? fun y =>
        y.2.source == some ⟨10, 1⟩ && y.2.state != .absent) = some x ∧ x.2.qualify = 2) :=
  ⟨by unfold Quiescent InstrumentsNumbered; decide +kernel, ⟨_, rfl, rfl, by decide +kernel⟩, by decide +kernel, rfl,
    by decide +kernel, by decide +kernel, ⟨_, rfl, rfl⟩⟩

/-- The small part with the instruments of point 1 VALID, the first at the edge of both its streaks. -/
def onThree (value : Int) : State :=
  let valid := fun (v : Int) (i : Instrument) => { i with state := .valid, last := v }
  on fun p => { p with meas := { p.meas with points := p.meas.points.map fun q => if q.num = 1 then
    { q with quality := .good, voted := some 120, s2 := valid 120 q.s2, s3 := valid 130 q.s3,
             s1 := { valid value q.s1 with outlier := 7, polarity := 2 } } else q } }

/-- A vote of three VALID instruments that toggles the first, one that rejects it, and one, at the tolerance and the
polarity threshold, that does neither. -/
theorem test_met_ThreeChecked :
    (Quiescent (onThree 120) ∧ InstrumentsNumbered (onThree 120)) ∧
    ∀ x ∈ [((-50 : Int), InstrumentState.valid, true, 0), (171, .rejected, false, 8), (170, .valid, false, 0)],
      ∃ q ∈ (onThree x.1).part.meas.points, q.num = 1 ∧ q.s1.state = .valid ∧ q.s2.state = .valid ∧ q.s3.state = .valid ∧
        (let i := Rule.applied 0 3 .velocity ⟨1, .velocity, .ok, x.1⟩ q.s1
         let u := Rule.checked sectionTable.tolerance sectionTable.polarity i q.s2 q.s3
         i.state = .valid ∧ (u.state, u.reversed, u.outlier) = x.2) := by
  unfold Quiescent InstrumentsNumbered
  decide +kernel

theorem test_met_StaleAndRequalifyExpire :
    (Quiescent base ∧ (instrument? base.part ⟨.velocity, 1⟩).map (·.stale) = some none) ∧
    (instrument? (onInstruments .valid 0 (some 1) .single).part ⟨.velocity, 1⟩).map (fun i => (i.state, i.stale)) =
      some (.valid, some 1) ∧
    (instrument? (onInstruments .qualifying 1 (some 1) .single).part ⟨.opacity, 1⟩).map
      (fun i => (i.state, i.qualify)) = some (.qualifying, 1) ∧
    (instrument? (onInstruments .stationFault 0 (some 1) .single).part ⟨.opacity, 1⟩).map (·.state) =
      some .stationFault ∧
    base.part.meas.requalify = none ∧
    (let s := onInstruments .valid 0 (some 1) .single
     Quiescent s ∧ InstrumentsNumbered s ∧ (instrument? s.part ⟨.opacity, 1⟩).map (fun i => (i.state, i.stale)) =
        some (.valid, some 1) ∧ (s.part.zoneEntries.any fun e => e.num == (1 - 1) / 2 + 1) = true ∧
      (s.part.meas.zones.find? fun y => y.num == 1).map (·.state) = some .alarm) ∧
    (let s := on fun p => { p with meas := { p.meas with
        requalify := some 1, zones := p.meas.zones.map fun z => { z with holdO := true, opacity := some 900 } } }
     Quiescent s ∧ InstrumentsNumbered s ∧ s.part.meas.requalify ≠ none ∧
      (s.part.meas.zones.find? fun z => z.num == 1).map (fun z => z.holdO || z.holdT) = some true) := by
  unfold Quiescent InstrumentsNumbered
  decide +kernel

theorem test_met_PointHoldExpires :
    Quiescent (onInstruments .stale 0 none .held) ∧
    ((onInstruments .stale 0 none .held).part.meas.points.find? fun y => y.num == 1).map
      (fun q => (q.quality, q.holdTimer)) = some (.held, some 20000) ∧
    ((onInstruments .stale 0 none .single).part.meas.points.find? fun y => y.num == 1).map (·.quality) =
      some .single := by
  unfold Quiescent
  decide +kernel

theorem test_met_ZoneAlarmsCleared :
    Quiescent (onInstruments .stale 0 none .held) ∧
    (∃ z ∈ (onInstruments .stale 0 none .held).part.meas.zones, z.state = .alarm) := by
  unfold Quiescent
  decide +kernel

/-! #### The Incident Register -/

theorem test_met_ZoneJoinsDetectionList :
    (1 ∈ (onReg { IncidentRegister.reset with detection := [1] }).part.reg.detection ∧
      (onReg { IncidentRegister.reset with detection := sixteen }).part.reg.detection.length = 16) ∧
    (Quiescent (onReg { held .control .lead with detection := sixteen.tail }) ∧
      1 ∉ (onReg { held .control .lead with detection := sixteen.tail }).part.reg.detection ∧
      (onReg { held .control .lead with detection := sixteen.tail }).part.reg.detection.length < 16) ∧
    (Quiescent base ∧ base.part.reg.record.state = .quiet ∧ base.part.reg.detection = []) := by
  unfold Quiescent
  decide +kernel

/-- Ids at the bounds; each state; the held id and another. -/
theorem test_met_NoticesRefused :
    (0xEFFF < 0xF000 ∧ 20000 < 20001 ∧ 2 < 3 ∧ 6 < 7) ∧
    (Quiescent (onReg (held .control .lead)) ∧ notice.id = (onReg (held .control .lead)).part.reg.record.id ∧
      1 ≠ (onReg (held .control .lead)).part.reg.record.id) ∧
    (Quiescent (onReg (held .clearing .lead)) ∧ notice.id = (onReg (held .clearing .lead)).part.reg.record.id ∧
      (onReg (held .clearing .lead)).part.mgmt.control ≠ none) ∧
    (Quiescent (onReg (held .hold .lead)) ∧ (onReg (held .hold .lead)).part.reg.record.state ≠ .control) ∧
    (Quiescent State.reset ∧ State.reset.part.mgmt.control = none ∧ State.reset.part.reg.record.state ≠ .alert) := by
  unfold Quiescent
  decide +kernel

/-- In QUIET, inside the section and beyond it; in ALERT; in CLEARING with another id. -/
theorem test_met_DeclareTakenOn :
    (Quiescent base ∧ base.part.mgmt.control = some controlTable ∧ base.part.reg.record.state = .quiet ∧
      notice.fire = some 7300 ∧ notice.id ≤ 0xEFFF ∧
      ∃ x, base.part.mgmt.sections = some x ∧ x.lo ≤ 7300 ∧ 7300 < x.hi) ∧
    (∃ x, base.part.mgmt.sections = some x ∧ ¬ 8400 < x.hi ∧ 8400 ≤ 20000) ∧
    (onReg { IncidentRegister.reset with record := .empty .alert }).part.reg.record.state = .alert ∧
    ((onReg (held .clearing .lead)).part.reg.record.state = .clearing ∧
      0xEFFF ≠ (onReg (held .clearing .lead)).part.reg.record.id) :=
  ⟨⟨rfl, rfl, rfl, rfl, by decide, ⟨_, rfl, by decide +kernel⟩⟩, ⟨_, rfl, by decide +kernel⟩, rfl, rfl,
    by decide +kernel⟩

theorem test_met_UpdateAccepted :
    Quiescent (onReg (held .hold .lead)) ∧ (onReg (held .hold .lead)).part.mgmt.control = some controlTable ∧
    (onReg (held .hold .lead)).part.reg.record.state = .hold ∧
    notice.id = (onReg (held .hold .lead)).part.reg.record.id ∧ notice.fire ≠ none ∧
    (onReg (held .control .follower)).part.reg.record.state = .control ∧
    (onReg (held .declared .follower)).part.reg.record.state = .declared := by
  unfold Quiescent
  decide +kernel

/-- The clearing ends at once; a fan holds it open; an order record does. -/
theorem test_met_HoldResumeClear :
    (Quiescent (onReg (held .control .lead)) ∧ notice.id = (onReg (held .control .lead)).part.reg.record.id ∧
      (onReg (held .control .lead)).part.reg.record.state = .control) ∧
    (Quiescent (onReg (held .hold .lead)) ∧ (onReg (held .hold .lead)).part.reg.record.state = .hold) ∧
    (Quiescent (onReg (held .declared .follower)) ∧ 1 ≤ notice.id ∧ notice.id ≤ 0xEFFF ∧
      (onReg (held .declared .follower)).part.ord.records = [] ∧
      ¬ ∃ f ∈ (onReg (held .declared .follower)).part.fm.fans, Rule.holdsOpen f) ∧
    (let s := withReg (held .control .lead) (fanIn (incident .control .lead) .running)
     Quiescent s ∧ notice.id = s.part.reg.record.id ∧ ∃ f ∈ s.part.fm.fans, Rule.holdsOpen f) ∧
    (let s := withReg (held .hold .lead) (onOrder (order .stop .sent) ⟨20, 0, .busy, none⟩)
     Quiescent s ∧ notice.id = s.part.reg.record.id ∧ s.part.ord.records ≠ []) := by
  have quiet : ∀ f ∈ (onReg (held .declared .follower)).part.fm.fans, f.state = .unknown ∧ f.known = none := by
    decide +kernel
  have running : ∃ f ∈ (fanIn (incident .control .lead) .running).part.fm.fans, f.state = .running := by
    decide +kernel
  obtain ⟨f, mem, run⟩ := running
  refine ⟨⟨rfl, by decide +kernel, rfl⟩, ⟨rfl, rfl⟩, ⟨rfl, by decide +kernel, by decide +kernel, rfl, ?_⟩,
    ⟨rfl, rfl, f, mem, .inr (.inl run)⟩, rfl, rfl, List.cons_ne_nil _ _⟩
  rintro ⟨f, mem, opens⟩
  simp [Rule.holdsOpen, quiet f mem] at opens

theorem test_met_ReturnToQuiet :
    (Quiescent (onReg { IncidentRegister.reset with record := .empty .alert }) ∧
      (onReg { IncidentRegister.reset with record := .empty .alert }).part.reg.record.state = .alert) ∧
    (Quiescent base ∧ base.part.reg.record.state ≠ .alert ∧ base.part.reg.record.state ≠ .clearing) ∧
    (Quiescent (onReg (held .clearing .lead)) ∧ (onReg (held .clearing .lead)).part.reg.record.state = .clearing) := by
  unfold Quiescent
  decide +kernel

/-- The auto-declare timer unarmed; armed in ALERT with no configured zone and with one; the lead-wait timer unarmed;
armed in CONTROL, and in DECLARED with the store-write hold and without. -/
theorem test_met_IncidentTimersExpire :
    (Quiescent base ∧ base.part.reg.autoDeclare = none ∧ base.part.reg.leadWait = none) ∧
    (let s := onReg { IncidentRegister.reset with record := .empty .alert, detection := [16, 1], autoDeclare := some 60 };
      Quiescent s ∧ s.part.reg.autoDeclare ≠ none ∧ s.part.reg.record.state = .alert ∧
      ([16].findSome? fun n => s.part.zoneEntries.find? fun z => z.num == n) = none ∧
      (s.part.reg.detection.findSome? fun n => s.part.zoneEntries.find? fun z => z.num == n) =
        sectionTable.zones.head?) ∧
    (Quiescent (onReg { held .control .follower with leadWait := some 60 }) ∧
      (onReg { held .control .follower with leadWait := some 60 }).part.reg.record.state ≠ .declared) ∧
    (Quiescent (onReg { held .declared .follower with leadWait := some 60, storeHold := true }) ∧
      (onReg { held .declared .follower with leadWait := some 60, storeHold := true }).part.reg.storeHold = true) ∧
    (Quiescent (onReg { held .declared .follower with leadWait := some 60 }) ∧
      (onReg { held .declared .follower with leadWait := some 60 }).part.reg.storeHold = false ∧
      (onReg { held .declared .follower with leadWait := some 60 }).part.reg.record.role = .follower) := by
  unfold Quiescent
  decide +kernel

/-! #### The Airflow Controller -/

/-- A controller in a mode and a condition with its period armed. -/
def ctlIn (mode : ControllerMode) (condition : VelocityCondition) : AirflowController :=
  { AirflowController.reset with
    mode := mode, condition := condition, period := some 2000, record := incident .control .lead }

/-- The small part with that controller and a velocity quality. -/
def onLaw (mode : ControllerMode) (condition : VelocityCondition) (q : VelocityQuality) : State :=
  on fun p => { p with ctl := ctlIn mode condition, meas := { p.meas with quality := q } }

/-- The small part with that controller, in CONTROL in a role. -/
def onRole (mode : ControllerMode) (role : IncidentRole) : State :=
  onCtl { ctlIn mode .ok with record := incident .control role }

/-- Outside CONTROL, in QUIET, an entry; and, with no entry, a follower that may lead, a lead that may follow, and a LOCAL
part that may follow again, with and without a share. -/
theorem test_met_ControllerTakesRecord :
    Quiescent base ∧ (incident .hold .lead).state ≠ .control ∧ (IncidentRecord.empty .quiet).state = .quiet ∧
    (incident .control .follower).state = .control ∧
    (⟨.hold, incident .control .follower, some .resumption⟩ : RecordHandOn).entry = some .resumption ∧
    ((leadBulletin 0x0412 base.part.coord.peers).bind (shareFor 22) = none) ∧
    (leadBulletin 0x0412 [⟨40, some bulletin, 0, true, none⟩]).bind (shareFor 22) = some 4044 ∧
    (∀ role, (⟨.control, incident .control role, none⟩ : RecordHandOn).entry = none ∧
      (incident .control role).dir ≠ none) ∧
    (Quiescent (onRole .shareHeld .follower) ∧ (onRole .shareHeld .follower).part.ctl.record.role = .follower ∧
      (onRole .shareHeld .follower).part.ctl.mode = .shareHeld) ∧
    (Quiescent (onRole .lead .lead) ∧ (onRole .lead .lead).part.ctl.record.role = .lead ∧
      (onRole .lead .lead).part.ctl.mode = .lead) ∧
    (Quiescent (onRole .localMode .localRole) ∧ (onRole .localMode .localRole).part.ctl.record.role = .localRole ∧
      (onRole .localMode .localRole).part.ctl.mode = .localMode) :=
  ⟨rfl, by decide, rfl, rfl, rfl, by decide +kernel, by decide +kernel, fun _ => ⟨rfl, nofun⟩, ⟨rfl, rfl, rfl⟩,
    ⟨rfl, rfl, rfl⟩, rfl, rfl, rfl⟩

/-- An entry, and a change of role to LEAD that the same record brings with a reversal, of a part whose peers' addresses
are distinct. -/
theorem test_met_TransfersTaken :
    (base.part.coord.peers.map (·.address)).Nodup ∧
    (∀ role, (incident .control role).state = .control ∧ (incident .control role).heat = some 4 ∧
      (incident .control role).dir = some .ab) ∧
    (∀ kind, (⟨.declared, incident .control .lead, some kind⟩ : RecordHandOn).entry = some kind) ∧
    (let s := onRole .share .follower
     let r : IncidentRecord := { incident .control .lead with dir := some .ba }
     Quiescent s ∧ s.part.ctl.record.id = r.id ∧ s.part.ctl.record.dir ≠ r.dir ∧ s.part.ctl.record.role = .follower ∧
      s.part.ctl.mode = .share ∧ (s.part.coord.peers.map (·.address)).Nodup) :=
  ⟨by decide +kernel, fun _ => ⟨rfl, rfl, rfl⟩, fun _ => rfl, rfl, rfl, nofun, rfl, rfl, by decide +kernel⟩

/-- The worked cases of R92, R93 and R96: rising, the anti-windup, the shrinking bound, and the return from velocity
hold. -/
theorem test_lawWorked :
    Rule.error controlTable 4 .ab 120 = 230 ∧ Rule.pTerm controlTable 230 = 1380 ∧
    Rule.law controlTable 8800 230 1380 256000 = (373760, 2840) ∧
    Rule.law controlTable 2200 230 1380 256000 = (256000, 2200) ∧
    Rule.law controlTable 1000 230 1380 373760 = (256000, 1000) ∧
    Rule.pTerm { controlTable with kp := 100 } (-6) = -38 ∧ Rule.pTerm { controlTable with kp := 100 } 5 = 31 ∧
    (let k := Rule.computed (onLaw .lead .held .degraded).part 4 .ab 8800 .period
      { ctlIn .lead .held with lastD := 2200, integral := 7 }
     k.boundA = 8800 ∧ k.condition = .ok) ∧
    Rule.law controlTable 8800 170 1020 (Rule.bounded 8800 (256 * (2200 - 1020))) = (389120, 2540) := by
  decide +kernel

theorem test_met_LawInLocal :
    let s := onLaw .localMode .ok .good
    Quiescent s ∧ s.part.mgmt.control = some controlTable ∧ s.part.ctl.mode = .localMode ∧ s.part.ctl.period ≠ none ∧
    s.part.ctl.condition = .ok ∧ s.part.meas.quality ≠ .lost ∧ s.part.ctl.record.heat = some 4 ∧
    s.part.ctl.record.dir = some .ab := by
  unfold Quiescent
  decide +kernel

theorem test_met_VelocityLostAndHeld :
    (Quiescent (onLaw .localMode .ok .lost) ∧ (onLaw .localMode .ok .lost).part.meas.quality = .lost ∧
      (onLaw .localMode .ok .lost).part.ctl.period ≠ none ∧
      (onLaw .localMode .ok .lost).part.ctl.record.heat = some 4) ∧
    (Quiescent (onLaw .localMode .openLoop .lost) ∧ (onLaw .localMode .held .lost).part.ctl.condition = .held) ∧
    (let s := onLaw .localMode .held .good
     Quiescent s ∧ s.part.mgmt.control = some controlTable ∧ s.part.ctl.mode = .localMode ∧ s.part.ctl.period ≠ none ∧
      s.part.ctl.condition ≠ .ok ∧ s.part.meas.quality ≠ .lost ∧ s.part.ctl.record.heat = some 4 ∧
      s.part.ctl.record.dir = some .ab) := by
  unfold Quiescent
  decide +kernel

theorem test_met_SharesComputed :
    (Quiescent (onLaw .lead .ok .good) ∧ (onLaw .lead .ok .good).part.ctl.mode = .lead ∧
      (onLaw .lead .ok .good).part.ctl.period ≠ none ∧ (onLaw .lead .ok .good).part.ctl.record.heat = some 4 ∧
      (onLaw .lead .ok .good).part.ctl.record.dir = some .ab ∧
      ((onLaw .lead .ok .good).part.coord.peers.map (·.address)).Nodup) ∧
    (Quiescent (onLaw .share .ok .good) ∧ (onLaw .share .ok .good).part.ctl.mode = .share ∧
      (onLaw .shareHeld .ok .good).part.ctl.mode = .shareHeld) ∧
    (Quiescent base ∧ base.part.ctl.period = none ∧ base.part.ctl.mode = .idle) := by
  unfold Quiescent
  decide +kernel

/-- A follower in SHARE_HELD, its lead-loss-hold timer armed, in CONTROL and in HOLD. -/
def onLoss (state : IncidentState) : State :=
  on fun p => { p with
    reg := held state .follower, fm := { p.fm with record := incident state .follower },
    ctl := { ctlIn .shareHeld .ok with record := incident state .follower, leadLoss := some 30000 } }

theorem test_met_LeadLossExpires :
    (Quiescent base ∧ base.part.ctl.leadLoss = none) ∧
    (Quiescent (onLoss .control) ∧ (onLoss .control).part.ctl.leadLoss ≠ none ∧
      (onLoss .control).part.ctl.mode = .shareHeld ∧ (onLoss .control).part.reg.record.state = .control ∧
      (onLoss .control).part.ctl.condition = .ok ∧
      (onLoss .control).part.ctl.record = (onLoss .control).part.reg.record ∧
      (onLoss .control).part.fm.record = (onLoss .control).part.reg.record ∧
      (onLoss .control).part.reg.record.heat = some 4 ∧ (onLoss .control).part.reg.record.dir = some .ab) ∧
    ((onLoss .hold).part.reg.record.state = .hold ∧
      (onLoss .hold).part.reg.record.id = (onLoss .hold).part.ctl.record.id ∧
      (onLoss .hold).part.reg.record.role = .follower) := by
  unfold Quiescent
  decide +kernel

/-! #### Fans -/

/-- The small part in CLEARING with its stop-spacing timer armed, fan 1 RUNNING and last in the preference order. -/
def onSpacing : State :=
  let s := fanIn (incident .clearing .lead) .running
  { s with part := { s.part with fm := { s.part.fm with preference := [2, 1], stopSpacing := some 3000 } } }

theorem test_met_StopSpacing :
    (Quiescent base ∧ base.part.fm.stopSpacing = none) ∧
    (let s : State := { base with part := { base.part with fm := { base.part.fm with stopSpacing := some 1 } } };
      Quiescent s ∧ s.part.fm.stopSpacing ≠ none ∧ s.part.fm.record.state ≠ .clearing) ∧
    (Quiescent onSpacing ∧ onSpacing.part.fm.stopSpacing ≠ none ∧ onSpacing.part.fm.record.state = .clearing ∧
      onSpacing.part.fm.preference = [2] ++ 1 :: [] ∧
      (onSpacing.part.fm.fans.find? fun g => g.e.num == 1).map (fun f => (f.state, f.stopReq)) =
        some (.running, false)) ∧
    (let s : State := { onSpacing with part := { onSpacing.part with fm := { onSpacing.part.fm with preference := [2] } } }
     Quiescent s ∧ s.part.fm.stopSpacing ≠ none ∧ s.part.fm.record.state = .clearing ∧
      ∀ n ∈ s.part.fm.preference, ∀ g ∈ s.part.fm.fans.find? fun x => x.e.num == n,
        ¬ (g.state = .running ∧ g.stopReq = false)) := by
  unfold Quiescent
  decide +kernel

/-- Fan 1 in a state with its preference, the Fan Manager in CONTROL holding its running thrust. -/
def onPreference (x : FanState) : State :=
  let s := fanIn (incident .control .lead) x
  { s with part := { s.part with fm := { s.part.fm with preference := [1, 2], r := if x = .running then 1600 else 0 } } }

theorem distinct_onPreference (x : FanState) : FansDistinct (onPreference x) := by
  refine ⟨by cases x <;> decide +kernel, by show [1, 2].Nodup; decide, rfl, fun t h => ?_, nofun, nofun, nofun⟩
  cases Option.some.inj h
  decide

theorem numbered_onPreference (x : FanState) : FansNumbered (onPreference x) := by
  refine ⟨by cases x <;> decide +kernel, fun t h => ?_⟩
  cases Option.some.inj h
  decide

/-- Outside CONTROL, in CONTROL; a demand that has fan 1 started, and one that has it stopped, at the bound of the
hysteresis; a departure to CLEARING while fan 1 runs. -/
theorem test_met_FansTakeRecordAndDemand :
    Quiescent base ∧ (incident .control .lead).state ≠ .clearing ∧ base.part.fm.record.state ≠ .control ∧
    (Quiescent (fanIn (incident .control .lead) .stopped) ∧
      (fanIn (incident .control .lead) .stopped).part.fm.record.state = .control) ∧
    (Quiescent (onPreference .stopped) ∧ FansDistinct (onPreference .stopped) ∧
      (onPreference .stopped).part.fm.record.state = .control ∧ (onPreference .stopped).part.ord.backlog = [] ∧
      (onPreference .stopped).part.ord.records = [] ∧
      Rule.startQueue (incident .control .lead) 1000 0 0 (onPreference .stopped).part.fm.fans = [1]) ∧
    (Quiescent (onPreference .running) ∧ FansDistinct (onPreference .running) ∧ FansNumbered (onPreference .running) ∧
      (onPreference .running).part.fm.record.state = .control ∧ (onPreference .running).part.ord.backlog = [] ∧
      (onPreference .running).part.ord.records = [] ∧
      Rule.startQueue (incident .control .lead) 0 1600 0 (onPreference .running).part.fm.fans = [] ∧
      (Rule.lastUseful (incident .control .lead) (onPreference .running).part.fm.fans).map (·.e.num) = some 1 ∧
      (Rule.useful (incident .control .lead) ⟨1, 20, 1, 6100, .forwardAB, true, 1100, 900, 3000, 1, 5, 40, 90, 20⟩).1 +
        controlTable.hysteresis = 1600) ∧
    (let h : RecordHandOn := ⟨.control, incident .clearing .lead, none⟩
     h.record.state = .clearing ∧ h.before ≠ .clearing ∧
      (∃ f ∈ (onPreference .running).part.fm.fans, Rule.holdsOpen f ∧ f.state = .running ∧ f.stopReq = false)) := by
  have running : ∃ f ∈ (onPreference .running).part.fm.fans, f.state = .running ∧ f.stopReq = false := by
    decide +kernel
  obtain ⟨f, mem, run⟩ := running
  refine ⟨rfl, by decide, by decide +kernel, ⟨rfl, rfl⟩, ⟨rfl, distinct_onPreference _, rfl, rfl, rfl, by decide +kernel⟩,
    ⟨rfl, distinct_onPreference _, numbered_onPreference _, rfl, rfl, rfl, by decide +kernel, by decide +kernel,
      by decide +kernel⟩, rfl, nofun, f, mem, .inr (.inl run.1), run⟩

/-- A reversal in CONTROL, which leaves the running fan 1 unwanted and the order of the fans turned; and a record that
moves nothing. -/
theorem test_met_FansReversed :
    let s := onPreference .running
    let r : IncidentRecord := { incident .control .lead with dir := some .ba, fire := some 6400 }
    Quiescent s ∧ FansDistinct s ∧ FansNumbered s ∧ r.id ≠ 0 ∧ r.fire = some 6400 ∧ r.dir = some .ba ∧
    (r.dir ≠ s.part.fm.record.dir ∧ r.id = s.part.fm.record.id ∧ r.state = .control) ∧
    (∃ f ∈ s.part.fm.fans, Rule.unwanted r f = true ∧ f.stopReq = false) ∧
    Rule.IsPreference 6400 .ba s.part.fm.fans [2, 1] ∧ Rule.IsPreference 6400 .ab s.part.fm.fans [1, 2] ∧
    (incident .control .lead) = s.part.fm.record := by
  refine ⟨rfl, distinct_onPreference _, numbered_onPreference _, nofun, rfl, rfl, ⟨nofun, rfl, rfl⟩, by decide +kernel,
    ⟨(onPreference .running).part.fm.fans.reverse, ?_, ?_, by decide +kernel⟩,
    ⟨(onPreference .running).part.fm.fans, ?_, ?_, by decide +kernel⟩, rfl⟩
  · unfold Rule.Before
    decide +kernel
  · intro f
    have states : ∀ g ∈ (onPreference .running).part.fm.fans, g.state ≠ .unconfigured := by decide +kernel
    exact ⟨fun h => ⟨List.mem_reverse.mp h, states f (List.mem_reverse.mp h)⟩, fun h => List.mem_reverse.mpr h.1⟩
  · unfold Rule.Before
    decide +kernel
  · intro f
    have states : ∀ g ∈ (onPreference .running).part.fm.fans, g.state ≠ .unconfigured := by decide +kernel
    exact ⟨fun h => ⟨h, states f h⟩, fun h => h.1⟩

/-- Fan 1 LOST, its station UNREACHABLE. -/
def onSilent : State :=
  let s := onPreference .lost
  { s with part := { s.part with fm := { s.part.fm with reach := s.part.fm.reach.map fun r =>
    { r with state := .unreachable, silence := none } } } }

/-- Fan 1 found by its station and output, in every state that the statement names; an output that finds none; a report
from an UNREACHABLE station that does not name its LOST fan. -/
theorem test_met_FanReportJudged :
    (Quiescent base ∧ (∀ r ∈ base.part.fm.reach, r.station = 20 → r.state = .reachable) ∧
      (base.part.fm.fans.find? fun f => f.e.station == 10 && f.e.output == 1 && f.state != .unconfigured) = none) ∧
    (Quiescent (fanIn (incident .control .lead) .starting) ∧
      ((fanIn (incident .control .lead) .starting).part.fm.fans.find? fun f =>
        f.e.station == 20 && f.e.output == 1 && f.state != .unconfigured).map (fun f => (f.state, f.dir)) =
        some (.starting, some .fwd)) ∧
    ((base.part.fm.fans.find? fun f => f.e.station == 20 && f.e.output == 2 && f.state != .unconfigured).map (·.e.num) =
      some 2) ∧
    ((fanIn (incident .control .lead) .running).part.fm.fans.map (·.state)).head? = some .running ∧
    ((fanIn (incident .control .lead) .failed).part.fm.fans.map (·.state)).head? = some .failed ∧
    (∀ x ∈ [FanState.stopping, .stopped, .unknown, .lost],
      ((fanIn (incident .control .lead) x).part.fm.fans.map (·.state)).head? = some x) ∧
    (FansDistinct (onPreference .lost) ∧ FansNumbered (onPreference .lost)) ∧
    (Quiescent onSilent ∧ FansDistinct onSilent ∧ FansNumbered onSilent ∧
      ([] ++ (⟨2, .stopped, .remote, 0⟩ : ReportOutput) :: []).length ≤ 2 ∧
      (∃ f ∈ onSilent.part.fm.fans, f.e.station = 20 ∧ f.state = .lost ∧ f.e.output = 1) ∧
      (∃ r ∈ onSilent.part.fm.reach, r.station = 20 ∧ r.state = .unreachable) ∧
      ∀ x ∈ [] ++ (⟨2, .stopped, .remote, 0⟩ : ReportOutput) :: [], x.output ≠ 1) := by
  refine ⟨⟨rfl, by decide +kernel, by decide +kernel⟩, ⟨rfl, by decide +kernel⟩, by decide +kernel, by decide +kernel,
    by decide +kernel, by decide +kernel, ⟨distinct_onPreference _, numbered_onPreference _⟩, rfl,
    distinct_onPreference _, numbered_onPreference .lost, by decide, by decide +kernel, by decide +kernel,
    by decide +kernel⟩

theorem test_met_FanTimersExpire :
    (Quiescent base ∧ base.part.fm.record.state ≠ .clearing ∧
      ∀ f, base.part.fm.fans.find? (fun x => x.e.num == 3) = some f → f.runUp = none) ∧
    (let s := onFan1 (incident .control .lead) fun f =>
        { f with state := .starting, dir := some .fwd, accepted := true, runUp := some 5000 };
      Quiescent s ∧ (s.part.fm.fans.find? fun x => x.e.num == 1).map (fun f => (f.runUp, f.state)) =
        some (some 5000, .starting)) ∧
    ((∀ r ∈ base.part.fm.reach, r.station = 20 → r.state = .reachable ∧ r.silence ≠ none) ∧
      ∃ r ∈ base.part.fm.reach, r.station = 20) ∧
    (∀ x ∈ [FanState.unknown, .stopped, .starting, .running, .stopping, .failed, .unconfigured, .lost, .isolated],
      let s := fanIn (incident .control .lead) x
      (s.part.fm.fans.find? fun y => y.e.num == 1).map (fun f => (f.e.station, f.state, f.mgrIso)) =
        some (20, x, false) ∧
      ∀ r ∈ s.part.fm.reach, r.state = .reachable ∧ r.silence ≠ none) ∧
    ((onIsolated true).part.fm.fans.find? fun y => y.e.num == 1).map (fun f => (f.e.station, f.state, f.mgrIso)) =
      some (20, .isolated, true) := by
  refine ⟨⟨rfl, by decide +kernel, fun f h => ?_⟩, ⟨rfl, by decide +kernel⟩, by decide +kernel, by decide +kernel,
    by decide +kernel⟩
  have none3 : base.part.fm.fans.find? (fun x => x.e.num == 3) = none := by decide +kernel
  rw [none3] at h
  cases h

theorem test_met_OrderOutcomeTaken :
    (Quiescent (fanIn (incident .control .lead) .starting) ∧
      (fanIn (incident .control .lead) .starting).part.fm.record.state ≠ .clearing ∧
      ((fanIn (incident .control .lead) .starting).part.fm.fans.find? fun x => x.e.num == 1).map (·.state) =
        some .starting) ∧
    ((fanIn (incident .control .lead) .running).part.fm.fans.find? fun x => x.e.num == 1).map (·.state) =
      some .running := by
  unfold Quiescent
  decide +kernel

/-! #### Orders -/

/-- The tag in each of its states, the record in RETRY_WAIT, one whose output differs, and one that BUSY fits. -/
theorem test_met_AnswerCountedOrRetried :
    (Quiescent (onOrder (order .stop .sent) ⟨20, 0, .quarantine, some 2000⟩) ∧
      (onOrder (order .stop .sent) ⟨20, 0, .quarantine, some 2000⟩).part.ord.tags.find?
        (fun t => t.station == 20 && t.tag == 0) = some ⟨20, 0, .quarantine, some 2000⟩) ∧
    (onOrder (order .stop .sent) ⟨20, 0, .free, none⟩).part.ord.tags = [⟨20, 0, .free, none⟩] ∧
    (Quiescent (onOrder (order .stop .sent) ⟨20, 0, .busy, none⟩) ∧
      (onOrder (order .stop .sent) ⟨20, 0, .busy, none⟩).part.ord.records.find?
        (fun r => r.station == 20 && r.tag == some 0) = some (order .stop .sent) ∧
      (order .stop .sent).output ≠ 2 ∧ (order .stop .sent).windowOpen = true ∧ (order .stop .sent).kind ≠ .query) ∧
    (order .stop .retryWait).state = .retryWait ∧ (order .query .sent).kind = .query := by
  unfold Quiescent
  decide +kernel

/-- A START in the direction of fan 1, which is STARTING, passes the check of R155. -/
theorem mayStart_fanIn (x : OrderState) :
    Rule.mayStart (fanIn (incident .control .lead) .starting).part (order .startFwd x) := by
  intro d h
  cases d with
  | fwd => exact ⟨_, rfl, rfl, rfl, rfl⟩
  | rev => cases h

/-- With fan 1 UNKNOWN it does not. -/
theorem not_mayStart_base (x : OrderState) : ¬ Rule.mayStart base.part (order .startFwd x) := by
  intro h
  obtain ⟨f, found, starting, -⟩ := h .fwd rfl
  have unknown : (base.part.fm.fans.find? fun x => x.e.num == 1).map (·.state) = some .unknown := by decide +kernel
  have same : base.part.fm.fans.find? (fun x => x.e.num == 1) = some f := found
  rw [same] at unknown
  cases (Option.some.inj unknown).symm.trans starting

/-- Orders SENT; a QUERY; recovery queries of each kind, sent again before or not, the fan fit for a START and unfit. -/
theorem test_met_AnswerEndsOrder :
    (Quiescent (onOrder (order .stop .sent) ⟨20, 0, .busy, none⟩) ∧ (order .stop .sent).state = .sent ∧
      (order .stop .sent).kind ≠ .query) ∧
    (Quiescent (onOrder (order .query .sent) ⟨20, 0, .busy, none⟩) ∧
      (onOrder (order .query .sent) ⟨20, 0, .busy, none⟩).part.ord.records.find?
        (fun r => r.station == 20 && r.tag == some 0) = some (order .query .sent)) ∧
    (∀ k ∈ [OrderKind.startFwd, .startRev, .stop], ∀ again ∈ [false, true],
      let r : OrderRec := { order k .querying with reissued := again }
      let s := onOrder r ⟨20, 0, .busy, none⟩
      Quiescent s ∧ s.part.ord.tags.find? (fun t => t.station == 20 && t.tag == 0) = some ⟨20, 0, .busy, none⟩ ∧
        s.part.ord.records.find? (fun x => x.station == 20 && x.tag == some 0) = some r ∧ r.state = .querying ∧
        r.kind ≠ .query ∧ r.windowOpen = true) ∧
    Rule.mayStart (fanIn (incident .control .lead) .starting).part (order .startFwd .querying) ∧
    ¬ Rule.mayStart base.part (order .startFwd .querying) := by
  refine ⟨?_, ?_, ?_, mayStart_fanIn _, not_mayStart_base _⟩ <;> (unfold Quiescent; decide +kernel)

/-- A STOP SENT, a recovery query, a QUERY, at each count of timeouts; with a FREE tag at hand and with none. -/
theorem test_met_ResponseTimeout :
    let r : OrderRec := { order .stop .sent with response := some 500 }
    let q : OrderRec := { order .stop .querying with response := some 500 }
    (Quiescent (onOrder r ⟨20, 0, .busy, none⟩) ∧
      (onOrder r ⟨20, 0, .busy, none⟩).part.ord.records.find? (fun x => x.fan == 1) = some r ∧ r.response ≠ none ∧
      (onOrder r ⟨20, 0, .busy, none⟩).part.ord.tags.find? (fun t => t.station == 20 && t.tag == 0) =
        some ⟨20, 0, .busy, none⟩) ∧
    (Quiescent (onOrder q ⟨20, 0, .busy, none⟩) ∧ q.state = .querying) ∧ (order .stop .sent).response = none ∧
    (onOrder r ⟨20, 0, .busy, none⟩).part.ord.backlog = [] ∧ r.successor = none ∧
    (onOrder r ⟨20, 0, .busy, none⟩).part.fm.record.state ≠ .control ∧
    (∀ again ∈ [false, true], ∀ timeouts ∈ [0, 1, 2],
      let x : OrderRec := { order .query .sent with response := some 500, reissued := again }
      let y := { q with queryTimeouts := timeouts }
      (onOrder x ⟨20, 0, .busy, none⟩).part.ord.records.find? (fun x => x.fan == 1) = some x ∧ x.state = .sent ∧
      (onOrder y ⟨20, 0, .busy, none⟩).part.ord.records.find? (fun x => x.fan == 1) = some y) ∧
    (let s : State := on fun p => { p with ord := { p.ord with
        records := [r], tags := [⟨20, 0, .busy, none⟩, ⟨20, 1, .free, none⟩] } }
     s.part.ord.backlog = [] ∧ (s.part.ord.tags.filter fun t => t.state != .free).length < 16 ∧
      (s.part.ord.tags.find? fun t => t.station == 20 && t.state == .free).map (·.tag) = some 1) := by
  unfold Quiescent
  decide +kernel

theorem test_met_RetryAndQuarantineExpire :
    let r : OrderRec := { order .stop .retryWait with retry := some 200 }
    let s := onOrder r ⟨20, 0, .quarantine, some 2000⟩
    (Quiescent s ∧ s.part.ord.records.find? (fun x => x.fan == 1) = some r ∧ r.retry ≠ none ∧ r.kind = .stop ∧
      r.tag = some 0 ∧ (order .stop .sent).retry = none) ∧
    (s.part.ord.tags.find? (fun t => t.station == 20 && t.tag == 0) = some ⟨20, 0, .quarantine, some 2000⟩ ∧
      s.part.ord.backlog = [] ∧ s.part.ord.tags = [] ++ ⟨20, 0, .quarantine, some 2000⟩ :: []) ∧
    (onOrder r ⟨20, 0, .busy, none⟩).part.ord.tags = [⟨20, 0, .busy, none⟩] ∧
    (let x : OrderRec := { order .startFwd .retryWait with retry := some 200 }
     Quiescent (onOrder x ⟨20, 0, .busy, none⟩) ∧
      (onOrder x ⟨20, 0, .busy, none⟩).part.ord.records.find? (fun x => x.fan == 1) = some x ∧ x.retry ≠ none ∧
      x.state = .retryWait ∧ x.kind ≠ .query ∧ x.tag = some 0) ∧
    Rule.mayStart (fanIn (incident .control .lead) .starting).part (order .startFwd .retryWait) ∧
    ¬ Rule.mayStart base.part (order .startFwd .retryWait) ∧
    (Quiescent base ∧ base.part.ord.records.find? (fun x => x.fan == 1) = none) := by
  intro r s
  refine ⟨⟨rfl, ?_⟩, ?_, rfl, ⟨rfl, ?_⟩, mayStart_fanIn _, not_mayStart_base _, rfl, ?_⟩ <;> decide +kernel

/-! #### Coordination -/

theorem test_met_BulletinSent :
    (Quiescent base ∧ HealthFormed base ∧ base.part.coord.timer ≠ none) ∧
    (let s : State := { base with part := { base.part with coord := { base.part.coord with timer := none } } };
      Quiescent s ∧ HealthFormed s ∧ s.part.coord.timer = none) := by
  unfold Quiescent HealthFormed
  decide +kernel

theorem test_met_CoordinatorTakesRecord :
    Quiescent base ∧ (incident .control .lead).id ≠ base.part.coord.heldId ∧
    (IncidentRecord.empty .quiet).id = base.part.coord.heldId ∧
    (let h : RecordHandOn := ⟨.declared, incident .control .lead, some .first⟩
     h.before ≠ h.record.state) ∧
    (let h : RecordHandOn := ⟨.control, incident .control .lead, none⟩
     h.before = h.record.state) := by
  unfold Quiescent
  decide +kernel

theorem test_met_BulletinsTaken :
    Quiescent base ∧ (∀ q ∈ base.part.coord.peers, q.address ≠ 39) ∧ (∃ q ∈ base.part.coord.peers, q.address = 40) ∧
    (base.part.coord.peers.find? fun x => x.address == 41).map (·.freshness) = some none ∧
    (let s : State := { base with part := { base.part with coord := { base.part.coord with
        peers := [⟨40, some bulletin, 0, true, some 8000⟩] } } };
      Quiescent s ∧ (s.part.coord.peers.find? fun x => x.address == 40).map (·.freshness) = some (some 8000)) := by
  unfold Quiescent
  decide +kernel

/-- A bulletin that has just arrived from a peer, fresh. -/
def peer (address : Nat) (b : Bulletin) : PeerRec := ⟨address, some b, 0, true, some 8000⟩

/-- A part with two fresh peers, holding an incident in a role, its controller in a mode. -/
def onPeers (state : IncidentState) (role : IncidentRole) (mode : ControllerMode) (b c : Bulletin) (lead : Option Nat) :
    State :=
  on fun p => { p with
    reg := held state role,
    ctl := { ctlIn mode .ok with record := incident state role },
    coord := { p.coord with peers := [peer 40 b, peer 41 c], heldId := 0x0412, role := role, leadView := lead } }

/-- Two peers claim lead for an id that is new to the part: 41 is the object for a part that is no lead, 40 for a lead; a
bulletin, and an expiry, that leave the Register as it is, with two claims and with one. -/
theorem test_met_TwoLeads :
    (let s := onPeers .control .follower .share bulletin bulletin none
     let t : State := { s with part := { s.part with coord := { s.part.coord with heldId := 0 } } }
     Quiescent t ∧ (incident .control .follower).id ≠ t.part.coord.heldId ∧ t.part.coord.twoLeads = false ∧
      (t.part.coord.peers.map (·.address)).Nodup ∧ Rule.Conflict 0x0412 .follower t.part.coord.peers ∧
      Rule.IsTwoLeadsObject 0x0412 .follower t.part.coord.peers 41 ∧
      Rule.IsTwoLeadsObject 0x0412 .lead t.part.coord.peers 40 ∧ ¬ Rule.Conflict 0x0413 .lead t.part.coord.peers) ∧
    (let s := onPeers .control .follower .share bulletin { bulletin with role := .follower } (some 40)
     Quiescent s ∧ (s.part.coord.peers.map (·.address)).Nodup ∧ (∃ q ∈ s.part.coord.peers, q.address = 41) ∧
      (∃ q ∈ s.part.coord.peers, q.address = 41 ∧ q.freshness ≠ none) ∧ s.part.coord.twoLeads = false ∧
      Rule.Conflict 0x0412 .follower (s.part.coord.peers.map fun q =>
        if q.address = 41 then { q with held := some bulletin } else q) ∧
      (∃ t, exec (.bulletin 41 bulletin) s = .next t ∧ t.part.reg = s.part.reg) ∧
      ∃ t, exec (.freshnessTimerExpiry 41) s = .next t ∧ t.part.reg = s.part.reg) := by
  refine ⟨?_, rfl, ?_⟩
  · unfold Quiescent Rule.Conflict Rule.IsTwoLeadsObject Rule.IsLeadView
    decide +kernel
  · unfold Rule.Conflict
    exact ⟨by decide +kernel, by decide +kernel, by decide +kernel, rfl, by decide +kernel,
      ⟨_, rfl, by decide +kernel⟩, ⟨_, rfl, by decide +kernel⟩⟩

/-- The lead is lost; it moves to the other peer, whose view has a share; another peer's freshness changes nothing. -/
theorem test_met_FreshnessLost :
    (let s := onPeers .control .follower .share bulletin { bulletin with role := .follower } (some 40)
     Quiescent s ∧ LeadViewJudged s ∧
      leadViewFor 0x0412 (s.part.coord.peers.map fun x =>
        if x.address = 40 then { x with fresh := false, freshness := none } else x) = none ∧
      leadViewFor 0x0412 (s.part.coord.peers.map fun x =>
        if x.address = 41 then { x with fresh := false, freshness := none } else x) = s.part.coord.leadView) ∧
    (let s := onPeers .control .follower .share bulletin bulletin (some 40)
     Quiescent s ∧ LeadViewJudged s ∧ (s.part.coord.peers.map (·.address)).Nodup ∧
      s.part.coord.heldId = s.part.reg.record.id ∧ s.part.reg.record.role = .follower ∧ s.part.reg.record.state = .control ∧ bulletin.state = .control ∧
      bulletin.lastCleared ≠ s.part.reg.record.id ∧
      leadViewFor 0x0412 (s.part.coord.peers.map fun x =>
        if x.address = 40 then { x with fresh := false, freshness := none } else x) = some 41) := by
  unfold Quiescent LeadViewJudged
  decide +kernel

/-- A view joined in QUIET, inside the section and beyond it, and one of a lower id that replaces; one that clears, the
id held and the id joined; one copied in CONTROL, in HOLD and by a LOCAL part that it names; one recorded under the
hold; one of another id. -/
theorem test_met_ViewsTaken :
    let joined : Bulletin := { bulletin with id := 0x0100, fire := 8400 }
    let clearing : Bulletin := { bulletin with lastCleared := 0x0412 }
    (Quiescent base ∧ base.part.reg.record.state = .quiet ∧ base.part.mgmt.control ≠ none ∧
      (∃ q ∈ base.part.coord.peers, q.address = 40) ∧ base.part.coord.leadView = none ∧
      bulletin.id ≠ base.part.reg.lastCleared ∧ 1 ≤ bulletin.id ∧ bulletin.id ≤ 0xEFFF ∧ bulletin.fire ≤ 20000 ∧
      bulletin.direction ≠ none ∧ 1 ≤ bulletin.heat ∧ bulletin.heat ≤ 6 ∧ bulletin.lastCleared ≠ bulletin.id ∧
      base.part.mgmt.sections = some sectionTable ∧ sectionTable.lo ≤ bulletin.fire ∧ bulletin.fire < sectionTable.hi ∧
      ¬ joined.fire < sectionTable.hi) ∧
    (let s := onPeers .control .follower .share bulletin bulletin (some 40)
     Quiescent s ∧ joined.id < s.part.reg.record.id ∧ clearing.lastCleared = s.part.reg.record.id ∧
      leadViewFor 0x0412 s.part.coord.peers = some 40 ∧ s.part.coord.heldId = s.part.reg.record.id ∧
      bulletin.id = s.part.reg.record.id ∧ (bulletin.state = .control ∨ bulletin.state = .hold) ∧
      { joined with id := 0x0500 }.id ≠ s.part.reg.record.id) ∧
    ({ joined with lastCleared := 0x0100 } : Bulletin).lastCleared = joined.id ∧
    ((onPeers .hold .localRole .localMode bulletin bulletin (some 40)).part.reg.record.role = .localRole ∧
      (onPeers .hold .localRole .localMode bulletin bulletin (some 40)).part.reg.record.state = .hold ∧
      ∃ e ∈ bulletin.shares, e.node = base.part.line.node.toNat) ∧
    (let s := withReg { held .declared .follower with storeHold := true }
        (onPeers .declared .follower .idle bulletin bulletin (some 40))
     Quiescent s ∧ s.part.reg.record.state = .declared ∧ s.part.reg.storeHold = true ∧
      (onPeers .declared .follower .idle bulletin bulletin (some 40)).part.reg.storeHold = false) := by
  unfold Quiescent
  decide +kernel

/-- A bulletin by which its sender gives up the lead, so that the lead view moves to the other peer, which names this
node. -/
theorem test_met_LeadViewMoved :
    let s := onPeers .control .follower .share bulletin bulletin (some 40)
    let b : Bulletin := { bulletin with role := .follower }
    let peers := s.part.coord.peers.map fun q => if q.address = 40 then { q with held := some b } else q
    Quiescent s ∧ s.part.coord.leadView = some 40 ∧ leadViewFor s.part.coord.heldId peers = some 41 ∧
    (s.part.coord.peers.map (·.address)).Nodup ∧
    ((peers.find? fun x => x.address == 41).bind (·.held)) = some bulletin ∧
    s.part.coord.heldId = s.part.reg.record.id ∧ s.part.reg.record.role = .follower ∧
    s.part.reg.record.state = .control ∧ bulletin.state = .control ∧ bulletin.lastCleared ≠ s.part.reg.record.id ∧
    b.lastCleared ≠ b.id := by
  unfold Quiescent
  decide +kernel

/-! #### Management -/

/-- Lengths and codes at the edges of what is refused, and the numbers that no fan, instrument, point, zone, peer and
station has. -/
theorem test_met_RequestsRefused :
    Quiescent base ∧ ([0, 0] : List Byte).length < 3 ∧ 226 < (List.replicate 227 (0 : Byte)).length ∧
    9 < (10 : Byte).toNat ∧ 1 < (2 : Byte).toNat ∧ 4 < (5 : Byte).toNat ∧
    base.part.fm.fans.find? (fun x => x.e.num == (3 : Byte).toNat) = none ∧
    (∀ c ∈ [(InstrumentClass.velocity, (4 : Byte)), (.opacity, 2), (.temperature, 33)],
      ∀ x ∈ instruments base.part.meas, x.1 = ⟨c.1, c.2.toNat⟩ → x.2.state = .absent) ∧
    (∀ n ∈ [0, 17], (∀ y ∈ base.part.meas.points, y.num ≠ n) ∧ ∀ y ∈ base.part.meas.zones, y.num ≠ n) ∧
    (∀ y ∈ base.part.fm.fans, y.e.num ≠ (3 : Byte).toNat) ∧ (∀ y ∈ base.part.coord.peers, y.address ≠ (39 : Byte).toNat) ∧
    48 < (49 : Byte).toNat ∧ base.part.disp.stations.length < (8 : Byte).toNat ∧ (1 : Byte) ≠ 0 := by
  unfold Quiescent
  decide +kernel

theorem test_met_ReadStatus :
    Quiescent base ∧ base.part.reg.detection.length ≤ 16 ∧ base.part.reg.autoDeclare = none ∧
    base.part.reg.leadWait = none ∧ base.part.reg.entry = none ∧
    (0 : Byte).toNat ≤ base.part.disp.stations.length ∧ (7 : Byte).toNat = base.part.disp.stations.length := by
  unfold Quiescent
  decide +kernel

/-- The small part with a backlog of 100 entries, its items beyond the 240 bytes of a reply. -/
def onBacklog : State :=
  on fun p => { p with ord := { p.ord with backlog := List.replicate 100 1 }, disp := { p.disp with stations := [] } }

/-- Every selector names items; those of a long backlog are cut before the 78th, 24 being left out. -/
theorem test_met_ItemsRead :
    (∀ x ∈ [(1, 0), (2, 0), (3, 1), (4, 16), (5, 0), (5, 1), (6, 0), (6, 40), (7, 0), (7, 48), (8, 0), (9, 0), (9, 7)],
      ∃ items ∈ Rule.statusItems base.part x.1 x.2, (Rule.itemBytes items).length ≤ 235) ∧
    Quiescent onBacklog ∧ HealthFormed base ∧
    ∃ kept next left, Rule.statusItems onBacklog.part 7 0 = some (kept ++ next :: left) ∧
      235 < (Rule.itemBytes (kept ++ next :: left)).length ∧ (Rule.itemBytes kept).length + 3 ≤ 235 ∧
      235 < (Rule.itemBytes (kept ++ [next])).length + 3 ∧ left.length = 23 := by
  refine ⟨by decide +kernel, rfl, test_quiescent.2,
    [Rule.unsigned 1 1 0] ++ List.replicate 76 (Rule.unsigned 2 1 1), Rule.unsigned 2 1 1,
    List.replicate 23 (Rule.unsigned 2 1 1), ?_⟩
  decide +kernel

/-- An order record without a successor: item 4 shows it absent. With object 0 the fields that R170 lists beside item 20
follow; the window has 5000 ms left. -/
theorem test_orderFields :
    let r := order .stop .sent
    let p := (onOrder r ⟨20, 0, .busy, none⟩).part
    p.now = 0 ∧ (orderItems p r)[3]? = some ⟨4, [0xFF]⟩ ∧ (recordFieldItems p).map (·.value) =
      [[0xFF], [0], [0], [0], [1], [0, 0, 0, 0], [0, 0, 0, 0], [0, 0, 0x13, 0x88]] := by
  decide +kernel

/-- The small part with a load buffer, and with a write in flight. -/
def onBuffer (b : LoadBuffer) (w : Option StoreWrite) : State :=
  on fun p => { p with mgmt := { p.mgmt with buffer := b, write := w } }

/-- A buffer of a state whose bytes are those of a CONTROL image of its declared length. -/
def buffer (x : BufferState) (image : List Byte) : LoadBuffer :=
  { state := x, kind := some .control, declared := 80, count := image.length, next := some 2, bytes := image }

/-- A CONTROL image, written out from R201. -/
def controlImage : List Byte :=
  [0x50, 0x53, 0x32, 0x31, 0x34, 0x30, 4, 1, 0, 1, 1, 0xFF, 0xFF, 0xFF, 0xFF, 0xFF] ++
  [0, 150, 0, 200, 0, 250, 1, 44, 1, 94, 1, 144, 50, 3, 232, 0, 96, 2, 0, 2, 30] ++
  [0, 3, 232, 0, 7, 208, 0, 11, 184, 0, 15, 160, 0, 19, 136, 0, 23, 112] ++
  [30, 8, 0, 150, 2, 1, 244, 3, 1, 244, 5, 3, 1, 0, 60, 10] ++ List.replicate 9 0xFF

/-- The image spells the table. -/
theorem test_controlImage : parseTable .control controlImage = some (.control controlTable) := by decide +kernel

/-- Locked; each state; a block that fits to the last byte and one that passes it by one; a checksum that differs, an
identity that fails, and an image that every check passes. -/
theorem test_met_LoadBufferJudged :
    (Quiescent (onBuffer .empty (some ⟨.control, [], 50, 0⟩)) ∧
      (onBuffer .empty (some ⟨.control, [], 50, 0⟩)).part.mgmt.write ≠ none) ∧
    (Quiescent (onBuffer .empty none) ∧ (onBuffer .empty none).part.mgmt.buffer.state = .empty ∧
      256 * (0 : Byte).toNat + (80 : Byte).toNat = 80) ∧
    (Quiescent (onBuffer (buffer .broken []) none) ∧
      (onBuffer (buffer .broken []) none).part.mgmt.buffer.state = .broken) ∧
    (Quiescent (onBuffer (buffer .loading (controlImage.take 79)) none) ∧
      (buffer .loading (controlImage.take 79)).count + 1 ≤ 80 ∧ 80 < (buffer .loading controlImage).count + 1 ∧
      (buffer .loading (controlImage.take 79)).count < 80) ∧
    (buffer .loading controlImage).declared ≤ (buffer .loading controlImage).count ∧
    (controlImage.map BitVec.toNat).sum % 65536 ≠ 0 ∧
    (List.replicate 80 (0 : Byte)).take 6 ≠ [0x50, 0x53, 0x32, 0x31, 0x34, 0x30] ∧
    imageFault .control 80 80 (BitVec.ofNat 16 (controlImage.map BitVec.toNat).sum) 22 controlImage = none := by
  unfold Quiescent
  decide +kernel

theorem test_met_ActivationAndStoreWrite :
    let ready := onBuffer (buffer .verified controlImage) none
    let writing := onBuffer (buffer .verified controlImage) (some ⟨.control, controlImage, 50, 1⟩)
    (Quiescent ready ∧ ready.part.reg.record.state = .quiet ∧ ready.part.mgmt.write = none ∧
      ready.part.mgmt.buffer.state = .verified ∧ ready.part.mgmt.buffer.kind = some .control) ∧
    (Quiescent writing ∧ writing.part.mgmt.write = some ⟨.control, controlImage, 50, 1⟩) ∧
    (Quiescent base ∧ base.part.mgmt.buffer.state ≠ .verified) ∧
    (Quiescent (onReg (held .control .lead)) ∧ (onReg (held .control .lead)).part.reg.record.state ≠ .quiet) := by
  unfold Quiescent
  decide +kernel

/-- A STATION image of one SENSOR, written out from R201. -/
def stationImage : List Byte :=
  [0x50, 0x53, 0x32, 0x31, 0x34, 0x30, 1, 1, 0, 2, 1, 0xFF, 0xFF, 0xFF, 0xFF, 0xFF] ++ [10, 1, 0, 0xFF] ++
  List.replicate 380 0xFF

theorem test_stationImage : parseTable .stations stationImage = some (.stations ⟨2, [⟨10, .sensor, 0⟩]⟩) := by
  decide +kernel

/-- An image that passes every check, and one that fails each of IDENTITY, FILL, RANGE and CONFLICT but those before. -/
theorem test_met_ImagesJudged :
    (Rule.identified .control controlImage ∧ Rule.filled .control controlImage ∧ Rule.inRange .control controlImage ∧
      Rule.apart .control 22 controlImage) ∧
    ¬ Rule.identified .control (controlImage.set 7 2) ∧
    (Rule.identified .control (controlImage.set 11 0) ∧ ¬ Rule.filled .control (controlImage.set 11 0)) ∧
    (Rule.identified .control (controlImage.set 35 0) ∧ Rule.filled .control (controlImage.set 35 0) ∧
      ¬ Rule.inRange .control (controlImage.set 35 0)) ∧
    (Rule.identified .stations stationImage ∧ Rule.filled .stations stationImage ∧ Rule.inRange .stations stationImage ∧
      ¬ Rule.apart .stations 10 stationImage) := by
  refine ⟨⟨?_, ?_, ?_, trivial⟩, ?_, ⟨?_, ?_⟩, ⟨?_, ?_, fun h => absurd h.2.2.2.2.2.2.2.1 (by decide +kernel)⟩, ?_, ?_, ?_,
    fun h => h.2 0 (by decide) (by decide +kernel) (by decide +kernel)⟩
  case refine_3 =>
    show Rule.controlInRange controlImage
    unfold Rule.controlInRange
    repeat' apply And.intro
    all_goals decide +kernel
  case refine_11 =>
    show Rule.stationsInRange stationImage
    unfold Rule.stationsInRange
    decide +kernel
  all_goals
    first
    | unfold Rule.identified
      decide +kernel
    | unfold Rule.filled
      dsimp only
      decide +kernel

/-- A FAN image of one fan, written out from R201. -/
def fanImage : List Byte :=
  [0x50, 0x53, 0x32, 0x31, 0x34, 0x30, 3, 1, 0, 2, 1, 0xFF, 0xFF, 0xFF, 0xFF, 0xFF] ++
  [1, 20, 1, 23, 212, 1, 1, 4, 76, 3, 132, 11, 184, 1, 5, 40, 0, 90, 20, 0xFF] ++ List.replicate 940 0xFF

theorem test_fanImage : parseTable .fans fanImage = some (.fans ⟨2, fanTable.entries.take 1⟩) := by
  decide +kernel

/-- The small part with a store write in flight and its hold. -/
def onWrite (kind : TableKind) (image : List Byte) : State :=
  withReg { base.part.reg with storeHold := true } (onBuffer .empty (some ⟨kind, image, 50, 1⟩))

/-- A write of each kind whose tables have other shapes meets what the rebuilding asks. -/
theorem met_write (kind : TableKind) (image : List Byte) (table : Table) (parsed : parseTable kind image = some table)
    (stations : ∀ x, table = .stations x → (x.entries.map (·.address)).Nodup)
    (fans : ∀ x, table = .fans x → (x.entries.map (·.num)).Nodup) :
    let s := onWrite kind image
    Quiescent s ∧ AddressesDistinct s ∧ FansDistinct s ∧ FansNumbered s ∧ HoldWhileWriting s ∧ WriteOutsideControl s ∧
      s.part.mgmt.write = some ⟨kind, image, 50, 1⟩ := by
  refine ⟨rfl, ⟨addresses_base.1, addresses_base.2.1, addresses_base.2.2.1, addresses_base.2.2.2.1, nofun, ?_, nofun⟩,
    ⟨distinct_base.1, .nil, rfl, distinct_base.2.2.2.1, nofun, ?_, nofun⟩, numbered_base, ⟨rfl, nofun⟩, fun _ => ⟨nofun, nofun⟩, rfl⟩
  · intro w h x e
    cases Option.some.inj h
    exact stations x (Option.some.inj (parsed.symm.trans e))
  · intro w h x e
    cases Option.some.inj h
    exact fans x (Option.some.inj (parsed.symm.trans e))

/-- Writes of a STATION, a FAN and a CONTROL table; a fan that its entry keeps, one that a changed output makes new, and
one whose station is gone. -/
theorem test_met_TablesRebuilt :
    (∀ w ∈ [(TableKind.stations, stationImage), (.fans, fanImage), (.control, controlImage)],
      let s := onWrite w.1 w.2
      Quiescent s ∧ AddressesDistinct s ∧ FansDistinct s ∧ FansNumbered s ∧ HoldWhileWriting s ∧ WriteOutsideControl s ∧
        s.part.mgmt.write = some ⟨w.1, w.2, 50, 1⟩) ∧
    (∀ e ∈ fanTable.entries, Rule.configured base.part e ∧ ¬ Rule.configured base.part { e with station := 10 } ∧
      ∃ f ∈ base.part.fm.fans, f.e.num = e.num ∧ Rule.keeps f e ∧ ¬ Rule.keeps f { e with output := 3 - e.output }) ∧
    (base.part.fm.record.state ≠ .control ∧ 1 ≤ base.part.line.node.toNat ∧ base.part.line.node.toNat ≤ 239 ∧
      base.part.line.portA.state = .up ∧ base.part.line.own = []) := by
  refine ⟨?_, ?_, by decide +kernel⟩
  · simp only [List.forall_mem_cons, List.not_mem_nil, false_imp_iff, implies_true, and_true]
    exact ⟨met_write _ _ _ test_stationImage (by rintro x ⟨⟩; decide) nofun,
      met_write _ _ _ test_fanImage nofun (by rintro x ⟨⟩; decide), met_write _ _ _ test_controlImage nofun nofun⟩
  · have zones : ∀ e ∈ fanTable.entries, ∃ z ∈ sectionTable.zones, z.num = e.zone := by decide
    have stations : ∀ e ∈ fanTable.entries, (∃ r ∈ base.part.disp.stations, r.address = e.station ∧ r.role = .fanStation) ∧
        ¬ ∃ r ∈ base.part.disp.stations, r.address = 10 ∧ r.role = .fanStation := by decide +kernel
    have kept : ∀ e ∈ fanTable.entries, ∃ f ∈ base.part.fm.fans, f.e.num = e.num ∧
        (f.state ≠ .unconfigured ∧ f.e.station = e.station ∧ f.e.output = e.output ∧ f.e.zone = e.zone) ∧
        f.e.output ≠ 3 - e.output := by decide +kernel
    intro e mem
    obtain ⟨f, hf, num, same, other⟩ := kept e mem
    exact ⟨⟨(stations e mem).1, _, rfl, zones e mem⟩, fun h => (stations e mem).2 h.1, f, hf, num, same,
      fun h => other h.2.2.1⟩

theorem test_met_IsolateAndAdmit :
    Quiescent (fanIn (.empty .quiet) .failed) ∧
    ((fanIn (.empty .quiet) .failed).part.fm.fans.find? fun x => x.e.num == (1 : Byte).toNat).map (·.state) =
      some .failed ∧
    (base.part.fm.fans.find? fun x => x.e.num == (2 : Byte).toNat).map (·.state) = some .unknown ∧
    (instrument? (onInstruments .rejected 0 none .unknown).part ⟨.velocity, (1 : Byte).toNat⟩).map (·.state) =
      some .rejected ∧
    (instrument? base.part ⟨.opacity, (1 : Byte).toNat⟩).map (·.state) = some .qualifying ∧
    (∀ b ∈ [true, false], Quiescent (onIsolated b) ∧
      ((onIsolated b).part.fm.fans.find? fun x => x.e.num == (1 : Byte).toNat).map
        (fun f => (f.state, f.mgrIso, f.reportIso)) = some (.isolated, true, b) ∧
      ∀ r ∈ (onIsolated b).part.fm.reach, r.station = 20 → r.state ≠ .unreachable) := by
  unfold Quiescent
  decide +kernel

/-- The small part in CLEARING with one order record, no fan holding the clearing open. -/
def inClearing : State :=
  on fun p => { p with reg := held .clearing .lead, fm := { p.fm with record := incident .clearing .lead },
                       ord := { p.ord with records := [order .query .sent], tags := [⟨20, 0, .busy, none⟩] } }

theorem test_met_RestartActs :
    Quiescent base ∧ AddressesDistinct base ∧ FansDistinct base ∧ FansNumbered base ∧ Quiescent inClearing ∧
    inClearing.part.fm.record.state = .clearing ∧ inClearing.part.ord.records ≠ [] ∧
    ∀ f ∈ inClearing.part.fm.fans, ¬ Rule.holdsOpen f := by
  refine ⟨rfl, addresses_base, distinct_base, numbered_base, rfl, rfl, nofun, ?_⟩
  unfold Rule.holdsOpen
  decide +kernel

/-- There a RESTART makes the end-of-clearing report, leaves the Register and the Coordinator as they stand and sends
no bulletin (R187); the report is due. -/
theorem test_restartInClearing : ∃ t, exec (.restart ⟨50, 7, []⟩ 1) inClearing = .next t ∧
    t.part.reg = inClearing.part.reg ∧ t.part.coord = inClearing.part.coord ∧ t.part.fm.clearingSent = true ∧
    dueExpiries t.part = [.clearingEndReport] ∧ (t.part.line.own.any fun e => e.cls == .bulletin) = false :=
  ⟨_, rfl, by decide +kernel⟩

/-- A slot that is VALID, its image's sum its checksum. -/
def validSlot (image : List Byte) : StoreSlot := ⟨.valid, image, BitVec.ofNat 16 (image.map BitVec.toNat).sum⟩

/-- Three slots that pass, the STATION table not naming the address on the straps; one of a failed checksum, a WRITING
one, and a STATION table that names it. -/
theorem test_met_PowerOnReset :
    (∀ image ∈ [stationImage, fanImage, controlImage],
      (validSlot image).state = .valid ∧ ((validSlot image).image.map BitVec.toNat).sum % 65536 =
        (validSlot image).checksum.toNat) ∧
    (∀ e ∈ ([⟨10, .sensor, 0⟩] : List StationEntry), e.address ≠ (22 : Byte).toNat) ∧
    (controlImage.map BitVec.toNat).sum % 65536 ≠ ({ validSlot controlImage with checksum := 0 }).checksum.toNat ∧
    ({ validSlot fanImage with state := .writing }).state ≠ .valid ∧
    (∃ e ∈ ([⟨10, .sensor, 0⟩] : List StationEntry), e.address = (10 : Byte).toNat) := by
  decide +kernel

/-! #### Frames and invariants -/

theorem test_met_CommandsLeaveBlocks :
    Quiescent base ∧ (∃ t, exec .storeWriteEnd base = .next t) ∧ ∀ b, Instr.storeWriteEnd ≠ .powerOnReset b :=
  ⟨rfl, ⟨_, rfl⟩, fun _ => Instr.noConfusion⟩

theorem test_met_FanAndOrderFrame :
    Quiescent base ∧ base.part.fm.record.state ≠ .clearing ∧ ∃ t, exec (.demandUpdate 0) base = .next t :=
  ⟨rfl, by decide +kernel, ⟨_, rfl⟩⟩

/-- The small part with a bad start waiting takes a step. -/
theorem test_step : ∃ t, step { base with pending := [.badStart .a] } = .next t := ⟨_, rfl⟩

theorem test_met_StepKeepsEventsWhole :
    Quiescent { base with pending := [.badStart .a] } ∧ HealthFormed { base with pending := [.badStart .a] } ∧
    InstrumentsNumbered { base with pending := [.badStart .a] } ∧
    ZoneTempsListed { base with pending := [.badStart .a] } := by
  unfold Quiescent HealthFormed InstrumentsNumbered ZoneTempsListed
  decide +kernel

theorem test_met_StepKeepsLineBounded :
    let s : State := { onQueue [telegram 41 40 0x32 1 []] 4 [waiting .bulletin 0] with pending := [.badStart .a] }
    let t : State := { s with part := { s.part with line := { s.part.line with nextPlace := 1 } } }
    LineBounded t ∧ OwnQueueOrdered t := by
  unfold LineBounded OwnQueueOrdered PortBounded PortQuiet
  decide +kernel

theorem test_met_StepKeepsIncidentWhole :
    RecordWhole (onReg { held .control .lead with detection := sixteen }) ∧
    DetectionBounded (onReg { held .control .lead with detection := sixteen }) ∧
    HoldWhileWriting (onReg { held .control .lead with detection := sixteen }) ∧
    (let s := withReg { held .declared .lead with storeHold := true } (onWrite .control controlImage)
     HoldWhileWriting s ∧ WriteOutsideControl s ∧ s.part.mgmt.write ≠ none) := by
  unfold RecordWhole DetectionBounded HoldWhileWriting WriteOutsideControl Holding
  decide +kernel

theorem test_met_StepKeepsControlAtRest :
    ControllerAtRest (onLaw .localMode .held .lost) ∧ LeadViewJudged (onLaw .localMode .held .lost) ∧
    ControllerAtRest base ∧ AddressesDistinct base := by
  refine ⟨?_, rfl, ?_, addresses_base⟩ <;> unfold ControllerAtRest <;> decide +kernel

/-- Fan 1 STOPPED, configured and the start queue naming it, in CONTROL. -/
theorem test_met_StepKeepsFansAndPool :
    let s := fanIn (incident .control .lead) .stopped
    let m : FanManager := { s.part.fm with queue := [1] }
    let t : State := { s with part := { s.part with fm := { m with a := Rule.available m, r := Rule.running m } } }
    (ThrustFormed t ∧ QueueEligible t ∧ PoolBounded t) ∧ FansDistinct (onPreference .stopped) ∧
      FansNumbered (onPreference .stopped) := by
  refine ⟨?_, distinct_onPreference _, numbered_onPreference _⟩
  unfold ThrustFormed QueueEligible PoolBounded
  decide +kernel

end Sys2Proof.Tests
end

section
/-! PROOFS. The output arbiter (R14): which own telegram it takes, what it chooses at a port, and the run count of a port
that enters UP. -/

namespace Sys2Proof.Machine

/-! ### The events -/

theorem exec_outputArbiterChoice (i : PortId) (s : State) (quiet : Quiescent s) :
    exec (.outputArbiterChoice i) s = nextPart s (arbitrate i s.part) :=
  (arbitrate_ofLine i s.part).next quiet

theorem exec_qualificationTimerExpiry (i : PortId) (s : State) (quiet : Quiescent s) :
    exec (.qualificationTimerExpiry i) s = nextPart s (qualify i s.part) :=
  (qualify_ofLine i s.part).next quiet

theorem port_raise (f : EventFlag) (p : Part) (i : PortId) : (raise f p).port i = p.port i := rfl

/-! ### The own telegram taken -/

theorem isFanOrder_iff (e : OwnEntry) : isFanOrder e = true ↔ ∃ station tag, e.cls = .fanOrder station tag := by
  unfold isFanOrder
  cases e.cls <;> simp

/-- The first entry that satisfies `k` stands behind entries that do not. -/
theorem find?_of_split {k : OwnEntry → Bool} {own pre post : List OwnEntry} {e : OwnEntry}
    (split : own = pre ++ e :: post) (holds : k e = true) (first : ∀ x ∈ pre, ¬ k x = true) :
    own.find? k = some e :=
  List.find?_eq_some_iff_append.mpr ⟨holds, pre, post, split, by simpa using first⟩

/-- The three searches of R14, over the whole own queue. -/
theorem pickOwn_eq (i : PortId) (l : LineInterface) :
    pickOwn i l =
      ((l.own.find? fun e => onPortSet i e && isFanOrder e).or
        ((l.own.find? fun e => onPortSet i e && e.cls == .bulletin).or (l.own.find? (onPortSet i)))) := by
  unfold pickOwn
  simp only [List.find?_filter, List.head?_filter, Bool.decide_and, Bool.decide_eq_true]
  cases l.own.find? fun e => onPortSet i e && isFanOrder e with
  | some e => rfl
  | none =>
    cases l.own.find? fun e => onPortSet i e && e.cls == .bulletin with
    | some e => rfl
    | none => rfl

theorem pickOwn_eq_none_iff (i : PortId) (l : LineInterface) :
    pickOwn i l = none ↔ ∀ e ∈ l.own, ¬ onPortSet i e = true := by
  simp only [pickOwn_eq, Option.or_eq_none_iff, List.find?_eq_none]
  constructor
  · exact fun ⟨_, _, idle⟩ => idle
  · exact fun idle => ⟨fun e mem => by simp [idle e mem], fun e mem => by simp [idle e mem], idle⟩

section
variable {i : PortId} {l : LineInterface} {pre post : List OwnEntry} {e : OwnEntry}

theorem pickOwn_fanOrder (split : l.own = pre ++ e :: post) (waits : onPortSet i e = true)
    (order : isFanOrder e = true) (first : ∀ x ∈ pre, ¬ (onPortSet i x = true ∧ isFanOrder x = true)) :
    pickOwn i l = some e := by
  rw [pickOwn_eq, find?_of_split split (by simp [waits, order]) (by simpa using first)]
  rfl

theorem pickOwn_bulletin (split : l.own = pre ++ e :: post) (waits : onPortSet i e = true)
    (noOrder : ∀ x ∈ l.own, ¬ (onPortSet i x = true ∧ isFanOrder x = true)) (bulletin : e.cls = .bulletin)
    (first : ∀ x ∈ pre, ¬ (onPortSet i x = true ∧ x.cls = .bulletin)) : pickOwn i l = some e := by
  have orders : (l.own.find? fun x => onPortSet i x && isFanOrder x) = none :=
    List.find?_eq_none.mpr (by simpa using noOrder)
  rw [pickOwn_eq, orders, find?_of_split split (by simp [waits, bulletin]) (by simpa using first)]
  rfl

theorem pickOwn_oldest (split : l.own = pre ++ e :: post) (waits : onPortSet i e = true)
    (noOrder : ∀ x ∈ l.own, ¬ (onPortSet i x = true ∧ isFanOrder x = true))
    (noBulletin : ∀ x ∈ l.own, ¬ (onPortSet i x = true ∧ x.cls = .bulletin))
    (first : ∀ x ∈ pre, ¬ onPortSet i x = true) : pickOwn i l = some e := by
  have orders : (l.own.find? fun x => onPortSet i x && isFanOrder x) = none :=
    List.find?_eq_none.mpr (by simpa using noOrder)
  have bulletins : (l.own.find? fun x => onPortSet i x && x.cls == .bulletin) = none :=
    List.find?_eq_none.mpr (by simpa using noBulletin)
  rw [pickOwn_eq, orders, bulletins, find?_of_split split waits first]
  rfl

end

/-! ### The choice at a port -/

section
variable {i : PortId} {p : Part}

theorem arbitrate_of_not_free (busy : (p.port i).state ≠ .up ∨ (p.port i).sending ≠ none) : arbitrate i p = p := by
  unfold arbitrate
  dsimp only
  rw [if_neg (by simpa using not_and_or.mpr busy)]

theorem arbitrate_of_none_waiting (up : (p.port i).state = .up) (free : (p.port i).sending = none)
    (idle : pickOwn i p.line = none) :
    arbitrate i p =
      p.onPort i fun q => if q.forward = [] then q else { q with sending := some .forwarded, runCount := 0 } := by
  by_cases empty : (p.port i).forward = []
  · have nothing : arbitrate i p = p := by simp [arbitrate, up, free, idle, empty]
    rw [nothing]
    exact (onPort_same p i (fun q => if q.forward = [] then q else _) (if_pos empty)).symm
  · have forwards : arbitrate i p = p.onPort i fun q => { q with sending := some .forwarded, runCount := 0 } := by
      simp [arbitrate, up, free, idle, empty]
    rw [forwards]
    exact onPort_congr p i _ _ (if_neg empty).symm

theorem arbitrate_of_run_open {e : OwnEntry} (up : (p.port i).state = .up) (free : (p.port i).sending = none)
    (pick : pickOwn i p.line = some e) (some_forward : (p.port i).forward ≠ []) (run : (p.port i).runCount < 4) :
    arbitrate i p = p.onPort i fun q => { q with sending := some .forwarded, runCount := q.runCount + 1 } := by
  simp [arbitrate, up, free, pick, some_forward, run]

theorem arbitrate_of_own_turn {e : OwnEntry} (up : (p.port i).state = .up) (free : (p.port i).sending = none)
    (pick : pickOwn i p.line = some e) (turn : (p.port i).forward = [] ∨ 4 ≤ (p.port i).runCount) :
    arbitrate i p = p.onPort i fun q => { q with sending := some (.own e.telegram e.place), runCount := 0 } := by
  simp [arbitrate, up, free, pick, turn]

/-- A port that the qualification timer takes into UP enters it with run count 0. -/
theorem runCount_of_qualify (before : (p.port i).state ≠ .up) (up : ((qualify i p).port i).state = .up) :
    ((qualify i p).port i).runCount = 0 := by
  unfold qualify at up ⊢
  split at up
  · next entered =>
    rw [if_pos entered, port_raise, port_onPort]
  · exact absurd up before

end

/-! ### The obligation -/

/-- Settles O11, from the arbiter's choice in each case and the entry to UP. -/
theorem arbiterChoice : Obligations.ArbiterChoice := by
  unfold Obligations.ArbiterChoice
  intro i s quiet q waits order becomes
  have waits_iff (e : OwnEntry) : waits e ↔ onPortSet i e = true := by
    unfold waits onPortSet
    cases i <;> exact Iff.rfl
  have becomes_of {f : Port → Port} (choice : arbitrate i s.part = s.part.onPort i f) : becomes f :=
    (exec_outputArbiterChoice i s quiet).trans (congrArg (nextPart s) choice)
  refine ⟨fun busy => ?notFree, fun up free => ⟨fun idle => ?noneWaits, ?forwarded, ?own⟩, ?entersUp⟩
  case notFree =>
    exact becomes_of ((arbitrate_of_not_free busy).trans (onPort_same _ i id rfl).symm)
  case noneWaits =>
    have none_picked : pickOwn i s.part.line = none :=
      (pickOwn_eq_none_iff i _).mpr fun e mem => mt (waits_iff e).mpr (idle e mem)
    exact becomes_of (arbitrate_of_none_waiting up free none_picked)
  case forwarded =>
    rintro ⟨e, mem, e_waits⟩ some_forward run
    have picked : pickOwn i s.part.line ≠ none := fun none_picked =>
      (pickOwn_eq_none_iff i _).mp none_picked e mem ((waits_iff e).mp e_waits)
    obtain ⟨o, pick⟩ := Option.ne_none_iff_exists'.mp picked
    exact becomes_of (arbitrate_of_run_open up free pick some_forward run)
  case own =>
    intro pre e post split e_waits turn foremost
    have pick : pickOwn i s.part.line = some e := by
      simp only [order, waits_iff, ← isFanOrder_iff] at e_waits foremost
      obtain ⟨e_order, first⟩ | ⟨noOrder, ⟨e_bulletin, first⟩ | ⟨noBulletin, first⟩⟩ := foremost
      · exact pickOwn_fanOrder split e_waits e_order first
      · exact pickOwn_bulletin split e_waits noOrder e_bulletin first
      · exact pickOwn_oldest split e_waits noOrder noBulletin first
    exact becomes_of (arbitrate_of_own_turn up free pick turn)
  case entersUp =>
    intro t before expiry up
    rw [exec_qualificationTimerExpiry i s quiet] at expiry
    obtain rfl : { s with part := formHealth (qualify i s.part) } = t := Host.Outcome.next.inj expiry
    exact runCount_of_qualify before up

end Sys2Proof.Machine
end

section
/-! PROOFS. The returns to QUIET (R68, R82): what handing a record on leaves of the Register and of the Measurement Unit,
what the Register holds after it has put a record, and the end of the event. -/

namespace Sys2Proof.Machine

/-! ### The Incident Register and the Measurement Unit left as they are -/

/-- The Incident Register and the Measurement Unit of `p` stand in `q`. -/
structure RegMeasKept (p q : Part) : Prop where
  reg  : q.reg = p.reg
  meas : q.meas = p.meas

theorem RegMeasKept.refl (p : Part) : RegMeasKept p p := ⟨rfl, rfl⟩

theorem RegMeasKept.trans {p q r : Part} (h : RegMeasKept p q) (k : RegMeasKept q r) : RegMeasKept p r :=
  ⟨k.reg.trans h.reg, k.meas.trans h.meas⟩

theorem RegMeasKept.after {p q r : Part} (k : RegMeasKept q r) (h : RegMeasKept p q) : RegMeasKept p r := h.trans k

theorem RegMeasKept.ite {p : Part} {c : Prop} [Decidable c] {a b : Part} (ha : RegMeasKept p a)
    (hb : RegMeasKept p b) : RegMeasKept p (if c then a else b) := by
  split
  · exact ha
  · exact hb

theorem FmStep.regMeasKept {p q : Part} (h : FmStep p q) : RegMeasKept p q := by
  constructor <;> rw [h.rest]

theorem OrderStep.regMeasKept {p q : Part} (h : OrderStep p q) : RegMeasKept p q := by
  constructor <;> rw [h.rest]

theorem ctl_regMeasKept (c : AirflowController) (p : Part) : RegMeasKept p { p with ctl := c } := ⟨rfl, rfl⟩

theorem coord_regMeasKept (c : SectionCoordinator) (p : Part) : RegMeasKept p { p with coord := c } := ⟨rfl, rfl⟩

/-! ### A record taken by the controller, the Coordinator and the Fan Manager (R62) -/

theorem formDemand_regMeasKept (c : ComputeStart) (p : Part) : RegMeasKept p (formDemand c p) := by
  unfold formDemand
  extract_lets own period
  split
  · exact RegMeasKept.refl p
  all_goals exact ctl_regMeasKept _ p

theorem compute_regMeasKept (c : ComputeStart) (p : Part) : RegMeasKept p (compute c p) :=
  RegMeasKept.ite (RegMeasKept.refl p)
    ((takeDemand_step _ _).toFmStep.regMeasKept.after (formDemand_regMeasKept c p))

theorem periodExpires_regMeasKept (p : Part) : RegMeasKept p (periodExpires p) :=
  RegMeasKept.ite (compute_regMeasKept _ p) (RegMeasKept.refl p)

theorem takeShareMode_regMeasKept (p : Part) : RegMeasKept p (takeShareMode p) := by
  unfold takeShareMode
  dsimp only
  split <;> exact ctl_regMeasKept _ p

theorem takeMode_regMeasKept (p : Part) : RegMeasKept p (takeMode p) := by
  unfold takeMode
  split
  · exact ctl_regMeasKept _ p
  · exact ctl_regMeasKept _ p
  all_goals exact takeShareMode_regMeasKept p

theorem firstEntry_regMeasKept (p : Part) : RegMeasKept p (firstEntry p) :=
  ((compute_regMeasKept _ _).after (takeMode_regMeasKept _)).after (ctl_regMeasKept _ p)

theorem resumeControl_regMeasKept (p : Part) : RegMeasKept p (resumeControl p) :=
  (compute_regMeasKept _ _).after (takeMode_regMeasKept p)

theorem changeRole_regMeasKept (old : IncidentRole) (p : Part) : RegMeasKept p (changeRole old p) := by
  have computed (c : ComputeStart) (a : AirflowController) : RegMeasKept p (compute c { p with ctl := a }) :=
    (compute_regMeasKept _ _).after (ctl_regMeasKept _ p)
  unfold changeRole
  split
  -- LEAD gives way to FOLLOWER
  case h_7 => exact ((compute_regMeasKept _ _).after (takeShareMode_regMeasKept _)).after (ctl_regMeasKept _ p)
  -- no change of role that R103 names
  case h_9 => exact RegMeasKept.refl p
  all_goals exact computed _ _

theorem ctlTakeRecord_regMeasKept (h : RecordHandOn) (p : Part) : RegMeasKept p (ctlTakeRecord h p) := by
  unfold ctlTakeRecord
  extract_lets old new m0 p1 m1 p2 p3
  have taken : RegMeasKept p p2 :=
    (RegMeasKept.ite (ctl_regMeasKept _ p1) (RegMeasKept.refl p1)).after (ctl_regMeasKept _ p)
  refine RegMeasKept.ite ?inControl ?elsewhere
  case inControl =>
    split
    · exact (firstEntry_regMeasKept p2).after taken
    · exact (resumeControl_regMeasKept p2).after taken
    · exact (changeRole_regMeasKept _ p2).after taken
  case elsewhere =>
    have departed : RegMeasKept p p3 := (ctl_regMeasKept _ p2).after taken
    exact RegMeasKept.ite ((ctl_regMeasKept _ p3).after departed) departed

theorem ctlMeetsRecord_regMeasKept (h : RecordHandOn) (p : Part) : RegMeasKept p (ctlMeetsRecord h p) := by
  have chosen : RegMeasKept p (choose 2 p).2 := ⟨rfl, rfl⟩
  refine RegMeasKept.ite (((ctlTakeRecord_regMeasKept h _).after ?expiry).after chosen) (ctlTakeRecord_regMeasKept h p)
  exact RegMeasKept.ite (RegMeasKept.refl _) (periodExpires_regMeasKept _)

theorem judgeLead_regMeasKept (p : Part) : RegMeasKept p (judgeLead p) := by
  unfold judgeLead
  extract_lets c cs lead own conflict p1
  have judged : RegMeasKept p p1 := coord_regMeasKept _ p
  exact RegMeasKept.ite ((report_step _ _ p1).toFmStep.regMeasKept.after judged) judged

theorem sendBulletin_regMeasKept (p : Part) : RegMeasKept p (sendBulletin p) := by
  unfold sendBulletin
  extract_lets p1 p2
  have queued : RegMeasKept p1 p2 := (queueOwn_step _ p1).regMeasKept
  exact ((coord_regMeasKept _ p2).after queued).after ⟨rfl, rfl⟩

theorem coordTakeRecord_regMeasKept (h : RecordHandOn) (p : Part) : RegMeasKept p (coordTakeRecord h p) := by
  unfold coordTakeRecord
  extract_lets changed m0 p1 p2
  have judged : RegMeasKept p p2 :=
    (RegMeasKept.ite (judgeLead_regMeasKept p1) (RegMeasKept.refl p1)).after (coord_regMeasKept _ p)
  exact RegMeasKept.ite ((sendBulletin_regMeasKept p2).after judged) judged

/-- Whatever the order in which the three blocks take a record, none of them writes the Register or the Measurement
Unit. -/
theorem deliverRecord_regMeasKept (h : RecordHandOn) (p : Part) : RegMeasKept p (deliverRecord h p) := by
  have chosen : RegMeasKept p (choose 6 p).2 := ⟨rfl, rfl⟩
  have f (q : Part) : RegMeasKept q (fansTakeRecord h q) := (fansTakeRecord_step h q).regMeasKept
  have c := ctlMeetsRecord_regMeasKept h
  have s := coordTakeRecord_regMeasKept h
  unfold deliverRecord
  dsimp only
  split
  · exact (((s _).after (c _)).after (f _)).after chosen
  · exact (((c _).after (s _)).after (f _)).after chosen
  · exact (((s _).after (f _)).after (c _)).after chosen
  · exact (((f _).after (s _)).after (c _)).after chosen
  · exact (((c _).after (f _)).after (s _)).after chosen
  · exact (((f _).after (c _)).after (s _)).after chosen

/-! ### QUIET entered -/

/-- A zone whose alarm has been cleared is not in ALARM (R54). -/
theorem clearAlarm_state_ne_alarm (z : ZoneRec) : (clearAlarm z).state ≠ .alarm := by
  unfold clearAlarm
  split
  · dsimp only
    split <;> exact ZoneState.noConfusion
  · next other => simpa using other

theorem clearAlarms_zones_ne_alarm (p : Part) : ∀ z ∈ (clearAlarms p).meas.zones, z.state ≠ .alarm := by
  intro z mem
  obtain ⟨y, -, rfl⟩ := List.mem_map.mp mem
  exact clearAlarm_state_ne_alarm y

theorem raise_flags_and_flagBit (f : EventFlag) (p : Part) : (raise f p).fc.flags &&& flagBit f = flagBit f := by
  rw [raise_fc, BitVec.and_comm, BitVec.or_comm]
  exact flagsKept_or _ _

/-- The part as the Register goes over to QUIET from another state, its record emptied and not yet handed on. -/
def recordEmptied (p : Part) : Part :=
  clearAlarms (raise .incidentChange { p with reg := { p.reg with
    record := .empty .quiet, detection := [], autoDeclare := none, leadWait := none, entry := none } })

theorem enterQuiet_eq {p : Part} (left : p.reg.record.state ≠ .quiet) :
    enterQuiet p = deliverRecord ⟨p.reg.record.state, .empty .quiet, none⟩ (recordEmptied p) := by
  have changed : (p.reg.record.state != .quiet) = true := by simpa using left
  simp [enterQuiet, putRecord, isHandedOn, markControlled, entryKind, IncidentRecord.empty, recordEmptied, raise, changed]

section
variable {p : Part}

theorem enterQuiet_regMeasKept (left : p.reg.record.state ≠ .quiet) : RegMeasKept (recordEmptied p) (enterQuiet p) := by
  rw [enterQuiet_eq left]
  exact deliverRecord_regMeasKept _ _

theorem enterQuiet_flagsKept (left : p.reg.record.state ≠ .quiet) :
    FlagsKept (recordEmptied p).fc.flags (enterQuiet p).fc.flags := by
  rw [enterQuiet_eq left]
  exact (deliverRecord_event _ _).flags

end

/-! ### The end of the event -/

/-- A hand-on taken where the Register is not in CLEARING: an order request is no affair of the Register, and an
end-of-clearing report is ignored (R82). -/
theorem takeHandOn_regMeasKept (h : HandOn) (p : Part) (state : p.reg.record.state ≠ .clearing) :
    RegMeasKept p (takeHandOn h p) := by
  cases h with
  | orderRequest n kind => exact (requestOrder_step n kind p).regMeasKept
  | clearingEnd =>
    have ignored : takeClearingEnd p = p := if_neg (by simpa using state)
    rw [show takeHandOn .clearingEnd p = p from ignored]
    exact RegMeasKept.refl p

theorem settle_regMeasKept (n : Nat) (p : Part) (state : p.reg.record.state ≠ .clearing) :
    RegMeasKept p (settle takeHandOn n p) := by
  induction n generalizing p with
  | zero => exact RegMeasKept.refl p
  | succ n ih =>
    unfold settle
    split
    · exact RegMeasKept.refl p
    · next h rest _ =>
      have taken := takeHandOn_regMeasKept h { p with handOns := rest } state
      exact ((ih _ (by rw [taken.reg]; exact state)).after taken).after ⟨rfl, rfl⟩

theorem finish_regMeasKept (p : Part) (state : p.reg.record.state ≠ .clearing) : RegMeasKept p (finish p) :=
  (settle_regMeasKept settleBound p state).trans ⟨rfl, rfl⟩

/-- What holds when an event that enters QUIET from another state is over: the Register emptied, INCIDENT_CHANGE
raised and no zone in ALARM. -/
theorem finish_enterQuiet {p : Part} (left : p.reg.record.state ≠ .quiet) :
    (finish (enterQuiet p)).reg = { p.reg with
      record := .empty .quiet, detection := [], autoDeclare := none, leadWait := none, entry := none } ∧
    (finish (enterQuiet p)).fc.flags &&& 0x0200 = 0x0200 ∧
    ∀ z ∈ (finish (enterQuiet p)).meas.zones, z.state ≠ .alarm := by
  have entered := enterQuiet_regMeasKept left
  have quiet : (enterQuiet p).reg.record.state ≠ .clearing := by
    rw [entered.reg]
    exact IncidentState.noConfusion
  have ended : RegMeasKept (recordEmptied p) (finish (enterQuiet p)) := (finish_regMeasKept _ quiet).after entered
  have raised : (recordEmptied p).fc.flags &&& 0x0200 = 0x0200 := raise_flags_and_flagBit .incidentChange _
  refine ⟨ended.reg, ?flag, ?zones⟩
  case flag => exact ((enterQuiet_flagsKept left).trans (finish_event _).flags).of_mask raised
  case zones =>
    rw [ended.meas]
    exact clearAlarms_zones_ne_alarm _

/-! ### The events -/

section
variable {s : State}

theorem exec_cancelAlert_of_alert (n : Notice) (alert : s.part.reg.record.state = .alert) :
    exec (.cancelAlert n) s = .next { s with part := finish (enterQuiet (acceptNotice s.part)) } := by
  have judged : judgeCancel s.part = enterQuiet (acceptNotice s.part) := by simp [judgeCancel, alert]
  exact judged ▸ rfl

theorem exec_cancelAlert_of_not_alert (n : Notice) (quiet : Quiescent s) (state : s.part.reg.record.state ≠ .alert) :
    exec (.cancelAlert n) s = nextPart s (refuseNotice .wrongState s.part) := by
  have judged : judgeCancel s.part = refuseNotice .wrongState s.part := by
    unfold judgeCancel
    split
    · next alert => exact absurd alert state
    · rfl
  have none_waits : (judgeCancel s.part).handOns = [] := by rw [judged]; exact quiet
  calc exec (.cancelAlert n) s
    _ = nextPart s (judgeCancel s.part) := nextWith_of_quiet judgeCancel s none_waits
    _ = nextPart s (refuseNotice .wrongState s.part) := by rw [judged]

theorem exec_clearingEndReport_of_clearing (clearing : s.part.reg.record.state = .clearing) :
    exec .clearingEndReport s = .next { s with
      part := finish (enterQuiet { s.part with reg := { s.part.reg with lastCleared := s.part.reg.record.id } }) } := by
  have taken : takeClearingEnd s.part =
      enterQuiet { s.part with reg := { s.part.reg with lastCleared := s.part.reg.record.id } } :=
    if_pos (by simpa using clearing)
  exact taken ▸ rfl

theorem exec_clearingEndReport_of_not_clearing (quiet : Quiescent s) (state : s.part.reg.record.state ≠ .clearing) :
    exec .clearingEndReport s = nextPart s s.part := by
  have ignored : takeClearingEnd s.part = s.part := if_neg (by simpa using state)
  have none_waits : (takeClearingEnd s.part).handOns = [] := by rw [ignored]; exact quiet
  calc exec .clearingEndReport s
    _ = nextPart s (takeClearingEnd s.part) := nextWith_of_quiet takeClearingEnd s none_waits
    _ = nextPart s s.part := by rw [ignored]

end

/-! ### The obligation -/

/-- Settles O27, from the entry to QUIET, which both events make, and the states in which they make none. -/
theorem returnToQuiet : Obligations.ReturnToQuiet := by
  unfold Obligations.ReturnToQuiet
  refine ⟨fun n s quiet => ⟨fun alert => ?cancelled, exec_cancelAlert_of_not_alert n quiet⟩,
    fun s quiet => ⟨fun clearing => ?ended, exec_clearingEndReport_of_not_clearing quiet⟩⟩
  case cancelled =>
    have left : (acceptNotice s.part).reg.record.state ≠ .quiet := by simp [alert]
    obtain ⟨reg, -, zones⟩ := finish_enterQuiet left
    refine ⟨_, exec_cancelAlert_of_alert n alert, ?_⟩
    dsimp only
    rw [reg]
    exact ⟨rfl, rfl, rfl, rfl, rfl, zones⟩
  case ended =>
    have left : s.part.reg.record.state ≠ .quiet := by simp [clearing]
    obtain ⟨reg, flag, zones⟩ :=
      finish_enterQuiet (p := { s.part with reg := { s.part.reg with lastCleared := s.part.reg.record.id } }) left
    refine ⟨_, exec_clearingEndReport_of_clearing clearing, reg, ?_, zones⟩
    dsimp only
    rw [flag]
    decide

end Sys2Proof.Machine
end

section
/-! PROOFS. Fault Capture (10): the health after every command (R193), the event flags (R192), and CLEAR_FAULT with the
fault reports before and after it (R191). -/

namespace Sys2Proof.Machine

/-! ### The health and its cause set (R193) -/

/-- Bits read from the most significant down: the bit of weight `2 ^ i` is the `i`-th from the end. -/
theorem testBit_foldl_bits (c : List Bool) (i : Nat) :
    (c.foldl (fun (acc : Nat) (b : Bool) => 2 * acc + (if b then 1 else 0)) 0).testBit i =
      c.reverse.getD i false := by
  induction c using List.reverseRecOn generalizing i with
  | nil => simp
  | append_singleton c b ih =>
    have last (n : Nat) : 2 * n + (if b then 1 else 0) = Nat.bit b n := by cases b <;> rfl
    rw [List.foldl_append, List.foldl_cons, List.foldl_nil, last, List.reverse_append]
    cases i with
    | zero => simp
    | succ i => simpa [Nat.testBit_bit_succ] using ih i

theorem causesOf_getLsbD_zero (c : List Bool) : (causesOf c).getLsbD 0 = false := by
  unfold causesOf
  rw [BitVec.getLsbD_ofNat]
  simp

theorem causesOf_getLsbD_succ (c : List Bool) (i : Nat) (inByte : i < 7) :
    (causesOf c).getLsbD (i + 1) = c.reverse.getD i false := by
  unfold causesOf
  rw [BitVec.getLsbD_ofNat, ← testBit_foldl_bits, Nat.testBit_succ, Nat.mul_div_cancel_left _ Nat.two_pos,
    decide_eq_true (Nat.succ_lt_succ inByte), Bool.true_and]

theorem healthOf_eq_impaired_iff (c : List Bool) : healthOf c = .impaired ↔ true ∈ c.take 3 := by
  unfold healthOf
  split
  · next graded => simpa using graded
  · next graded =>
    split <;> simpa using graded

theorem healthOf_eq_normal_iff (c : List Bool) : healthOf c = .normal ↔ true ∉ c := by
  unfold healthOf
  split
  · next graded =>
    have some_holds : true ∈ c.take 3 := by simpa using graded
    simpa using List.mem_of_mem_take some_holds
  · split
    · next graded => simpa using graded
    · next graded => simpa using graded

/-- The seven conditions as R193's table words them. -/
theorem healthConditions_eq (p : Part) : healthConditions p =
    [decide (p.mgmt.stations = none ∨ p.mgmt.sections = none ∨ p.mgmt.fans = none ∨ p.mgmt.control = none),
     decide (p.line.portA.state ≠ .up ∧ p.line.portB.state ≠ .up),
     decide (p.reg.record.state = .control ∧ p.ctl.condition = .openLoop),
     decide (∃ r, p.fc.record = some r ∧ r.cls = .hard),
     decide (p.line.portA.state ≠ .up ∨ p.line.portB.state ≠ .up),
     decide (p.meas.quality ≠ .good),
     decide (∃ f ∈ p.fm.fans, f.state = .failed ∨ f.state = .lost)] := by
  have same {b c : Bool} (h : b = true ↔ c = true) : b = c := Bool.eq_iff_iff.mpr h
  simp only [healthConditions, Part.isUp, Part.port, LineInterface.port, List.cons.injEq, and_true]
  refine ⟨same ?noTable, same ?noPort, same ?openLoop, same ?hard, same ?aPort, same ?quality, same ?fan⟩
  case hard => cases p.fc.record <;> simp
  all_goals simp [or_assoc]

/-- Settles O3: the health of every next state is formed, and each grade and cause bit reads its condition. -/
theorem healthAfterEveryCommand : Obligations.HealthAfterEveryCommand := by
  unfold Obligations.HealthAfterEveryCommand
  intro c s
  obtain ⟨t, next, pending, -, formed⟩ := exec_next c s
  refine ⟨t, next, pending, ?_⟩
  intro p noTable noPort openLoop hard aPort quality fan
  have health : p.fc.health = healthOf (healthConditions p) := congrArg (·.fc.health) formed.symm
  have causes : p.fc.causes = causesOf (healthConditions p) := congrArg (·.fc.causes) formed.symm
  have cause (i : Nat) (inByte : i < 7) :
      p.fc.causes.getLsbD (i + 1) = true ↔ (healthConditions p).reverse.getD i false = true := by
    rw [causes, causesOf_getLsbD_succ _ i inByte]
  rw [healthConditions_eq] at health cause
  refine ⟨?impaired, ?normal, (cause 6 (by decide)).trans decide_eq_true_iff,
    (cause 5 (by decide)).trans decide_eq_true_iff, (cause 4 (by decide)).trans decide_eq_true_iff,
    (cause 3 (by decide)).trans decide_eq_true_iff, (cause 2 (by decide)).trans decide_eq_true_iff,
    (cause 1 (by decide)).trans decide_eq_true_iff, (cause 0 (by decide)).trans decide_eq_true_iff, ?unused⟩
  case impaired =>
    rw [health, healthOf_eq_impaired_iff]
    simp [noTable, noPort, openLoop]
  case normal =>
    rw [health, healthOf_eq_normal_iff]
    simp [noTable, noPort, openLoop, hard, aPort, quality, fan]
  case unused =>
    rw [causes, causesOf_getLsbD_zero]

/-! ### The events -/

theorem exec_faultReport (k : FaultKind) (o : FaultObject) (s : State) (quiet : Quiescent s) :
    exec (.faultReport k o) s = nextPart s (report k o s.part) :=
  (report_ofLine k o s.part).next quiet

theorem exec_eventRaised (f : EventFlag) (s : State) (quiet : Quiescent s) :
    exec (.eventRaised f) s = nextPart s (raise f s.part) :=
  (raise_ofLine f s.part).next quiet

theorem exec_queueOwnTelegram (r : OwnRequest) (s : State) (quiet : Quiescent s) :
    exec (.queueOwnTelegram r) s = nextPart s (queueOwn r s.part) :=
  (queueOwn_ofLine r s.part).next quiet

/-! ### A request done and answered (R199) -/

/-- Queuing a telegram writes the line alone. -/
theorem queueOwn_eq (r : OwnRequest) (p : Part) : queueOwn r p = { p with line := (queueOwn r p).line } := by
  unfold queueOwn
  split_ifs <;> rfl

/-- Queuing a telegram reads the line alone. -/
theorem queueOwn_line_congr (r : OwnRequest) {p q : Part} (same : p.line = q.line) :
    (queueOwn r p).line = (queueOwn r q).line := by
  have addressed : p.addressed = q.addressed := by
    unfold Part.addressed Part.node
    rw [same]
  have up (i : PortId) : p.isUp i = q.isUp i := by
    unfold Part.isUp Part.port
    rw [same]
  simp only [queueOwn, addressed, up, same]
  split_ifs
  · exact same
  all_goals rfl

theorem queueOwn_withFc (r : OwnRequest) (p : Part) (fc : FaultCapture) :
    queueOwn r { p with fc := fc } = { queueOwn r p with fc := fc } := by
  have line : (queueOwn r { p with fc := fc }).line = (queueOwn r p).line := queueOwn_line_congr r rfl
  calc queueOwn r { p with fc := fc }
    _ = { p with line := (queueOwn r p).line, fc := fc } := by rw [queueOwn_eq, line]
    _ = { queueOwn r p with fc := fc } := by rw [queueOwn_eq r p]

/-- Forming the health writes Fault Capture alone. -/
theorem formHealth_eq (p : Part) : formHealth p = { p with fc := (formHealth p).fc } := rfl

theorem queueOwn_fc (r : OwnRequest) (p : Part) : (queueOwn r p).fc = p.fc := by
  rw [queueOwn_eq]

/-- The health formed before a reply is queued is the one formed after it. -/
theorem formHealth_queueOwn_formHealth (r : OwnRequest) (p : Part) :
    formHealth (queueOwn r (formHealth p)) = formHealth (queueOwn r p) := by
  rw [formHealth_eq p, queueOwn_withFc, queueOwn_eq r p]
  rfl

/-- The MGMT REPLY of a request of kind `kind` that is done without data. -/
def doneReply (kind src : Byte) (num : BitVec 16) : OwnRequest :=
  .mgmtReply src (beBytes 2 num.toNat ++ [kind, 0, 0])

theorem answer_done (kind src : Byte) (num : BitVec 16) (args : List Byte) (p : Part) (quiet : p.handOns = []) :
    answer kind ⟨src, num, args⟩ (done p) = queueOwn (doneReply kind src num) p := by
  unfold answer reply done replyPayload doneReply
  simp [settled_of_quiet p quiet]

/-- A request that is done, leaving `p` with no hand-on waiting, has its reply queued in `p`. -/
theorem nextWith_answer_done (kind src : Byte) (num : BitVec 16) (args : List Byte) (judge : Part → Judged) (s : State)
    {p : Part} (quiet : p.handOns = []) (judged : judge s.part = done p) :
    nextWith (fun q => answer kind ⟨src, num, args⟩ (judge q)) s =
      nextPart s (queueOwn (doneReply kind src num) p) := by
  have answered : answer kind ⟨src, num, args⟩ (judge s.part) = queueOwn (doneReply kind src num) p := by
    rw [judged, answer_done kind src num args p quiet]
  have none_waits : (answer kind ⟨src, num, args⟩ (judge s.part)).handOns = [] := by
    rw [answered, (queueOwn_ofLine _ p).handOns, quiet]
  rw [nextWith_of_quiet _ s none_waits, answered]

/-! ### ACK_EVENTS and CLEAR_FAULT (R191, R192, R210) -/

theorem ofNat_beNat_pair (f1 f0 : Byte) : BitVec.ofNat 16 (beNat [f1, f0]) = f1 ++ f0 := by
  have joined : (f1 ++ f0).toNat = 256 * f1.toNat + f0.toNat := by
    rw [BitVec.toNat_append, ← Nat.shiftLeft_add_eq_or_of_lt f0.isLt, Nat.shiftLeft_eq, Nat.mul_comm]
  apply BitVec.eq_of_toNat_eq
  rw [joined, BitVec.toNat_ofNat]
  simp only [beNat, List.foldl_cons, List.foldl_nil]
  omega

section
variable (src : Byte) (num : BitVec 16) {s : State}

theorem exec_ackEvents (f1 f0 : Byte) (quiet : Quiescent s) :
    exec (.ackEvents ⟨src, num, [f1, f0]⟩) s =
      nextPart s (queueOwn (doneReply 6 src num) (ackFlags (f1 ++ f0) s.part)) := by
  refine nextWith_answer_done 6 src num [f1, f0] (judgeAckEvents ⟨src, num, [f1, f0]⟩) s quiet ?_
  rw [← ofNat_beNat_pair]
  rfl

theorem exec_clearFault (quiet : Quiescent s) :
    exec (.clearFault ⟨src, num, []⟩) s = nextPart s (queueOwn (doneReply 7 src num) (clearRecord s.part)) := by
  have cleared := nextWith_answer_done 7 src num [] (judgeClearFault ⟨src, num, []⟩) s
    (p := formHealth (clearRecord s.part)) quiet rfl
  unfold nextPart at cleared ⊢
  rw [formHealth_queueOwn_formHealth] at cleared
  exact cleared

end

/-! ### The flag of an event and of a fault report (R21, R189, R192) -/

theorem flagBit_eq (f : EventFlag) : flagBit f = (0x8000 : BitVec 16) >>>
    [EventFlag.lineChange, .polarity, .instrumentOut, .pointLost, .velocityLost, .zoneAlarm, .incidentChange,
      .noticeRefused, .fanFailed, .fanLost, .orderFailed, .directionChanged, .leadLost, .tableEvent, .faultCaptured,
      .secondFault].idxOf f := by
  cases f <;> rfl

theorem judgeReport_event (held : Option FaultRecord) (new : FaultRecord) :
    (judgeReport held new).2 = none ∨ (judgeReport held new).2 = some .faultCaptured ∨
      (judgeReport held new).2 = some .secondFault := by
  unfold judgeReport
  split
  · exact .inr (.inl rfl)
  · exact .inl rfl
  · split
    · exact .inr (.inl rfl)
    · exact .inr (.inr rfl)

theorem report_flags (k : FaultKind) (o : FaultObject) (p : Part) :
    (report k o p).fc.flags = p.fc.flags ∨ (report k o p).fc.flags = p.fc.flags ||| 0x0002 ∨
      (report k o p).fc.flags = p.fc.flags ||| 0x0001 := by
  unfold report
  extract_lets new judged p1
  obtain none_raised | captured | second : judged.2 = none ∨ judged.2 = some .faultCaptured ∨
    judged.2 = some .secondFault := judgeReport_event _ _
  · rw [none_raised]
    exact .inl rfl
  · rw [captured]
    exact .inr (.inl rfl)
  · rw [second]
    exact .inr (.inr rfl)

/-- A report that meets an empty record is captured. -/
theorem report_of_empty (k : FaultKind) (o : FaultObject) {p : Part} (empty : p.fc.record = none) :
    (∃ r, (report k o p).fc.record = some r ∧ r.kind = k ∧ r.object = o) ∧
      (report k o p).fc.flags = p.fc.flags ||| 0x0002 := by
  simp [report, judgeReport, empty, flagBit]

/-- Settles O5: the flag of an event, the flags that ACK_EVENTS clears, and those a fault report may set. -/
theorem eventFlags : Obligations.EventFlags := by
  unfold Obligations.EventFlags
  intro s quiet
  refine ⟨fun f => ?raised, fun src f1 f0 num => ?acknowledged, fun k o => ?reported⟩
  case raised =>
    rw [exec_eventRaised f s quiet]
    unfold raise
    rw [flagBit_eq]
  case acknowledged =>
    exact ⟨_, exec_ackEvents src num f1 f0 quiet, exec_queueOwnTelegram (doneReply 6 src num) _ quiet⟩
  case reported =>
    exact ⟨_, exec_faultReport k o s quiet, report_flags k o s.part⟩

/-! ### CLEAR_FAULT and a fault report, in both orders (R191) -/

section
variable (src : Byte) (num : BitVec 16) (k : FaultKind) (o : FaultObject) {s : State} (quiet : Quiescent s)
include quiet

/-- After CLEAR_FAULT the record is empty, and the counters and the flags are as before. -/
theorem clearFault_next : ∃ t, exec (.clearFault ⟨src, num, []⟩) s = .next t ∧ Quiescent t ∧
    t.part.fc.record = none ∧ t.part.fc.counts = s.part.fc.counts ∧ t.part.fc.flags = s.part.fc.flags := by
  have none_waits : (queueOwn (doneReply 7 src num) (clearRecord s.part)).handOns = [] :=
    (queueOwn_ofLine _ _).handOns.trans quiet
  refine ⟨_, exec_clearFault src num quiet, none_waits, ?_⟩
  simp [queueOwn_fc]

/-- A report after a CLEAR_FAULT is captured. -/
theorem clearFault_then_report : ∃ t u r, exec (.clearFault ⟨src, num, []⟩) s = .next t ∧
    t.part.fc.record = none ∧ t.part.fc.counts = s.part.fc.counts ∧ t.part.fc.flags = s.part.fc.flags ∧
    exec (.faultReport k o) t = .next u ∧ u.part.fc.record = some r ∧ r.kind = k ∧ r.object = o ∧
    u.part.fc.flags = s.part.fc.flags ||| 0x0002 := by
  obtain ⟨t, cleared, none_waits, empty, counts, flags⟩ := clearFault_next src num quiet
  obtain ⟨⟨r, captured, kind, object⟩, raised⟩ := report_of_empty k o empty
  exact ⟨t, _, r, cleared, empty, counts, flags, exec_faultReport k o t none_waits, captured, kind, object,
    flags ▸ raised⟩

/-- A report before a CLEAR_FAULT is gone from the record, and stays in its counter. -/
theorem report_then_clearFault : ∃ t u, exec (.faultReport k o) s = .next t ∧
    exec (.clearFault ⟨src, num, []⟩) t = .next u ∧ u.part.fc.record = none ∧
    u.part.fc.counts = t.part.fc.counts := by
  have none_waits : (report k o s.part).handOns = [] := (report_handOns k o s.part).trans quiet
  obtain ⟨u, cleared, -, empty, counts, -⟩ :=
    clearFault_next src num (s := { s with part := formHealth (report k o s.part) }) none_waits
  exact ⟨_, u, exec_faultReport k o s quiet, cleared, empty, counts⟩

end

/-- Settles O6: the record emptied and answered, and the two orders of CLEAR_FAULT and a fault report. -/
theorem clearFaultEmptiesRecord : Obligations.ClearFaultEmptiesRecord := by
  unfold Obligations.ClearFaultEmptiesRecord
  intro src num s quiet
  refine ⟨?answered, fun k o => ⟨clearFault_then_report src num k o quiet, report_then_clearFault src num k o quiet⟩⟩
  case answered =>
    exact ⟨_, exec_clearFault src num quiet, exec_queueOwnTelegram (doneReply 7 src num) _ quiet⟩

end Sys2Proof.Machine
end

section
/-! PROOFS. LOAD_END on a short image (R202, R204, R206): a load buffer in LOADING whose declared length is not the fixed
length of its kind, where the conflict check of the model and R206's as the statement words it come apart. -/

namespace Sys2Proof.Machine

/-! ### The replies of LOAD_END -/

/-- A request that is refused, leaving `p` with no hand-on waiting, has its reply queued in `p`. -/
theorem nextWith_answer_refusal (kind : Byte) (r : Request) (judge : Part → Judged) (s : State) {reason : ReplyReason}
    {p : Part} (quiet : p.handOns = []) (judged : judge s.part = refusal reason p) :
    nextWith (fun q => answer kind r (judge q)) s =
      nextPart s (reply r.source r.number kind (.error reason) p) := by
  have answered : answer kind r (judge s.part) = reply r.source r.number kind (.error reason) p := by
    rw [judged]
    unfold answer refusal
    rw [settled_of_quiet p quiet]
  have none_waits : (answer kind r (judge s.part)).handOns = [] := by
    rw [answered, reply, (queueOwn_ofLine _ p).handOns, quiet]
  rw [nextWith_of_quiet _ s none_waits, answered]

theorem judgeLoadEnd_of_imageFault (src : Byte) (num : BitVec 16) (c1 c0 : Byte) {p : Part} {kind : TableKind}
    {reason : ReplyReason} (unlocked : p.mgmt.write = none) (loading : p.mgmt.buffer.state = .loading)
    (loads : p.mgmt.buffer.kind = some kind)
    (fault : imageFault kind p.mgmt.buffer.declared p.mgmt.buffer.count (c1 ++ c0) p.node p.mgmt.buffer.bytes =
      some reason) :
    judgeLoadEnd ⟨src, num, [c1, c0]⟩ p = refusal reason (setBuffer { p.mgmt.buffer with state := .rejected } p) := by
  rw [← ofNat_beNat_pair] at fault
  simp [judgeLoadEnd, locked, unlocked, loading, loads, fault]

/-- A LOAD_END in LOADING whose image fails a check leaves the buffer REJECTED (R204). -/
theorem exec_loadEnd_of_imageFault (src : Byte) (num : BitVec 16) (c1 c0 : Byte) {s : State} {kind : TableKind}
    {reason : ReplyReason} (quiet : Quiescent s) (unlocked : s.part.mgmt.write = none)
    (loading : s.part.mgmt.buffer.state = .loading) (loads : s.part.mgmt.buffer.kind = some kind)
    (fault : imageFault kind s.part.mgmt.buffer.declared s.part.mgmt.buffer.count (c1 ++ c0) s.part.node
      s.part.mgmt.buffer.bytes = some reason) :
    exec (.loadEnd ⟨src, num, [c1, c0]⟩) s = nextPart s (reply src num 4 (.error reason)
      (setBuffer { s.part.mgmt.buffer with state := .rejected } s.part)) :=
  nextWith_answer_refusal 4 ⟨src, num, [c1, c0]⟩ (judgeLoadEnd ⟨src, num, [c1, c0]⟩) s quiet
    (judgeLoadEnd_of_imageFault src num c1 c0 unlocked loading loads fault)

/-- Queuing a telegram leaves the Management Agent as it is. -/
theorem nextPart_queueOwn_mgmt {r : OwnRequest} {s t : State} {p : Part} (next : nextPart s (queueOwn r p) = .next t) :
    t.part.mgmt = p.mgmt := by
  cases next
  show (queueOwn r p).mgmt = p.mgmt
  rw [queueOwn_eq]

theorem exec_queueOwnTelegram_mgmt {r : OwnRequest} {s t : State}
    (next : exec (.queueOwnTelegram r) s = .next t) (quiet : Quiescent s) : t.part.mgmt = s.part.mgmt :=
  nextPart_queueOwn_mgmt ((exec_queueOwnTelegram r s quiet).symm.trans next)

/-! ### A short SECTION image -/

/-- The first 41 bytes of a SECTION image (R201): the header, the settings, and point 1 without the last byte of its
third pair. The pairs read (10, 0), (10, 1) and, a byte that is missing being read as 0, (10, 0) again; as numbers of up
to two bytes they are 2560, 2561 and 10. -/
def shortImage : List Byte :=
  [0x50, 0x53, 0x32, 0x31, 0x34, 0x30, 2, 1, 0, 1, 2, 0xFF, 0xFF, 0xFF, 0xFF, 0xFF] ++
  [0x17, 0x70, 0x20, 0xD0, 40, 50, 3, 20] ++ List.replicate 12 0xFF ++
  [10, 0, 10, 1, 10]

/-- The part as delivered, with the short image in a load buffer in LOADING that declares no more than its 41 bytes. No
LOAD_BEGIN makes such a buffer: it declares the fixed length of its kind, 676 for SECTION (R202). -/
def loadingShortImage : State :=
  { State.reset with part := setBuffer ⟨.loading, some .sections, 41, 41, some 2, shortImage⟩ State.reset.part }

/-- The model reads the first and the third pair of point 1 as one station and channel; 0x1466 is the image's checksum. -/
theorem imageFault_shortImage :
    imageFault .sections 41 41 ((0x14 : Byte) ++ (0x66 : Byte)) 0 shortImage = some .conflict := by
  decide +kernel

theorem shortImage_used : ∀ i, i ≤ 32 → Rule.used .sections shortImage i → i = 0 ∨ i = 1 := by
  decide +kernel

theorem shortImage_identified : Rule.identified .sections shortImage := by
  unfold Rule.identified
  decide +kernel

theorem shortImage_filled : Rule.filled .sections shortImage := by
  unfold Rule.filled
  dsimp only
  decide +kernel

theorem shortImage_inRange : Rule.inRange .sections shortImage := by
  have settings : Rule.used .sections shortImage 0 := by decide +kernel
  have pairs : ∀ o ∈ [0, 2, 4], Rule.pairInRange (Rule.entry .sections shortImage 1) o := by
    unfold Rule.pairInRange
    decide +kernel
  refine ⟨settings, by decide +kernel, by decide +kernel, by decide +kernel, by decide +kernel, by decide +kernel,
    ?points, ?zones⟩
  case points =>
    intro i last first used
    obtain rfl | rfl := shortImage_used i (by omega) used
    · omega
    · exact pairs
  case zones =>
    intro i last first used
    obtain rfl | rfl := shortImage_used i last used
    all_goals omega

/-- The numbers of the three pairs differ, so the short image passes CONFLICT in the statement's words. -/
theorem shortImage_apart (node : Nat) : Rule.apart .sections node shortImage := by
  have pairs : ∀ o ∈ [0, 2, 4], ∀ x ∈ [0, 2, 4], o ≠ x →
      Rule.number (Rule.entry .sections shortImage 1) o 2 ≠ Rule.number (Rule.entry .sections shortImage 1) x 2 := by
    decide +kernel
  refine ⟨?sources, ?zones⟩
  case sources =>
    intro j last i ordered first used_i used_j o slot_o x slot_x other _
    obtain rfl : i = 1 := (shortImage_used i (by omega) used_i).resolve_left (by omega)
    obtain rfl : j = 1 := (shortImage_used j last used_j).resolve_left (by omega)
    exact pairs o slot_o x slot_x fun same => other (congrArg _ same)
  case zones =>
    intro j last i ordered first used_i _
    obtain rfl | rfl := shortImage_used i (by omega) used_i
    all_goals omega

/-- Refutes O48: it speaks of every buffer in LOADING, one that declares and holds 41 bytes of a SECTION image too. There
`Rule.apart` compares a pair cut to one byte as a shorter number and finds no conflict, so the statement has the image
VERIFIED; the model finds the pair (10, 0) twice and leaves the buffer REJECTED. -/
theorem not_loadBufferJudged : ¬ Obligations.LoadBufferJudged := by
  unfold Obligations.LoadBufferJudged
  intro h
  have ended := exec_loadEnd_of_imageFault 50 1 0x14 0x66 (s := loadingShortImage) rfl rfl rfl rfl imageFault_shortImage
  obtain ⟨-, -, judged⟩ := h 50 1 loadingShortImage rfl
  obtain ⟨-, -, -, loading⟩ := judged 0x14 0x66
  obtain ⟨-, -, -, -, checked⟩ := loading .sections (fun locked => locked rfl) rfl rfl
  obtain ⟨-, identified⟩ := checked (Nat.le_refl 41) (by decide +kernel)
  obtain ⟨-, filled⟩ := identified shortImage_identified
  obtain ⟨-, inRange⟩ := filled shortImage_filled
  obtain ⟨-, apart⟩ := inRange shortImage_inRange
  obtain ⟨t, next, verified⟩ := apart (shortImage_apart _)
  have is_rejected : t.part.mgmt.buffer.state = .rejected :=
    congrArg (·.buffer.state) (nextPart_queueOwn_mgmt (ended.symm.trans next))
  have is_verified : t.part.mgmt.buffer.state = .verified :=
    congrArg (·.buffer.state) (exec_queueOwnTelegram_mgmt verified rfl)
  exact absurd (is_rejected.symm.trans is_verified) (by decide)

end Sys2Proof.Machine
end

section
/-! PROOFS. Steps of the machine, fault reports (R189), zone alarms cleared (R54), and the state after reset. -/

namespace Sys2Proof.Machine

/-! ### Steps -/

/-- Settles O1: the step function's own first case. -/
theorem stepRunsFrontCommand : Obligations.StepRunsFrontCommand := by
  unfold Obligations.StepRunsFrontCommand
  exact step_front

/-- Settles O2, by the number of expiries that are due. -/
theorem emptyQueueStep : Obligations.EmptyQueueStep := by
  unfold Obligations.EmptyQueueStep
  rintro ⟨p, pending⟩ (rfl : pending = [])
  unfold step nextDue
  match dueExpiries p with
  | [] => rfl
  | [c] => rfl
  | c :: d :: cs => rfl

/-! ### Fault reports (R188, R189) -/

/-- The fault kinds in the order of their codes (R188). -/
def kindsByCode : List FaultKind :=
  [.checkError, .forwardOverflow, .sequenceGap, .instrumentStale, .pointDisputed, .orderRetried, .orderRecovered,
    .fanStoppedUnasked, .twoLeads, .portLost, .instrumentRejected, .pointLost, .velocityLost, .orderFailed,
    .stationLost, .fanFailed, .tableInvalid]

theorem faultCode_eq (k : FaultKind) : faultCode k = kindsByCode.idxOf k + 1 := by
  cases k <;> rfl

theorem faultClass_eq (k : FaultKind) : faultClass k = if kindsByCode.idxOf k < 9 then .soft else .hard := by
  cases k <;> rfl

/-- What a report captures where the record gives way to it (R189). -/
def capturedRecord (k : FaultKind) (o : FaultObject) (p : Part) : FaultRecord :=
  { cls := faultClass k, kind := k, object := o, incidentId := p.reg.record.id, time := p.now, secondHard := false }

section
variable (k : FaultKind) (o : FaultObject) {p : Part}

theorem report_of_none (empty : p.fc.record = none) : report k o p = { p with fc := { p.fc with
    counts := bumpCount (faultCode k) p.fc.counts, record := some (capturedRecord k o p),
    flags := p.fc.flags ||| 0x0002 } } := by
  simp [report, judgeReport, empty, raise, flagBit, capturedRecord]

theorem report_of_soft {h : FaultRecord} (held : p.fc.record = some h) (soft : faultClass k = .soft) :
    report k o p = { p with fc := { p.fc with counts := bumpCount (faultCode k) p.fc.counts, record := some h } } := by
  simp [report, judgeReport, held, soft]

theorem report_of_hard_over_soft {h : FaultRecord} (held : p.fc.record = some h) (hard : faultClass k = .hard)
    (softer : h.cls = .soft) : report k o p = { p with fc := { p.fc with
      counts := bumpCount (faultCode k) p.fc.counts, record := some (capturedRecord k o p),
      flags := p.fc.flags ||| 0x0002 } } := by
  simp [report, judgeReport, held, hard, softer, raise, flagBit, capturedRecord]

theorem report_of_hard_over_hard {h : FaultRecord} (held : p.fc.record = some h) (hard : faultClass k = .hard)
    (harder : h.cls = .hard) : report k o p = { p with fc := { p.fc with
      counts := bumpCount (faultCode k) p.fc.counts, record := some { h with secondHard := true },
      flags := p.fc.flags ||| 0x0001 } } := by
  simp [report, judgeReport, held, hard, harder, raise, flagBit]

end

/-- Settles O4, by the record held and the classes of the two faults. -/
theorem faultReportJudged : Obligations.FaultReportJudged := by
  unfold Obligations.FaultReportJudged
  intro k o s quiet kinds cls new counts becomes
  have counts_eq : bumpCount (faultCode k) s.part.fc.counts = counts := by
    rw [faultCode_eq]
    rfl
  have cls_eq : faultClass k = cls := faultClass_eq k
  have new_eq : capturedRecord k o s.part = new := by
    unfold capturedRecord
    rw [cls_eq]
  have becomes_of {record : Option FaultRecord} {flags : BitVec 16} (left : report k o s.part = { s.part with
      fc := { s.part.fc with counts := bumpCount (faultCode k) s.part.fc.counts, record := record, flags := flags } }) :
      becomes record flags := by
    rw [counts_eq] at left
    exact (exec_faultReport k o s quiet).trans (congrArg (nextPart s) left)
  rw [← new_eq]
  split
  · next empty => exact becomes_of (report_of_none k o empty)
  · next h held =>
    split
    · next softer hard => exact becomes_of (report_of_hard_over_soft k o held (cls_eq.trans hard) softer)
    · next harder hard => exact becomes_of (report_of_hard_over_hard k o held (cls_eq.trans hard) harder)
    · next soft => exact becomes_of (report_of_soft k o held (cls_eq.trans soft))

/-! ### Zone alarms -/

theorem clearAlarm_eq (z : ZoneRec) : clearAlarm z =
    if z.state = .alarm then
      { z with confirm := 0, state := if z.opacity = none ∧ z.temperature = none then .unknown else .normal }
    else z := by
  simp [clearAlarm]

/-- Settles O21: the command has no effect but the clearing of each zone's alarm. -/
theorem zoneAlarmsCleared : Obligations.ZoneAlarmsCleared := by
  unfold Obligations.ZoneAlarmsCleared
  intro s quiet
  calc exec .zoneAlarmsCleared s
    _ = nextPart s (clearAlarms s.part) := nextWith_of_quiet clearAlarms s quiet
    _ = _ := by simp only [clearAlarms, funext clearAlarm_eq]

/-! ### The state after reset -/

/-- Settles O60: each invariant evaluated on the one state. -/
theorem resetHasInvariants : Obligations.ResetHasInvariants := by
  unfold Obligations.ResetHasInvariants
  intro s
  refine ⟨⟨rfl, ?health⟩, ⟨?line, ?own⟩, ⟨?record, ?detection, ?writing, ?outside⟩, ⟨?rest, rfl⟩, ⟨?thrust, ?queue, ?pool⟩,
    ?numbered, ?temps, ?addresses, ?fans, ?fanNumbers⟩
  case health =>
    unfold HealthFormed
    decide
  case line => simp [LineBounded, PortBounded, PortQuiet, s, State.reset, Part.reset, LineInterface.reset, Port.reset]
  case own => simp [OwnQueueOrdered, s, State.reset, Part.reset, LineInterface.reset]
  case record => simp [RecordWhole, Holding, s, State.reset, Part.reset, IncidentRegister.reset, IncidentRecord.empty]
  case detection => exact ⟨by decide, List.nodup_nil⟩
  case writing => exact ⟨rfl, fun pending => absurd rfl pending⟩
  case outside => exact fun writes => absurd rfl writes
  case rest => exact ⟨fun _ => ⟨rfl, rfl⟩, fun _ => ⟨rfl, rfl, rfl, rfl⟩⟩
  case thrust => exact ⟨rfl, rfl⟩
  case queue => exact ⟨fun _ => rfl, by simp [s, State.reset, Part.reset, FanManager.reset]⟩
  case pool => unfold PoolBounded; decide
  case numbered => exact ⟨by decide, by decide⟩
  case temps => unfold ZoneTempsListed; decide
  case addresses =>
    simp [AddressesDistinct, s, State.reset, Part.reset, Dispatcher.reset, SectionCoordinator.reset, OrderEngine.reset,
      ManagementAgent.reset, StoreSlot.delivered, LoadBuffer.empty]
  case fans =>
    simp [FansDistinct, s, State.reset, Part.reset, FanManager.reset, ManagementAgent.reset, StoreSlot.delivered,
      LoadBuffer.empty]
  case fanNumbers => simp [FansNumbered, s, State.reset, Part.reset, FanManager.reset, ManagementAgent.reset]

end Sys2Proof.Machine
end

section
/-! PROOFS. The ports of the line (R1 to R6): signal, qualification, hold windows, symbol errors and telegram checks. -/

namespace Sys2Proof.Machine

/-! ### The events -/

section
variable (i : PortId) {s : State} (quiet : Quiescent s)
include quiet

theorem exec_signalEnergyDetected : exec (.signalEnergyDetected i) s = nextPart s (detectSignal i s.part) :=
  (detectSignal_ofLine i s.part).next quiet

theorem exec_signalLost : exec (.signalLost i) s = nextPart s (loseSignal i s.part) :=
  (loseSignal_ofLine i s.part).next quiet

theorem exec_huntFillCountReached : exec (.huntFillCountReached i) s = nextPart s (fillComplete i s.part) :=
  (fillComplete_ofLine i s.part).next quiet

theorem exec_holdWindowClose (fills : Nat) :
    exec (.holdWindowClose i fills) s = nextPart s (closeWindow i fills s.part) :=
  (closeWindow_ofLine i fills s.part).next quiet

theorem exec_badStart : exec (.badStart i) s = nextPart s (badStartOn i s.part) :=
  (symbolError_ofLine i _ s.part).next quiet

theorem exec_runaway : exec (.runaway i) s = nextPart s (runawayOn i s.part) :=
  (symbolError_ofLine i _ s.part).next quiet

end

/-- A telegram whose reception leaves `p`, no hand-on waiting, has no other effect. -/
theorem exec_telegramReceived_of (i : PortId) {s : State} {bytes : List Byte} {p : Part}
    (received : receive i bytes s.part = p) (none_waits : p.handOns = []) :
    exec (.telegramReceived i bytes) s = nextPart s p :=
  received ▸ nextWith_of_quiet (receive i bytes) s (received ▸ none_waits)

/-! ### What the operations leave, by the port's state -/

section
variable {i : PortId} {p : Part}

theorem detectSignal_eq (i : PortId) (p : Part) : detectSignal i p = p.onPort i fun q =>
    if q.state = .down then { q with signal := true, state := .hunt, fillCount := 0, qualTimer := none, window := none }
    else { q with signal := true } := by
  have state : ((p.onPort i fun q => { q with signal := true }).port i).state = (p.port i).state := by
    rw [port_onPort]
  unfold detectSignal
  dsimp only
  rw [state]
  split
  · next down =>
    rw [onPort_onPort]
    exact onPort_congr p i _ _ (if_pos down).symm
  · next other => exact onPort_congr p i _ _ (if_neg other).symm

theorem loseSignal_of_not_up (lower : (p.port i).state ≠ .up) : loseSignal i p = p.onPort i fun q =>
    if q.state = .down then { q with signal := false }
    else { q with signal := false, state := .down, fillCount := 0, qualTimer := none, window := none } := by
  have state : ((p.onPort i fun q => { q with signal := false }).port i).state = (p.port i).state := by
    rw [port_onPort]
  unfold loseSignal
  dsimp only
  rw [state]
  split
  · next down => exact onPort_congr p i _ _ (if_pos down).symm
  · next up => exact absurd up lower
  · next other _ =>
    rw [onPort_onPort]
    exact onPort_congr p i _ _ (if_neg other).symm

/-- R4 as the statements give it. -/
theorem leaveUp_eq (i : PortId) (next : PortState) (p : Part) : leaveUp i next p = Rule.leavesUp i next p := by
  have set_empty (e : OwnEntry) : setEmpty e = !(e.onA || e.onB) := by
    rw [Bool.not_or]
    rfl
  have dropped : dropFromSet i = fun e => match i with
      | .a => { e with onA := false }
      | .b => { e with onB := false } := by
    cases i <;> rfl
  unfold leaveUp Rule.leavesUp dropPort removeOwn
  simp only [set_empty, dropped, Bool.not_not]
  cases i <;> rfl

theorem loseSignal_of_up (up : (p.port i).state = .up) :
    loseSignal i p = Rule.leavesUp i .down (p.onPort i fun q => { q with signal := false }) := by
  rw [← leaveUp_eq]
  have state : ((p.onPort i fun q => { q with signal := false }).port i).state = .up := by
    rw [port_onPort]
    exact up
  unfold loseSignal
  dsimp only
  rw [state]

theorem fillComplete_eq (i : PortId) (p : Part) : fillComplete i p = p.onPort i fun q =>
    if q.state = .hunt then
      { q with state := .qualify, fillCount := 16, qualTimer := some (p.now + 200), window := some (p.now + 5) }
    else q := by
  unfold fillComplete
  split
  · next hunt => exact onPort_congr p i _ _ (if_pos hunt).symm
  · next other => exact (onPort_same p i _ (if_neg other)).symm

theorem qualify_eq (i : PortId) (p : Part) : qualify i p =
    if (p.port i).state = .qualify ∧ (p.port i).qualTimer ≠ none then
      raise .lineChange (p.onPort i fun q => { q with state := .up, qualTimer := none, checkRun := 0, runCount := 0 })
    else p := by
  simp [qualify, Option.isSome_iff_ne_none]

/-- A port in QUALIFY after an error: in HUNT, the error counted (R2). -/
def failedPort (count : PortCounters → PortCounters) (q : Port) : Port :=
  { q with state := .hunt, fillCount := 0, qualTimer := none, window := none, counters := count q.counters }

theorem symbolError_of_qualify (count : PortCounters → PortCounters) (qualifies : (p.port i).state = .qualify) :
    symbolError i count p = p.onPort i (failedPort count) := by
  unfold symbolError countPort
  rw [qualifies]
  dsimp only
  rw [onPort_onPort]
  rfl

theorem symbolError_of_not_qualify (count : PortCounters → PortCounters) (other : (p.port i).state ≠ .qualify) :
    symbolError i count p = p.onPort i fun q =>
      if q.state = .up then { q with counters := count q.counters }
      else if q.state = .hunt then { q with fillCount := 0 } else q := by
  unfold symbolError countPort
  split
  · next down => exact (onPort_same p i _ (by simp [down])).symm
  · next hunt => exact onPort_congr p i _ _ (by simp [hunt])
  · next qualifies => exact absurd qualifies other
  · next up => exact onPort_congr p i _ _ (by simp [up])

theorem closeWindow_of_few {fills : Nat} (few : fills < 8) (qualifies : (p.port i).state = .qualify) :
    closeWindow i fills p = p.onPort i (failedPort fun k => { k with holdFailures := bump k.holdFailures }) := by
  unfold closeWindow countPort
  rw [qualifies]
  dsimp only
  rw [if_neg (by omega), onPort_onPort]
  rfl

theorem closeWindow_of_few_up {fills : Nat} (few : fills < 8) (up : (p.port i).state = .up) :
    closeWindow i fills p = Rule.leavesUp i .hunt (p.onPort i fun q =>
      { q with counters := { q.counters with holdFailures := bump q.counters.holdFailures } }) := by
  rw [← leaveUp_eq]
  unfold closeWindow countPort
  rw [up]
  dsimp only
  rw [if_neg (by omega)]

theorem closeWindow_of_enough {fills : Nat} (enough : 8 ≤ fills) : closeWindow i fills p = p.onPort i fun q =>
    if q.state = .qualify ∨ q.state = .up then { q with window := some (p.now + 5) } else q := by
  unfold closeWindow
  dsimp only
  split
  · next qualifies =>
    rw [if_pos enough]
    exact onPort_congr p i _ _ (if_pos (.inl qualifies)).symm
  · next up =>
    rw [if_pos enough]
    exact onPort_congr p i _ _ (if_pos (.inr up)).symm
  · next not_qualify not_up => exact (onPort_same p i _ (if_neg (not_or.mpr ⟨not_qualify, not_up⟩))).symm

theorem closeWindow_of_low (fills : Nat) (low : (p.port i).state = .down ∨ (p.port i).state = .hunt) :
    closeWindow i fills p = p := by
  unfold closeWindow
  obtain down | hunt := low
  · rw [down]
  · rw [hunt]

/-! ### Telegrams checked (R5, R6) -/

/-- A port in UP after a telegram that has failed its check (R6). -/
def failedCheck (q : Port) : Port :=
  { q with checkRun := q.checkRun + 1,
           counters := { q.counters with checkFailures := bump q.counters.checkFailures } }

theorem checkRun_failedCheck (i : PortId) (p : Part) :
    ((report .checkError (portObject i) (p.onPort i failedCheck)).port i).checkRun = (p.port i).checkRun + 1 := by
  unfold Part.port
  rw [report_line]
  exact congrArg Port.checkRun (port_onPort p i failedCheck)

/-- R6: the eighth failure in a row takes the port out of UP. -/
theorem failCheckUp_eq (i : PortId) (p : Part) : failCheckUp i p =
    if 8 ≤ (p.port i).checkRun + 1 then
      Rule.leavesUp i .hunt (report .checkError (portObject i) (p.onPort i failedCheck))
    else report .checkError (portObject i) (p.onPort i failedCheck) := by
  rw [← checkRun_failedCheck, ← leaveUp_eq]
  rfl

theorem failCheckUp_of_few (few : (p.port i).checkRun < 7) :
    failCheckUp i p = report .checkError (portObject i) (p.onPort i failedCheck) :=
  (failCheckUp_eq i p).trans (if_neg (by omega))

theorem failCheckUp_of_run (run : 7 ≤ (p.port i).checkRun) :
    failCheckUp i p = Rule.leavesUp i .hunt (report .checkError (portObject i) (p.onPort i failedCheck)) :=
  (failCheckUp_eq i p).trans (if_pos (by omega))

section
variable {bytes : List Byte}

theorem receive_of_long (long : 248 < bytes.length) : receive i bytes p = runawayOn i p := if_pos long

variable (short : bytes.length ≤ 248)
include short

theorem receive_of_short : receive i bytes p = match (p.port i).state, parseTelegram bytes with
    | .up, some t => dispose i t (passCheck i p)
    | .up, none => failCheckUp i p
    | .qualify, some _ => passCheck i p
    | .qualify, none => symbolError i (fun c => { c with checkFailures := bump c.checkFailures }) p
    | .hunt, _ => symbolError i (fun c => { c with checkFailures := bump c.checkFailures }) p
    | .down, _ => p := by
  unfold receive
  exact (if_neg (by omega)).trans rfl

theorem receive_of_failed_up (up : (p.port i).state = .up) (fails : parseTelegram bytes = none) :
    receive i bytes p = failCheckUp i p := by
  rw [receive_of_short short, up, fails]

theorem receive_of_failed_qualify (qualifies : (p.port i).state = .qualify) (fails : parseTelegram bytes = none) :
    receive i bytes p = p.onPort i (failedPort fun k => { k with checkFailures := bump k.checkFailures }) := by
  rw [receive_of_short short, qualifies, fails, ← symbolError_of_qualify _ qualifies]

theorem receive_of_passed_qualify (qualifies : (p.port i).state = .qualify) (passes : parseTelegram bytes ≠ none) :
    receive i bytes p = p.onPort i fun q =>
      { q with counters := { q.counters with received := bump q.counters.received } } := by
  obtain ⟨m, parsed⟩ := Option.ne_none_iff_exists'.mp passes
  rw [receive_of_short short, qualifies, parsed]
  exact onPort_congr p i _ _ (by simp [qualifies])

theorem receive_of_hunt (hunt : (p.port i).state = .hunt) :
    receive i bytes p = p.onPort i fun q => { q with fillCount := 0 } := by
  rw [receive_of_short short, hunt]
  unfold symbolError
  rw [hunt]

theorem receive_of_down (down : (p.port i).state = .down) : receive i bytes p = p := by
  rw [receive_of_short short, down]

end

end

/-! ### The obligations -/

/-- Settles O7, from what each operation leaves of a port in UP and of one that is not. -/
theorem signalAndLeavingUp : Obligations.SignalAndLeavingUp := by
  unfold Obligations.SignalAndLeavingUp
  refine ⟨fun i s quiet => ⟨?detected, fun lower => ?lost⟩, fun i s quiet up => ⟨?lostUp, fun fills few => ?window, ?checks⟩⟩
  case detected => rw [exec_signalEnergyDetected i quiet, detectSignal_eq]
  case lost => rw [exec_signalLost i quiet, loseSignal_of_not_up lower]
  case lostUp => rw [exec_signalLost i quiet, loseSignal_of_up up]
  case window => rw [exec_holdWindowClose i quiet, closeWindow_of_few_up few up]
  case checks =>
    intro bytes short fails run
    refine exec_telegramReceived_of i
      ((receive_of_failed_up short up fails).trans (failCheckUp_of_run run)) ?_
    rw [← leaveUp_eq, (leaveUp_ofLine i .hunt _).handOns, report_handOns]
    exact quiet

/-- Settles O8, from what each operation leaves of a port in HUNT and in QUALIFY. -/
theorem qualification : Obligations.Qualification := by
  unfold Obligations.Qualification
  refine fun i s quiet => ⟨?filled, ?failed, ?expiry⟩
  case filled => rw [exec_huntFillCountReached i quiet, fillComplete_eq]
  case failed =>
    intro qualifies failed
    refine ⟨?_, ?_, fun bytes long => ?_, fun bytes short fails => ?_, fun fills few => ?_⟩
    · exact (exec_badStart i quiet).trans (congrArg _ (symbolError_of_qualify _ qualifies))
    · exact (exec_runaway i quiet).trans (congrArg _ (symbolError_of_qualify _ qualifies))
    · exact exec_telegramReceived_of i ((receive_of_long long).trans (symbolError_of_qualify _ qualifies)) quiet
    · exact exec_telegramReceived_of i (receive_of_failed_qualify short qualifies fails) quiet
    · exact (exec_holdWindowClose i quiet fills).trans (congrArg _ (closeWindow_of_few few qualifies))
  case expiry => rw [exec_qualificationTimerExpiry i s quiet, qualify_eq]

/-- Settles O9, from what each operation leaves of a port by its state. -/
theorem symbolsAndChecks : Obligations.SymbolsAndChecks := by
  unfold Obligations.SymbolsAndChecks
  refine ⟨fun i s quiet => ⟨fun fills enough => ?met, fun fills low => ?closed, fun other => ⟨?badStart, ?runaway⟩⟩,
    fun i bytes s quiet short => ?telegram⟩
  case met => rw [exec_holdWindowClose i quiet, closeWindow_of_enough enough]
  case closed => rw [exec_holdWindowClose i quiet, closeWindow_of_low fills low]
  case badStart => exact (exec_badStart i quiet).trans (congrArg _ (symbolError_of_not_qualify _ other))
  case runaway => exact (exec_runaway i quiet).trans (congrArg _ (symbolError_of_not_qualify _ other))
  case telegram =>
    intro q becomes
    refine ⟨fun up few fails => ?_, fun qualifies passes => ?_, fun hunt => ?_, fun down => ?_⟩
    · exact exec_telegramReceived_of i ((receive_of_failed_up short up fails).trans (failCheckUp_of_few few))
        ((report_handOns _ _ _).trans quiet)
    · exact exec_telegramReceived_of i (receive_of_passed_qualify short qualifies passes) quiet
    · exact exec_telegramReceived_of i (receive_of_hunt short hunt) quiet
    · exact exec_telegramReceived_of i (receive_of_down short down) quiet

end Sys2Proof.Machine
end

section
/-! PROOFS. What the operations of the Line Interface keep of its bounds (R1, R3, R4, R9, R12 to R14): the two ports within
their ranges and silent outside UP, the own queue in queuing order, each entry waiting for ports that are UP. -/

namespace Sys2Proof.Machine

/-! ### The invariant of the line, port by port -/

/-- A port within its bounds, and silent unless it is UP. -/
def PortOk (q : Port) : Prop := PortBounded q ∧ PortQuiet q

/-- An entry of the own queue: of a place already given, and waiting for ports that are UP, one at least. -/
def EntryOk (l : LineInterface) (e : OwnEntry) : Prop :=
  e.place < l.nextPlace ∧ setEmpty e = false ∧ ∀ i, onPortSet i e = true → (l.port i).state = .up

/-- The own queue in order. -/
def OwnOk (l : LineInterface) : Prop :=
  l.own.Pairwise (fun e f => e.place < f.place) ∧ (∀ e ∈ l.own, EntryOk l e) ∧
  (l.own.filter fun e => isReply e.cls).length ≤ 4

/-- The line within its bounds. -/
def LineOk (l : LineInterface) : Prop := (∀ i, PortOk (l.port i)) ∧ OwnOk l

theorem isReply_eq (e : OwnEntry) : (e.cls == .mgmtReply) = isReply e.cls := by
  cases e.cls <;> rfl

theorem entryOk_iff (l : LineInterface) (e : OwnEntry) : EntryOk l e ↔
    e.place < l.nextPlace ∧ (e.onA = true ∨ e.onB = true) ∧ (e.onA = true → l.portA.state = .up) ∧
      (e.onB = true → l.portB.state = .up) := by
  unfold EntryOk
  have waits : setEmpty e = false ↔ e.onA = true ∨ e.onB = true := by cases h : e.onA <;> simp [setEmpty, h]
  have ports : (∀ i, onPortSet i e = true → (l.port i).state = .up) ↔
      (e.onA = true → l.portA.state = .up) ∧ (e.onB = true → l.portB.state = .up) :=
    ⟨fun all => ⟨all .a, all .b⟩, fun ⟨a, b⟩ i => by cases i; exacts [a, b]⟩
  rw [waits, ports]

/-- The two invariants of the line are that of its ports and that of its queue. -/
theorem lineOk_iff (s : State) : LineBounded s ∧ OwnQueueOrdered s ↔ LineOk s.part.line := by
  have ports : LineBounded s ↔ ∀ i, PortOk (s.part.line.port i) :=
    ⟨fun ⟨a, b, qa, qb⟩ i => by cases i; exacts [⟨a, qa⟩, ⟨b, qb⟩],
      fun all => ⟨(all .a).1, (all .b).1, (all .a).2, (all .b).2⟩⟩
  have own : OwnQueueOrdered s ↔ OwnOk s.part.line := by
    unfold OwnQueueOrdered OwnOk
    simp only [entryOk_iff, isReply_eq]
  rw [ports, own]
  rfl

/-! ### A port changed -/

theorem port_other_or (i j : PortId) : j = i ∨ j = other i := by cases i <;> cases j <;> simp [other]

/-- A port changed leaves the own queue in order while it does not leave UP. -/
theorem OwnOk.setPort {l : LineInterface} (h : OwnOk l) {i : PortId} {q : Port}
    (stays : (l.port i).state = .up → q.state = .up) : OwnOk (l.setPort i q) := by
  have state (j : PortId) (up : (l.port j).state = .up) : ((l.setPort i q).port j).state = .up := by
    obtain rfl | rfl := port_other_or i j
    · rw [port_setPort]
      exact stays up
    · rw [port_setPort_other]
      exact up
  obtain ⟨order, entries, replies⟩ := h
  have own : (l.setPort i q).own = l.own ∧ (l.setPort i q).nextPlace = l.nextPlace := by cases i <;> exact ⟨rfl, rfl⟩
  unfold OwnOk EntryOk
  rw [own.1, own.2]
  exact ⟨order, fun e mem => ⟨(entries e mem).1, (entries e mem).2.1, fun j on => state j ((entries e mem).2.2 j on)⟩, replies⟩

theorem LineOk.setPort {l : LineInterface} (h : LineOk l) {i : PortId} {q : Port} (ok : PortOk (l.port i) → PortOk q)
    (stays : (l.port i).state = .up → q.state = .up) : LineOk (l.setPort i q) := by
  refine ⟨fun j => ?_, h.2.setPort stays⟩
  obtain rfl | rfl := port_other_or i j
  · rw [port_setPort]
    exact ok (h.1 j)
  · rw [port_setPort_other]
    exact h.1 _

section
variable {p : Part} (h : LineOk p.line)
include h

theorem LineOk.onPort {i : PortId} {f : Port → Port} (ok : PortOk (p.port i) → PortOk (f (p.port i)))
    (stays : (p.port i).state = .up → (f (p.port i)).state = .up) : LineOk (p.onPort i f).line :=
  LineOk.setPort h ok stays

theorem LineOk.counted (i : PortId) (f : PortCounters → PortCounters) : LineOk (countPort i f p).line :=
  LineOk.onPort h (fun ok => ok) fun up => up

theorem LineOk.reported (k : FaultKind) (o : FaultObject) : LineOk (report k o p).line := by
  rw [report_line]
  exact h

end

/-- A port in QUALIFY, HUNT or DOWN that is set back: nothing to send, the fill count 0. -/
theorem portOk_idle {q r : Port} (ok : PortOk q) (lower : q.state ≠ .up) (fill : r.fillCount = 0)
    (run : r.checkRun = q.checkRun) (arbiter : r.runCount = q.runCount) (forward : r.forward = q.forward)
    (sending : r.sending = q.sending) (state : r.state ≠ .up) : PortOk r := by
  obtain ⟨⟨_, runs, _, buffer, counts⟩, quiet⟩ := ok
  refine ⟨⟨by omega, by omega, fun up => absurd up state, by rw [forward]; exact buffer, by omega⟩, fun _ => ?_⟩
  rw [forward, sending]
  exact quiet lower

/-! ### Leaving UP (R4) -/

theorem dropFromSet_place (i : PortId) (e : OwnEntry) : (dropFromSet i e).place = e.place := by cases i <;> rfl

theorem dropFromSet_cls (i : PortId) (e : OwnEntry) : (dropFromSet i e).cls = e.cls := by cases i <;> rfl

theorem onPortSet_dropFromSet {i j : PortId} {e : OwnEntry} (on : onPortSet j (dropFromSet i e) = true) :
    j ≠ i ∧ onPortSet j e = true := by
  cases i <;> cases j <;> simp_all [onPortSet, dropFromSet]

/-- The own queue after some entries have left it. -/
theorem OwnOk.removed {l : LineInterface} (h : OwnOk l) (k : OwnEntry → Bool) : OwnOk (removeOwn k l) := by
  obtain ⟨order, entries, replies⟩ := h
  refine ⟨order.sublist List.filter_sublist, fun e mem => entries e (List.mem_of_mem_filter mem), ?_⟩
  exact ((List.filter_sublist.filter _).length_le).trans replies

theorem LineOk.removed {l : LineInterface} (h : LineOk l) (k : OwnEntry → Bool) : LineOk (removeOwn k l) :=
  ⟨h.1, h.2.removed k⟩

/-- The entries once a port has been taken from their port sets, those left without a port removed. -/
theorem ownOk_dropPort {l : LineInterface} {i : PortId}
    (order : l.own.Pairwise (fun e f => e.place < f.place))
    (entries : ∀ e ∈ l.own, e.place < l.nextPlace ∧ ∀ j, j ≠ i → onPortSet j e = true → (l.port j).state = .up)
    (replies : (l.own.filter fun e => isReply e.cls).length ≤ 4) : OwnOk (dropPort i l) := by
  refine ⟨?_, fun e mem => ?_, ?_⟩
  · refine List.Pairwise.sublist List.filter_sublist (List.pairwise_map.mpr (order.imp ?_))
    intro e f before
    rw [dropFromSet_place, dropFromSet_place]
    exact before
  · obtain ⟨held, waits⟩ := List.mem_filter.mp mem
    obtain ⟨x, old, rfl⟩ := List.mem_map.mp held
    refine ⟨(dropFromSet_place i x).symm ▸ (entries x old).1, by simpa using waits, fun j on => ?_⟩
    obtain ⟨differs, was⟩ := onPortSet_dropFromSet on
    have up := (entries x old).2 j differs was
    cases j <;> exact up
  · refine ((List.filter_sublist.filter _).length_le).trans ?_
    rw [List.filter_map, List.length_map]
    have same : ((fun e => isReply e.cls) ∘ dropFromSet i) = fun e => isReply e.cls :=
      funext fun e => congrArg isReply (dropFromSet_cls i e)
    rw [same]
    exact replies

/-- A port that leaves UP leaves the line in order; its own run of check failures may have reached the 8th. -/
theorem leaveUp_lineOk {p : Part} {i : PortId} {next : PortState} (lower : next ≠ .up)
    (others : PortOk (p.port (other i))) (run : (p.port i).checkRun ≤ 8) (arbiter : (p.port i).runCount ≤ 4)
    (own : OwnOk p.line) : LineOk (leaveUp i next p).line := by
  have line : (leaveUp i next p).line = dropPort i (p.onPort i fun q =>
      { enterIdle next q with
        forward := [], sending := none,
        counters := { q.counters with lineBreaks := satAdd q.counters.lineBreaks q.forward.length } }).line := by
    unfold leaveUp
    rw [raise_line, report_line]
  rw [line]
  have ports (l : LineInterface) (j : PortId) : (dropPort i l).port j = l.port j := by cases j <;> rfl
  obtain ⟨order, entries, replies⟩ := own
  have queue (q : Port) : (p.line.setPort i q).own = p.line.own ∧
      (p.line.setPort i q).nextPlace = p.line.nextPlace := by cases i <;> exact ⟨rfl, rfl⟩
  refine ⟨fun j => ?_, ownOk_dropPort ?_ ?_ ?_⟩
  · rw [ports]
    obtain rfl | rfl := port_other_or i j
    · refine (congrArg PortOk (port_setPort _ j _)).mpr ⟨⟨Nat.zero_le _, run, fun up => absurd up lower, Nat.zero_le _, arbiter⟩,
        fun _ => ⟨rfl, rfl⟩⟩
    · exact (congrArg PortOk (port_setPort_other _ i _)).mpr others
  · exact (congrArg (List.Pairwise _) (queue _).1).mpr order
  · intro e mem
    obtain ⟨place, _, up⟩ := entries e ((queue _).1 ▸ mem)
    refine ⟨(queue _).2.symm ▸ place, fun j differs on => ?_⟩
    obtain rfl | rfl := port_other_or i j
    · exact absurd rfl differs
    · exact (congrArg (fun q : Port => q.state = .up) (port_setPort_other _ i _)).mpr (up _ on)
  · exact (congrArg (fun l : List OwnEntry => (l.filter fun e => isReply e.cls).length ≤ 4) (queue _).1).mpr replies

theorem LineOk.leaveUp {p : Part} (h : LineOk p.line) (i : PortId) {next : PortState} (lower : next ≠ .up) :
    LineOk (leaveUp i next p).line :=
  leaveUp_lineOk lower (h.1 (other i)) (h.1 i).1.2.1 (h.1 i).1.2.2.2.2 h.2

/-! ### The ports (R1 to R6) -/

section
variable {p : Part} (h : LineOk p.line)
include h

theorem LineOk.detectSignal (i : PortId) : LineOk (detectSignal i p).line := by
  rw [detectSignal_eq]
  refine LineOk.onPort h (fun ok => ?_) fun up => ?_
  · split
    · next down => exact portOk_idle ok (by simp [down]) rfl rfl rfl rfl rfl PortState.noConfusion
    · exact ok
  · simp [up]

theorem LineOk.loseSignal (i : PortId) : LineOk (loseSignal i p).line := by
  by_cases up : (p.port i).state = .up
  · rw [loseSignal_of_up up, ← leaveUp_eq]
    exact LineOk.leaveUp (LineOk.onPort h (fun ok => ok) fun up => up) i PortState.noConfusion
  · rw [loseSignal_of_not_up up]
    refine LineOk.onPort h (fun ok => ?_) fun is_up => absurd is_up up
    split
    · exact ok
    · exact portOk_idle ok up rfl rfl rfl rfl rfl PortState.noConfusion

theorem LineOk.fillComplete (i : PortId) : LineOk (fillComplete i p).line := by
  rw [fillComplete_eq]
  refine LineOk.onPort h (fun ok => ?_) fun up => ?_
  · split
    · next hunt =>
      obtain ⟨⟨_, runs, _, buffer, counts⟩, quiet⟩ := ok
      exact ⟨⟨le_refl 16, runs, fun up => PortState.noConfusion up, buffer, counts⟩, fun _ => quiet (by simp [hunt])⟩
    · exact ok
  · simp [up]

theorem LineOk.qualify (i : PortId) : LineOk (qualify i p).line := by
  rw [qualify_eq]
  split
  · rw [raise_line]
    refine LineOk.onPort h (fun ok => ?_) fun _ => ?_
    · obtain ⟨⟨fill, _, _, buffer, _⟩, _⟩ := ok
      exact ⟨⟨fill, Nat.zero_le _, fun _ => Nat.zero_le _, buffer, Nat.zero_le _⟩, fun lower => absurd rfl lower⟩
    · rfl
  · exact h

theorem LineOk.failed {i : PortId} (count : PortCounters → PortCounters) (qualifies : (p.port i).state = .qualify) :
    LineOk (p.onPort i (failedPort count)).line :=
  LineOk.onPort h (fun ok => portOk_idle ok (by simp [qualifies]) rfl rfl rfl rfl rfl PortState.noConfusion)
    fun up => absurd (qualifies.symm.trans up) PortState.noConfusion

theorem LineOk.symbolError (i : PortId) (count : PortCounters → PortCounters) : LineOk (symbolError i count p).line := by
  by_cases qualifies : (p.port i).state = .qualify
  · rw [symbolError_of_qualify count qualifies]
    exact LineOk.failed h count qualifies
  · rw [symbolError_of_not_qualify count qualifies]
    refine LineOk.onPort h (fun ok => ?_) fun up => by simp [up]
    split
    · exact ok
    · split
      · next hunt => exact portOk_idle ok (by simp [hunt]) rfl rfl rfl rfl rfl (by simp [hunt])
      · exact ok

theorem LineOk.closeWindow (i : PortId) (fills : Nat) : LineOk (closeWindow i fills p).line := by
  by_cases enough : 8 ≤ fills
  · rw [closeWindow_of_enough enough]
    refine LineOk.onPort h (fun ok => ?_) fun up => ?_
    · split <;> exact ok
    · split <;> exact up
  · have few : fills < 8 := Nat.lt_of_not_le enough
    cases state : (p.port i).state
    · rw [closeWindow_of_low fills (.inl state)]
      exact h
    · rw [closeWindow_of_low fills (.inr state)]
      exact h
    · rw [closeWindow_of_few few state]
      exact LineOk.failed h _ state
    · rw [closeWindow_of_few_up few state, ← leaveUp_eq]
      exact LineOk.leaveUp (LineOk.onPort h (fun ok => ok) fun up => up) i PortState.noConfusion

theorem LineOk.failCheckUp {i : PortId} (up : (p.port i).state = .up) : LineOk (failCheckUp i p).line := by
  obtain ⟨ports, own⟩ := h
  by_cases run : 7 ≤ (p.port i).checkRun
  · rw [failCheckUp_of_run run, ← leaveUp_eq]
    obtain ⟨_, _, seven, _, arbiter⟩ := (ports i).1
    have seven : (p.port i).checkRun ≤ 7 := seven up
    have line : (report .checkError (portObject i) (p.onPort i failedCheck)).line =
        p.line.setPort i (failedCheck (p.port i)) := by
      rw [report_line]
      rfl
    have changed : (report .checkError (portObject i) (p.onPort i failedCheck)).port i = failedCheck (p.port i) := by
      unfold Part.port
      rw [line, port_setPort]
      rfl
    refine leaveUp_lineOk PortState.noConfusion ?_ ?_ ?_ ?_
    · unfold Part.port
      rw [line, port_setPort_other]
      exact ports _
    · rw [changed]
      exact Nat.succ_le_of_lt (Nat.lt_succ_of_le seven)
    · rw [changed]
      exact arbiter
    · rw [line]
      exact own.setPort fun up => up
  · rw [failCheckUp_of_few (Nat.lt_of_not_le run)]
    refine LineOk.reported (LineOk.onPort ⟨ports, own⟩ (fun ok => ?_) fun up => up) _ _
    obtain ⟨⟨fill, _, _, buffer, arbiter⟩, quiet⟩ := ok
    have few : (p.port i).checkRun + 1 ≤ 7 := Nat.lt_of_not_le run
    exact ⟨⟨fill, few.trans (by omega), fun _ => few, buffer, arbiter⟩, quiet⟩

theorem LineOk.passCheck (i : PortId) : LineOk (passCheck i p).line := by
  refine LineOk.onPort h (fun ok => ?_) fun up => up
  obtain ⟨⟨fill, runs, up_runs, buffer, arbiter⟩, quiet⟩ := ok
  refine ⟨⟨fill, ?_, fun up => ?_, buffer, arbiter⟩, quiet⟩
  · dsimp only
    split
    · exact Nat.zero_le _
    · exact runs
  · have up : (p.port i).state = .up := up
    simp [up]

/-! ### Forwarding and the arbiter (R9, R14) -/

theorem LineOk.offer (i : PortId) (t : Telegram) : LineOk (offer i t p).line := by
  unfold Machine.offer
  extract_lets out
  split
  · exact LineOk.counted h _ _
  · split
    · exact LineOk.counted h _ _
    · next is_up =>
      split
      · exact LineOk.reported (LineOk.counted h _ _) _ _
      · next room =>
        have up : (p.port out).state = .up := by simpa [Part.isUp] using is_up
        refine LineOk.onPort h (fun ok => ?_) fun up => up
        obtain ⟨⟨fill, runs, up_runs, _, arbiter⟩, _⟩ := ok
        refine ⟨⟨fill, runs, up_runs, ?_, arbiter⟩, fun lower => absurd up lower⟩
        rw [List.length_append]
        exact Nat.succ_le_of_lt (Nat.lt_of_not_le room)

theorem LineOk.arbitrate (i : PortId) : LineOk (arbitrate i p).line := by
  have sends {f : Port → Port} (up : (p.port i).state = .up) (same : ∃ s n, n ≤ 4 ∧
      f (p.port i) = { p.port i with sending := s, runCount := n }) : LineOk (p.onPort i f).line := by
    obtain ⟨s, n, few, changed⟩ := same
    refine LineOk.onPort h (fun ok => ?_) fun _ => by rw [changed]; exact up
    obtain ⟨⟨fill, runs, up_runs, buffer, _⟩, _⟩ := ok
    rw [changed]
    exact ⟨⟨fill, runs, up_runs, buffer, few⟩, fun lower => absurd up lower⟩
  unfold Machine.arbitrate
  extract_lets q
  split
  · next free =>
    have up : (p.port i).state = .up := by
      simp only [Bool.and_eq_true, beq_iff_eq] at free
      exact free.1
    split
    · split
      · exact sends up ⟨_, 0, Nat.zero_le _, rfl⟩
      · next turn =>
        refine sends up ⟨_, q.runCount + 1, ?_, rfl⟩
        simp only [Bool.or_eq_true, decide_eq_true_eq, not_or] at turn
        omega
    · split
      · exact h
      · exact sends up ⟨_, 0, Nat.zero_le _, rfl⟩
  · exact h

theorem LineOk.ended {i : PortId} {f : Port → Port} {buffer : List Telegram}
    (shorter : buffer.length ≤ (p.port i).forward.length) (counters : PortCounters)
    (changed : f (p.port i) = { p.port i with sending := none, forward := buffer, counters := counters })
    (empty : (p.port i).forward = [] → buffer = []) : LineOk (p.onPort i f).line := by
  refine LineOk.onPort h (fun ok => ?_) fun up => by rw [changed]; exact up
  obtain ⟨⟨fill, runs, up_runs, held, arbiter⟩, quiet⟩ := ok
  rw [changed]
  exact ⟨⟨fill, runs, up_runs, shorter.trans held, arbiter⟩, fun lower => ⟨empty (quiet lower).1, rfl⟩⟩

theorem LineOk.endForwarded (i : PortId) : LineOk (endForwarded i p).line := by
  unfold Machine.endForwarded
  split
  · refine LineOk.ended h (buffer := (p.port i).forward.tail) ?_ _ rfl fun none_waits => by rw [none_waits]; rfl
    rw [List.length_tail]
    exact Nat.sub_le _ _
  · exact h

end

theorem markSent_lineOk {l : LineInterface} (h : LineOk l) (i : PortId) (place : Nat) :
    LineOk (markSent i place l) := by
  obtain ⟨ports, order, entries, replies⟩ := h
  have mark (e : OwnEntry) : ({ dropFromSet i e with sentOnce := true } : OwnEntry).place = e.place ∧
      ({ dropFromSet i e with sentOnce := true } : OwnEntry).cls = e.cls := by cases i <;> exact ⟨rfl, rfl⟩
  have places := updWhere_map OwnEntry.place (fun e => e.place == place)
    (fun e => { dropFromSet i e with sentOnce := true }) (fun e => (mark e).1) l.own
  have classes := updWhere_map OwnEntry.cls (fun e => e.place == place)
    (fun e => { dropFromSet i e with sentOnce := true }) (fun e => (mark e).2) l.own
  refine ⟨ports, ?_, fun e mem => ?_, ?_⟩
  · have ordered : (l.own.map OwnEntry.place).Pairwise (· < ·) := List.pairwise_map.mpr order
    exact List.Pairwise.sublist List.filter_sublist (List.pairwise_map.mp (places ▸ ordered))
  · obtain ⟨held, stays⟩ := List.mem_filter.mp mem
    obtain ⟨x, old, rfl⟩ := List.mem_map.mp held
    obtain ⟨place_lt, waits, up⟩ := entries x old
    dsimp only at stays ⊢
    split at stays
    · next here =>
      rw [if_pos here]
      refine ⟨(mark x).1.symm ▸ place_lt, ?_, fun j on => up j ?_⟩
      · simpa [dropFromSet_place, eq_of_beq here] using stays
      · have on_dropped : onPortSet j (dropFromSet i x) = true := by cases j <;> exact on
        exact (onPortSet_dropFromSet on_dropped).2
    · next away =>
      rw [if_neg away]
      exact ⟨place_lt, waits, up⟩
  · refine ((List.filter_sublist.filter _).length_le).trans ?_
    have count (m : List OwnEntry) : (m.filter fun e => isReply e.cls).length = ((m.map (·.cls)).filter isReply).length := by
      rw [List.filter_map, List.length_map]
      rfl
    rw [count] at replies ⊢
    exact classes ▸ replies

theorem LineOk.endOwn {p : Part} (h : LineOk p.line) (i : PortId) : LineOk (endOwn i p).line := by
  unfold Machine.endOwn
  split
  · refine markSent_lineOk ?_ i _
    exact LineOk.ended h (buffer := (p.port i).forward) (le_refl _) _ rfl fun none_waits => none_waits
  · exact h

/-! ### The own transmit queue (R12, R13) -/

theorem LineOk.queueOwn {p : Part} (h : LineOk p.line) (r : OwnRequest) : LineOk (queueOwn r p).line := by
  unfold Machine.queueOwn
  split
  · exact h
  · split
    · exact h
    · next some_up =>
      split
      · exact h
      · next room =>
        obtain ⟨ports, order, entries, replies⟩ := h
        let e : OwnEntry :=
          ⟨ownTelegram p.line.node p.line.seq r, classOf r, p.isUp .a, p.isUp .b, false, p.line.nextPlace⟩
        refine ⟨ports, ?_, fun x mem => ?_, ?_⟩
        · refine List.pairwise_append.mpr ⟨order.sublist List.filter_sublist, List.pairwise_singleton _ e, ?_⟩
          rintro x held y new
          obtain rfl := List.mem_singleton.mp new
          exact (entries x (List.mem_of_mem_filter held)).1
        · obtain held | new := List.mem_append.mp mem
          · obtain ⟨place, waits, up⟩ := entries x (List.mem_of_mem_filter held)
            exact ⟨place.trans (Nat.lt_succ_self _), waits, up⟩
          · obtain rfl := List.mem_singleton.mp new
            refine ⟨Nat.lt_succ_self _, ?_, fun j on => ?_⟩
            · cases a : p.isUp .a <;> cases b : p.isUp .b <;> simp_all [setEmpty]
            · cases j <;> exact eq_of_beq on
        · change (((p.line.own.filter fun h => !replaces (classOf r) h) ++ [e]).filter fun e => isReply e.cls).length ≤ 4
          rw [List.filter_append, List.length_append]
          have held : ((p.line.own.filter fun h => !replaces (classOf r) h).filter fun e => isReply e.cls).length ≤
              (p.line.own.filter fun e => isReply e.cls).length := (List.filter_sublist.filter _).length_le
          by_cases reply : isReply (classOf r) = true
          · have few : (p.line.own.filter fun e => isReply e.cls).length < 4 := by simpa [reply] using room
            have one : ([e].filter fun e => isReply e.cls).length ≤ 1 := List.length_filter_le _ _
            omega
          · have none_added : ([e].filter fun e => isReply e.cls) = [] := by simp [e, reply]
            rw [none_added]
            exact held.trans replies

/-! ### The counters cleared and the reset -/

/-- Counters cleared at both ports and of the interface itself change nothing that its bounds read. -/
theorem LineOk.cleared {l : LineInterface} (h : LineOk l) (unknown malformed unsent dropped : Counter) :
    LineOk { l with portA := clearPort l.portA, portB := clearPort l.portB, unknownKinds := unknown,
                    malformed := malformed, ownUnsent := unsent, droppedReplies := dropped } := by
  obtain ⟨ports, order, entries, replies⟩ := h
  refine ⟨fun i => ?_, order, fun e mem => ?_, replies⟩
  · cases i
    · exact ports .a
    · exact ports .b
  · obtain ⟨place, waits, up⟩ := entries e mem
    refine ⟨place, waits, fun i on => ?_⟩
    cases i
    · exact up .a on
    · exact up .b on

/-- A port after a reset is in order. -/
theorem resetPort_ok (signal : Bool) : PortOk (resetPort signal) := by
  cases signal <;> exact ⟨⟨by decide, by decide, nofun, by decide, by decide⟩, fun _ => ⟨rfl, rfl⟩⟩

theorem resetLine_ok (straps : Byte) (l : LineInterface) : LineOk (resetLine straps l) :=
  ⟨fun i => by cases i <;> exact resetPort_ok _, .nil, nofun, Nat.zero_le _⟩

end Sys2Proof.Machine
end

section
/-! PROOFS. Each command as an event of the part, and the relation that carries the invariants over an operation:
what it makes of each of them (`InvStep`), and that the store-write hold guards the Register (`HoldStep`). -/

namespace Sys2Proof.Machine

/-! ### Commands as events -/

/-- The event of the part that a command is. -/
def eventOf : Instr → Part → Part
  | .signalEnergyDetected port => detectSignal port
  | .signalLost port => loseSignal port
  | .huntFillCountReached port => fillComplete port
  | .qualificationTimerExpiry port => qualify port
  | .holdWindowClose port fills => closeWindow port fills
  | .badStart port => badStartOn port
  | .runaway port => runawayOn port
  | .telegramReceived port bytes => receive port bytes
  | .outputArbiterChoice port => arbitrate port
  | .forwardedTelegramSent port => endForwarded port
  | .ownTelegramSent port => endOwn port
  | .queueOwnTelegram request => queueOwn request
  | .powerOnReset straps => powerOn straps
  | .sample source readings => takeSample source readings
  | .staleTimerExpiry cls num => staleExpires ⟨cls, num⟩
  | .pointHoldTimerExpiry point => pointHoldExpires point
  | .zoneRequalifyTimerExpiry => requalifyExpires
  | .zoneAlarmsCleared => clearAlarms
  | .zoneAlarmHandOn zone => takeZone zone
  | .declare notice => judgeDeclare notice
  | .update notice => judgeUpdate notice
  | .hold notice => judgeFreeze .control .hold notice
  | .resume notice => judgeFreeze .hold .control notice
  | .clear notice => judgeClear notice
  | .cancelAlert _ => judgeCancel
  | .noticeBadAction _ _ => refuseNotice .badField
  | .autoDeclareTimerExpiry => autoDeclareExpires
  | .leadWaitTimerExpiry => leadWaitExpires
  | .clearingEndReport => takeClearingEnd
  | .incidentRecordToController handOn => ctlTakeRecord handOn
  | .controlPeriodTimerExpiry => periodExpires
  | .velocityHoldTimerExpiry => velocityHoldExpires
  | .leadLossHoldTimerExpiry => leadLossExpires
  | .demandUpdate demand => takeDemand demand
  | .incidentRecordToFanManager handOn => fansTakeRecord handOn
  | .stopSpacingTimerExpiry => spacingExpires
  | .fanReport source outputs => takeReport source outputs
  | .restTimerExpiry fan => restExpires fan
  | .runUpTimerExpiry fan => runUpExpires fan
  | .runDownTimerExpiry fan => runDownExpires fan
  | .reportSilenceTimerExpiry station => silenceExpires station
  | .orderOutcome fan order outcome => takeOutcome fan order outcome
  | .fanAnswer source tag output outcome run => takeAnswer source tag output outcome run
  | .responseTimerExpiry fan => responseExpires fan
  | .retrySpacingTimerExpiry fan => retryExpires fan
  | .retryWindowTimerExpiry fan => windowExpires fan
  | .quarantineTimerExpiry station tag => quarantineExpires station tag
  | .bulletinTimerExpiry => bulletinExpires
  | .incidentRecordToCoordinator handOn => coordTakeRecord handOn
  | .bulletin source b => takeBulletin source b
  | .freshnessTimerExpiry address => freshnessExpires address
  | .faultReport kind object => report kind object
  | .eventRaised flag => raise flag
  | .readStatus request => fun p => answer 1 request (judgeReadStatus request p)
  | .loadBegin request => fun p => answer 2 request (judgeLoadBegin request p)
  | .loadBlock request => fun p => answer 3 request (judgeLoadBlock request p)
  | .loadEnd request => fun p => answer 4 request (judgeLoadEnd request p)
  | .activate request => takeActivate request
  | .storeWriteEnd => endWrite
  | .ackEvents request => fun p => answer 6 request (judgeAckEvents request p)
  | .clearFault request => fun p => answer 7 request (judgeClearFault request p)
  | .admitObject request => fun p => answer 8 request (judgeAdmit request p)
  | .isolate request => fun p => answer 9 request (judgeIsolate request p)
  | .restart request seq => fun p => answer 10 request (judgeRestart request seq p)
  | .mgmtRequestUnknownKind kind request => answerUnknown kind request

theorem exec_eventOf (c : Instr) (s : State) : exec c s = nextWith (eventOf c) s := by cases c <;> rfl

/-- A step is one event of the part, which may have taken a place in the open order first, or the passing of a
millisecond. -/
theorem step_cases {s t : State} (h : step s = .next t) :
    (∃ c k, t.part = finish (eventOf c { s.part with choice := k })) ∨ t.part = tick s.part := by
  have of_exec (c : Instr) (u : State) (ran : exec c u = .next t) : t.part = finish (eventOf c u.part) := by
    rw [exec_eventOf] at ran
    cases ran
    rfl
  unfold step at h
  split at h
  · next c rest _ => exact .inl ⟨c, s.part.choice, of_exec c { s with pending := rest } h⟩
  · split at h
    · next c p due =>
      obtain ⟨k, chosen⟩ : ∃ k, p = { s.part with choice := k } := by
        unfold nextDue at due
        split at due
        · simp at due
        · exact ⟨s.part.choice, (congrArg Prod.snd (Option.some.inj due)).symm⟩
        · exact ⟨s.part.choice + 1, (congrArg Prod.snd (Option.some.inj due)).symm⟩
      exact .inl ⟨c, k, chosen ▸ of_exec c _ h⟩
    · cases h
      exact .inr rfl

/-! ### The invariants of a part -/

/-- What an invariant says of a part, whatever waits. -/
def On (I : State → Prop) (p : Part) : Prop := I ⟨p, []⟩

/-- What an operation that leaves `q` of `p` makes of the invariants of the blocks. -/
structure InvStep (p q : Part) : Prop where
  instruments : On InstrumentsNumbered p → On InstrumentsNumbered q
  zoneTemps   : On ZoneTempsListed p → On ZoneTempsListed q
  whole       : On RecordWhole p → On RecordWhole q
  detection   : On DetectionBounded p → On DetectionBounded q
  atRest      : On ControllerAtRest p → On ControllerAtRest q
  leadView    : On LeadViewJudged p → On LeadViewJudged q
  addresses   : On AddressesDistinct p → On AddressesDistinct q
  distinct    : On FansDistinct p → On FansDistinct q
  numbered    : On FansNumbered p → On FansNumbered q
  thrust      : On ThrustFormed p → On ThrustFormed q
  queue       : On QueueEligible p → On QueueEligible q
  pool        : On PoolBounded p → On PoolBounded q
  line        : LineOk p.line → LineOk q.line

/-- Neither in CONTROL nor in HOLD. -/
def OutsideControl (p : Part) : Prop := p.reg.record.state ≠ .control ∧ p.reg.record.state ≠ .hold

/-- What an operation that neither begins nor ends a store write does under the store-write hold (R76). -/
structure HoldStep (p q : Part) : Prop where
  write     : q.mgmt.write = p.mgmt.write
  storeHold : q.reg.storeHold = p.reg.storeHold
  entry     : p.reg.storeHold = false → p.reg.entry = none → q.reg.entry = none
  outside   : p.reg.storeHold = true → OutsideControl p → OutsideControl q

/-- An operation that keeps every invariant. -/
structure OpStep (p q : Part) : Prop extends InvStep p q, HoldStep p q

theorem InvStep.trans {p q r : Part} (h : InvStep p q) (k : InvStep q r) : InvStep p r :=
  ⟨k.instruments ∘ h.instruments, k.zoneTemps ∘ h.zoneTemps, k.whole ∘ h.whole, k.detection ∘ h.detection,
    k.atRest ∘ h.atRest, k.leadView ∘ h.leadView, k.addresses ∘ h.addresses, k.distinct ∘ h.distinct,
    k.numbered ∘ h.numbered, k.thrust ∘ h.thrust, k.queue ∘ h.queue, k.pool ∘ h.pool,
    k.line ∘ h.line⟩

theorem HoldStep.trans {p q r : Part} (h : HoldStep p q) (k : HoldStep q r) : HoldStep p r :=
  ⟨k.write.trans h.write, k.storeHold.trans h.storeHold,
    fun free none => k.entry (h.storeHold.trans free) (h.entry free none),
    fun held out => k.outside (h.storeHold.trans held) (h.outside held out)⟩

theorem OpStep.refl (p : Part) : OpStep p p :=
  ⟨⟨id, id, id, id, id, id, id, id, id, id, id, id, id⟩, ⟨rfl, rfl, fun _ => id, fun _ => id⟩⟩

theorem OpStep.trans {p q r : Part} (h : OpStep p q) (k : OpStep q r) : OpStep p r :=
  ⟨h.toInvStep.trans k.toInvStep, h.toHoldStep.trans k.toHoldStep⟩

theorem OpStep.after {p q r : Part} (k : OpStep q r) (h : OpStep p q) : OpStep p r := OpStep.trans h k

theorem OpStep.ite {p : Part} {c : Prop} [Decidable c] {a b : Part} (ha : OpStep p a) (hb : OpStep p b) :
    OpStep p (if c then a else b) := by
  split
  · exact ha
  · exact hb

theorem OpStep.foldl {α : Type} (g : Part → α → Part) (step : ∀ p a, OpStep p (g p a)) (l : List α) :
    ∀ p, OpStep p (l.foldl g p) := by
  induction l with
  | nil => exact OpStep.refl
  | cons a l ih => exact fun p => (ih _).after (step p a)

/-! ### What no invariant speaks of -/

/-- Of a part, only the line, the Dispatcher but for the addresses of its station records, Fault Capture, the time, the
open choice and the waiting hand-ons may differ. -/
structure Elsewhere (p q : Part) : Prop where
  rest      : q = { p with line := q.line, disp := q.disp, fc := q.fc, now := q.now, choice := q.choice,
                           handOns := q.handOns }
  addresses : q.disp.stations.map (·.address) = p.disp.stations.map (·.address)
  line      : LineOk p.line → LineOk q.line

theorem Elsewhere.op {p q : Part} (h : Elsewhere p q) : OpStep p q := by
  have addresses : On AddressesDistinct p → On AddressesDistinct q := by
    rintro ⟨stations, others⟩
    refine ⟨(congrArg List.Nodup h.addresses).mpr stations, ?_⟩
    rw [h.rest]
    exact others
  refine ⟨⟨?_, ?_, ?_, ?_, ?_, ?_, addresses, ?_, ?_, ?_, ?_, ?_, h.line⟩, ⟨?_, ?_, ?_, ?_⟩⟩ <;> rw [h.rest]
  all_goals first | exact id | exact fun _ => id

theorem LineStep.op {p q : Part} (h : LineStep p q) (line : LineOk p.line → LineOk q.line) : OpStep p q :=
  Elsewhere.op ⟨by rw [h.rest], by rw [h.rest], line⟩

theorem line_op (l : LineInterface) (p : Part) (line : LineOk p.line → LineOk l) : OpStep p { p with line := l } :=
  Elsewhere.op ⟨rfl, rfl, line⟩

theorem raise_op (f : EventFlag) (p : Part) : OpStep p (raise f p) := (raise_ofLine f p).op id

theorem report_op (k : FaultKind) (o : FaultObject) (p : Part) : OpStep p (report k o p) :=
  (report_ofLine k o p).op fun ok => ok.reported k o

theorem queueOwn_op (r : OwnRequest) (p : Part) : OpStep p (queueOwn r p) := (queueOwn_ofLine r p).op fun ok => ok.queueOwn r

theorem formHealth_op (p : Part) : OpStep p (formHealth p) := Elsewhere.op ⟨rfl, rfl, id⟩

theorem choose_op (n : Nat) (p : Part) : OpStep p (choose n p).2 := Elsewhere.op ⟨rfl, rfl, id⟩

theorem choice_op (n : Nat) (p : Part) : OpStep p { p with choice := n } := Elsewhere.op ⟨rfl, rfl, id⟩

theorem handOns_op (l : List HandOn) (p : Part) : OpStep p { p with handOns := l } := Elsewhere.op ⟨rfl, rfl, id⟩

theorem post_op (h : HandOn) (p : Part) : OpStep p (post h p) := handOns_op _ p

theorem tick_op (p : Part) : OpStep p (tick p) := Elsewhere.op ⟨rfl, rfl, id⟩

theorem countDispatch_op (g : DispatchCounters → DispatchCounters) (p : Part) : OpStep p (countDispatch g p) :=
  Elsewhere.op ⟨rfl, rfl, id⟩

theorem provisional_op (l : List ProvisionalRec) (p : Part) :
    OpStep p { p with disp := { p.disp with provisional := l } } := Elsewhere.op ⟨rfl, rfl, id⟩

theorem onStation_op (n : Nat) (g : StationRec → StationRec) (p : Part)
    (same : ∀ s, (g s).address = s.address := by intro; rfl) : OpStep p (onStation n g p) :=
  Elsewhere.op ⟨rfl, updWhere_map _ _ _ same _, id⟩

/-! ### One block changed -/

theorem ctl_op (c : AirflowController) (p : Part)
    (atRest : On ControllerAtRest p → On ControllerAtRest { p with ctl := c }) : OpStep p { p with ctl := c } :=
  ⟨⟨id, id, id, id, atRest, id, id, id, id, id, id, id, id⟩, ⟨rfl, rfl, fun _ => id, fun _ => id⟩⟩

theorem meas_op (m : MeasurementUnit) (p : Part)
    (numbers : On InstrumentsNumbered p → On InstrumentsNumbered { p with meas := m }) :
    OpStep p { p with meas := m } :=
  ⟨⟨numbers, id, id, id, id, id, id, id, id, id, id, id, id⟩, ⟨rfl, rfl, fun _ => id, fun _ => id⟩⟩

theorem coord_op (c : SectionCoordinator) (p : Part)
    (addresses : c.peers.map (·.address) = p.coord.peers.map (·.address))
    (view : On LeadViewJudged p → On LeadViewJudged { p with coord := c }) : OpStep p { p with coord := c } := by
  refine ⟨⟨id, id, id, id, id, view, ?_, id, id, id, id, id, id⟩, ⟨rfl, rfl, fun _ => id, fun _ => id⟩⟩
  rintro ⟨stations, peers, others⟩
  exact ⟨stations, (congrArg List.Nodup addresses).mpr peers, others⟩

theorem ord_op (o : OrderEngine) (p : Part)
    (tags : o.tags.map (fun g => (g.station, g.tag)) = p.ord.tags.map fun g => (g.station, g.tag))
    (pool : poolUsed p.ord.tags ≤ 16 → poolUsed o.tags ≤ 16) : OpStep p { p with ord := o } := by
  refine ⟨⟨id, id, id, id, id, id, ?_, id, id, id, id, pool, id⟩, ⟨rfl, rfl, fun _ => id, fun _ => id⟩⟩
  rintro ⟨stations, peers, keys, others⟩
  exact ⟨stations, peers, (congrArg List.Nodup tags).mpr keys, others⟩

end Sys2Proof.Machine
end

section
/-! PROOFS. What the operations of the Fan Manager make of the invariants: they keep the four slots of the gate and only
shorten the start queue (`GateStep`), and every event of the Fan Manager ends with the queue pruned and A and R formed
(`fanTail`), or changes nothing that these read (`Calm`). -/

namespace Sys2Proof.Machine

/-! ### The gate -/

/-- What every change of a fan leaves of the gate: its slots, and at most the queue before. -/
structure GateStep (p q : Part) : Prop where
  slots : q.fm.slots.length = p.fm.slots.length
  queue : q.fm.queue.Sublist p.fm.queue

theorem GateStep.refl (p : Part) : GateStep p p := ⟨rfl, .refl _⟩

theorem GateStep.trans {p q r : Part} (h : GateStep p q) (k : GateStep q r) : GateStep p r :=
  ⟨k.slots.trans h.slots, k.queue.trans h.queue⟩

theorem GateStep.after {p q r : Part} (k : GateStep q r) (h : GateStep p q) : GateStep p r := GateStep.trans h k

/-- A change that touches neither. -/
theorem GateStep.same {p q : Part} (slots : q.fm.slots = p.fm.slots := by rfl)
    (queue : q.fm.queue = p.fm.queue := by rfl) : GateStep p q := ⟨congrArg _ slots, queue ▸ .refl _⟩

theorem GateStep.foldl {α : Type} (g : Part → α → Part) (step : ∀ p a, GateStep p (g p a)) (l : List α) :
    ∀ p, GateStep p (l.foldl g p) := by
  induction l with
  | nil => exact GateStep.refl
  | cons a l ih => exact fun p => (step p a).trans (ih _)

theorem onFan_gate (n : Nat) (g : FanRec → FanRec) (p : Part) : GateStep p (onFan n g p) := .same

theorem raise_gate (f : EventFlag) (p : Part) : GateStep p (raise f p) := .same

theorem report_gate (k : FaultKind) (o : FaultObject) (p : Part) : GateStep p (report k o p) :=
  .same (by rw [report_fm]) (by rw [report_fm])

theorem askQuery_gate (n : Nat) (p : Part) : GateStep p (askQuery n p) := .same

theorem pruneQueue_gate (p : Part) : GateStep p (pruneQueue p) := ⟨rfl, List.filter_sublist⟩

theorem takeSlot_length (n k : Nat) (l : List (Option Nat)) : (takeSlot n k l).length = l.length := by
  induction l generalizing k with
  | nil => cases k <;> rfl
  | cons s l ih =>
    cases k
    · rfl
    · next k =>
      cases s
      · rfl
      · exact congrArg (· + 1) (ih k)

theorem grantOne_gate (p : Part) : GateStep p (grantOne p) := by
  unfold grantOne
  split
  · exact .same
  · next n rest waiting =>
    repeat' split
    all_goals try exact .same
    exact ⟨takeSlot_length _ _ _, waiting ▸ List.sublist_cons_self n rest⟩

theorem grants_gate (p : Part) : GateStep p (grants p) :=
  (grantOne_gate p).trans ((grantOne_gate _).trans ((grantOne_gate _).trans (grantOne_gate _)))

theorem releaseSlots_gate (p : Part) : GateStep p (releaseSlots p) := by
  have freed : GateStep p (pruneQueue { p with fm := { p.fm with
      slots := p.fm.slots.map fun s => s.filter (isStarting p) } }) :=
    (pruneQueue_gate _).after ⟨List.length_map _, .refl _⟩
  unfold releaseSlots
  dsimp only
  split
  · exact (grants_gate _).after freed
  · exact freed

theorem failFan_gate (n : Nat) (p : Part) : GateStep p (failFan n p) := by
  unfold failFan
  repeat' split
  · exact .same
  · exact (((releaseSlots_gate _).after (raise_gate _ _)).after (report_gate _ _ _)).after (onFan_gate _ _ _)
  · exact .same

theorem isolateByReport_gate (n : Nat) (p : Part) : GateStep p (isolateByReport n p) :=
  (releaseSlots_gate _).after (onFan_gate _ _ _)

theorem loseStation_gate (station : Nat) (p : Part) : GateStep p (loseStation station p) := by
  unfold loseStation
  split
  · exact .same
  · exact (((releaseSlots_gate _).after (raise_gate _ _)).after (report_gate _ _ _)).after .same

theorem askStop_gate (n : Nat) (p : Part) : GateStep p (askStop n p) := by
  unfold askStop
  repeat' split
  all_goals exact .same

theorem testUnwanted_gate (n : Nat) (p : Part) : GateStep p (testUnwanted n p) := by
  unfold testUnwanted
  repeat' split
  · exact askStop_gate n p
  all_goals exact .same

theorem enterRunning_gate (n : Nat) (d : RunDir) (p : Part) : GateStep p (enterRunning n d p) :=
  ((testUnwanted_gate _ _).after (releaseSlots_gate _)).after (onFan_gate _ _ _)

theorem settleFan_gate (n : Nat) (run : RunState) (p : Part) : GateStep p (settleFan n run p) := by
  cases run
  case runFwd => exact enterRunning_gate n _ p
  case runRev => exact enterRunning_gate n _ p
  all_goals exact .same

theorem judgeStarting_gate (n : Nat) (dir : Option RunDir) (run : RunState) (p : Part) :
    GateStep p (judgeStarting n dir run p) := by
  unfold judgeStarting
  repeat' split
  · exact .same
  · exact ((testUnwanted_gate _ _).after (releaseSlots_gate _)).after (onFan_gate _ _ _)
  · exact failFan_gate n p

theorem judgeRunning_gate (f : FanRec) (run : RunState) (p : Part) : GateStep p (judgeRunning f run p) := by
  have unasked (q : Part) : GateStep q (if f.stopReq then q else report .fanStoppedUnasked (fanObject f.e.num) q) := by
    split
    · exact .same
    · exact report_gate _ _ q
  unfold judgeRunning
  cases run <;> dsimp only
  case starting => exact .same
  case runFwd | runRev =>
    split
    · exact .same
    · exact failFan_gate _ p
  all_goals exact (unasked _).after (onFan_gate _ _ _)

theorem judgeStopping_gate (f : FanRec) (run : RunState) (p : Part) : GateStep p (judgeStopping f run p) := by
  unfold judgeStopping
  repeat' split
  · exact onFan_gate _ _ p
  · exact failFan_gate _ p
  · exact .same

theorem judgeStopped_gate (n : Nat) (run : RunState) (p : Part) : GateStep p (judgeStopped n run p) := by
  unfold judgeStopped
  split
  · exact .same
  · exact (enterRunning_gate _ _ _).after .same

theorem judgeRun_gate (n : Nat) (run : RunState) (p : Part) : GateStep p (judgeRun n run p) := by
  unfold judgeRun
  split
  · exact .same
  · split
    · exact judgeStarting_gate _ _ _ p
    · exact judgeRunning_gate _ _ p
    · exact judgeStopping_gate _ _ p
    · exact judgeStopped_gate _ _ p
    · exact settleFan_gate _ _ p
    · exact settleFan_gate _ _ p
    all_goals exact .same

theorem judgeControl_gate (n : Nat) (o : ReportOutput) (p : Part) : GateStep p (judgeControl n o p) := by
  unfold judgeControl
  dsimp only
  repeat' split
  · exact .same
  · exact isolateByReport_gate n p
  · exact onFan_gate _ _ p
  · exact (settleFan_gate _ _ _).after (onFan_gate _ _ _)
  · exact (judgeRun_gate _ _ _).after (onFan_gate _ _ _)
  · exact judgeRun_gate _ _ p

theorem judgeOutput_gate (source : Nat) (p : Part) (o : ReportOutput) : GateStep p (judgeOutput source p o) := by
  unfold judgeOutput
  dsimp only
  repeat' split
  · exact .same
  · exact onFan_gate _ _ p
  · exact (failFan_gate _ _).after (onFan_gate _ _ _)
  · exact (judgeControl_gate _ _ _).after (onFan_gate _ _ _)

theorem startAccepted_gate (f : FanRec) (run : Option RunState) (p : Part) :
    GateStep p (startAccepted f run p) := by
  unfold startAccepted
  dsimp only
  repeat' split
  · exact (judgeRun_gate _ _ _).after .same
  all_goals exact .same

theorem stopAccepted_gate (f : FanRec) (p : Part) : GateStep p (stopAccepted f p) := by
  unfold stopAccepted
  split <;> exact .same

theorem judgeOutcome_gate (f : FanRec) (order : OrderKind) (outcome : OrderOutcome) (p : Part) :
    GateStep p (judgeOutcome f order outcome p) := by
  unfold judgeOutcome
  dsimp only
  repeat' split
  case h_1.isTrue => exact startAccepted_gate _ _ p
  case h_1.isFalse.isTrue => exact stopAccepted_gate _ p
  case h_2.isTrue => exact isolateByReport_gate _ p
  case h_3.isTrue => exact failFan_gate _ p
  case h_4 => exact loseStation_gate _ p
  case h_5.isFalse.isFalse => exact (judgeRun_gate _ _ _).after (onFan_gate _ _ _)
  case h_6.isTrue => exact ((askQuery_gate _ _).after (releaseSlots_gate _)).after (onFan_gate _ _ _)
  all_goals exact .same

theorem readmit_gate (f : FanRec) (p : Part) : GateStep p (readmit f p) := by
  unfold readmit
  split <;> exact .same

end Sys2Proof.Machine
end

section
/-! PROOFS. The events of the Fan Manager keep the invariants: the thrust sums and the start queue, which every event
forms afresh or leaves to read what they read before (R111, R141). -/

namespace Sys2Proof.Machine

/-! ### The thrust sums (R107, R110, R111) -/

theorem sumOf_eq {α : Type} (f : α → Nat) (l : List α) : sumOf f l = (l.map f).sum := by
  induction l with
  | nil => rfl
  | cons x l ih => exact congrArg (f x + ·) ih

theorem useful_rule (r : IncidentRecord) (e : FanEntry) : useful r e = Rule.useful r e := by
  unfold useful Rule.useful target
  by_cases idle : r.id = 0
  · simp [idle]
  · cases dir : r.dir
    · simp [idle]
    · next d => cases d <;> cases orientation : e.orientation <;> simp [idle, pushes]

theorem availableThrust_rule (m : FanManager) : availableThrust m = Rule.available m := by
  unfold availableThrust Rule.available
  rw [sumOf_eq]
  simp only [useful_rule]
  refine congrArg (fun k => ((m.fans.filter k).map _).sum) (funext fun f => ?_)
  cases f.state <;> simp [countsInA]

theorem countsInR_rule (r : IncidentRecord) (f : FanRec) : countsInR r f = decide (
    ((f.state = .starting ∨ f.state = .running) ∧ f.dir ≠ none ∧ f.dir = (Rule.useful r f.e).2) ∨
    (f.state = .unknown ∧ ∃ k ∈ f.known, (k.kind = .starting ∨ k.kind = .running) ∧
      k.dir ≠ none ∧ k.dir = (Rule.useful r f.e).2)) := by
  have isSome (d : Option RunDir) : d.isSome = decide (d ≠ none) := by cases d <;> rfl
  unfold countsInR
  rw [useful_rule]
  cases f.state <;> simp [isSome, beq_eq_decide]
  cases f.known <;> simp [Bool.and_assoc]

theorem runningThrust_rule (m : FanManager) : runningThrust m = Rule.running m := by
  unfold runningThrust Rule.running
  rw [sumOf_eq]
  simp only [useful_rule]
  exact congrArg (fun k => ((m.fans.filter k).map _).sum) (funext fun f => countsInR_rule m.record f)

/-- R111 in the model's own sums. -/
theorem thrustFormed_iff (p : Part) :
    On ThrustFormed p ↔ p.fm.a = availableThrust p.fm ∧ p.fm.r = runningThrust p.fm := by
  rw [availableThrust_rule, runningThrust_rule]
  rfl

/-! ### Changes that neither sum nor queue reads -/

/-- Two fan records that A, R and eligibility read alike. -/
structure Calm (f g : FanRec) : Prop where
  e        : g.e = f.e
  state    : g.state = f.state
  dir      : g.dir = f.dir
  known    : g.known = f.known
  excluded : g.excluded = f.excluded
  heat     : g.heat = f.heat
  resting  : g.resting = f.resting

theorem Calm.refl (f : FanRec) : Calm f f := ⟨rfl, rfl, rfl, rfl, rfl, rfl, rfl⟩

theorem sumOf_filter_map {α : Type} (k : α → Bool) (v : α → Nat) (g : α → α) (same_k : ∀ x, k (g x) = k x)
    (same_v : ∀ x, v (g x) = v x) (l : List α) : sumOf v ((l.map g).filter k) = sumOf v (l.filter k) := by
  rw [sumOf_eq, sumOf_eq, List.filter_map, List.map_map]
  have keeps : k ∘ g = k := funext same_k
  have values : v ∘ g = v := funext same_v
  rw [keeps, values]

section
variable {g : FanRec → FanRec} (calm : ∀ f, Calm f (g f)) (m : FanManager)
include calm

theorem availableThrust_calm : availableThrust { m with fans := m.fans.map g } = availableThrust m :=
  sumOf_filter_map _ _ g (fun f => by rw [(calm f).state, (calm f).excluded, (calm f).heat])
    (fun f => by rw [(calm f).e]) m.fans

theorem runningThrust_calm : runningThrust { m with fans := m.fans.map g } = runningThrust m :=
  sumOf_filter_map _ _ g (fun f => by unfold countsInR; rw [(calm f).state, (calm f).dir, (calm f).known, (calm f).e])
    (fun f => by rw [(calm f).e]) m.fans

theorem find_calm (n : Nat) (l : List FanRec) :
    (l.map g).find? (fun f => f.e.num == n) = (l.find? fun f => f.e.num == n).map g := by
  rw [List.find?_map]
  exact congrArg (fun k => (l.find? k).map g) (funext fun f => by simp [(calm f).e])

theorem eligibleNum_calm (n : Nat) : eligibleNum { m with fans := m.fans.map g } n = eligibleNum m n := by
  unfold eligibleNum
  rw [find_calm calm]
  cases m.fans.find? fun f => f.e.num == n
  · rfl
  · next f =>
    simp [eligible, (calm f).state, (calm f).resting, (calm f).excluded, (calm f).heat, (calm f).e]

end

/-! ### The Fan Manager changed -/

theorem FmStep.op {p q : Part} (h : FmStep p q) (zoneTemps : On ZoneTempsListed p → On ZoneTempsListed q)
    (distinct : On FansDistinct p → On FansDistinct q) (numbered : On FansNumbered p → On FansNumbered q)
    (thrust : On ThrustFormed p → On ThrustFormed q) (queue : On QueueEligible p → On QueueEligible q) :
    OpStep p q := by
  refine ⟨⟨?_, zoneTemps, ?_, ?_, ?_, ?_, ?_, distinct, numbered, thrust, queue, ?_, ?_⟩, ⟨?_, ?_, ?_, ?_⟩⟩ <;> rw [h.rest]
  all_goals first | exact id | exact fun _ => id

theorem numbers_of_entries {l m : List FanRec} (same : l.map (·.e) = m.map (·.e)) :
    l.map (·.e.num) = m.map (·.e.num) := by
  have numbers := congrArg (List.map FanEntry.num) same
  rwa [List.map_map, List.map_map] at numbers

theorem numbered_of_entries {l m : List FanRec} (same : l.map (·.e) = m.map (·.e))
    (numbered : ∀ f ∈ m, 1 ≤ f.e.num ∧ f.e.num ≤ 48) : ∀ f ∈ l, 1 ≤ f.e.num ∧ f.e.num ≤ 48 := by
  intro f mem
  obtain ⟨g, held, entry⟩ := List.mem_map.mp (same ▸ List.mem_map_of_mem mem)
  exact entry ▸ numbered g held

/-- What a `FanStep` needs beside it to keep the invariants. -/
theorem FanStep.op {p q : Part} (h : FanStep p q) (slots : q.fm.slots.length = p.fm.slots.length)
    (thrust : On ThrustFormed p → On ThrustFormed q) (queue : On QueueEligible p → On QueueEligible q) :
    OpStep p q := by
  refine h.toFmStep.op ?_ ?_ ?_ thrust queue
  · exact fun listed => (congrArg _ h.zoneTemps).trans listed
  · rintro ⟨numbers, preference, four, tables⟩
    refine ⟨(numbers_of_entries h.entries) ▸ numbers, h.preference ▸ preference, slots.trans four, ?_⟩
    rw [h.rest]
    exact tables
  · rintro ⟨numbers, table⟩
    refine ⟨numbered_of_entries h.entries numbers, ?_⟩
    rw [h.rest]
    exact table

/-- An operation that leaves the fans as A, R and eligibility read them, and the queue, the sums and the slots. -/
theorem FanStep.calm {p q : Part} (h : FanStep p q) (g : FanRec → FanRec) (calm : ∀ f, Calm f (g f))
    (fans : q.fm.fans = p.fm.fans.map g) (slots : q.fm.slots = p.fm.slots) (a : q.fm.a = p.fm.a)
    (r : q.fm.r = p.fm.r) (queue : q.fm.queue = p.fm.queue) : OpStep p q := by
  have available : availableThrust q.fm = availableThrust p.fm := by
    rw [← availableThrust_calm calm p.fm]
    unfold availableThrust
    rw [fans, h.record]
  have running : runningThrust q.fm = runningThrust p.fm := by
    rw [← runningThrust_calm calm p.fm]
    unfold runningThrust
    rw [fans, h.record]
  have eligible (n : Nat) : eligibleNum q.fm n = eligibleNum p.fm n := by
    rw [← eligibleNum_calm calm p.fm]
    unfold eligibleNum
    rw [fans, h.record]
  refine h.op (congrArg _ slots) ?_ ?_
  · rw [thrustFormed_iff, thrustFormed_iff, a, r, available, running]
    exact id
  · rintro ⟨empty, all⟩
    refine ⟨fun other => queue.trans (empty (h.record ▸ other)), fun n mem => ?_⟩
    exact (eligible n).trans (all n (queue ▸ mem))

/-- A change of the Fan Manager that the invariants do not read. -/
theorem fm_op (m : FanManager) (p : Part) (record : m.record = p.fm.record := by rfl)
    (preference : m.preference = p.fm.preference := by rfl) (zoneTemps : m.zoneTemps = p.fm.zoneTemps := by rfl)
    (fans : m.fans = p.fm.fans := by rfl) (slots : m.slots = p.fm.slots := by rfl) (a : m.a = p.fm.a := by rfl)
    (r : m.r = p.fm.r := by rfl) (queue : m.queue = p.fm.queue := by rfl) : OpStep p { p with fm := m } :=
  (fm_step m p record preference zoneTemps (congrArg _ fans)).calm id Calm.refl (fans.trans (List.map_id _).symm) slots
    a r queue

theorem onFan_calm (n : Nat) (g : FanRec → FanRec) (p : Part) (calm : ∀ f, Calm f (g f)) : OpStep p (onFan n g p) := by
  refine (onFan_step n g p fun f => (calm f).e).calm (fun f => if f.e.num == n then g f else f) (fun f => ?_) rfl rfl rfl
    rfl rfl
  split
  · exact calm f
  · exact Calm.refl f

theorem askStop_op (n : Nat) (p : Part) : OpStep p (askStop n p) := by
  unfold askStop
  repeat' split
  · exact (post_op _ _).after (onFan_calm _ _ _ fun f => ⟨rfl, rfl, rfl, rfl, rfl, rfl, rfl⟩)
  all_goals exact .refl p

theorem testUnwanted_op (n : Nat) (p : Part) : OpStep p (testUnwanted n p) := by
  unfold testUnwanted
  repeat' split
  · exact askStop_op n p
  all_goals exact .refl p

theorem testAllUnwanted_op (p : Part) : OpStep p (testAllUnwanted p) :=
  OpStep.foldl _ (fun p n => testUnwanted_op n p) _ p

theorem testClearing_op (p : Part) : OpStep p (testClearing p) := by
  unfold testClearing
  split
  · exact (post_op _ _).after (fm_op _ p)
  · exact .refl p

theorem staggeredStop_op (p : Part) : OpStep p (staggeredStop p) := by
  unfold staggeredStop
  dsimp only
  split
  · exact (fm_op _ _).after (askStop_op _ p)
  · exact fm_op _ p

theorem spacingExpires_op (p : Part) : OpStep p (spacingExpires p) := by
  unfold spacingExpires
  repeat' split
  · exact staggeredStop_op p
  · exact fm_op _ p
  · exact .refl p

theorem runDownExpires_op (n : Nat) (p : Part) : OpStep p (runDownExpires n p) :=
  onFan_calm n _ p fun f => by split <;> exact ⟨rfl, rfl, rfl, rfl, rfl, rfl, rfl⟩

/-! ### Events that end with the queue pruned and the sums formed -/

/-- Pruned, a queue holds none but eligible fans, and outside CONTROL nothing if it held nothing. -/
theorem pruneQueue_eligible {p q : Part} (record : q.fm.record = p.fm.record) (queue : q.fm.queue.Sublist p.fm.queue)
    (eligible : On QueueEligible p) : On QueueEligible (pruneQueue q) := by
  refine ⟨fun other => ?_, fun n mem => (List.mem_filter.mp mem).2⟩
  have none_waits : p.fm.queue = [] := eligible.1 (record ▸ other)
  have empty : q.fm.queue = [] := List.sublist_nil.mp (none_waits ▸ queue)
  change q.fm.queue.filter _ = []
  rw [empty]
  rfl

theorem formThrust_formed (p : Part) : On ThrustFormed (formThrust p) :=
  (thrustFormed_iff (formThrust p)).mpr ⟨rfl, rfl⟩

/-- With the queue pruned and A and R formed the invariants are kept, whatever became of the fans. -/
theorem formThrust_op {p q : Part} (h : FanStep p q) (g : GateStep p q) : OpStep p (formThrust (pruneQueue q)) :=
  ((formThrust_step _).after ((pruneQueue_step q).after h)).op g.slots (fun _ => formThrust_formed _)
    (pruneQueue_eligible h.record g.queue)

theorem fanTail_op {p q : Part} (h : FanStep p q) (g : GateStep p q) : OpStep p (fanTail q) :=
  (testClearing_op _).after (formThrust_op h g)

theorem takeReport_op (source : Nat) (outputs : List ReportOutput) (p : Part) :
    OpStep p (takeReport source outputs p) := by
  unfold takeReport
  extract_lets back m p1 p2 p3
  have heard : FanStep p p1 := fm_step _ p
  have judged : FanStep p1 p2 := FanStep.foldl _ (judgeOutput_step source) outputs p1
  have heard_gate : GateStep p p1 := .same
  have judged_gate : GateStep p1 p2 := GateStep.foldl _ (judgeOutput_gate source) outputs p1
  have named : FanStep p2 p3 ∧ GateStep p2 p3 := by
    unfold p3
    split
    · exact ⟨FanStep.foldl _ (fun q n => (askQuery_step _ _).after (onFan_step n becomeUnknown q becomeUnknown_e)) _ p2,
        GateStep.foldl _ (fun q n => .same) _ p2⟩
    · exact ⟨.refl p2, .same⟩
  exact fanTail_op (named.1.after (judged.after heard)) (named.2.after (judged_gate.after heard_gate))

theorem takeOutcome_op (n : Nat) (order : OrderKind) (outcome : OrderOutcome) (p : Part) :
    OpStep p (takeOutcome n order outcome p) := by
  unfold takeOutcome
  split
  · exact .refl p
  · next f _ =>
    dsimp only
    split
    · exact fanTail_op ((judgeOutcome_step f order outcome _).after (onFan_step _ _ p))
        ((judgeOutcome_gate f order outcome _).after (onFan_gate _ _ p))
    · exact fanTail_op (judgeOutcome_step f order outcome p) (judgeOutcome_gate f order outcome p)

theorem restExpires_op (n : Nat) (p : Part) : OpStep p (restExpires n p) :=
  fanTail_op (onFan_step _ _ p fun f => by split <;> rfl) (onFan_gate _ _ p)

theorem runUpExpires_op (n : Nat) (p : Part) : OpStep p (runUpExpires n p) := by
  unfold runUpExpires
  repeat' split
  · exact fanTail_op (failFan_step n p) (failFan_gate n p)
  all_goals exact .refl p

theorem silenceExpires_op (station : Nat) (p : Part) : OpStep p (silenceExpires station p) := by
  unfold silenceExpires
  split
  · exact fanTail_op (loseStation_step station p) (loseStation_gate station p)
  · exact .refl p

theorem isolateFan_op (n : Nat) (p : Part) : OpStep p (isolateFan n p) :=
  fanTail_op ((releaseSlots_step _).after (onFan_step _ _ p)) ((releaseSlots_gate _).after (onFan_gate _ _ p))

theorem admitFan_op (n : Nat) (p : Part) : OpStep p (admitFan n p) := by
  have readmitted (f : FanRec) (g : FanRec → FanRec) (same : ∀ f, (g f).e = f.e) :
      OpStep p (fanTail (readmit f (onFan n g p))) :=
    fanTail_op ((readmit_step f _).after (onFan_step n g p same)) ((readmit_gate f _).after (onFan_gate _ _ p))
  unfold admitFan
  dsimp only
  repeat' split
  · exact .refl p
  · exact readmitted _ _ fun _ => rfl
  · exact fanTail_op (onFan_step _ _ p) (onFan_gate _ _ p)
  · exact readmitted _ _ fun _ => rfl
  all_goals exact .refl p

theorem stopRule_gate (p : Part) : GateStep p (stopRule p) := by
  unfold stopRule
  repeat' split
  case h_2.isTrue => exact askStop_gate _ p
  all_goals exact .same

theorem takeDemand_op (d : Nat) (p : Part) : OpStep p (takeDemand d p) := by
  unfold takeDemand
  extract_lets m p1 p2
  split
  · next control =>
    have rebuilt : FanStep p p1 := fm_step _ p
    have stops : FanStep p1 p2 ∧ GateStep p1 p2 := by
      unfold p2
      split
      · exact ⟨stopRule_step p1, stopRule_gate p1⟩
      · exact ⟨.refl p1, .same⟩
    have granted : FanStep p (grants p2) := (grants_step p2).after (stops.1.after rebuilt)
    have slots : (grants p2).fm.slots.length = p.fm.slots.length := ((grants_gate p2).after stops.2).slots
    refine ((formThrust_step _).after ((pruneQueue_step _).after granted)).op slots
      (fun _ => formThrust_formed _) fun _ => ⟨fun other => absurd ?_ other, fun n mem => (List.mem_filter.mp mem).2⟩
    have held : (formThrust (pruneQueue (grants p2))).fm.record = p.fm.record := granted.record
    change (formThrust (pruneQueue (grants p2))).fm.record.state = .control
    rw [held]
    simpa [inControl] using control
  · exact .refl p

end Sys2Proof.Machine
end

section
/-! PROOFS. Fan tables and incident records keep the invariants of the Fan Manager: the fan numbers and the preference
order stay distinct (R107, R134), and a record taken leaves the sums formed and the queue judged (R135, R141). -/

namespace Sys2Proof.Machine

/-! ### Orders are permutations -/

theorem insertBy_perm {α : Type} (lt : α → α → Bool) (x : α) (l : List α) : (insertBy lt x l).Perm (x :: l) := by
  induction l with
  | nil => exact .refl _
  | cons y ys ih =>
    unfold insertBy
    split
    · exact .refl _
    · exact (ih.cons y).trans (.swap x y ys)

theorem sortBy_perm {α : Type} (lt : α → α → Bool) (l : List α) : (sortBy lt l).Perm l := by
  have grows (acc : List α) : (l.foldl (fun acc x => insertBy lt x acc) acc).Perm (l ++ acc) := by
    induction l generalizing acc with
    | nil => exact .refl _
    | cons x l ih => exact (ih _).trans (((insertBy_perm lt x acc).append_left l).trans List.perm_middle)
  have from_nil := grows []
  rwa [List.append_nil] at from_nil

theorem preferenceOf_nodup (r : IncidentRecord) {fans : List FanRec} (numbers : (fans.map (·.e.num)).Nodup) :
    (preferenceOf r fans).Nodup := by
  unfold preferenceOf
  split
  · exact List.nodup_nil
  · have kept := (sortBy_perm (prefers r) (fans.filter fun f => f.state != .unconfigured)).map (·.e.num)
    exact kept.nodup_iff.mpr (numbers.sublist (List.filter_sublist.map _))

/-! ### Changes that the sums and the queue have still to follow -/

/-- A change of the Fan Manager that keeps what the invariants say of its tables: the zone temperatures, the fan numbers,
the preference order and the gate. -/
structure TableStep (p q : Part) : Prop extends FmStep p q where
  zoneTemps : On ZoneTempsListed p → On ZoneTempsListed q
  distinct  : On FansDistinct p → On FansDistinct q
  numbered  : On FansNumbered p → On FansNumbered q

theorem TableStep.refl (p : Part) : TableStep p p := ⟨FmStep.refl p, id, id, id⟩

theorem TableStep.trans {p q r : Part} (h : TableStep p q) (k : TableStep q r) : TableStep p r :=
  ⟨h.toFmStep.trans k.toFmStep, k.zoneTemps ∘ h.zoneTemps, k.distinct ∘ h.distinct, k.numbered ∘ h.numbered⟩

theorem TableStep.ite {p : Part} {c : Prop} [Decidable c] {a b : Part} (ha : TableStep p a) (hb : TableStep p b) :
    TableStep p (if c then a else b) := by
  split
  · exact ha
  · exact hb

theorem FanStep.table {p q : Part} (h : FanStep p q) (g : GateStep p q) : TableStep p q := by
  have op (r : Part) (s : FanStep r q) (k : q.fm.slots.length = r.fm.slots.length) :
      (On ZoneTempsListed r → On ZoneTempsListed q) ∧ (On FansDistinct r → On FansDistinct q) ∧
        (On FansNumbered r → On FansNumbered q) := by
    refine ⟨fun listed => (congrArg _ s.zoneTemps).trans listed, ?_, ?_⟩
    · rintro ⟨numbers, preference, four, tables⟩
      refine ⟨(numbers_of_entries s.entries) ▸ numbers, s.preference ▸ preference, k.trans four, ?_⟩
      rw [s.rest]
      exact tables
    · rintro ⟨numbers, table⟩
      refine ⟨numbered_of_entries s.entries numbers, ?_⟩
      rw [s.rest]
      exact table
  obtain ⟨zoneTemps, distinct, numbered⟩ := op p h g.slots
  exact ⟨h.toFmStep, zoneTemps, distinct, numbered⟩

/-- A change of what the tables' invariants do not read. -/
theorem fm_table (m : FanManager) (p : Part) (preference : m.preference = p.fm.preference := by rfl)
    (zoneTemps : m.zoneTemps.map (·.zone) = p.fm.zoneTemps.map (·.zone) := by rfl)
    (entries : m.fans.map (·.e) = p.fm.fans.map (·.e) := by rfl)
    (slots : m.slots.length = p.fm.slots.length := by rfl) : TableStep p { p with fm := m } := by
  refine ⟨⟨rfl, FlagsKept.refl _⟩, fun listed => zoneTemps.trans listed, ?_, ?_⟩
  · rintro ⟨numbers, order, four, tables⟩
    exact ⟨(numbers_of_entries entries) ▸ numbers, preference ▸ order, slots.trans four, tables⟩
  · rintro ⟨numbers, table⟩
    exact ⟨numbered_of_entries entries numbers, table⟩

theorem formPreference_table (p : Part) : TableStep p (formPreference p) := by
  refine ⟨⟨rfl, FlagsKept.refl _⟩, id, ?_, id⟩
  rintro ⟨numbers, _, others⟩
  exact ⟨numbers, preferenceOf_nodup _ numbers, others⟩

theorem judgeExclusion_table (p : Part) : TableStep p (judgeExclusion p) :=
  fm_table _ p rfl rfl (by rw [List.map_map]; rfl)

theorem clearHeat_table (p : Part) : TableStep p (clearHeat p) := fm_table _ p rfl rfl (by rw [List.map_map]; rfl)

theorem judgeHeat_table (k : FanRec → Bool) (p : Part) : TableStep p (judgeHeat k p) :=
  fm_table _ p rfl rfl (by refine updWhere_map _ _ _ (fun f => ?_) _; rfl)

theorem raise_table (f : EventFlag) (p : Part) : TableStep p (raise f p) := (raise_step f p).table .same

theorem askQueries_table (l : List Nat) (p : Part) : TableStep p (l.foldl (fun p n => askQuery n p) p) :=
  (FanStep.foldl _ (fun p n => askQuery_step n p) l p).table (GateStep.foldl _ (fun p n => askQuery_gate n p) l p)

/-- `fanTail` after a change of the tables, the record and the queue standing. -/
theorem TableStep.tail {p q : Part} (h : TableStep p q) (record : q.fm.record = p.fm.record)
    (queue : q.fm.queue.Sublist p.fm.queue) : OpStep p (fanTail q) := by
  have formed : TableStep p (formThrust (pruneQueue q)) :=
    h.trans (((pruneQueue_step q).table (pruneQueue_gate q)).trans ((formThrust_step _).table .same))
  exact (testClearing_op _).after (formed.toFmStep.op formed.zoneTemps formed.distinct formed.numbered
    (fun _ => formThrust_formed _) (pruneQueue_eligible record queue))

/-! ### Zone temperatures and incident records (R113, R135) -/

theorem zoneTemps_op (zone : Nat) (v : Option Int) (p : Part) :
    OpStep p { p with fm := { p.fm with
      zoneTemps := p.fm.zoneTemps.map fun z => if z.zone == zone then { z with value := v } else z } } := by
  have listed := fm_table { p.fm with
      zoneTemps := updWhere (fun z => z.zone == zone) (fun z => { z with value := v }) p.fm.zoneTemps } p rfl
    (by refine updWhere_map _ _ _ (fun z => ?_) _; rfl)
  exact listed.toFmStep.op listed.zoneTemps listed.distinct listed.numbered id id

theorem takeZoneTemp_op (zone : Nat) (v : Option Int) (p : Part) : OpStep p (takeZoneTemp zone v p) := by
  unfold takeZoneTemp
  extract_lets before m p1
  have listed : OpStep p p1 := zoneTemps_op zone v p
  have tested (l : List FanRec) (q : Part) : FanStep q (testNewHeat l q) ∧ GateStep q (testNewHeat l q) :=
    ⟨FanStep.foldl _ (fun p n => testUnwanted_step n p) _ q, GateStep.foldl _ (fun p n => testUnwanted_gate n p) _ q⟩
  refine OpStep.ite listed (OpStep.after ?_ listed)
  obtain ⟨step, gate⟩ := tested before (judgeHeat (fun f => f.e.zone == zone) p1)
  exact ((judgeHeat_table _ p1).trans (step.table gate)).tail step.record gate.queue

theorem fansTakeRecord_op (h : RecordHandOn) (p : Part) : OpStep p (fansTakeRecord h p) := by
  unfold fansTakeRecord
  extract_lets old new idChanged moved entering m0 p1 p2 p3 p4 p5 p6 p7 p8 m8 p9
  have h3 : TableStep p p3 := (((fm_table _ p).trans (judgeExclusion_table p1)).trans
    (TableStep.ite (clearHeat_table p2) (.refl p2)))
  have h5 : TableStep p p5 := (h3.trans (TableStep.ite (judgeHeat_table _ p3) (.refl p3))).trans
    (TableStep.ite (formPreference_table p4) (.refl p4))
  have h7 : TableStep p p7 := (h5.trans (TableStep.ite (fm_table _ p5) ((pruneQueue_step p5).table (pruneQueue_gate p5)))).trans
    ((formThrust_step p6).table .same)
  have record : p5.fm.record = new := by
    unfold p5 p4 p3
    split_ifs <;> rfl
  have queue : On QueueEligible p7 := by
    unfold p7 p6
    split
    · exact ⟨fun _ => rfl, fun n mem => absurd mem List.not_mem_nil⟩
    · next control =>
      refine ⟨fun other => absurd ?_ other, fun n mem => (List.mem_filter.mp mem).2⟩
      have stays : new.state = .control := by
        by_contra left
        simp [left] at control
      exact (congrArg IncidentRecord.state record).trans stays
  have formed : OpStep p p7 := h7.toFmStep.op h7.zoneTemps h7.distinct h7.numbered (fun _ => formThrust_formed p6)
    fun _ => queue
  have tested : OpStep p7 p8 := OpStep.ite (testAllUnwanted_op p7) (.refl p7)
  have cleared : OpStep p8 p9 :=
    OpStep.ite (OpStep.ite ((staggeredStop_op _).after (fm_op _ p8)) (.refl p8)) (fm_op _ p8)
  exact (((testClearing_op p9).after cleared).after tested).after formed

/-! ### Activation and RESTART (R109, R125, R132) -/

theorem buildReach_op (p : Part) : OpStep p (buildReach p) := fm_op _ p

theorem fanEntries_perm {p : Part} {x : FanTable} (active : p.mgmt.fans = some x) : p.fanEntries.Perm x.entries := by
  unfold Part.fanEntries
  rw [active]
  exact sortBy_perm _ _

theorem fanEntries_none {p : Part} (absent : p.mgmt.fans = none) : p.fanEntries = [] := by
  unfold Part.fanEntries
  rw [absent]

theorem judgedFan_e (p : Part) (e : FanEntry) : (judgedFan p e).e = e := by
  unfold judgedFan
  dsimp only
  split <;> rfl

/-- Fans made of the entries of the active FAN table have its numbers. -/
theorem fansOfTable_table (p : Part) (one : FanEntry → FanRec) (own : ∀ e, (one e).e = e) :
    TableStep p { p with fm := { p.fm with fans := p.fanEntries.map one } } := by
  have numbers : (p.fanEntries.map one).map (·.e.num) = p.fanEntries.map (·.num) := by
    rw [List.map_map]
    exact List.map_congr_left fun e _ => congrArg FanEntry.num (own e)
  refine ⟨⟨rfl, FlagsKept.refl _⟩, id, ?_, ?_⟩
  · rintro ⟨_, preference, four, table, others⟩
    refine ⟨?_, preference, four, table, others⟩
    change ((p.fanEntries.map one).map (·.e.num)).Nodup
    rw [numbers]
    cases active : p.mgmt.fans
    · rw [fanEntries_none active]
      exact List.nodup_nil
    · next x => exact ((fanEntries_perm active).map _).nodup_iff.mpr (table x active)
  · rintro ⟨_, table⟩
    refine ⟨fun f mem => ?_, table⟩
    obtain ⟨e, entry, rfl⟩ := List.mem_map.mp mem
    rw [own]
    cases active : p.mgmt.fans
    · simp [fanEntries_none active] at entry
    · next x => exact table x active e ((fanEntries_perm active).mem_iff.mp entry)

theorem raiseDangling_table (p : Part) : TableStep p (raiseDangling p) :=
  TableStep.ite (raise_table _ p) (.refl p)

theorem judgeFans_op (p : Part) : OpStep p (judgeFans p) := by
  unfold judgeFans
  extract_lets asked m p1 p2 p3
  have named : TableStep p p1 := (fansOfTable_table p (judgedFan p) (judgedFan_e p)).trans (raiseDangling_table _)
  have queries : TableStep p1 p2 := askQueries_table asked p1
  have marked : TableStep p2 p3 := TableStep.ite
    (((judgeExclusion_table p2).trans (judgeHeat_table _ _)).trans (formPreference_table _)) (.refl p2)
  have same : p3.fm.record = p.fm.record ∧ p3.fm.queue = p.fm.queue := by
    have steps := FanStep.foldl _ (fun p n => askQuery_step n p) asked p1
    have asks (l : List Nat) (q : Part) : (l.foldl (fun p n => askQuery n p) q).fm = q.fm := by
      induction l generalizing q with
      | nil => rfl
      | cons n l ih => exact ih _
    have dangling : p1.fm.record = p.fm.record ∧ p1.fm.queue = p.fm.queue := by
      unfold p1 raiseDangling
      split <;> exact ⟨rfl, rfl⟩
    have asked_fm : p2.fm = p1.fm := asks asked p1
    have marks : p3.fm.record = p2.fm.record ∧ p3.fm.queue = p2.fm.queue := by
      unfold p3
      split <;> exact ⟨rfl, rfl⟩
    exact ⟨marks.1.trans (asked_fm ▸ dangling.1), marks.2.trans (asked_fm ▸ dangling.2)⟩
  exact ((named.trans queries).trans (marked.trans ((releaseSlots_step p3).table (releaseSlots_gate p3)))).tail
    ((releaseSlots_step p3).record.trans same.1) (same.2 ▸ (releaseSlots_gate p3).queue)

theorem restartFan_e (f : FanRec) : (restartFan f).e = f.e := by
  unfold restartFan
  cases f.state <;> dsimp only
  case stopped | starting | running | stopping => exact keepKnown_e f
  case isolated => cases f.mgrIso <;> rfl
  all_goals rfl

theorem restartFans_op (p : Part) : OpStep p (restartFans p) := by
  unfold restartFans
  extract_lets m p1 p2 p3
  have emptied : FanStep p p1 := fm_step _ p rfl rfl rfl (by
    change (p.fm.fans.map restartFan).map (·.e) = _
    rw [List.map_map]
    exact List.map_congr_left fun f _ => restartFan_e f)
  have empty : GateStep p p1 := ⟨rfl, List.nil_sublist _⟩
  have queries : FanStep p2 p3 := FanStep.foldl _ (fun p n => askQuery_step n p) _ p2
  have queries_gate : GateStep p2 p3 := GateStep.foldl _ (fun p n => askQuery_gate n p) _ p2
  exact fanTail_op ((queries.after (releaseSlots_step p1)).after emptied)
    ((queries_gate.after (releaseSlots_gate p1)).after empty)

end Sys2Proof.Machine
end

section
/-! PROOFS. The Order Engine keeps the invariants: the tags keep their numbers, and a tag is taken only while the pool has
room (R154, R155, R169). -/

namespace Sys2Proof.Machine

/-! ### Tags -/

/-- A tag by its station and number. -/
def TagRec.key (g : TagRec) : Nat × Nat := (g.station, g.tag)

theorem updFirst_map {α β : Type} (v : α → β) (k : α → Bool) (f : α → α) (same : ∀ x, v (f x) = v x) (l : List α) :
    (updFirst k f l).map v = l.map v := by
  induction l with
  | nil => rfl
  | cons x l ih =>
    unfold updFirst
    split
    · exact congrArg (· :: l.map v) (same x)
    · exact congrArg (v x :: ·) ih

theorem poolUsed_cons (g : TagRec) (l : List TagRec) :
    poolUsed (g :: l) = (if g.state = .free then 0 else 1) + poolUsed l := by
  unfold poolUsed
  by_cases free : g.state = .free
  · simp [free]
  · simp [free, Nat.add_comm]

/-- A tag changed takes at most one slot of the pool more. -/
theorem poolUsed_updFirst_le_succ (k : TagRec → Bool) (f : TagRec → TagRec) (l : List TagRec) :
    poolUsed (updFirst k f l) ≤ poolUsed l + 1 := by
  induction l with
  | nil => exact Nat.zero_le _
  | cons g l ih =>
    unfold updFirst
    split <;> simp only [poolUsed_cons] <;> repeat' split
    all_goals omega

/-- A tag that is not FREE changed, or one changed to FREE, takes no slot of the pool more. -/
theorem poolUsed_updFirst_le (k : TagRec → Bool) (f : TagRec → TagRec) (l : List TagRec)
    (none_taken : ∀ g, l.find? k = some g → g.state ≠ .free ∨ (f g).state = .free) :
    poolUsed (updFirst k f l) ≤ poolUsed l := by
  induction l with
  | nil => exact Nat.le_refl _
  | cons g l ih =>
    unfold updFirst
    split
    · next found =>
      have held := none_taken g (List.find?_cons_of_pos found)
      simp only [poolUsed_cons]
      repeat' split
      all_goals first | omega | tauto
    · next other =>
      have rest := ih fun x found => none_taken x (by rwa [List.find?_cons_of_neg other])
      simp only [poolUsed_cons]
      omega

theorem poolUsed_map (f : TagRec → TagRec) (l : List TagRec) (same : ∀ g, (f g).state = .free ↔ g.state = .free) :
    poolUsed (l.map f) = poolUsed l := by
  induction l with
  | nil => rfl
  | cons g l ih => simp only [List.map_cons, poolUsed_cons, ih, same]

theorem records_op (records : List OrderRec) (backlog : List Nat) (counters : OrderCounters) (p : Part) :
    OpStep p { p with ord := { p.ord with records := records, backlog := backlog, counters := counters } } :=
  ord_op _ p rfl id

theorem onOrder_op (n : Nat) (g : OrderRec → OrderRec) (p : Part) : OpStep p (onOrder n g p) := records_op _ _ _ p

theorem countOrder_op (g : OrderCounters → OrderCounters) (p : Part) : OpStep p (countOrder g p) := records_op _ _ _ p

theorem joinBack_op (n : Nat) (p : Part) : OpStep p (joinBack n p) := records_op _ _ _ p

theorem joinFront_op (n : Nat) (p : Part) : OpStep p (joinFront n p) := records_op _ _ _ p

theorem withdraw_op (a k : Nat) (p : Part) : OpStep p (withdraw a k p) := line_op _ p fun ok => ok.removed _

theorem setTag_op {a k : Nat} {g : TagRec} (x : TagState) (q : Timer) {p : Part} (found : p.tag? a k = some g)
    (none_taken : g.state ≠ .free ∨ x = .free) : OpStep p (setTag a k x q p) := by
  refine ord_op _ p (by refine updFirst_map TagRec.key _ _ (fun g => ?_) _; rfl) fun pool =>
    (poolUsed_updFirst_le _ _ _ fun y held => ?_).trans pool
  obtain rfl := Option.some.inj (held.symm.trans found)
  exact none_taken

theorem takeTag_op (a k : Nat) {p : Part} (room : poolUsed p.ord.tags < 16) : OpStep p (takeTag a k p) :=
  ord_op _ p (by refine updFirst_map TagRec.key _ _ (fun g => ?_) _; rfl) fun _ =>
    (poolUsed_updFirst_le_succ _ _ _).trans (Nat.succ_le_of_lt room)

theorem tagBusy_found {a k : Nat} {p : Part} (busy : tagBusy a k p = true) :
    ∃ g, p.tag? a k = some g ∧ g.state ≠ .free := by
  unfold tagBusy at busy
  split at busy
  · next g found => exact ⟨g, found, by simp [eq_of_beq busy]⟩
  · exact absurd busy Bool.false_ne_true

theorem tagToFree_op (a k : Nat) (p : Part) : OpStep p (tagToFree a k p) := by
  unfold tagToFree
  split
  · next busy =>
    obtain ⟨g, found, _⟩ := tagBusy_found busy
    exact (withdraw_op _ _ _).after (setTag_op _ _ found (.inr rfl))
  · exact .refl p

theorem tagToQuarantine_op (a k : Nat) (p : Part) : OpStep p (tagToQuarantine a k p) := by
  unfold tagToQuarantine
  split
  · next busy =>
    obtain ⟨g, found, used⟩ := tagBusy_found busy
    exact (withdraw_op _ _ _).after (setTag_op _ _ found (.inl used))
  · exact .refl p

theorem freeTagOf_op (r : OrderRec) (p : Part) : OpStep p (freeTagOf r p) := by
  unfold freeTagOf
  split
  · exact tagToFree_op _ _ p
  · exact .refl p

theorem quarantineTagOf_op (r : OrderRec) (p : Part) : OpStep p (quarantineTagOf r p) := by
  unfold quarantineTagOf
  split
  · exact tagToQuarantine_op _ _ p
  · exact .refl p

/-! ### Records and the backlog -/

theorem reportEmpty_op (p : Part) : OpStep p (reportEmpty p) := OpStep.ite (testClearing_op p) (.refl p)

theorem finishRec_op (r : OrderRec) (outcome : OrderOutcome) (p : Part) : OpStep p (finishRec r outcome p) := by
  unfold finishRec
  extract_lets p1 o p2
  have removed : OpStep p p2 := (records_op _ _ _ p1).after (takeOutcome_op _ _ _ p)
  split
  · exact removed
  · exact ((joinBack_op _ _).after (records_op _ _ _ _)).after removed

theorem withdrawRec_op (r : OrderRec) (p : Part) : OpStep p (withdrawRec r p) :=
  (((reportEmpty_op _).after (finishRec_op _ _ _)).after (countOrder_op _ _)).after (freeTagOf_op r p)

theorem sendOrder_op (r : OrderRec) (tag : Nat) (p : Part) : OpStep p (sendOrder r tag p) := by
  unfold sendOrder
  exact ((countOrder_op _ _).after (onOrder_op _ _ _)).after (queueOwn_op _ p)

theorem issue_op (r : OrderRec) (tag : Nat) {p : Part} (room : poolUsed p.ord.tags < 16) :
    OpStep p (issue r tag p) := by
  have sent : OpStep p (sendOrder r tag (takeTag r.station tag p)) := (sendOrder_op _ _ _).after (takeTag_op _ _ room)
  unfold issue
  dsimp only
  repeat' split
  · exact (onOrder_op _ _ _).after sent
  · exact ((onOrder_op _ _ _).after (onOrder_op _ _ _)).after sent
  · exact sent

theorem serveWith_op (n : Nat) (p : Part) : OpStep p (serveWith n p) := by
  induction n generalizing p with
  | zero => exact .refl p
  | succ n ih =>
    unfold serveWith
    split
    · next room =>
      split
      · exact .refl p
      · next r t _ =>
        extract_lets o q check
        have taken : OpStep p q := ord_op _ p rfl id
        have served : OpStep q (if check then issue r t q else withdrawRec r q) :=
          OpStep.ite (issue_op r t room) (withdrawRec_op r q)
        exact ((ih _).after served).after taken
    · exact .refl p

theorem serve_op (p : Part) : OpStep p (serve p) := serveWith_op _ p

theorem endRec_op (r : OrderRec) (outcome : OrderOutcome) (p : Part) : OpStep p (endRec r outcome p) :=
  ((reportEmpty_op _).after (serve_op _)).after (finishRec_op r outcome p)

theorem failRec_op (r : OrderRec) (p : Part) : OpStep p (failRec r p) := by
  unfold failRec
  extract_lets p1 p2
  have counted : OpStep p p1 := countOrder_op _ p
  have told : OpStep p1 p2 := OpStep.ite ((raise_op _ _).after (report_op _ _ p1)) (.refl p1)
  exact ((endRec_op r .failed p2).after told).after counted

theorem dropStart_op (n : Nat) (old new : OrderKind) (p : Part) : OpStep p (dropStart n old new p) :=
  OpStep.ite ((takeOutcome_op _ _ _ _).after (countOrder_op _ p)) (.refl p)

theorem requestOrder_op (n : Nat) (kind : OrderKind) (p : Part) : OpStep p (requestOrder n kind p) := by
  unfold requestOrder
  split
  · split
    · exact .refl p
    · exact ((serve_op _).after (joinBack_op _ _)).after (records_op _ _ _ p)
  · dsimp only
    repeat' split
    · exact onOrder_op _ _ p
    · exact (dropStart_op _ _ _ _).after (onOrder_op _ _ p)
    · exact ((serve_op _).after (dropStart_op _ _ _ _)).after (onOrder_op _ _ p)

/-! ### Answers and timers -/

theorem answerAccepted_op (r : OrderRec) (p : Part) : OpStep p (answerAccepted r p) := by
  unfold answerAccepted
  extract_lets p1 p2
  have counted : OpStep p p1 := (countOrder_op _ _).after (freeTagOf_op r p)
  exact ((endRec_op _ _ p2).after (OpStep.ite (report_op _ _ p1) (.refl p1))).after counted

theorem answerBusy_op (r : OrderRec) (p : Part) : OpStep p (answerBusy r p) :=
  (OpStep.ite (onOrder_op _ _ _) ((failRec_op _ _).after (freeTagOf_op r _))).after (countOrder_op _ p)

theorem answerRefused_op (r : OrderRec) (outcome : OrderOutcome) (p : Part) : OpStep p (answerRefused r outcome p) :=
  ((((endRec_op _ _ _).after (raise_op _ _)).after (report_op _ _ _)).after (countOrder_op _ _)).after (freeTagOf_op r p)

theorem reissue_op (r : OrderRec) (p : Part) : OpStep p (reissue r p) := by
  unfold reissue
  split
  · exact .refl p
  · exact OpStep.ite ((sendOrder_op _ _ _).after (onOrder_op _ _ p)) ((serve_op _).after (withdrawRec_op r p))

theorem answerRecovery_op (r : OrderRec) (run : RunState) (p : Part) : OpStep p (answerRecovery r run p) := by
  unfold answerRecovery
  split
  · exact (((endRec_op _ _ _).after (report_op _ _ _)).after (countOrder_op _ _)).after (freeTagOf_op r p)
  · exact (endRec_op _ _ _).after (freeTagOf_op r p)
  · exact OpStep.ite ((reissue_op _ _).after (onOrder_op _ _ p)) ((failRec_op _ _).after (freeTagOf_op r p))

theorem answerMatched_op (r : OrderRec) (o : AnswerOutcome) (run : RunState) (p : Part) :
    OpStep p (answerMatched r o run p) := by
  unfold answerMatched
  extract_lets p1
  refine OpStep.after ?_ (onOrder_op _ _ p : OpStep p p1)
  cases o
  · exact answerAccepted_op r p1
  · exact answerBusy_op r p1
  · exact answerRefused_op r _ p1
  · exact answerRefused_op r _ p1
  · exact OpStep.ite (answerRecovery_op r run p1) ((endRec_op _ _ _).after (freeTagOf_op r p1))

theorem takeAnswer_op (station tag output : Nat) (o : AnswerOutcome) (run : RunState) (p : Part) :
    OpStep p (takeAnswer station tag output o run p) := by
  unfold takeAnswer
  dsimp only
  split
  · exact countOrder_op _ p
  · split
    · exact countOrder_op _ p
    · exact countOrder_op _ p
    · split
      · exact countOrder_op _ p
      · exact OpStep.ite (countOrder_op _ p) (OpStep.ite (answerMatched_op _ _ _ p) (countOrder_op _ p))

theorem responseExpires_op (n : Nat) (p : Part) : OpStep p (responseExpires n p) := by
  have query (r : OrderRec) : OpStep p (queryTimeout r p) :=
    (OpStep.ite (failRec_op _ _) (((serve_op _).after (joinBack_op _ _)).after (onOrder_op _ _ _))).after
      (quarantineTagOf_op r p)
  have motion (r : OrderRec) : OpStep p (motionTimeout r p) :=
    (((serve_op _).after (joinFront_op _ _)).after (onOrder_op _ _ _)).after (quarantineTagOf_op r p)
  have recovery (r : OrderRec) : OpStep p (recoveryTimeout r p) :=
    (OpStep.ite (failRec_op _ _) (((serve_op _).after (joinFront_op _ _)).after (onOrder_op _ _ _))).after
      (quarantineTagOf_op r p)
  unfold responseExpires
  split
  · exact .refl p
  · next r _ =>
    split
    · exact .refl p
    · split
      · exact OpStep.ite (query r) (motion r)
      · exact recovery r
      · exact .refl p

theorem retryExpires_op (n : Nat) (p : Part) : OpStep p (retryExpires n p) := by
  unfold retryExpires
  split
  · exact .refl p
  · exact OpStep.ite ((reissue_op _ _).after (onOrder_op _ _ p)) (.refl p)

theorem windowExpires_op (n : Nat) (p : Part) : OpStep p (windowExpires n p) := onOrder_op _ _ p

theorem quarantineExpires_op (station tag : Nat) (p : Part) : OpStep p (quarantineExpires station tag p) := by
  unfold quarantineExpires
  split
  · next found => exact OpStep.ite ((serve_op _).after (setTag_op _ _ found (.inr rfl))) (.refl p)
  · exact .refl p

/-! ### Activation and RESTART (R169, R172) -/

theorem countUp_eq (n k : Nat) : countUp n k = List.range' k n := by
  induction n generalizing k with
  | zero => rfl
  | succ n ih => exact congrArg (k :: ·) (ih (k + 1))

theorem freshTags_key (station n : Nat) : (freshTags station n).map TagRec.key = (List.range' 0 n).map (station, ·) := by
  unfold freshTags
  rw [countUp_eq, List.map_map]
  rfl

theorem freshTags_station {station n : Nat} {x : Nat × Nat} (mem : x ∈ (freshTags station n).map TagRec.key) :
    x.1 = station := by
  rw [freshTags_key] at mem
  obtain ⟨t, _, rfl⟩ := List.mem_map.mp mem
  rfl

/-- The fresh tags of stations with different addresses are numbered once each. -/
theorem freshTags_nodup {l : List StationRec} (apart : (l.map (·.address)).Nodup) :
    ((l.flatMap fun s => freshTags s.address s.tagCount).map TagRec.key).Nodup := by
  rw [List.map_flatMap, List.nodup_flatMap]
  refine ⟨fun s _ => ?_, ?_⟩
  · rw [freshTags_key]
    exact List.Nodup.map (Prod.mk_right_injective s.address) List.nodup_range'
  · refine (List.pairwise_map.mp apart).imp fun {s t} differ => ?_
    intro x left right
    exact differ ((freshTags_station left).symm.trans (freshTags_station right))

theorem poolUsed_freshTags (l : List StationRec) : poolUsed (l.flatMap fun s => freshTags s.address s.tagCount) = 0 := by
  unfold poolUsed
  rw [List.length_eq_zero_iff, List.filter_eq_nil_iff]
  intro g mem
  obtain ⟨s, _, fresh⟩ := List.mem_flatMap.mp mem
  obtain ⟨t, _, rfl⟩ := List.mem_map.mp fresh
  simp

theorem rebuiltTags_nodup {p : Part} (stations : (p.disp.stations.map (·.address)).Nodup)
    (keys : (p.ord.tags.map TagRec.key).Nodup) : ((rebuiltTags p).map TagRec.key).Nodup := by
  have dropped : (((fanStations p).filter fun s => !keepsTags p s.address).map (·.address)).Nodup :=
    stations.sublist ((List.filter_sublist.trans List.filter_sublist).map _)
  unfold rebuiltTags
  rw [List.map_append, List.nodup_append]
  refine ⟨keys.sublist (List.filter_sublist.map _), freshTags_nodup dropped, ?_⟩
  rintro x kept y fresh rfl
  obtain ⟨g, held, rfl⟩ := List.mem_map.mp kept
  rw [List.map_flatMap] at fresh
  obtain ⟨s, gone, made⟩ := List.mem_flatMap.mp fresh
  have keeps := (List.mem_filter.mp held).2
  have loses := (List.mem_filter.mp gone).2
  have station : g.station = s.address := freshTags_station made
  simp [← station, keeps] at loses

theorem poolUsed_rebuiltTags (p : Part) : poolUsed (rebuiltTags p) ≤ poolUsed p.ord.tags := by
  unfold rebuiltTags
  have split (l m : List TagRec) : poolUsed (l ++ m) = poolUsed l + poolUsed m := by
    unfold poolUsed
    rw [List.filter_append, List.length_append]
  rw [split, poolUsed_freshTags]
  exact (List.filter_sublist.filter _).length_le

theorem rebuildOrders_op (p : Part) : OpStep p (rebuildOrders p) := by
  unfold rebuildOrders
  extract_lets tags stands loses gone untagged records backlog held p1 o p2
  have withdrawn : OpStep p p1 := OpStep.foldl _ (fun p t => withdraw_op _ _ p) _ p
  have same : p1.disp = p.disp ∧ p1.ord = p.ord := by
    have kept (l : List TagRec) (q : Part) :
        (l.foldl (fun p t => withdraw t.station t.tag p) q).disp = q.disp ∧
          (l.foldl (fun p t => withdraw t.station t.tag p) q).ord = q.ord := by
      induction l generalizing q with
      | nil => exact ⟨rfl, rfl⟩
      | cons t l ih => exact ih _
    exact kept _ p
  have rebuilt : OpStep p1 p2 := by
    refine ⟨⟨id, id, id, id, id, id, ?_, id, id, id, id, fun pool => ?_, id⟩, ⟨rfl, rfl, fun _ => id, fun _ => id⟩⟩
    · rintro ⟨stations, peers, keys, others⟩
      exact ⟨stations, peers, rebuiltTags_nodup (same.1 ▸ stations) (same.2 ▸ keys), others⟩
    · exact (poolUsed_rebuiltTags p).trans (same.2 ▸ pool)
  have quarantined : OpStep p2 (held.foldl (fun p r => quarantineTagOf r p) p2) :=
    OpStep.foldl _ (fun p r => quarantineTagOf_op r p) held p2
  exact ((((reportEmpty_op _).after (serve_op _)).after quarantined).after rebuilt).after withdrawn

theorem restartOrders_op (p : Part) : OpStep p (restartOrders p) := by
  unfold restartOrders
  extract_lets one had o p1 p2
  have tags : OpStep p p1 := ord_op _ p
    (by
      change (p.ord.tags.map one).map TagRec.key = p.ord.tags.map TagRec.key
      rw [List.map_map]
      exact List.map_congr_left fun g _ => by dsimp only [Function.comp, one]; split <;> rfl)
    fun pool => (poolUsed_map one _ fun g => by
      dsimp only [one]
      split
      · next busy => simp [eq_of_beq busy]
      · rfl).le.trans pool
  exact ((OpStep.ite (testClearing_op p2) (.refl p2)).after (line_op _ p1 fun ok => ok.removed _)).after tags

end Sys2Proof.Machine
end

section
/-! PROOFS. The Airflow Controller, the Section Coordinator and the Incident Register keep the invariants: the controller
at rest outside the modes that run the law (R87, R91), the lead view judged (R179), the record whole (R61), and the
store-write hold that keeps the part in DECLARED (R76). -/

namespace Sys2Proof.Machine

/-! ### The controller -/

/-- What R87, R91 and R105 ask of the controller record. -/
def AtRest (c : AirflowController) : Prop :=
  (c.mode = .idle ∨ c.mode = .share ∨ c.mode = .shareHeld → c.condition = .ok ∧ c.velocityHold = none) ∧
  (c.mode = .idle → c.period = none ∧ c.leadLoss = none ∧ c.shares = [] ∧ c.aSum = 0)

/-- The modes that run the law ask nothing of the record. -/
theorem AtRest.of_law {c : AirflowController} (law : c.mode = .lead ∨ c.mode = .localMode) : AtRest c := by
  constructor <;> (intro mode; obtain is_lead | is_local := law <;> simp_all)

/-- SHARE and SHARE_HELD ask that no velocity be judged. -/
theorem AtRest.of_share {c : AirflowController} (share : c.mode = .share ∨ c.mode = .shareHeld)
    (condition : c.condition = .ok) (hold : c.velocityHold = none) : AtRest c :=
  ⟨fun _ => ⟨condition, hold⟩, fun idle => by obtain is_share | is_held := share <;> simp_all⟩

theorem rest_op (c : AirflowController) (p : Part) (rest : AtRest p.ctl → AtRest c) : OpStep p { p with ctl := c } :=
  ctl_op c p rest

theorem formDemand_op (start : ComputeStart) (p : Part) : OpStep p (formDemand start p) := by
  unfold formDemand
  dsimp only
  split
  · exact .refl p
  · next lead => exact rest_op _ p fun _ => .of_law (.inl lead)
  · next localMode => exact rest_op _ p fun _ => .of_law (.inr localMode)
  · next share =>
    exact rest_op _ p fun rest => .of_share (.inl share) (rest.1 (.inr (.inl share))).1 (rest.1 (.inr (.inl share))).2
  · next held =>
    exact rest_op _ p fun rest => .of_share (.inr held) (rest.1 (.inr (.inr held))).1 (rest.1 (.inr (.inr held))).2

theorem compute_op (start : ComputeStart) (p : Part) : OpStep p (compute start p) :=
  OpStep.ite (.refl p) ((takeDemand_op _ _).after (formDemand_op start p))

theorem periodExpires_op (p : Part) : OpStep p (periodExpires p) := OpStep.ite (compute_op _ p) (.refl p)

theorem velocityHoldExpires_op (p : Part) : OpStep p (velocityHoldExpires p) := by
  unfold velocityHoldExpires
  split
  · next armed =>
    refine rest_op _ p fun rest => ?_
    have held : p.ctl.condition = .held := by simp_all
    have law : ¬ (p.ctl.mode = .idle ∨ p.ctl.mode = .share ∨ p.ctl.mode = .shareHeld) := fun mode => by
      have ok := (rest.1 mode).1
      simp [held] at ok
    exact ⟨fun mode => absurd mode law, fun idle => absurd (.inl idle) law⟩
  · exact .refl p

theorem takeShareMode_op (p : Part) : OpStep p (takeShareMode p) := by
  unfold takeShareMode
  dsimp only
  split
  · exact rest_op _ p fun _ => .of_share (.inl rfl) rfl rfl
  · exact rest_op _ p fun _ => .of_share (.inr rfl) rfl rfl

theorem takeMode_op (p : Part) : OpStep p (takeMode p) := by
  unfold takeMode
  split
  · exact rest_op _ p fun _ => .of_law (.inl rfl)
  · exact rest_op _ p fun _ => .of_law (.inr rfl)
  · exact takeShareMode_op p
  · exact takeShareMode_op p

theorem firstEntry_op (p : Part) : OpStep p (firstEntry p) :=
  ((compute_op _ _).after (takeMode_op _)).after (rest_op _ p fun rest => ⟨fun _ => ⟨rfl, rfl⟩, fun idle =>
    ⟨(rest.2 idle).1, rfl, (rest.2 idle).2.2⟩⟩)

theorem departControl_op (p : Part) : OpStep p (departControl p) :=
  rest_op _ p fun _ => ⟨fun _ => ⟨rfl, rfl⟩, fun _ => ⟨rfl, rfl, rfl, rfl⟩⟩

theorem changeRole_op (old : IncidentRole) (p : Part) : OpStep p (changeRole old p) := by
  have toLead : OpStep p (compute .transfer { p with ctl := { p.ctl with mode := .lead, leadLoss := none } }) :=
    (compute_op _ _).after (rest_op _ p fun _ => .of_law (.inl rfl))
  unfold changeRole
  split
  case h_7 lead =>
    refine ((compute_op _ _).after (takeShareMode_op _)).after (rest_op _ p fun _ => .of_law (.inl ?_))
    assumption
  case h_8 => exact (compute_op _ _).after (rest_op _ p fun _ => .of_share (.inl rfl) rfl rfl)
  case h_9 => exact .refl p
  all_goals exact toLead

theorem ctlTakeRecord_op (h : RecordHandOn) (p : Part) : OpStep p (ctlTakeRecord h p) := by
  unfold ctlTakeRecord
  extract_lets old new c1 p1 c2 p2 p3
  have taken : OpStep p p2 :=
    (OpStep.ite (rest_op _ p1 (by exact id)) (.refl p1)).after (rest_op _ p (by exact id) : OpStep p p1)
  refine OpStep.after ?_ taken
  split
  · split
    · exact firstEntry_op p2
    · exact (compute_op _ _).after (takeMode_op p2)
    · exact changeRole_op _ p2
  · exact (OpStep.ite (rest_op _ p3 (by exact id)) (.refl p3)).after (departControl_op p2)

theorem ctlMeetsRecord_op (h : RecordHandOn) (p : Part) : OpStep p (ctlMeetsRecord h p) := by
  unfold ctlMeetsRecord
  split
  · exact ((ctlTakeRecord_op h _).after (OpStep.ite (.refl _) (periodExpires_op _))).after (choose_op 2 p)
  · exact ctlTakeRecord_op h p

theorem takeLeadShare_op (share : Option Nat) (p : Part) : OpStep p (takeLeadShare share p) := by
  unfold takeLeadShare
  split
  · next s mode => exact rest_op _ p fun rest => .of_share (.inl rfl) (rest.1 (.inr (.inl mode))).1 (rest.1 (.inr (.inl mode))).2
  · next s mode => exact rest_op _ p fun rest => .of_share (.inl rfl) (rest.1 (.inr (.inr mode))).1 (rest.1 (.inr (.inr mode))).2
  · next mode => exact rest_op _ p fun rest => .of_share (.inr rfl) (rest.1 (.inr (.inl mode))).1 (rest.1 (.inr (.inl mode))).2
  · exact .refl p

theorem restartController_op (p : Part) : OpStep p (restartController p) :=
  rest_op _ p fun rest => by
    refine ⟨fun mode => ⟨(rest.1 mode).1, ?_⟩, fun idle => ⟨?_, ?_, (rest.2 idle).2.2⟩⟩
    · simp [(rest.1 mode).2]
    · simp [(rest.2 idle).1]
    · simp [(rest.2 idle).2.1]

/-! ### The Coordinator -/

/-- The lead view judged afresh after any change of the Coordinator's record that keeps the peers apart. -/
theorem judged_op (c : SectionCoordinator) (p : Part)
    (peers : On AddressesDistinct p → (c.peers.map (·.address)).Nodup) : OpStep p (judgeLead { p with coord := c }) := by
  have judged (v : Option Nat) (t : Bool) (view : v = leadViewFor c.heldId c.peers) :
      OpStep p { p with coord := { c with leadView := v, twoLeads := t } } := by
    refine ⟨⟨id, id, id, id, id, fun _ => view, ?_, id, id, id, id, id, id⟩, ⟨rfl, rfl, fun _ => id, fun _ => id⟩⟩
    exact fun apart => ⟨apart.1, peers apart, apart.2.2⟩
  exact OpStep.ite ((report_op _ _ _).after (judged _ _ rfl)) (judged _ _ rfl)

theorem sendBulletin_op (p : Part) : OpStep p (sendBulletin p) := by
  unfold sendBulletin
  extract_lets p1 p2
  exact ((coord_op _ p2 (by rfl) (by exact id)).after (queueOwn_op _ p1)).after (formHealth_op p)

theorem bulletinExpires_op (p : Part) : OpStep p (bulletinExpires p) := OpStep.ite (sendBulletin_op p) (.refl p)

theorem coordTakeRecord_op (h : RecordHandOn) (p : Part) : OpStep p (coordTakeRecord h p) := by
  unfold coordTakeRecord
  extract_lets changed c p1 p2
  have taken : OpStep p p2 := by
    unfold p2
    split
    · exact judged_op _ p fun apart => apart.2.1
    · next same =>
      have held : h.record.id = p.coord.heldId := by simpa [changed] using same
      refine coord_op _ p rfl fun view => ?_
      change p.coord.leadView = leadViewFor h.record.id p.coord.peers
      rw [held]
      exact view
  exact (OpStep.ite (sendBulletin_op p2) (.refl p2)).after taken

theorem deliverRecord_op (h : RecordHandOn) (p : Part) : OpStep p (deliverRecord h p) := by
  have fans := fansTakeRecord_op h
  have ctl := ctlMeetsRecord_op h
  have coord := coordTakeRecord_op h
  unfold deliverRecord
  refine OpStep.after ?_ (choose_op 6 p)
  dsimp only
  split
  · exact ((coord _).after (ctl _)).after (fans _)
  · exact ((ctl _).after (coord _)).after (fans _)
  · exact ((coord _).after (fans _)).after (ctl _)
  · exact ((fans _).after (coord _)).after (ctl _)
  · exact ((ctl _).after (fans _)).after (coord _)
  · exact ((fans _).after (ctl _)).after (coord _)

/-! ### The Register's record (R61) -/

/-- What R61 asks of an incident record. -/
def Whole (r : IncidentRecord) : Prop :=
  (r.id ≠ 0 ↔ Holding r.state) ∧
  (r.id ≠ 0 → r.fire.isSome ∧ r.dir.isSome ∧ r.dirSource.isSome ∧ r.heat.isSome) ∧
  (r.id = 0 → r.fire = none ∧ r.head = none ∧ r.tail = none ∧ r.dir = none ∧ r.dirSource = none ∧ r.heat = none ∧
    r.role = .none ∧ r.controlled = false)

theorem Whole.empty (x : IncidentState) (idle : ¬ Holding x) : Whole (.empty x) :=
  ⟨⟨fun id => absurd rfl id, fun holds => absurd holds idle⟩, fun id => absurd rfl id,
    fun _ => ⟨rfl, rfl, rfl, rfl, rfl, rfl, rfl, rfl⟩⟩

/-- A record with an id, in a state that holds one, is whole when what an incident needs is present. -/
theorem Whole.of_holding {r : IncidentRecord} (id : r.id ≠ 0) (holds : Holding r.state)
    (present : r.fire.isSome ∧ r.dir.isSome ∧ r.dirSource.isSome ∧ r.heat.isSome) : Whole r :=
  ⟨⟨fun _ => holds, fun _ => id⟩, fun _ => present, fun zero => absurd zero id⟩

section
variable {r : IncidentRecord} (whole : Whole r)
include whole

theorem Whole.id_ne_zero (holds : Holding r.state) : r.id ≠ 0 := whole.1.mpr holds

/-- An incident that is held keeps whole through a change of state, role and controlled mark. -/
theorem Whole.moved (holds : Holding r.state) {x : IncidentState} (holds' : Holding x) (role : IncidentRole)
    (controlled : Bool) : Whole { r with state := x, role := role, controlled := controlled } :=
  Whole.of_holding (r := { r with state := x, role := role, controlled := controlled }) (whole.id_ne_zero holds) holds'
    (whole.2.1 (whole.id_ne_zero holds))

end

theorem Whole.marked {new : IncidentRecord} (whole : Whole new) (old : IncidentRecord) : Whole (markControlled old new) := by
  unfold markControlled
  split
  · next enters =>
    have control : new.state = .control := by simp_all
    have holds : Holding new.state := .inr (.inl control)
    exact whole.moved holds holds new.role true
  · exact whole

theorem markControlled_state (old new : IncidentRecord) : (markControlled old new).state = new.state := by
  unfold markControlled
  split <;> rfl

/-! ### The Register -/

/-- A change of the Register that leaves its record, its detection list and the store-write hold. -/
theorem reg_op (g : IncidentRegister) (p : Part)
    (entry : p.reg.storeHold = false → p.reg.entry = none → g.entry = none)
    (record : g.record = p.reg.record := by rfl) (detection : g.detection = p.reg.detection := by rfl)
    (storeHold : g.storeHold = p.reg.storeHold := by rfl) : OpStep p { p with reg := g } :=
  ⟨⟨id, id, fun whole => (congrArg Whole record).mpr whole,
    fun bounded => (congrArg (fun l : List Nat => l.length ≤ 16 ∧ l.Nodup) detection).mpr bounded,
    id, id, id, id, id, id, id, id, id⟩,
    ⟨rfl, storeHold, entry, fun _ out => (congrArg (fun r : IncidentRecord => r.state ≠ .control ∧ r.state ≠ .hold)
      record).mpr out⟩⟩

theorem clearAlarms_op (p : Part) : OpStep p (clearAlarms p) :=
  meas_op _ p fun ⟨points, zones⟩ => ⟨points, by
    rw [← zones]
    change (p.meas.zones.map clearAlarm).map (·.num) = _
    rw [List.map_map]
    exact List.map_congr_left fun z _ => congrArg Prod.fst (clearAlarm_four z)⟩

/-- Putting a record keeps the invariants where the record is whole and, under the store-write hold, outside CONTROL. -/
theorem putRecord_op {new : IncidentRecord} {p : Part} (whole : Whole p.reg.record → Whole new)
    (outside : p.reg.storeHold = true → OutsideControl p → new.state ≠ .control ∧ new.state ≠ .hold) :
    OpStep p (putRecord new p) := by
  unfold putRecord
  extract_lets old stored g1 p1 p2 g2 p3
  have record : OpStep p p1 := by
    refine ⟨⟨id, id, fun held => (whole held).marked old, id, id, id, id, id, id, id, id, id, id⟩,
      ⟨rfl, rfl, fun _ => id, fun held out => ?_⟩⟩
    change (markControlled old new).state ≠ .control ∧ (markControlled old new).state ≠ .hold
    rw [markControlled_state]
    exact outside held out
  have raised : OpStep p1 p2 := OpStep.ite (raise_op _ p1) (.refl p1)
  have emptied : OpStep p2 p3 := by
    refine OpStep.ite ((clearAlarms_op _).after ?_) (.refl p2)
    exact ⟨⟨id, id, id, fun _ => ⟨Nat.zero_le _, List.nodup_nil⟩, id, id, id, id, id, id, id, id, id⟩,
      ⟨rfl, rfl, fun _ => id, fun _ => id⟩⟩
  exact (((OpStep.ite (deliverRecord_op _ p3) (.refl p3)).after emptied).after raised).after record

/-- What the Register holds after it has put a record. -/
theorem putRecord_reg (new : IncidentRecord) (p : Part) : (putRecord new p).reg.record = markControlled p.reg.record new ∧
    (putRecord new p).reg.storeHold = p.reg.storeHold := by
  unfold putRecord
  extract_lets old stored g1 p1 p2 g2 p3
  have raised : p2.reg = p1.reg := by unfold p2; split <;> rfl
  have emptied : p3.reg.record = p2.reg.record ∧ p3.reg.storeHold = p2.reg.storeHold := by
    unfold p3; split <;> exact ⟨rfl, rfl⟩
  have delivered : (if isHandedOn old new then deliverRecord ⟨old.state, stored, entryKind old new⟩ p3 else p3).reg =
      p3.reg := by
    split
    · exact (deliverRecord_regMeasKept _ _).reg
    · rfl
  rw [delivered]
  exact ⟨emptied.1.trans (congrArg (·.record) raised), emptied.2.trans (congrArg (·.storeHold) raised)⟩

theorem dropWait_op (p : Part) : OpStep p (dropWait p) := reg_op _ p fun _ _ => rfl

theorem armLeadWait_op (p : Part) : OpStep p (armLeadWait p) :=
  OpStep.ite (.refl p) (reg_op _ p fun _ none_waits => none_waits)

theorem leaveDeclared_op {state : IncidentState} {role : IncidentRole} {p : Part}
    (declared : p.reg.record.state = .declared) (free : p.reg.storeHold = false) (holds : Holding state) :
    OpStep p (leaveDeclared state role p) := by
  unfold leaveDeclared
  refine (putRecord_op (fun whole => ?_) fun held => ?_).after (dropWait_op p)
  · exact Whole.moved whole (.inl declared) holds role _
  · exact absurd (held.symm.trans free) Bool.noConfusion

theorem proceed_op {p : Part} (declared : p.reg.record.state = .declared) : OpStep p (proceed p) := by
  unfold proceed
  split
  · split
    · exact .refl p
    · next free => exact leaveDeclared_op declared (Bool.not_eq_true _ ▸ free) (.inr (.inl rfl))
  · exact armLeadWait_op p

/-- An incident is taken on with a record that has all an incident needs. -/
theorem takeOn_op {r : IncidentRecord} (p : Part) (id : r.id ≠ 0)
    (present : r.fire.isSome ∧ r.dir.isSome ∧ r.dirSource.isSome ∧ r.heat.isSome) : OpStep p (takeOn r p) := by
  unfold takeOn
  extract_lets taken g1 p1
  have dropped : OpStep p p1 := reg_op _ p fun _ _ => rfl
  have put : OpStep p1 (putRecord taken p1) := putRecord_op (fun _ => Whole.of_holding id (.inl rfl) present)
    fun _ _ => ⟨IncidentState.noConfusion, IncidentState.noConfusion⟩
  have declared : (putRecord taken p1).reg.record.state = .declared :=
    (congrArg IncidentRecord.state (putRecord_reg taken p1).1).trans (markControlled_state _ _)
  exact ((proceed_op declared).after put).after dropped

/-! ### Notices (R63 to R68) -/

theorem refuseNotice_op (o : NoticeOutcome) (p : Part) : OpStep p (refuseNotice o p) :=
  (raise_op _ _).after (reg_op _ p fun _ none_waits => none_waits)

theorem acceptNotice_op (p : Part) : OpStep p (acceptNotice p) := reg_op _ p fun _ none_waits => none_waits

/-- The record with the fields that an UPDATE gives, its direction settled and its role not yet judged (R65, R72). -/
def settledRecord (p : Part) (n : Notice) : IncidentRecord :=
  settleDirection p.control n p.reg.record { p.reg.record with
    fire := replaced n.fire p.reg.record.fire, head := replaced n.head p.reg.record.head,
    tail := replaced n.tail p.reg.record.tail, heat := if n.heat == 0 then p.reg.record.heat else some n.heat }

theorem updatedRecord_eq (p : Part) (n : Notice) :
    ∃ role, updatedRecord p n = { settledRecord p n with role := role } := by
  unfold updatedRecord
  extract_lets old fields new
  split
  · exact ⟨_, rfl⟩
  · exact ⟨new.role, rfl⟩

/-- The direction settled leaves the rest of the record, and none absent that was present (R72). -/
theorem settleDirection_keeps (t : ControlTable) (n : Notice) (old new : IncidentRecord) :
    (settleDirection t n old new).id = new.id ∧ (settleDirection t n old new).state = new.state ∧
    (settleDirection t n old new).fire = new.fire ∧ (settleDirection t n old new).heat = new.heat ∧
    (new.dir.isSome → (settleDirection t n old new).dir.isSome) ∧
    (new.dirSource.isSome → (settleDirection t n old new).dirSource.isSome) := by
  unfold settleDirection
  split
  · exact ⟨rfl, rfl, rfl, rfl, fun _ => rfl, fun _ => rfl⟩
  · dsimp only
    split
    · exact ⟨rfl, rfl, rfl, rfl, fun _ => rfl, fun _ => rfl⟩
    · exact ⟨rfl, rfl, rfl, rfl, fun some => some, fun some => some⟩

/-- An update keeps the id and leaves nothing absent that was present. -/
theorem updatedRecord_whole (n : Notice) {p : Part} (holds : Holding p.reg.record.state) (whole : Whole p.reg.record)
    {x : IncidentState} (holds' : Holding x) : Whole { updatedRecord p n with state := x } := by
  obtain ⟨fire, dir, source, heat⟩ := whole.2.1 (whole.id_ne_zero holds)
  obtain ⟨role, updated⟩ := updatedRecord_eq p n
  obtain ⟨id', _, fire', heat', dir', source'⟩ := settleDirection_keeps p.control n p.reg.record { p.reg.record with
    fire := replaced n.fire p.reg.record.fire, head := replaced n.head p.reg.record.head,
    tail := replaced n.tail p.reg.record.tail, heat := if n.heat == 0 then p.reg.record.heat else some n.heat }
  rw [updated]
  refine Whole.of_holding (fun zero => whole.id_ne_zero holds (id'.symm.trans zero)) holds'
    ⟨(congrArg Option.isSome fire').trans ?_, dir' dir, source' source, (congrArg Option.isSome heat').trans ?_⟩
  · cases given : n.fire <;> simp [replaced, fire]
  · by_cases held : n.heat = 0 <;> simp [held, heat]

theorem updatedRecord_state (p : Part) (n : Notice) : (updatedRecord p n).state = p.reg.record.state := by
  obtain ⟨role, updated⟩ := updatedRecord_eq p n
  rw [updated]
  exact (settleDirection_keeps _ _ _ _).2.1

theorem applyUpdate_op (n : Notice) {p : Part} (holds : Holding p.reg.record.state) : OpStep p (applyUpdate n p) := by
  unfold applyUpdate
  extract_lets old new p1 p2 p3
  have accepted : OpStep p p1 := acceptNotice_op p
  have raised : OpStep p1 p2 := OpStep.ite (raise_op _ p1) (.refl p1)
  have reg : p2.reg.record = p.reg.record ∧ p2.reg.storeHold = p.reg.storeHold := by
    unfold p2; split <;> exact ⟨rfl, rfl⟩
  have state : new.state = old.state := updatedRecord_state p n
  have stays : Holding new.state := by
    rw [state]
    exact holds
  have put : OpStep p2 (putRecord new p2) := putRecord_op
    (fun whole => updatedRecord_whole n holds (reg.1 ▸ whole) stays)
    (fun _ out => by
      rw [state]
      exact (congrArg (fun r : IncidentRecord => r.state ≠ .control ∧ r.state ≠ .hold) reg.1).mp out)
  refine OpStep.after ?_ (raised.after accepted)
  split
  · split
    · next enters =>
      refine (putRecord_op ?_ ?_).after (dropWait_op p2)
      · exact fun whole => updatedRecord_whole n holds (reg.1 ▸ whole) (.inr (.inl rfl))
      · have free : p2.reg.storeHold = false := by simp_all
        exact fun held => absurd (held.symm.trans free) Bool.noConfusion
    · exact (OpStep.ite (.refl p3) (armLeadWait_op p3)).after put
  · exact put

theorem idFails_false {n : Notice} (passes : idFails n = false) : n.id ≠ 0 := by
  unfold idFails at passes
  simp_all

theorem judgeDeclare_op (n : Notice) (p : Part) : OpStep p (judgeDeclare n p) := by
  unfold judgeDeclare
  split
  · exact refuseNotice_op _ p
  · next passes =>
    obtain ⟨id, fire⟩ : n.id ≠ 0 ∧ n.fire.isSome := by
      simp only [Bool.or_eq_true, not_or, Bool.not_eq_true] at passes
      exact ⟨idFails_false passes.1.1, by simp_all [Option.isSome_iff_ne_none]⟩
    have taken (t : ControlTable) : OpStep p (takeOn (declaredRecord t n) (acceptNotice p)) :=
      (takeOn_op _ id ⟨fire, rfl, rfl, rfl⟩).after (acceptNotice_op p)
    split
    · exact refuseNotice_op _ p
    · dsimp only
      split
      case h_1 | h_2 => exact taken _
      case h_3 => exact OpStep.ite (refuseNotice_op _ p) (taken _)
      case h_4 declared => exact OpStep.ite (applyUpdate_op n (.inl declared)) (refuseNotice_op _ p)
      case h_5 control => exact OpStep.ite (applyUpdate_op n (.inr (.inl control))) (refuseNotice_op _ p)
      case h_6 hold => exact OpStep.ite (applyUpdate_op n (.inr (.inr (.inl hold)))) (refuseNotice_op _ p)

theorem judgeUpdate_op (n : Notice) (p : Part) : OpStep p (judgeUpdate n p) := by
  unfold judgeUpdate
  split
  · exact refuseNotice_op _ p
  · split
    case h_1 declared => exact OpStep.ite (applyUpdate_op n (.inl declared)) (refuseNotice_op _ p)
    case h_2 control => exact OpStep.ite (applyUpdate_op n (.inr (.inl control))) (refuseNotice_op _ p)
    case h_3 hold => exact OpStep.ite (applyUpdate_op n (.inr (.inr (.inl hold)))) (refuseNotice_op _ p)
    all_goals exact refuseNotice_op _ p

/-- CONTROL frozen or HOLD resumed: the part is in one of the two already. -/
theorem judgeFreeze_op {from_ to_ : IncidentState} (n : Notice) (p : Part)
    (source : from_ = .control ∨ from_ = .hold) (target : to_ = .control ∨ to_ = .hold) :
    OpStep p (judgeFreeze from_ to_ n p) := by
  have holding {x : IncidentState} (in_control : x = .control ∨ x = .hold) : Holding x :=
    in_control.elim (fun h => .inr (.inl h)) fun h => .inr (.inr (.inl h))
  have judged : OpStep p (if (n.id != p.reg.record.id) = true then refuseNotice .activeIncident p
      else if (p.reg.record.state == from_) = true then putRecord { p.reg.record with state := to_ } (acceptNotice p)
      else refuseNotice .wrongState p) := by
    refine OpStep.ite (refuseNotice_op _ p) ?_
    split
    · next here =>
      have state : p.reg.record.state = from_ := eq_of_beq here
      refine (putRecord_op ?_ ?_).after (acceptNotice_op p)
      · exact fun whole => Whole.moved whole (state ▸ holding source) (holding target) _ _
      · exact fun _ out => absurd (source.elim (fun h => .inl (state.trans h)) fun h => .inr (state.trans h))
          (not_or.mpr out)
    · exact refuseNotice_op _ p
  unfold judgeFreeze
  split
  · exact refuseNotice_op _ p
  · split
    case h_1 | h_2 | h_3 => exact judged
    all_goals exact refuseNotice_op _ p

theorem enterClearing_op {p : Part} (holds : Holding p.reg.record.state) : OpStep p (enterClearing p) := by
  unfold enterClearing
  refine (putRecord_op (fun whole => ?_) fun _ _ => ?_).after (dropWait_op p)
  · exact Whole.moved whole holds (.inr (.inr (.inr rfl))) _ _
  · exact ⟨IncidentState.noConfusion, IncidentState.noConfusion⟩

theorem judgeClear_op (n : Notice) (p : Part) : OpStep p (judgeClear n p) := by
  have cleared (holds : Holding p.reg.record.state) : OpStep p (if (n.id == p.reg.record.id) = true then
      enterClearing (acceptNotice p) else refuseNotice .activeIncident p) :=
    OpStep.ite (OpStep.after (enterClearing_op (p := acceptNotice p) holds) (acceptNotice_op p)) (refuseNotice_op _ p)
  unfold judgeClear
  split
  · exact refuseNotice_op _ p
  · split
    case h_1 declared => exact cleared (.inl declared)
    case h_2 control => exact cleared (.inr (.inl control))
    case h_3 hold => exact cleared (.inr (.inr (.inl hold)))
    all_goals exact refuseNotice_op _ p

theorem not_holding_quiet : ¬ Holding .quiet := by simp [Holding]

theorem enterQuiet_op (p : Part) : OpStep p (enterQuiet p) :=
  (putRecord_op (fun _ => Whole.empty .quiet not_holding_quiet)
    fun _ _ => ⟨IncidentState.noConfusion, IncidentState.noConfusion⟩).after (reg_op _ p fun _ _ => rfl)

theorem judgeCancel_op (p : Part) : OpStep p (judgeCancel p) := by
  unfold judgeCancel
  split
  · exact (enterQuiet_op _).after (acceptNotice_op p)
  · exact refuseNotice_op _ p

/-! ### Detection, timers and the store-write hold (R69, R70, R75, R76, R82) -/

theorem takeZone_op (zone : Nat) (p : Part) : OpStep p (takeZone zone p) := by
  unfold takeZone
  split
  · exact .refl p
  · next fits =>
    extract_lets g1 p1
    obtain ⟨fresh, room⟩ : zone ∉ p.reg.detection ∧ p.reg.detection.length < 16 := by simp_all
    have joined : OpStep p p1 := by
      refine ⟨⟨id, id, id, fun ⟨_, apart⟩ => ⟨?_, ?_⟩, id, id, id, id, id, id, id, id, id⟩,
        ⟨rfl, rfl, fun _ => id, fun _ => id⟩⟩
      · change (p.reg.detection ++ [zone]).length ≤ 16
        simpa using room
      · exact List.nodup_append_comm.mp (List.nodup_cons.mpr ⟨fresh, apart⟩)
    refine OpStep.after ?_ joined
    split
    · refine (putRecord_op (fun _ => Whole.empty .alert (by simp [Holding])) ?_).after
        (reg_op _ p1 fun _ none_waits => none_waits)
      exact fun _ _ => ⟨IncidentState.noConfusion, IncidentState.noConfusion⟩
    · exact .refl p1

theorem autoDeclareExpires_op (p : Part) : OpStep p (autoDeclareExpires p) := by
  unfold autoDeclareExpires
  split
  · exact .refl p
  · extract_lets g1 p1
    have disarmed : OpStep p p1 := reg_op _ p fun _ none_waits => none_waits
    refine OpStep.after ?_ disarmed
    split
    · exact takeOn_op p1 (by simp) ⟨rfl, rfl, rfl, rfl⟩
    · exact .refl p1

theorem leadWaitExpires_op (p : Part) : OpStep p (leadWaitExpires p) := by
  unfold leadWaitExpires
  split
  · exact .refl p
  · extract_lets g1 p1
    have disarmed : OpStep p p1 := reg_op _ p fun _ none_waits => none_waits
    refine OpStep.after ?_ disarmed
    split
    · exact .refl p1
    · next in_declared =>
      have declared : p1.reg.record.state = .declared := by simpa using in_declared
      split
      · next held =>
        split
        · exact .refl p1
        · exact .refl p1
        · exact reg_op _ p1 fun free => absurd (held.symm.trans free) Bool.noConfusion
      · next free =>
        exact OpStep.ite (leaveDeclared_op declared (Bool.not_eq_true _ ▸ free) (.inr (.inl rfl))) (.refl p1)

theorem takeClearingEnd_op (p : Part) : OpStep p (takeClearingEnd p) :=
  OpStep.ite ((enterQuiet_op _).after (reg_op _ p fun _ none_waits => none_waits)) (.refl p)

theorem reportLocal_op (id : Nat) (p : Part) : OpStep p (reportLocal id p) := by
  unfold reportLocal
  dsimp only
  split
  · next follower =>
    have state : p.reg.record.state = .control ∨ p.reg.record.state = .hold := by
      simp only [Bool.and_eq_true, Bool.or_eq_true, beq_iff_eq] at follower
      exact follower.1.2
    have holds : Holding p.reg.record.state := state.elim (fun h => .inr (.inl h)) fun h => .inr (.inr (.inl h))
    exact putRecord_op (fun whole => Whole.moved whole holds holds .localRole _) fun _ out => out
  · exact .refl p

theorem leadLossExpires_op (p : Part) : OpStep p (leadLossExpires p) := by
  unfold leadLossExpires
  split
  · exact (((compute_op _ _).after (reportLocal_op _ _)).after (raise_op _ _)).after
      (rest_op _ p fun _ => .of_law (.inr rfl))
  · exact .refl p

/-! ### Views of peers (R75 to R81) -/

theorem complete_present {b : Bulletin} (whole : complete b = true) : b.id ≠ 0 ∧ b.direction.isSome := by
  simp only [complete, Bool.and_eq_true, Bool.or_eq_true, decide_eq_true_eq] at whole
  obtain ⟨⟨⟨⟨⟨_, id⟩, _⟩, direction⟩, _⟩, _⟩ := whole
  exact ⟨by omega, direction⟩

theorem takeOn_joined_op {b : Bulletin} (whole : complete b = true) (p : Part) : OpStep p (takeOn (joinedRecord b) p) :=
  takeOn_op p (complete_present whole).1 ⟨rfl, (complete_present whole).2, rfl, rfl⟩

theorem joinView_op (b : Bulletin) (p : Part) : OpStep p (joinView b p) := by
  unfold joinView
  dsimp only
  split
  · next joins => exact takeOn_joined_op (by simp_all) p
  · exact .refl p

theorem replaceView_op (b : Bulletin) (p : Part) : OpStep p (replaceView b p) := by
  unfold replaceView
  dsimp only
  split
  · next joins =>
    exact (takeOn_joined_op (by simp_all) _).after (OpStep.ite (raise_op _ p) (.refl p))
  · exact .refl p

theorem holding_of_responding {x : IncidentState} (responds : responding x = true) : Holding x := by
  cases x <;> simp_all [responding, Holding]

theorem clearView_op (b : Bulletin) (p : Part) : OpStep p (clearView b p) := by
  unfold clearView
  split
  · next clears => exact enterClearing_op (holding_of_responding (by simp_all))
  · exact .refl p

theorem recordPending_op (b : Bulletin) {p : Part} (held : p.reg.storeHold = true) : OpStep p (recordPending b p) := by
  unfold recordPending
  split
  case h_3 => exact .refl p
  all_goals exact reg_op _ p fun free => absurd (held.symm.trans free) Bool.noConfusion

theorem followDeclared_op (b : Bulletin) {p : Part} (declared : p.reg.record.state = .declared)
    (free : p.reg.storeHold = false) : OpStep p (followDeclared b p) := by
  unfold followDeclared
  split
  · exact leaveDeclared_op declared free (.inr (.inl rfl))
  · exact leaveDeclared_op declared free (.inr (.inr (.inl rfl)))
  · exact .refl p

theorem rejoinLead_op (b : Bulletin) {p : Part} (holds : Holding p.reg.record.state) : OpStep p (rejoinLead b p) := by
  unfold rejoinLead
  exact OpStep.ite (putRecord_op (fun whole => Whole.moved whole holds holds .follower _) fun _ out => out) (.refl p)

theorem copyLead_op (b : Bulletin) (p : Part) : OpStep p (copyLead b p) := by
  unfold copyLead
  dsimp only
  split
  · next control _ =>
    exact putRecord_op (fun whole => Whole.moved whole (.inr (.inl control)) (.inr (.inr (.inl rfl))) _ _)
      fun _ out => absurd control out.1
  · next hold _ =>
    exact putRecord_op (fun whole => Whole.moved whole (.inr (.inr (.inl hold))) (.inr (.inl rfl)) _ _)
      fun _ out => absurd hold out.2
  · exact .refl p

theorem followLead_op (b : Bulletin) (p : Part) : OpStep p (followLead b p) := by
  unfold followLead
  split
  · next declared =>
    split
    · next held => exact recordPending_op b held
    · next free => exact OpStep.ite (followDeclared_op b declared (Bool.not_eq_true _ ▸ free)) (.refl p)
  · next control => exact OpStep.ite ((copyLead_op b _).after (rejoinLead_op b (.inr (.inl control)))) (.refl p)
  · next hold => exact OpStep.ite ((copyLead_op b _).after (rejoinLead_op b (.inr (.inr (.inl hold))))) (.refl p)
  · exact .refl p

theorem takeView_op (b : Bulletin) (mark : Bool) (p : Part) : OpStep p (takeView b mark p) := by
  have judged := ((clearView_op b _).after (replaceView_op b _)).after (joinView_op b p)
  exact (OpStep.ite (followLead_op b _) (.refl _)).after judged

/-! ### Peers (R177 to R182) -/

theorem handNewLead_op (addr : Nat) (p : Part) : OpStep p (handNewLead addr p) := by
  unfold handNewLead
  split
  · exact .refl p
  · exact (OpStep.ite (takeLeadShare_op _ _) (.refl _)).after (takeView_op _ _ p)

theorem judgeAndHandOn_op (taken : Option Nat) (c : SectionCoordinator) (p : Part)
    (peers : On AddressesDistinct p → (c.peers.map (·.address)).Nodup) :
    OpStep p (judgeAndHandOn taken { p with coord := c }) := by
  unfold judgeAndHandOn
  extract_lets before p1
  refine OpStep.after ?_ (judged_op c p peers : OpStep p p1)
  split
  · exact takeLeadShare_op _ p1
  · exact OpStep.ite (handNewLead_op _ p1) (.refl p1)
  · exact .refl p1

theorem takeBulletin_op (source : Nat) (b : Bulletin) (p : Part) : OpStep p (takeBulletin source b p) := by
  unfold takeBulletin
  split
  · exact .refl p
  · extract_lets c p1 p2 p3
    refine OpStep.after (q := p2) ?_ (judgeAndHandOn_op (some source) _ p fun apart => ?_)
    · exact (OpStep.ite (takeLeadShare_op _ _) (.refl _)).after (takeView_op b _ _)
    · have same := updWhere_map PeerRec.address (fun q => q.address == source) (withBulletin p.now (freshTime p) b)
        (fun _ => rfl) p.coord.peers
      exact (congrArg List.Nodup same).mpr apart.2.1

theorem freshnessExpires_op (addr : Nat) (p : Part) : OpStep p (freshnessExpires addr p) := by
  unfold freshnessExpires
  split
  · exact .refl p
  · refine OpStep.ite (.refl p) (judgeAndHandOn_op none _ p fun apart => ?_)
    have same := updWhere_map PeerRec.address (fun q => q.address == addr)
      (fun q : PeerRec => { q with fresh := false, freshness := none }) (fun _ => rfl) p.coord.peers
    exact (congrArg List.Nodup same).mpr apart.2.1

theorem buildPeers_address (stations : List StationRec) (old : List PeerRec) :
    (buildPeers stations old).map (·.address) = (stations.filter fun s => s.role == .peer).map (·.address) := by
  unfold buildPeers
  rw [List.map_map]
  refine List.map_congr_left fun s _ => ?_
  dsimp only [Function.comp]
  split
  · next q found => exact eq_of_beq (List.find?_some (p := fun x : PeerRec => x.address == s.address) found)
  · rfl

theorem buildPeers_nodup {stations : List StationRec} (apart : (stations.map (·.address)).Nodup) (old : List PeerRec) :
    ((buildPeers stations old).map (·.address)).Nodup := by
  rw [buildPeers_address]
  exact apart.sublist (List.filter_sublist.map _)

theorem rebuildPeers_op (p : Part) : OpStep p (rebuildPeers p) :=
  judgeAndHandOn_op none _ p fun apart => buildPeers_nodup apart.1 _

/-! ### Hand-ons -/

theorem takeHandOn_op (h : HandOn) (p : Part) : OpStep p (takeHandOn h p) := by
  cases h
  · exact requestOrder_op _ _ p
  · exact takeClearingEnd_op p

theorem takeRequestOnly_op (h : HandOn) (p : Part) : OpStep p (takeRequestOnly h p) := by
  cases h
  · exact requestOrder_op _ _ p
  · exact .refl p

theorem settle_op (take : HandOn → Part → Part) (taken : ∀ h p, OpStep p (take h p)) (n : Nat) (p : Part) :
    OpStep p (settle take n p) := by
  induction n generalizing p with
  | zero => exact .refl p
  | succ n ih =>
    unfold settle
    split
    · exact .refl p
    · exact ((ih _).after (taken _ _)).after (handOns_op _ p)

theorem settled_op (p : Part) : OpStep p (settled p) := (handOns_op [] _).after (settle_op _ takeHandOn_op _ p)

theorem requestsSettled_op (p : Part) : OpStep p (requestsSettled p) :=
  (handOns_op [] _).after (settle_op _ takeRequestOnly_op _ p)

theorem finish_op (p : Part) : OpStep p (finish p) := (formHealth_op _).after (settled_op p)

end Sys2Proof.Machine
end

section
/-! PROOFS. The Measurement Unit and the Management Agent keep the invariants: the points and the zones keep their numbers
(R43, R51), and a table that is verified, written or stored names nothing twice (R206). -/

namespace Sys2Proof.Machine

/-! ### Points and zones -/

/-- A change that keeps the numbers of the points and of the zones. -/
theorem numbers_op (m : MeasurementUnit) (p : Part) (points : m.points.map (·.num) = p.meas.points.map (·.num))
    (zones : m.zones.map (·.num) = p.meas.zones.map (·.num)) : OpStep p { p with meas := m } :=
  meas_op m p fun held => ⟨points.trans held.1, zones.trans held.2⟩

theorem mapInstruments_points (g : InstrumentId → Instrument → Instrument) (m : MeasurementUnit) :
    (mapInstruments g m).points.map (·.num) = m.points.map (·.num) := by
  unfold mapInstruments
  rw [List.map_map]
  rfl

theorem mapInstruments_zones (g : InstrumentId → Instrument → Instrument) (m : MeasurementUnit) :
    (mapInstruments g m).zones.map (·.num) = m.zones.map (·.num) := by
  unfold mapInstruments
  rw [List.map_map]
  rfl

theorem onInstrument_op (d : InstrumentId) (g : Instrument → Instrument) (p : Part) : OpStep p (onInstrument d g p) :=
  numbers_op _ p (mapInstruments_points _ _) (mapInstruments_zones _ _)

theorem onPoint_op (n : Nat) (g : PointRec → PointRec) (p : Part) (same : ∀ q, (g q).num = q.num := by intro; rfl) :
    OpStep p (onPoint n g p) := numbers_op _ p (updWhere_map _ _ _ same _) rfl

theorem onZone_op (n : Nat) (g : ZoneRec → ZoneRec) (p : Part) (same : ∀ z, (g z).num = z.num := by intro; rfl) :
    OpStep p (onZone n g p) := numbers_op _ p rfl (updWhere_map _ _ _ same _)

theorem recomputeVm_op (p : Part) : OpStep p (recomputeVm p) := by
  unfold recomputeVm
  extract_lets q entered m p1
  have formed : OpStep p p1 := numbers_op _ p (by rfl) (by rfl)
  exact (OpStep.ite ((raise_op _ _).after (report_op _ _ p1)) (.refl p1)).after formed

theorem losePoint_op (n : Nat) (p : Part) : OpStep p (losePoint n p) :=
  ((raise_op _ _).after (report_op _ _ _)).after (onPoint_op n _ p)

theorem rejectInstrument_op (d : InstrumentId) (p : Part) : OpStep p (rejectInstrument d p) :=
  ((raise_op _ _).after (report_op _ _ _)).after (onInstrument_op d _ p)

theorem voteChecks_op (n : Nat) (before : PointRec) (p : Part) : OpStep p (voteChecks n before p) := by
  unfold voteChecks
  extract_lets t a b c judged p1 later p2
  have checked : OpStep p p1 := onPoint_op n _ p
  have rejected : OpStep p1 p2 := OpStep.foldl _ (fun p _ => rejectInstrument_op _ p) _ p1
  exact ((OpStep.ite (raise_op _ p2) (.refl p2)).after rejected).after checked

theorem voteOnly_op (n : Nat) (p : Part) : OpStep p (voteOnly n p) := by
  unfold voteOnly
  split
  · exact .refl p
  · next q _ =>
    extract_lets values r hold p1 p2
    have voted : OpStep p p1 := onPoint_op n _ p
    have told : OpStep p1 p2 := OpStep.ite (report_op _ _ p1) (.refl p1)
    exact OpStep.ite (losePoint_op n p) (((OpStep.ite (voteChecks_op n q p2) (.refl p2)).after told).after voted)

theorem votePoint_op (n : Nat) (p : Part) : OpStep p (votePoint n p) := OpStep.ite (voteOnly_op n p) (.refl p)

theorem pointHoldExpires_op (n : Nat) (p : Part) : OpStep p (pointHoldExpires n p) := by
  unfold pointHoldExpires
  split
  · exact OpStep.ite ((recomputeVm_op _).after (losePoint_op n p)) (.refl p)
  · exact .refl p

theorem handTemp_op (n : Nat) (p : Part) : OpStep p (handTemp n p) := by
  unfold handTemp
  split
  · exact takeZoneTemp_op _ _ p
  · exact .refl p

theorem evaluateZone_op (n : Nat) (p : Part) : OpStep p (evaluateZone n p) := by
  unfold evaluateZone
  split
  · next e z _ _ =>
    extract_lets entered p1 p2
    have judged : OpStep p p1 := onZone_op n _ p fun z => congrArg Prod.fst (evaluated_four e z)
    have told : OpStep p1 p2 := OpStep.ite ((takeZone_op n _).after (raise_op _ p1)) (.refl p1)
    exact ((handTemp_op n p2).after told).after judged
  · exact .refl p

theorem recomputeZone_op (n : Nat) (p : Part) : OpStep p (recomputeZone n p) :=
  OpStep.ite ((handTemp_op n _).after (onZone_op n _ p fun z => congrArg Prod.fst (recomputed_four z))) (.refl p)

theorem requalifyExpires_op (p : Part) : OpStep p (requalifyExpires p) := by
  unfold requalifyExpires
  refine OpStep.ite (.refl p) (OpStep.after (OpStep.foldl _ (fun p n => recomputeZone_op n p) _ _) ?_)
  exact numbers_op _ p rfl (by rw [List.map_map]; rfl)

/-! ### Samples and timers (R37, R41, R42) -/

theorem takeReading_op (source : Nat) (acc : Part × Touched) (r : Reading) :
    OpStep acc.1 (takeReading source acc r).1 := by
  obtain ⟨p, t⟩ := acc
  unfold takeReading
  dsimp only
  split
  · exact numbers_op _ p rfl rfl
  · split
    · exact numbers_op _ p rfl rfl
    · split
      · exact numbers_op _ p rfl rfl
      · split
        · exact onInstrument_op _ _ p
        all_goals exact (onZone_op _ _ _).after (onInstrument_op _ _ p)

theorem takeReadings_op (source : Nat) (l : List Reading) (acc : Part × Touched) :
    OpStep acc.1 (l.foldl (takeReading source) acc).1 := by
  induction l generalizing acc with
  | nil => exact .refl acc.1
  | cons r l ih => exact (ih _).after (takeReading_op source acc r)

theorem takeSample_op (source : Nat) (readings : List Reading) (p : Part) :
    OpStep p (takeSample source readings p) := by
  have read := takeReadings_op source readings (p, ⟨[], []⟩)
  unfold takeSample
  generalize readings.foldl (takeReading source) (p, ⟨[], []⟩) = acc at read
  obtain ⟨p1, t⟩ := acc
  have voted (q : Part) := OpStep.foldl _ (fun p n => votePoint_op n p) (sixteen.filter t.points.contains) q
  have evaluated (q : Part) := OpStep.foldl _ (fun p n => evaluateZone_op n p) (sixteen.filter t.zones.contains) q
  exact (((evaluated _).after (OpStep.ite (.refl _) (recomputeVm_op _))).after (voted p1)).after read

theorem refreshPlace_op (d : InstrumentId) (p : Part) : OpStep p (refreshPlace d p) := by
  unfold refreshPlace
  split
  · exact (recomputeVm_op _).after (votePoint_op _ p)
  all_goals exact recomputeZone_op _ p

theorem staleExpires_op (d : InstrumentId) (p : Part) : OpStep p (staleExpires d p) := by
  unfold staleExpires
  split
  · exact .refl p
  · split
    · exact .refl p
    · extract_lets p1
      refine OpStep.after ?_ (onInstrument_op d _ p : OpStep p p1)
      split
      · exact ((refreshPlace_op d _).after (report_op _ _ _)).after (onInstrument_op d _ p1)
      · exact OpStep.ite (onInstrument_op d _ p1) (.refl p1)
      · exact onInstrument_op d _ p1
      · exact .refl p1

theorem admitInstrument_op (d : InstrumentId) (p : Part) : OpStep p (admitInstrument d p) := by
  unfold admitInstrument
  split
  · exact .refl p
  · extract_lets p1
    refine OpStep.after ?_ (onInstrument_op d _ p : OpStep p p1)
    split
    · exact OpStep.ite (refreshPlace_op d p1) (.refl p1)
    all_goals exact refreshPlace_op d p1

/-! ### Activation and RESTART (R36, R58, R59) -/

theorem judgeAll_op (p : Part) : OpStep p (judgeAll p) := by
  unfold judgeAll
  extract_lets p1
  exact (OpStep.ite (raise_op _ p1) (.refl p1)).after
    (numbers_op _ p (mapInstruments_points _ _) (mapInstruments_zones _ _) : OpStep p p1)

theorem alignPoint_num (p : Part) (q : PointRec) : (alignPoint p q).num = q.num := by
  unfold alignPoint
  split <;> rfl

theorem alignZone_num (p : Part) (z : ZoneRec) : (alignZone p z).num = z.num := by
  unfold alignZone
  split <;> rfl

theorem judgeInstruments_op (p : Part) : OpStep p (judgeInstruments p) := by
  unfold judgeInstruments
  extract_lets p1 m p2 p3 p4 p5
  have judged : OpStep p p1 := judgeAll_op p
  have aligned : OpStep p1 p2 := numbers_op _ p1
    (by rw [List.map_map]; exact List.map_congr_left fun q _ => alignPoint_num p1 q)
    (by rw [List.map_map]; exact List.map_congr_left fun z _ => alignZone_num p1 z)
  have handed : OpStep p2 p3 := OpStep.foldl _ (fun p n => takeZoneTemp_op n none p) _ p2
  have voted : OpStep p3 p4 := OpStep.foldl _ (fun p n => votePoint_op n p) _ p3
  have recomputed : OpStep p4 p5 := OpStep.foldl _ (fun p n => recomputeZone_op n p) _ p4
  exact (((((recomputeVm_op p5).after recomputed).after voted).after handed).after aligned).after judged

theorem restartPoint_num (now : PartTime) (hold : Nat) (q : PointRec) : (restartPoint now hold q).num = q.num := by
  unfold restartPoint
  split <;> rfl

theorem restartZone_num (p : Part) (z : ZoneRec) : (restartZone p z).num = z.num := by
  unfold restartZone
  dsimp only
  split <;> rfl

theorem restartMeasurement_op (p : Part) : OpStep p (restartMeasurement p) := by
  refine (recomputeVm_op _).after (numbers_op _ p ?_ ?_)
  · rw [← mapInstruments_points (fun _ i => restartInstrument i) p.meas, List.map_map]
    exact List.map_congr_left fun q _ => restartPoint_num _ _ q
  · rw [← mapInstruments_zones (fun _ i => restartInstrument i) p.meas, List.map_map]
    exact List.map_congr_left fun z _ => restartZone_num p z

/-! ### Replies and the load buffer -/

@[simp] theorem done_part (p : Part) : (done p).2 = p := rfl

theorem answer_op (kind : Byte) (r : Request) {j : Judged} {p : Part} (judged : OpStep p j.2) :
    OpStep p (answer kind r j) := ((queueOwn_op _ _).after (settled_op j.2)).after judged

theorem clearStation_op (address : Nat) (p : Part) : OpStep p (clearStation address p) := onStation_op address _ p

theorem clearCounters_op (p : Part) : OpStep p (clearCounters p) := by
  have line : OpStep p { p with line := (clearCounters p).line, disp := (clearCounters p).disp } :=
    Elsewhere.op ⟨rfl, rfl, fun ok => ok.cleared 0 0 0 0⟩
  have meas := numbers_op (clearCounters p).meas { p with line := (clearCounters p).line, disp := (clearCounters p).disp }
    (by rfl) (by rfl)
  have fans := fm_op (clearCounters p).fm
    { p with line := (clearCounters p).line, disp := (clearCounters p).disp, meas := (clearCounters p).meas }
  have orders := ord_op (clearCounters p).ord { p with
    line := (clearCounters p).line, disp := (clearCounters p).disp, meas := (clearCounters p).meas,
    fm := (clearCounters p).fm } (by rfl) (by exact id)
  have coord := coord_op (clearCounters p).coord { p with
    line := (clearCounters p).line, disp := (clearCounters p).disp, meas := (clearCounters p).meas,
    fm := (clearCounters p).fm, ord := (clearCounters p).ord } (by rfl) (by exact id)
  exact (((coord.after orders).after fans).after meas).after line

theorem clearAfterRead_op (object : Nat) (p : Part) : OpStep p (clearAfterRead object p) := by
  unfold clearAfterRead
  split
  · exact clearCounters_op p
  · split
    · exact clearStation_op _ p
    · exact .refl p

theorem judgeReadStatus_op (r : Request) (p : Part) : OpStep p (judgeReadStatus r p).2 := by
  unfold judgeReadStatus
  split
  · dsimp only
    split
    · exact .refl p
    · split
      · exact formHealth_op p
      · exact (OpStep.ite (clearAfterRead_op _ _) (.refl _)).after (formHealth_op p)
  · exact .refl p

/-- What R206 asks of a table: no station address and no fan number named twice. -/
def Apart (t : Option Table) : Prop :=
  (∀ x, t = some (.stations x) → (x.entries.map (·.address)).Nodup) ∧
  ∀ x, t = some (.fans x) → (x.entries.map (·.num)).Nodup

/-- A load buffer in which a verified table is one that names nothing twice keeps the invariants. -/
theorem setBuffer_op (b : LoadBuffer) (p : Part)
    (apart : ∀ k, b.state = .verified → b.kind = some k → Apart (parseTable k b.bytes)) : OpStep p (setBuffer b p) := by
  refine ⟨⟨id, id, id, id, id, id, ?_, ?_, id, id, id, id, id⟩, ⟨rfl, rfl, fun _ => id, fun _ => id⟩⟩
  · rintro ⟨stations, peers, keys, active, stored, written, _⟩
    exact ⟨stations, peers, keys, active, stored, written, fun k verified kind => (apart k verified kind).1⟩
  · rintro ⟨numbers, preference, four, active, stored, written, _⟩
    exact ⟨numbers, preference, four, active, stored, written, fun k verified kind => (apart k verified kind).2⟩

theorem setBuffer_unverified_op (b : LoadBuffer) (p : Part) (other : b.state ≠ .verified) : OpStep p (setBuffer b p) :=
  setBuffer_op b p fun _ verified => absurd verified other

theorem judgeLoadBegin_op (r : Request) (p : Part) : OpStep p (judgeLoadBegin r p).2 := by
  unfold judgeLoadBegin
  split
  · split
    · exact .refl p
    · split
      · exact .refl p
      · split
        · exact .refl p
        · exact setBuffer_unverified_op _ p BufferState.noConfusion
  · exact .refl p

theorem takeBlock_op (num : Nat) (data : List Byte) {p : Part} (loading : p.mgmt.buffer.state = .loading) :
    OpStep p (takeBlock num data p).2 := by
  unfold takeBlock
  dsimp only
  repeat' split
  · exact setBuffer_unverified_op _ p BufferState.noConfusion
  · exact setBuffer_unverified_op _ p BufferState.noConfusion
  · exact setBuffer_unverified_op _ p (by simp [loading])

theorem judgeLoadBlock_op (r : Request) (p : Part) : OpStep p (judgeLoadBlock r p).2 := by
  unfold judgeLoadBlock
  split
  · split
    · exact .refl p
    · split
      · exact .refl p
      · split
        · next loading => exact takeBlock_op _ _ loading
        all_goals exact .refl p
  · exact .refl p

theorem distinct_nodup {α : Type} [BEq α] [LawfulBEq α] {l : List α} (all : distinct l = true) : l.Nodup := by
  induction l with
  | nil => exact List.nodup_nil
  | cons x l ih =>
    obtain ⟨fresh, rest⟩ : x ∉ l ∧ distinct l = true := by simpa [distinct] using all
    exact List.nodup_cons.mpr ⟨fresh, ih rest⟩

/-- An image that passes LOAD_END names nothing twice (R206). -/
theorem imageFault_apart {k : TableKind} {declared count : Nat} {sum : BitVec 16} {node : Nat} {image : List Byte}
    (passes : imageFault k declared count sum node image = none) : Apart (parseTable k image) := by
  unfold imageFault at passes
  repeat' split at passes
  all_goals try exact absurd passes (Option.some_ne_none _)
  next t parsed agrees =>
  rw [parsed]
  constructor
  · rintro x same
    obtain rfl := Option.some.inj same
    have agree : stationsAgree node x = true := agrees
    unfold stationsAgree at agree
    exact distinct_nodup (Bool.and_eq_true_iff.mp agree).1
  · rintro x same
    obtain rfl := Option.some.inj same
    have agree : fansAgree x = true := agrees
    unfold fansAgree at agree
    exact distinct_nodup (Bool.and_eq_true_iff.mp agree).2

theorem judgeLoadEnd_op (r : Request) (p : Part) : OpStep p (judgeLoadEnd r p).2 := by
  unfold judgeLoadEnd
  split
  · dsimp only
    split
    · exact .refl p
    · split
      · next k _ kind =>
        split
        · exact setBuffer_unverified_op _ p BufferState.noConfusion
        · next passes =>
          refine setBuffer_op _ p fun k' _ named => ?_
          obtain rfl := Option.some.inj (kind.symm.trans named)
          exact imageFault_apart passes
      all_goals exact .refl p
  · exact .refl p

/-! ### Requests on other blocks, RESTART -/

theorem judgeAckEvents_op (r : Request) (p : Part) : OpStep p (judgeAckEvents r p).2 := by
  unfold judgeAckEvents
  split
  · exact Elsewhere.op ⟨rfl, rfl, id⟩
  · exact .refl p

theorem judgeClearFault_op (r : Request) (p : Part) : OpStep p (judgeClearFault r p).2 := by
  unfold judgeClearFault
  split
  · exact Elsewhere.op ⟨rfl, rfl, id⟩
  · exact .refl p

theorem judgeAdmit_op (r : Request) (p : Part) : OpStep p (judgeAdmit r p).2 := by
  unfold judgeAdmit
  split
  · split
    · split
      · exact admitFan_op _ p
      · exact .refl p
    · split
      · exact .refl p
      · split
        · exact admitInstrument_op _ p
        · exact .refl p
  · exact .refl p

theorem judgeIsolate_op (r : Request) (p : Part) : OpStep p (judgeIsolate r p).2 := by
  unfold judgeIsolate
  repeat' split
  · exact isolateFan_op _ p
  all_goals exact .refl p

theorem forgetSequences_op (source : Nat) (seq : Byte) (p : Part) : OpStep p (forgetSequences source seq p) :=
  Elsewhere.op ⟨rfl, by
    unfold forgetSequences
    rw [List.map_map]
    exact List.map_congr_left fun s _ => by dsimp only [Function.comp]; split <;> rfl, id⟩

theorem restartBuffer_op (p : Part) : OpStep p (restartBuffer p) :=
  OpStep.ite (.refl p) (setBuffer_unverified_op _ p BufferState.noConfusion)

theorem judgeRestart_op (r : Request) (seq : Byte) (p : Part) : OpStep p (judgeRestart r seq p).2 := by
  unfold judgeRestart
  split
  · extract_lets p1 p2
    have measured : OpStep p p1 := (restartMeasurement_op _).after (forgetSequences_op _ seq p)
    have started : OpStep p1 p2 := ((restartFans_op _).after (restartOrders_op _)).after (restartController_op p1)
    have emptied : OpStep p2 (restartBuffer (requestsSettled p2)) :=
      (restartBuffer_op (requestsSettled p2)).after (requestsSettled_op p2)
    rw [done_part]
    exact (emptied.after started).after measured
  · exact .refl p

end Sys2Proof.Machine
end

section
/-! PROOFS. What every step keeps (O55, O57, O58, O59): activation, delivery and power-on reset beside the operations that
keep every invariant, and the invariants of the machine assembled from them. -/

namespace Sys2Proof.Machine

/-! ### What an event keeps -/

/-- What an event makes of the invariants, a store write begun or ended in it too. -/
structure Kept (p q : Part) : Prop extends InvStep p q where
  writing : On HoldWhileWriting p → On HoldWhileWriting q
  outside : On HoldWhileWriting p → On WriteOutsideControl p → On WriteOutsideControl q

theorem Kept.trans {p q r : Part} (h : Kept p q) (k : Kept q r) : Kept p r :=
  ⟨h.toInvStep.trans k.toInvStep, k.writing ∘ h.writing, fun held out => k.outside (h.writing held) (h.outside held out)⟩

theorem Kept.after {p q r : Part} (k : Kept q r) (h : Kept p q) : Kept p r := Kept.trans h k

theorem OpStep.kept {p q : Part} (h : OpStep p q) : Kept p q := by
  refine ⟨h.toInvStep, ?_, ?_⟩
  · rintro ⟨held, pending⟩
    have write : q.mgmt.write = p.mgmt.write := h.write
    refine ⟨h.storeHold.trans (held.trans (congrArg Option.isSome write.symm)), fun waits => ?_⟩
    by_contra free
    have free_before : p.reg.storeHold = false := by
      rw [← h.storeHold]
      exact Bool.not_eq_true _ ▸ free
    refine waits (h.entry free_before ?_)
    by_contra waited
    exact absurd ((pending waited).symm.trans free_before) Bool.noConfusion
  · rintro ⟨held, _⟩ out writing
    have write : q.mgmt.write = p.mgmt.write := h.write
    have writes : p.mgmt.write ≠ none := write ▸ writing
    exact h.outside (held.trans (Option.isSome_iff_ne_none.mpr writes)) (out writes)

theorem Kept.refl (p : Part) : Kept p p := (OpStep.refl p).kept

theorem Kept.ite {p : Part} {c : Prop} [Decidable c] {a b : Part} (ha : Kept p a) (hb : Kept p b) :
    Kept p (if c then a else b) := by
  split
  · exact ha
  · exact hb

/-! ### Tables (R107, R206) -/

theorem parseAll_mem {α β : Type} {f : α → Option β} {l : List α} {ys : List β} (parsed : parseAll f l = some ys) :
    ∀ y ∈ ys, ∃ x ∈ l, f x = some y := by
  induction l generalizing ys with
  | nil =>
    obtain rfl := Option.some.inj parsed
    exact fun y mem => absurd mem List.not_mem_nil
  | cons x l ih =>
    obtain ⟨y, head, zs, tail, rfl⟩ : ∃ y, f x = some y ∧ ∃ zs, parseAll f l = some zs ∧ y :: zs = ys := by
      simpa [parseAll, Option.bind_eq_some_iff] using parsed
    rintro z (_ | ⟨_, mem⟩)
    · exact ⟨x, List.mem_cons_self, head⟩
    · obtain ⟨w, held, made⟩ := ih tail z mem
      exact ⟨w, List.mem_cons_of_mem x held, made⟩

theorem parseFan_numbered {x : Nat × List Byte} {e : FanEntry} (parsed : parseFan x = some e) :
    1 ≤ e.num ∧ e.num ≤ 48 := by
  unfold parseFan at parsed
  obtain ⟨orientation, _, rest⟩ := Option.bind_eq_some_iff.mp parsed
  dsimp only at rest
  split at rest
  · next ranges =>
    obtain rfl := Option.some.inj rest
    simp only [Bool.and_eq_true, within, decide_eq_true_eq] at ranges
    obtain ⟨⟨⟨⟨⟨⟨⟨⟨⟨⟨⟨⟨⟨num, _⟩, _⟩, _⟩, _⟩, _⟩, _⟩, _⟩, _⟩, _⟩, _⟩, _⟩, _⟩, _⟩ := ranges
    exact num
  · exact absurd rest.symm (Option.some_ne_none _)

theorem parseTable_numbered {k : TableKind} {image : List Byte} {t : FanTable}
    (parsed : parseTable k image = some (.fans t)) : ∀ e ∈ t.entries, 1 ≤ e.num ∧ e.num ≤ 48 := by
  cases k
  case fans =>
    obtain ⟨u, fans, same⟩ := Option.map_eq_some_iff.mp parsed
    obtain rfl := Table.fans.inj same
    obtain ⟨entries, all, made⟩ := Option.bind_eq_some_iff.mp fans
    obtain rfl := Option.some.inj made
    intro e mem
    obtain ⟨x, _, entry⟩ := parseAll_mem all e mem
    exact parseFan_numbered entry
  all_goals
    obtain ⟨u, _, other⟩ := Option.map_eq_some_iff.mp parsed
    exact Table.noConfusion other

/-- The kind of a table. -/
def Table.kind : Table → TableKind
  | .stations _ => .stations
  | .sections _ => .sections
  | .fans _ => .fans
  | .control _ => .control

/-- The active table of a kind. -/
def activeTable (k : TableKind) (m : ManagementAgent) : Option Table :=
  match k with
  | .stations => m.stations.map .stations
  | .sections => m.sections.map .sections
  | .fans => m.fans.map .fans
  | .control => m.control.map .control

theorem parseTable_kind {k : TableKind} {image : List Byte} {t : Table} (parsed : parseTable k image = some t) :
    t.kind = k := by
  cases k
  all_goals
    obtain ⟨u, _, rfl⟩ := Option.map_eq_some_iff.mp parsed
    rfl

/-- What a property of tables asks of those of kind `k` that the Management Agent holds: the active one, the stored one,
and any that is being written or verified. -/
structure TablesHold (P : Option Table → Prop) (k : TableKind) (m : ManagementAgent) : Prop where
  active   : P (activeTable k m)
  stored   : (slotOf m k).state = .valid → P (parseTable k (slotOf m k).image)
  written  : ∀ w, m.write = some w → P (parseTable w.kind w.image)
  verified : ∀ j, m.buffer.state = .verified → m.buffer.kind = some j → P (parseTable j m.buffer.bytes)

/-- A table names no station address twice. -/
def StationsApart (t : Option Table) : Prop := ∀ x, t = some (.stations x) → (x.entries.map (·.address)).Nodup

/-- A table names no fan number twice. -/
def FansApart (t : Option Table) : Prop := ∀ x, t = some (.fans x) → (x.entries.map (·.num)).Nodup

/-- A table names only fan numbers from 1 to 48. -/
def FansInRange (t : Option Table) : Prop := ∀ x, t = some (.fans x) → ∀ e ∈ x.entries, 1 ≤ e.num ∧ e.num ≤ 48

theorem addressesDistinct_iff (p : Part) : On AddressesDistinct p ↔
    (p.disp.stations.map (·.address)).Nodup ∧ (p.coord.peers.map (·.address)).Nodup ∧
    (p.ord.tags.map TagRec.key).Nodup ∧ TablesHold StationsApart .stations p.mgmt := by
  constructor
  · rintro ⟨stations, peers, keys, active, stored, written, verified⟩
    refine ⟨stations, peers, keys, fun x is_active => active x ?_, stored, written, verified⟩
    obtain ⟨y, held, same⟩ := Option.map_eq_some_iff.mp is_active
    exact Table.stations.inj same ▸ held
  · rintro ⟨stations, peers, keys, active, stored, written, verified⟩
    exact ⟨stations, peers, keys, fun x held => active x (congrArg (Option.map Table.stations) held), stored, written,
      verified⟩

theorem fansDistinct_iff (p : Part) : On FansDistinct p ↔
    (p.fm.fans.map (·.e.num)).Nodup ∧ p.fm.preference.Nodup ∧ p.fm.slots.length = 4 ∧
    TablesHold FansApart .fans p.mgmt := by
  constructor
  · rintro ⟨numbers, preference, four, active, stored, written, verified⟩
    refine ⟨numbers, preference, four, fun x is_active => active x ?_, stored, written, verified⟩
    obtain ⟨y, held, same⟩ := Option.map_eq_some_iff.mp is_active
    exact Table.fans.inj same ▸ held
  · rintro ⟨numbers, preference, four, active, stored, written, verified⟩
    exact ⟨numbers, preference, four, fun x held => active x (congrArg (Option.map Table.fans) held), stored, written,
      verified⟩

theorem fansNumbered_iff (p : Part) : On FansNumbered p ↔
    (∀ f ∈ p.fm.fans, 1 ≤ f.e.num ∧ f.e.num ≤ 48) ∧ FansInRange (activeTable .fans p.mgmt) := by
  constructor
  · rintro ⟨numbers, active⟩
    refine ⟨numbers, fun x is_active => active x ?_⟩
    obtain ⟨y, held, same⟩ := Option.map_eq_some_iff.mp is_active
    exact Table.fans.inj same ▸ held
  · rintro ⟨numbers, active⟩
    exact ⟨numbers, fun x held => active x (congrArg (Option.map Table.fans) held)⟩

/-! ### The tables installed, withdrawn and stored -/

theorem slotOf_setSlot (m : ManagementAgent) (k j : TableKind) (s : StoreSlot) :
    slotOf (setSlot k s m) j = if k = j then s else slotOf m j := by
  cases k <;> cases j <;> rfl

theorem activeTable_setSlot (m : ManagementAgent) (k j : TableKind) (s : StoreSlot) :
    activeTable j (setSlot k s m) = activeTable j m := by
  cases k <;> rfl

theorem activeTable_installTable (m : ManagementAgent) (t : Table) (j : TableKind) :
    activeTable j (installTable t m) = if t.kind = j then some t else activeTable j m := by
  cases t <;> cases j <;> rfl

theorem activeTable_clearTable (m : ManagementAgent) (k j : TableKind) :
    activeTable j (clearTable k m) = if k = j then none else activeTable j m := by
  cases k <;> cases j <;> rfl

theorem slotOf_installTable (m : ManagementAgent) (t : Table) (j : TableKind) :
    slotOf (installTable t m) j = slotOf m j := by
  cases t <;> cases j <;> rfl

theorem slotOf_clearTable (m : ManagementAgent) (k j : TableKind) : slotOf (clearTable k m) j = slotOf m j := by
  cases k <;> cases j <;> rfl

/-- The Management Agent when a write has ended, its table installed (R209). -/
def writeEnded (w : StoreWrite) (m : ManagementAgent) : ManagementAgent :=
  let m := setSlot w.kind ⟨.valid, w.image, imageSum w.image⟩ m
  let m := match parseTable w.kind w.image with
    | some t => installTable t m
    | none => m
  { m with write := none, buffer := .empty }

theorem activeTable_writeEnded (w : StoreWrite) (m : ManagementAgent) (k : TableKind) :
    activeTable k (writeEnded w m) = activeTable k m ∨ activeTable k (writeEnded w m) = parseTable w.kind w.image := by
  have same (n : ManagementAgent) : activeTable k { n with write := none, buffer := .empty } = activeTable k n := by
    cases k <;> rfl
  unfold writeEnded
  extract_lets m1 m2
  rw [same]
  unfold m2
  split
  · next t parsed =>
    rw [activeTable_installTable, activeTable_setSlot, parsed]
    split
    · exact .inr rfl
    · exact .inl rfl
  · exact .inl (activeTable_setSlot _ _ _ _)

theorem TablesHold.ended {P : Option Table → Prop} {k : TableKind} {m : ManagementAgent} (h : TablesHold P k m)
    {w : StoreWrite} (writes : m.write = some w) : TablesHold P k (writeEnded w m) := by
  have slot : slotOf (writeEnded w m) k = if w.kind = k then ⟨.valid, w.image, imageSum w.image⟩ else slotOf m k := by
    have same (n : ManagementAgent) : slotOf { n with write := none, buffer := .empty } k = slotOf n k := by
      cases k <;> rfl
    unfold writeEnded
    extract_lets m1 m2
    rw [same, ← slotOf_setSlot]
    unfold m2
    split
    · exact slotOf_installTable _ _ _
    · rfl
  refine ⟨?_, ?_, nofun, nofun⟩
  · obtain stays | installed := activeTable_writeEnded w m k
    · rw [stays]
      exact h.active
    · rw [installed]
      exact h.written w writes
  · rw [slot]
    split
    · next same => exact fun _ => same ▸ h.written w writes
    · exact h.stored

theorem TablesHold.begun {P : Option Table → Prop} {k : TableKind} {m : ManagementAgent} (h : TablesHold P k m)
    {j : TableKind} (verified : m.buffer.state = .verified) (kind : m.buffer.kind = some j) (source : Byte)
    (number : BitVec 16) : TablesHold P k
      { setSlot j { slotOf m j with state := .writing } m with write := some ⟨j, m.buffer.bytes, source, number⟩ } := by
  have buffer : (setSlot j { slotOf m j with state := .writing } m).buffer = m.buffer := by cases j <;> rfl
  have active : activeTable k { setSlot j { slotOf m j with state := .writing } m with
      write := some ⟨j, m.buffer.bytes, source, number⟩ } = activeTable k m := by cases k <;> cases j <;> rfl
  have slot : slotOf { setSlot j { slotOf m j with state := .writing } m with
      write := some ⟨j, m.buffer.bytes, source, number⟩ } k =
      if j = k then { slotOf m j with state := .writing } else slotOf m k := by cases k <;> cases j <;> rfl
  refine ⟨active ▸ h.active, ?_, ?_, ?_⟩
  · rw [slot]
    split
    · exact nofun
    · exact h.stored
  · rintro w same
    obtain rfl := Option.some.inj same
    exact h.verified j verified kind
  · change ∀ i, (setSlot j _ m).buffer.state = _ → (setSlot j _ m).buffer.kind = _ → _
    rw [buffer]
    exact h.verified

end Sys2Proof.Machine
end

section
/-! PROOFS. Activation, delivery and power-on reset keep the invariants, and so does every step (O55, O57, O58, O59). -/

namespace Sys2Proof.Machine

/-! ### Activation (R208, R209) -/

/-- A change of the Management Agent alone, its tables standing the tests and the store-write hold with its write. -/
theorem mgmt_inv (m : ManagementAgent) (p : Part)
    (stations : TablesHold StationsApart .stations p.mgmt → TablesHold StationsApart .stations m)
    (fans : TablesHold FansApart .fans p.mgmt → TablesHold FansApart .fans m)
    (range : FansInRange (activeTable .fans p.mgmt) → FansInRange (activeTable .fans m)) :
    InvStep p { p with mgmt := m } := by
  refine ⟨id, id, id, id, id, id, ?_, ?_, ?_, id, id, id, id⟩
  · rw [addressesDistinct_iff, addressesDistinct_iff]
    exact fun ⟨addresses, peers, keys, tables⟩ => ⟨addresses, peers, keys, stations tables⟩
  · rw [fansDistinct_iff, fansDistinct_iff]
    exact fun ⟨numbers, preference, four, tables⟩ => ⟨numbers, preference, four, fans tables⟩
  · rw [fansNumbered_iff, fansNumbered_iff]
    exact fun ⟨numbers, active⟩ => ⟨numbers, range active⟩

theorem activateFault_none {kind : TableKind} {p : Part} (accepted : activateFault kind p = none) :
    p.reg.record.state = .quiet ∧ p.mgmt.write = none ∧ p.mgmt.buffer.state = .verified ∧
      p.mgmt.buffer.kind = some kind := by
  unfold activateFault at accepted
  repeat' split at accepted
  all_goals try exact absurd accepted (Option.some_ne_none _)
  next quiet free verified =>
  simp only [bne_iff_ne, ne_eq, not_not, Bool.or_eq_true, not_or] at quiet verified
  exact ⟨quiet, by simpa [locked] using free, verified.1, verified.2⟩

theorem beginWrite_kept {kind : TableKind} (r : Request) {p : Part} (accepted : activateFault kind p = none) :
    Kept p (beginWrite kind r p) := by
  obtain ⟨quiet, free, verified, named⟩ := activateFault_none accepted
  have tables := mgmt_inv { setSlot kind { slotOf p.mgmt kind with state := .writing } p.mgmt with
      write := some ⟨kind, p.mgmt.buffer.bytes, r.source, r.number⟩ } p
    (fun hold => hold.begun verified named _ _) (fun hold => hold.begun verified named _ _) (by
      have active : activeTable .fans { setSlot kind { slotOf p.mgmt kind with state := .writing } p.mgmt with
        write := some ⟨kind, p.mgmt.buffer.bytes, r.source, r.number⟩ } = activeTable .fans p.mgmt := by
        cases kind <;> rfl
      rw [active]
      exact id)
  have held : InvStep { p with mgmt := { setSlot kind { slotOf p.mgmt kind with state := .writing } p.mgmt with
      write := some ⟨kind, p.mgmt.buffer.bytes, r.source, r.number⟩ } } (beginWrite kind r p) :=
    ⟨id, id, id, id, id, id, id, id, id, id, id, id, id⟩
  refine ⟨tables.trans held, fun _ => ⟨rfl, fun _ => rfl⟩, fun _ _ _ => ?_⟩
  change p.reg.record.state ≠ .control ∧ p.reg.record.state ≠ .hold
  rw [quiet]
  exact ⟨IncidentState.noConfusion, IncidentState.noConfusion⟩

theorem takeActivate_kept (r : Request) (p : Part) : Kept p (takeActivate r p) := by
  have refused (reason : ReplyReason) : Kept p (answer 5 r (refusal reason p)) := (answer_op 5 r (.refl p)).kept
  unfold takeActivate
  split
  · split
    · exact refused _
    · split
      · exact refused _
      · next accepted => exact beginWrite_kept r accepted
  · exact refused _

theorem carriedStation_address (old : List StationRec) (e : StationEntry) : (carriedStation old e).address = e.address := by
  unfold carriedStation
  split
  · next s found =>
    have here := List.find?_some (p := fun s : StationRec => s.address == e.address && s.role == e.role) found
    exact eq_of_beq (Bool.and_eq_true_iff.mp here).1
  · rfl

/-- Station records made of the entries of the active STATION table have its addresses. -/
theorem stationsOfTable_op (d : Dispatcher) (p : Part) (one : StationEntry → StationRec)
    (own : ∀ e, (one e).address = e.address) (made : d.stations = p.stationEntries.map one) :
    OpStep p { p with disp := d } := by
  refine ⟨⟨id, id, id, id, id, id, ?_, id, id, id, id, id, id⟩, ⟨rfl, rfl, fun _ => id, fun _ => id⟩⟩
  rintro ⟨_, peers, keys, active, others⟩
  refine ⟨?_, peers, keys, active, others⟩
  have addresses : d.stations.map (·.address) = p.stationEntries.map (·.address) := by
    rw [made, List.map_map]
    exact List.map_congr_left fun e _ => own e
  change (d.stations.map (·.address)).Nodup
  rw [addresses]
  unfold Part.stationEntries
  split
  · next t held => exact active t held
  · exact List.nodup_nil

theorem rebuildStations_op (p : Part) : OpStep p (rebuildStations p) :=
  stationsOfTable_op _ p _ (carriedStation_address _) rfl

theorem rebuildFrom_op (k : TableKind) (p : Part) : OpStep p (rebuildFrom k p) := by
  cases k
  · exact (((((judgeFans_op _).after (buildReach_op _)).after (judgeInstruments_op _)).after (rebuildOrders_op _)).after
      (settled_op _)).after ((rebuildPeers_op _).after (rebuildStations_op p))
  · exact (judgeFans_op _).after (judgeInstruments_op p)
  · exact (judgeFans_op _).after (rebuildOrders_op p)
  · exact .refl p

/-- The store-write hold lifted, the entry that was pending under it taken off the Register (R76). -/
def holdLifted (p : Part) : Part := { p with reg := { p.reg with storeHold := false, entry := none } }

theorem judgedRole_moved {r : IncidentRecord} (whole : Whole r) (role : IncidentRole) (declared : r.state = .declared) :
    Whole { r with role := role } := by
  have moved := whole.moved (.inl declared) (.inl declared) role r.controlled
  exact moved

theorem endStoreHold_op (p : Part) : OpStep (holdLifted p) (endStoreHold p) := by
  unfold endStoreHold
  extract_lets entry g1 p1 r role
  change OpStep p1 _
  split
  · exact .refl p1
  · next in_declared =>
    have declared : p1.reg.record.state = .declared := by simpa [r] using in_declared
    split
    · exact leaveDeclared_op declared rfl (.inr (.inl rfl))
    · clear_value entry
      split
      · exact leaveDeclared_op declared rfl (.inr (.inl rfl))
      · exact leaveDeclared_op declared rfl (.inr (.inr (.inl rfl)))
      · exact leaveDeclared_op declared rfl (.inr (.inl rfl))
      · exact (armLeadWait_op _).after
          (putRecord_op (fun whole => judgedRole_moved whole role declared) fun _ out => out)

/-- With the hold lifted and no write in flight, the hold's invariants hold, whatever was before. -/
theorem HoldStep.free {p q : Part} (h : HoldStep p q) (free : p.reg.storeHold = false) (none_waits : p.reg.entry = none)
    (no_write : p.mgmt.write = none) : On HoldWhileWriting q ∧ On WriteOutsideControl q := by
  have write : q.mgmt.write = none := h.write.trans no_write
  have entry : q.reg.entry = none := h.entry free none_waits
  refine ⟨⟨?_, fun waits => absurd entry waits⟩, fun writing => absurd write writing⟩
  exact (h.storeHold.trans free).trans (congrArg Option.isSome write).symm

theorem endWrite_kept (p : Part) : Kept p (endWrite p) := by
  unfold endWrite
  split
  · exact .refl p
  · next w writes =>
    extract_lets m1 m2 p1 p2
    have installed : InvStep p { p with mgmt := writeEnded w p.mgmt } := by
      refine mgmt_inv _ p (fun hold => hold.ended writes) (fun hold => hold.ended writes) fun range => ?_
      obtain stays | parsed := activeTable_writeEnded w p.mgmt .fans
      · rw [stays]
        exact range
      · rw [parsed]
        exact fun x named => parseTable_numbered named
    have rebuilt : OpStep { p with mgmt := writeEnded w p.mgmt } p1 := (settled_op _).after (rebuildFrom_op w.kind _)
    have told : OpStep p1 (formHealth (raise .tableEvent p1)) := (formHealth_op _).after (raise_op _ p1)
    have lifted : InvStep (formHealth (raise .tableEvent p1)) (holdLifted (formHealth (raise .tableEvent p1))) :=
      ⟨id, id, id, id, id, id, id, id, id, id, id, id, id⟩
    have ended : OpStep (holdLifted (formHealth (raise .tableEvent p1))) (reply w.source w.number 5 (.ok []) (settled p2)) :=
      ((queueOwn_op _ _).after (settled_op p2)).after (endStoreHold_op _)
    have no_write : p1.mgmt.write = none := rebuilt.write
    obtain ⟨held, out⟩ := ended.toHoldStep.free rfl rfl no_write
    exact ⟨((installed.trans rebuilt.toInvStep).trans told.toInvStep).trans (lifted.trans ended.toInvStep), fun _ => held,
      fun _ _ => out⟩

/-! ### Delivery (R25 to R29) -/

theorem manage_kept (kind seq : Byte) (r : Request) (p : Part) : Kept p (manage kind seq r p) := by
  unfold manage
  split
  · exact (answer_op 1 r (judgeReadStatus_op r p)).kept
  · exact (answer_op 2 r (judgeLoadBegin_op r p)).kept
  · exact (answer_op 3 r (judgeLoadBlock_op r p)).kept
  · exact (answer_op 4 r (judgeLoadEnd_op r p)).kept
  · exact takeActivate_kept r p
  · exact (answer_op 6 r (judgeAckEvents_op r p)).kept
  · exact (answer_op 7 r (judgeClearFault_op r p)).kept
  · exact (answer_op 8 r (judgeAdmit_op r p)).kept
  · exact (answer_op 9 r (judgeIsolate_op r p)).kept
  · exact (answer_op 10 r (judgeRestart_op r seq p)).kept
  · exact (answer_op kind r (.refl p)).kept

theorem hold_op (n : Notice) (p : Part) : OpStep p (judgeFreeze .control .hold n p) :=
  judgeFreeze_op n p (.inl rfl) (.inr rfl)

theorem resume_op (n : Notice) (p : Part) : OpStep p (judgeFreeze .hold .control n p) :=
  judgeFreeze_op n p (.inr rfl) (.inl rfl)

theorem judgeNotice_op (action : Nat) (n : Notice) (p : Part) : OpStep p (judgeNotice action n p) := by
  unfold judgeNotice
  split
  · exact judgeDeclare_op n p
  · exact judgeUpdate_op n p
  · exact hold_op n p
  · exact resume_op n p
  · exact judgeClear_op n p
  · exact judgeCancel_op p
  · exact refuseNotice_op _ p

theorem deliver_kept (source seq : Byte) (d : Delivery) (p : Part) : Kept p (deliver source seq d p) := by
  cases d
  · exact (takeSample_op _ _ p).kept
  · exact (takeReport_op _ _ p).kept
  · exact (takeAnswer_op _ _ _ _ _ p).kept
  · exact (judgeNotice_op _ _ p).kept
  · exact (takeBulletin_op _ _ p).kept
  · exact manage_kept _ _ _ p

theorem countGap_op (source skipped : Nat) (p : Part) : OpStep p (countGap source skipped p) :=
  OpStep.ite (.refl p) ((report_op _ _ _).after (countDispatch_op _ p))

theorem acceptFrom_kept (s : StationRec) (seq : Byte) (d : Delivery) (p : Part) : Kept p (acceptFrom s seq d p) := by
  unfold acceptFrom
  extract_lets p1 p2 p3
  have known : Kept p p1 := (onStation_op _ _ p).kept
  have counted : Kept p1 p3 := ((countDispatch_op _ p2).after (onStation_op _ _ p1)).kept
  exact (Kept.ite (countDispatch_op _ p1).kept ((deliver_kept _ _ _ p3).after counted)).after known

theorem testStation_kept (s : StationRec) (seq : Byte) (d : Delivery) (p : Part) : Kept p (testStation s seq d p) := by
  unfold testStation
  extract_lets again
  have counted : Kept p again := (onStation_op _ _ p).kept
  split
  · exact acceptFrom_kept s seq d p
  · split
    · exact (countDispatch_op _ again).kept.after counted
    · exact (countDispatch_op _ again).kept.after counted
    · exact (acceptFrom_kept s seq d _).after ((countGap_op _ _ _).after (onStation_op _ _ p)).kept

theorem admitProvisional_op (source : Nat) (seq : Byte) (p : Part) : OpStep p (admitProvisional source seq p) := by
  unfold admitProvisional
  dsimp only
  split
  · exact provisional_op _ p
  · split
    · exact .refl p
    · exact (provisional_op _ _).after (countDispatch_op _ p)

theorem testProvisional_kept (source seq : Byte) (d : Delivery) (p : Part) : Kept p (testProvisional source seq d p) := by
  have accepted (q : Part) :
      Kept q (deliver source seq d (countDispatch (fun c => { c with delivered := bump c.delivered }) q)) :=
    (deliver_kept _ _ _ _).after (countDispatch_op _ q).kept
  unfold testProvisional
  dsimp only
  split
  · exact (accepted _).after (admitProvisional_op _ _ p).kept
  · split
    · exact (countDispatch_op _ p).kept
    · exact (countDispatch_op _ p).kept
    · exact (accepted _).after ((countGap_op _ _ _).after (provisional_op _ p)).kept

theorem dispatch_kept (source seq : Byte) (d : Delivery) (p : Part) : Kept p (dispatch source seq d p) := by
  unfold dispatch
  extract_lets p1 mismatch badSource names
  have taken : Kept p p1 := (countDispatch_op _ p).kept
  have mismatched : Kept p1 mismatch := (countDispatch_op _ p1).kept
  have refused : Kept p1 badSource := (countDispatch_op _ p1).kept
  refine Kept.after ?_ taken
  split
  · split
    · split
      · exact testStation_kept _ _ _ p1
      · exact mismatched
    · exact refused
  · split
    · exact Kept.ite (testProvisional_kept _ _ _ p1) refused
    · exact mismatched

theorem takeTelegram_kept (k : TelegramKind) (t : Telegram) (p : Part) : Kept p (takeTelegram k t p) := by
  unfold takeTelegram
  split
  · exact (line_op _ p (by exact id)).kept
  · exact dispatch_kept _ _ _ p

theorem offer_op (i : PortId) (t : Telegram) (p : Part) : OpStep p (offer i t p) := (offer_ofLine i t p).op (·.offer i t)

theorem dispose_kept (i : PortId) (t : Telegram) (p : Part) : Kept p (dispose i t p) := by
  unfold dispose
  split
  · exact .refl p
  · split
    · exact Kept.ite ((offer_op _ _ _).after (line_op _ p (by exact id))).kept (offer_op _ _ p).kept
    · next k _ =>
      refine Kept.ite (Kept.after (q := takeTelegram k t p) ?_ (takeTelegram_kept k t p)) (offer_op _ _ p).kept
      exact Kept.ite ((offer_op _ _ _).after (settled_op _)).kept (.refl _)

theorem receive_kept (i : PortId) (bytes : List Byte) (p : Part) : Kept p (receive i bytes p) := by
  have failed (f : PortCounters → PortCounters) : Kept p (symbolError i f p) :=
    ((symbolError_ofLine i f p).op (·.symbolError i f)).kept
  unfold receive
  split
  · exact failed _
  · split
    · exact (dispose_kept _ _ _).after ((passCheck_ofLine i p).op (·.passCheck i)).kept
    · next up _ => exact ((failCheckUp_ofLine i p).op (·.failCheckUp up)).kept
    · exact ((passCheck_ofLine i p).op (·.passCheck i)).kept
    · exact failed _
    · exact failed _
    · exact .refl p

/-! ### Power-on reset (R16, R33, R57, R84, R105, R131, R150, R171, R186, R207, R212) -/

/-- Every block but the Coordinator and the table store cleared. -/
def cleared (straps : Byte) (p : Part) : Part :=
  { p with
    line := resetLine straps p.line, reg := .reset, ctl := .reset, fc := .cleared, now := 0, handOns := [],
    meas := .reset, fm := .reset, ord := .reset, disp := .reset,
    mgmt := { p.mgmt with buffer := .empty, write := none } }

theorem TablesHold.emptied {P : Option Table → Prop} {k : TableKind} {m : ManagementAgent} (h : TablesHold P k m) :
    TablesHold P k { m with buffer := .empty, write := none } := by
  refine ⟨?_, ?_, nofun, nofun⟩
  · have active := h.active
    cases k <;> exact active
  · have stored := h.stored
    cases k <;> exact stored

theorem cleared_kept (straps : Byte) (p : Part) : Kept p (cleared straps p) := by
  refine ⟨⟨fun _ => ⟨rfl, rfl⟩, fun _ => rfl, fun _ => Whole.empty .quiet not_holding_quiet, fun _ => ⟨Nat.zero_le _, .nil⟩,
    fun _ => ⟨fun _ => ⟨rfl, rfl⟩, fun _ => ⟨rfl, rfl, rfl, rfl⟩⟩, id, ?_, ?_, ?_, fun _ => ⟨rfl, rfl⟩,
    fun _ => ⟨fun _ => rfl, nofun⟩, fun _ => Nat.zero_le _, fun _ => resetLine_ok straps _⟩, fun _ => ⟨rfl, fun waits => absurd rfl waits⟩,
    fun _ _ writing => absurd rfl writing⟩
  · rw [addressesDistinct_iff, addressesDistinct_iff]
    exact fun ⟨_, peers, _, tables⟩ => ⟨.nil, peers, .nil, tables.emptied⟩
  · rw [fansDistinct_iff, fansDistinct_iff]
    exact fun ⟨_, _, _, tables⟩ => ⟨.nil, .nil, rfl, tables.emptied⟩
  · rw [fansNumbered_iff, fansNumbered_iff]
    exact fun ⟨_, active⟩ => ⟨fun f mem => absurd mem List.not_mem_nil, active⟩

theorem reloaded_some {k : TableKind} {node : Nat} {s : StoreSlot} {t : Table} (passes : reloaded k node s = some t) :
    s.state = .valid ∧ parseTable k s.image = some t := by
  unfold reloaded at passes
  split at passes
  · next valid =>
    simp only [Bool.and_eq_true, beq_iff_eq] at valid
    exact ⟨valid.1, (Option.filter_eq_some_iff.mp passes).1⟩
  · exact absurd passes.symm (Option.some_ne_none t)

theorem installTable_rest (t : Table) (m : ManagementAgent) :
    (installTable t m).write = m.write ∧ (installTable t m).buffer = m.buffer := by
  cases t <;> exact ⟨rfl, rfl⟩

theorem withdrawn_rest (k : TableKind) (s : StoreSlot) (m : ManagementAgent) :
    (clearTable k (setSlot k s m)).write = m.write ∧ (clearTable k (setSlot k s m)).buffer = m.buffer := by
  cases k <;> exact ⟨rfl, rfl⟩

theorem TablesHold.installed {P : Option Table → Prop} {k : TableKind} {m : ManagementAgent} (h : TablesHold P k m)
    {t : Table} (passes : t.kind = k → P (some t)) : TablesHold P k (installTable t m) := by
  obtain ⟨write, buffer⟩ := installTable_rest t m
  refine ⟨?_, ?_, write ▸ h.written, buffer ▸ h.verified⟩
  · rw [activeTable_installTable]
    split
    · next same => exact passes same
    · exact h.active
  · rw [slotOf_installTable]
    exact h.stored

theorem TablesHold.withdrawn {P : Option Table → Prop} {k : TableKind} {m : ManagementAgent} (h : TablesHold P k m)
    (absent : P none) (j : TableKind) :
    TablesHold P k (clearTable j (setSlot j { slotOf m j with state := .invalid } m)) := by
  obtain ⟨write, buffer⟩ := withdrawn_rest j { slotOf m j with state := .invalid } m
  refine ⟨?_, ?_, write ▸ h.written, buffer ▸ h.verified⟩
  · rw [activeTable_clearTable, activeTable_setSlot]
    split
    · exact absent
    · exact h.active
  · rw [slotOf_clearTable, slotOf_setSlot]
    split
    · exact nofun
    · exact h.stored

theorem reloadKind_kept (k : TableKind) (p : Part) : Kept p (reloadKind k p) := by
  have kept (m : ManagementAgent) (inv : InvStep p { p with mgmt := m }) (write : m.write = p.mgmt.write) :
      Kept p { p with mgmt := m } := by
    refine ⟨inv, fun ⟨held, pending⟩ => ⟨held.trans (congrArg Option.isSome write.symm), pending⟩, ?_⟩
    exact fun _ out writing => out (write ▸ writing)
  unfold reloadKind
  extract_lets s
  split
  · next t passes =>
    obtain ⟨valid, parsed⟩ := reloaded_some passes
    have own : t.kind = k := parseTable_kind parsed
    have holds {P : Option Table → Prop} {j : TableKind} (h : TablesHold P j p.mgmt) (same : t.kind = j) : P (some t) := by
      obtain rfl : k = j := own.symm.trans same
      exact parsed ▸ h.stored valid
    refine kept _ (mgmt_inv _ p (fun h => h.installed (holds h)) (fun h => h.installed (holds h)) ?_)
      (installTable_rest t p.mgmt).1
    intro range
    rw [activeTable_installTable]
    split
    · exact fun x same => parseTable_numbered (parsed.trans same)
    · exact range
  · refine (report_op _ _ _).kept.after (kept _ (mgmt_inv _ p (fun h => h.withdrawn nofun k)
      (fun h => h.withdrawn nofun k) ?_) (withdrawn_rest _ _ _).1)
    intro range
    rw [activeTable_clearTable, activeTable_setSlot]
    split
    · exact nofun
    · exact range

theorem reloadTables_kept (p : Part) : Kept p (reloadTables p) :=
  (((reloadKind_kept _ _).after (reloadKind_kept _ _)).after (reloadKind_kept _ _)).after (reloadKind_kept _ p)

theorem resetStations_op (p : Part) : OpStep p (resetStations p) := stationsOfTable_op _ p newStation (fun _ => rfl) rfl

theorem resetMeasurement_op (p : Part) : OpStep p (resetMeasurement p) :=
  (judgeAll_op _).after (meas_op .reset p fun _ => ⟨rfl, rfl⟩)

/-- With no incident no fan has useful thrust, and A and R are 0 (R110, R111). -/
theorem thrust_of_no_incident {m : FanManager} (idle : m.record.id = 0) :
    availableThrust m = 0 ∧ runningThrust m = 0 := by
  have useless (e : FanEntry) : (useful m.record e).1 = 0 := by simp [useful, target, idle]
  have sums (l : List FanRec) : sumOf (fun f => (useful m.record f.e).1) l = 0 := by
    rw [sumOf_eq, List.sum_eq_zero]
    rintro _ mem
    obtain ⟨f, _, rfl⟩ := List.mem_map.mp mem
    exact useless f.e
  exact ⟨sums _, sums _⟩

theorem resetFans_op (p : Part) : OpStep p (resetFans p) := by
  unfold resetFans
  extract_lets p1 one
  have emptied : TableStep p { p with fm := .reset } := by
    refine ⟨⟨rfl, FlagsKept.refl _⟩, fun _ => rfl, ?_, fun numbered => ⟨fun f mem => absurd mem List.not_mem_nil, numbered.2⟩⟩
    rintro ⟨_, _, _, tables⟩
    exact ⟨.nil, .nil, rfl, tables⟩
  have reached : TableStep { p with fm := .reset } p1 := fm_table _ _
  have listed := fansOfTable_table p1 one fun _ => rfl
  have made := (emptied.trans reached).trans listed
  refine OpStep.after (OpStep.ite (raise_op _ _) (.refl _)) (made.toFmStep.op made.zoneTemps made.distinct made.numbered
    (fun _ => (thrustFormed_iff _).mpr ?_) fun _ => ⟨fun _ => rfl, nofun⟩)
  obtain ⟨available, running⟩ := thrust_of_no_incident
    (m := { p1.fm with fans := p1.fanEntries.map one }) rfl
  exact ⟨available.symm, running.symm⟩

theorem resetOrders_op (p : Part) : OpStep p (resetOrders p) := by
  refine ⟨⟨id, id, id, id, id, id, ?_, id, id, id, id, fun _ => ?_, id⟩, ⟨rfl, rfl, fun _ => id, fun _ => id⟩⟩
  · rintro ⟨stations, peers, _, others⟩
    exact ⟨stations, peers, freshTags_nodup (stations.sublist (List.filter_sublist.map _)), others⟩
  · exact (poolUsed_freshTags _).le.trans (Nat.zero_le 16)

theorem leadViewFor_zero (peers : List PeerRec) : leadViewFor 0 peers = none := by
  have silent : peers.filter (claimsLead 0) = [] := by
    refine List.filter_eq_nil_iff.mpr fun q _ => ?_
    unfold claimsLead
    split <;> simp
  unfold leadViewFor claimants
  rw [silent]
  rfl

theorem resetCoord_op (p : Part) : OpStep p (resetCoord p) := by
  refine ⟨⟨id, id, id, id, id, fun _ => (leadViewFor_zero _).symm, ?_, id, id, id, id, id, id⟩,
    ⟨rfl, rfl, fun _ => id, fun _ => id⟩⟩
  rintro ⟨stations, _, others⟩
  exact ⟨stations, buildPeers_nodup stations [], others⟩

theorem powerOn_kept (straps : Byte) (p : Part) : Kept p (powerOn straps p) := by
  have reset (q : Part) :
      OpStep q (resetCoord (resetOrders (resetFans (resetMeasurement (resetStations q))))) :=
    ((((resetCoord_op _).after (resetOrders_op _)).after (resetFans_op _)).after (resetMeasurement_op _)).after
      (resetStations_op q)
  exact ((reset _).kept.after (reloadTables_kept _)).after (cleared_kept straps p)

/-! ### Every step -/

theorem eventOf_kept (c : Instr) (p : Part) : Kept p (eventOf c p) := by
  cases c
  case signalEnergyDetected i => exact ((detectSignal_ofLine i p).op (·.detectSignal i)).kept
  case signalLost i => exact ((loseSignal_ofLine i p).op (·.loseSignal i)).kept
  case huntFillCountReached i => exact ((fillComplete_ofLine i p).op (·.fillComplete i)).kept
  case qualificationTimerExpiry i => exact ((qualify_ofLine i p).op (·.qualify i)).kept
  case holdWindowClose i fills => exact ((closeWindow_ofLine i fills p).op (·.closeWindow i fills)).kept
  case badStart i => exact ((symbolError_ofLine i _ p).op (·.symbolError i _)).kept
  case runaway i => exact ((symbolError_ofLine i _ p).op (·.symbolError i _)).kept
  case telegramReceived i bytes => exact receive_kept i bytes p
  case outputArbiterChoice i => exact ((arbitrate_ofLine i p).op (·.arbitrate i)).kept
  case forwardedTelegramSent i => exact ((endForwarded_ofLine i p).op (·.endForwarded i)).kept
  case ownTelegramSent i => exact ((endOwn_ofLine i p).op (·.endOwn i)).kept
  case queueOwnTelegram r => exact (queueOwn_op r p).kept
  case powerOnReset straps => exact powerOn_kept straps p
  case sample source readings => exact (takeSample_op source readings p).kept
  case staleTimerExpiry cls num => exact (staleExpires_op ⟨cls, num⟩ p).kept
  case pointHoldTimerExpiry n => exact (pointHoldExpires_op n p).kept
  case zoneRequalifyTimerExpiry => exact (requalifyExpires_op p).kept
  case zoneAlarmsCleared => exact (clearAlarms_op p).kept
  case zoneAlarmHandOn zone => exact (takeZone_op zone p).kept
  case declare n => exact (judgeDeclare_op n p).kept
  case update n => exact (judgeUpdate_op n p).kept
  case hold n => exact (hold_op n p).kept
  case resume n => exact (resume_op n p).kept
  case clear n => exact (judgeClear_op n p).kept
  case cancelAlert n => exact (judgeCancel_op p).kept
  case noticeBadAction a n => exact (refuseNotice_op _ p).kept
  case autoDeclareTimerExpiry => exact (autoDeclareExpires_op p).kept
  case leadWaitTimerExpiry => exact (leadWaitExpires_op p).kept
  case clearingEndReport => exact (takeClearingEnd_op p).kept
  case incidentRecordToController h => exact (ctlTakeRecord_op h p).kept
  case controlPeriodTimerExpiry => exact (periodExpires_op p).kept
  case velocityHoldTimerExpiry => exact (velocityHoldExpires_op p).kept
  case leadLossHoldTimerExpiry => exact (leadLossExpires_op p).kept
  case demandUpdate d => exact (takeDemand_op d p).kept
  case incidentRecordToFanManager h => exact (fansTakeRecord_op h p).kept
  case stopSpacingTimerExpiry => exact (spacingExpires_op p).kept
  case fanReport source outputs => exact (takeReport_op source outputs p).kept
  case restTimerExpiry n => exact (restExpires_op n p).kept
  case runUpTimerExpiry n => exact (runUpExpires_op n p).kept
  case runDownTimerExpiry n => exact (runDownExpires_op n p).kept
  case reportSilenceTimerExpiry n => exact (silenceExpires_op n p).kept
  case orderOutcome n order outcome => exact (takeOutcome_op n order outcome p).kept
  case fanAnswer source tag output outcome run => exact (takeAnswer_op source tag output outcome run p).kept
  case responseTimerExpiry n => exact (responseExpires_op n p).kept
  case retrySpacingTimerExpiry n => exact (retryExpires_op n p).kept
  case retryWindowTimerExpiry n => exact (windowExpires_op n p).kept
  case quarantineTimerExpiry station tag => exact (quarantineExpires_op station tag p).kept
  case bulletinTimerExpiry => exact (bulletinExpires_op p).kept
  case incidentRecordToCoordinator h => exact (coordTakeRecord_op h p).kept
  case bulletin source b => exact (takeBulletin_op source b p).kept
  case freshnessTimerExpiry n => exact (freshnessExpires_op n p).kept
  case faultReport kind object => exact (report_op kind object p).kept
  case eventRaised flag => exact (raise_op flag p).kept
  case readStatus r => exact (answer_op 1 r (judgeReadStatus_op r p)).kept
  case loadBegin r => exact (answer_op 2 r (judgeLoadBegin_op r p)).kept
  case loadBlock r => exact (answer_op 3 r (judgeLoadBlock_op r p)).kept
  case loadEnd r => exact (answer_op 4 r (judgeLoadEnd_op r p)).kept
  case activate r => exact takeActivate_kept r p
  case storeWriteEnd => exact endWrite_kept p
  case ackEvents r => exact (answer_op 6 r (judgeAckEvents_op r p)).kept
  case clearFault r => exact (answer_op 7 r (judgeClearFault_op r p)).kept
  case admitObject r => exact (answer_op 8 r (judgeAdmit_op r p)).kept
  case isolate r => exact (answer_op 9 r (judgeIsolate_op r p)).kept
  case restart r seq => exact (answer_op 10 r (judgeRestart_op r seq p)).kept
  case mgmtRequestUnknownKind kind r => exact (answer_op kind r (.refl p)).kept

theorem step_kept {s t : State} (h : step s = .next t) : Kept s.part t.part := by
  obtain ⟨c, k, ran⟩ | passed := step_cases h
  · rw [ran]
    exact ((finish_op _).kept.after (eventOf_kept c _)).after (choice_op k s.part).kept
  · rw [passed]
    exact (tick_op s.part).kept

/-! ### The obligations -/

/-- Settles O55: an event ends with no hand-on waiting and the health formed, a millisecond touches neither, and every
operation keeps the numbers of the points, the zones and the zone temperatures. -/
theorem stepKeepsEventsWhole : Obligations.StepKeepsEventsWhole := by
  unfold Obligations.StepKeepsEventsWhole
  refine ⟨fun s t ⟨quiet, formed⟩ h => ?_, fun s t numbered h => (step_kept h).instruments numbered,
    fun s t listed h => (step_kept h).zoneTemps listed⟩
  obtain ⟨c, k, ran⟩ | passed := step_cases h
  · unfold Quiescent HealthFormed
    rw [ran]
    exact ⟨finish_handOns _, finish_formed _⟩
  · unfold Quiescent HealthFormed
    rw [passed]
    exact ⟨quiet, congrArg tick formed⟩

/-- Settles O56, from what every step keeps of the line. -/
theorem stepKeepsLineBounded : Obligations.StepKeepsLineBounded := by
  unfold Obligations.StepKeepsLineBounded
  exact fun s t held h => (lineOk_iff t).mpr ((step_kept h).line ((lineOk_iff s).mp held))

/-- Settles O57, from what every step keeps of the Register and of the store-write hold. -/
theorem stepKeepsIncidentWhole : Obligations.StepKeepsIncidentWhole := by
  unfold Obligations.StepKeepsIncidentWhole
  refine ⟨fun s t ⟨whole, bounded, held⟩ h => ?_, fun s t ⟨held, out⟩ h => ?_⟩
  · exact ⟨(step_kept h).whole whole, (step_kept h).detection bounded, (step_kept h).writing held⟩
  · exact ⟨(step_kept h).writing held, (step_kept h).outside held out⟩

/-- Settles O58, from what every step keeps of the controller, the lead view and the addresses. -/
theorem stepKeepsControlAtRest : Obligations.StepKeepsControlAtRest := by
  unfold Obligations.StepKeepsControlAtRest
  exact ⟨fun s t ⟨rest, view⟩ h => ⟨(step_kept h).atRest rest, (step_kept h).leadView view⟩,
    fun s t apart h => (step_kept h).addresses apart⟩

/-- Settles O59, from what every step keeps of the Fan Manager and of the order pool. -/
theorem stepKeepsFansAndPool : Obligations.StepKeepsFansAndPool := by
  unfold Obligations.StepKeepsFansAndPool
  refine ⟨fun s t ⟨thrust, queue, pool⟩ h => ?_, fun s t apart h => (step_kept h).distinct apart,
    fun s t numbered h => (step_kept h).numbered numbered⟩
  exact ⟨(step_kept h).thrust thrust, (step_kept h).queue queue, (step_kept h).pool pool⟩

end Sys2Proof.Machine
end

section
/-! PROOFS. Telegrams on the line (R7 to R13, R19): disposed of, forwarded, sent and queued, and the bytes of a telegram
read back. -/

namespace Sys2Proof.Machine

/-! ### A telegram disposed of in UP (R7 to R9) -/

theorem isUp_iff (p : Part) (i : PortId) : p.isUp i = true ↔ (p.port i).state = .up := beq_iff_eq

theorem addressed_iff (p : Part) : p.addressed = true ↔ 1 ≤ p.line.node.toNat ∧ p.line.node.toNat ≤ 239 := by
  unfold Part.addressed Part.node
  rw [Bool.and_eq_true, decide_eq_true_iff, decide_eq_true_iff]

theorem offer_eq (i : PortId) (t : Telegram) (p : Part) : offer i t p = Rule.offered i t p := by
  unfold offer Rule.offered
  extract_lets out q
  by_cases hop : t.hop = 0
  · rw [if_pos hop, if_pos (beq_iff_eq.mpr hop)]
    rfl
  · rw [if_neg hop, if_neg (mt beq_iff_eq.mp hop)]
    by_cases up : q.state = .up
    · rw [if_neg (by simpa [isUp_iff] using up), if_neg (not_not.mpr up)]
      rfl
    · have low : (!p.isUp out) = true := by rw [Bool.eq_false_iff.mpr (mt (isUp_iff p out).mp up), Bool.not_false]
      rw [if_pos low, if_pos up]
      rfl

/-- A port in UP after a telegram that has passed its check (R3, R6). -/
def passedUp (q : Port) : Port :=
  { q with checkRun := 0, counters := { q.counters with received := bump q.counters.received } }

theorem passCheck_of_up {i : PortId} {p : Part} (up : (p.port i).state = .up) :
    passCheck i p = p.onPort i passedUp := by
  refine onPort_congr p i _ _ ?_
  dsimp only [passedUp]
  rw [up]
  rfl

theorem receive_of_passed_up {i : PortId} {p : Part} {bytes : List Byte} {m : Telegram} (short : bytes.length ≤ 248)
    (passes : parseTelegram bytes = some m) (up : (p.port i).state = .up) :
    receive i bytes p = dispose i m (p.onPort i passedUp) := by
  rw [receive_of_short short, up, passes]
  exact congrArg (dispose i m) (passCheck_of_up up)

theorem node_onPort (p : Part) (i : PortId) (f : Port → Port) : (p.onPort i f).line.node = p.line.node :=
  (onPort_ofLine p i f).node

theorem forPart_iff (m : Telegram) (p : Part) :
    forPart m p = true ↔ m.dest = 255 ∨ (p.addressed = true ∧ m.dest = p.line.node) := by
  unfold forPart
  rw [Bool.or_eq_true, Bool.and_eq_true, beq_iff_eq, beq_iff_eq, or_comm]

section
variable {i : PortId} {m : Telegram} {p : Part}

theorem dispose_of_own (addressed : p.addressed = true) (own : m.src = p.line.node) : dispose i m p = p :=
  if_pos (by simp [addressed, own])

variable (foreign : ¬ (p.addressed = true ∧ m.src = p.line.node))
include foreign

theorem dispose_of_unknown (unknown : kindOfCode m.kind = none) : dispose i m p =
    if forPart m p then offer i m { p with line := { p.line with unknownKinds := bump p.line.unknownKinds } }
    else offer i m p := by
  unfold dispose
  rw [if_neg (by simpa using foreign), unknown]

theorem dispose_of_not_taken {k : TelegramKind} (known : kindOfCode m.kind = some k)
    (passes_by : ¬ (p.addressed = true ∧ takable k = true ∧ forPart m p = true)) : dispose i m p = offer i m p := by
  unfold dispose
  rw [if_neg (by simpa using foreign), known]
  exact if_neg (by simpa [and_assoc] using passes_by)

theorem dispose_of_taken {k : TelegramKind} (known : kindOfCode m.kind = some k) (addressed : p.addressed = true)
    (taken : takable k = true) (here : forPart m p = true) : dispose i m p =
    if m.dest = 255 then offer i m (settled (takeTelegram k m p)) else takeTelegram k m p := by
  unfold dispose
  rw [if_neg (by simpa using foreign), known]
  simp [addressed, taken, here]

end

theorem takeTelegram_of_malformed {k : TelegramKind} {m : Telegram} (p : Part) (bad : parsePayload k m.payload = none) :
    takeTelegram k m p = { p with line := { p.line with malformed := bump p.line.malformed } } := by
  unfold takeTelegram
  rw [bad]

theorem takeTelegram_of_parsed {k : TelegramKind} {m : Telegram} {d : Delivery} (p : Part)
    (fits : parsePayload k m.payload = some d) : takeTelegram k m p = dispatch m.src m.seq d p := by
  unfold takeTelegram
  rw [fits]

/-- The kinds that are known, by their codes (R19). -/
theorem kindOfCode_ne_none_iff (c : Byte) :
    kindOfCode c ≠ none ↔ c ∈ ([0x21, 0x31, 0x32, 0x33, 0x41, 0x51, 0x61, 0x62] : List Byte) := by
  revert c
  decide

/-- The kinds that are taken, by their codes (R7). -/
theorem takable_iff (c : Byte) : (kindOfCode c).any takable = true ↔
    c ∈ ([0x21, 0x31, 0x33, 0x41, 0x51, 0x61] : List Byte) := by
  revert c
  decide

/-- Settles O10, by the way of a telegram that passes its check in UP. -/
theorem telegramStrippedOrForwarded : Obligations.TelegramStrippedOrForwarded := by
  unfold Obligations.TelegramStrippedOrForwarded
  intro i bytes m s quiet short passes is_up becomes p node addressed forHere taken known
  have becomes_of {q : Part} (disposed : dispose i m p = q) (none_waits : q.handOns = []) : becomes q :=
    exec_telegramReceived_of i ((receive_of_passed_up short passes is_up).trans disposed) none_waits
  have none_waits : p.handOns = [] := quiet
  have node_eq : p.line.node = node := node_onPort s.part i passedUp
  have addressed_eq : p.addressed = true ↔ addressed := by rw [addressed_iff, node_eq]
  have here_eq : forPart m p = true ↔ forHere := by rw [forPart_iff, addressed_eq, node_eq]
  have offered (q : Part) (quiet : q.handOns = []) : (offer i m q).handOns = [] := (offer_ofLine i m q).handOns.trans quiet
  refine ⟨fun here own => ?stripped, fun foreign some_kind passes_by => ?offered, fun foreign no_kind => ?unknown,
    fun k here foreign kind takes bad => ?malformed⟩
  case stripped => exact becomes_of (dispose_of_own (addressed_eq.mpr here) (own.trans node_eq.symm)) quiet
  case offered =>
    rw [← addressed_eq, ← node_eq] at foreign
    obtain ⟨k, kind⟩ := Option.ne_none_iff_exists'.mp ((kindOfCode_ne_none_iff _).mpr some_kind)
    rw [← offer_eq]
    refine becomes_of (dispose_of_not_taken foreign kind ?_) (offered p quiet)
    rintro ⟨here, takes, to_here⟩
    exact passes_by ⟨addressed_eq.mp here, (takable_iff _).mp (by rw [kind]; exact takes), here_eq.mp to_here⟩
  case unknown =>
    rw [← addressed_eq, ← node_eq] at foreign
    have no_code : kindOfCode m.kind = none := by
      by_contra some_code
      exact no_kind ((kindOfCode_ne_none_iff _).mp some_code)
    have disposed := dispose_of_unknown (i := i) foreign no_code
    rw [← offer_eq, ← offer_eq]
    refine ⟨fun to_here => ?_, fun elsewhere => ?_⟩
    · rw [if_pos (here_eq.mpr to_here)] at disposed
      exact becomes_of disposed (offered _ quiet)
    · rw [if_neg (mt here_eq.mp elsewhere)] at disposed
      exact becomes_of disposed (offered _ quiet)
  case malformed =>
    have is_foreign : ¬ (p.addressed = true ∧ m.src = p.line.node) := fun ⟨_, own⟩ => foreign (own.trans node_eq)
    have takes_kind : takable k = true := by simpa [kind] using (takable_iff m.kind).mpr takes
    intro counted
    have taken_eq : takeTelegram k m p = counted := takeTelegram_of_malformed p bad
    have disposed (to_here : forHere) :=
      dispose_of_taken (i := i) is_foreign kind (addressed_eq.mpr here) takes_kind (here_eq.mpr to_here)
    rw [taken_eq, settled_of_quiet counted quiet] at disposed
    rw [← offer_eq]
    refine ⟨fun to_all => ?_, fun to_part => ?_⟩
    · exact becomes_of ((disposed (.inl to_all)).trans (if_pos to_all)) (offered _ quiet)
    · refine becomes_of ((disposed (.inr ⟨here, to_part⟩)).trans (if_neg ?_)) quiet
      intro to_all
      have in_range : m.dest.toNat ≤ 239 := to_part ▸ here.2
      rw [to_all] at in_range
      exact absurd in_range (by decide)

/-! ### Telegrams sent (R9, R13) -/

section
variable (i : PortId) {s : State} (quiet : Quiescent s)
include quiet

theorem exec_forwardedTelegramSent : exec (.forwardedTelegramSent i) s = nextPart s (endForwarded i s.part) :=
  (endForwarded_ofLine i s.part).next quiet

theorem exec_ownTelegramSent : exec (.ownTelegramSent i) s = nextPart s (endOwn i s.part) :=
  (endOwn_ofLine i s.part).next quiet

end

theorem satAdd_zero (c : Counter) : satAdd c 0 = c := by
  unfold satAdd
  rw [if_pos (by have := c.isLt; omega)]
  exact BitVec.ofNat_toNat ..

/-- Entries that leave the queue having been sent before are not counted. -/
theorem removeOwn_of_sent {k : OwnEntry → Bool} {l : LineInterface} (sent : ∀ e ∈ l.own, k e = true → e.sentOnce = true) :
    removeOwn k l = { l with own := l.own.filter fun e => !k e } := by
  have none_unsent : (l.own.filter fun e => k e && !e.sentOnce) = [] := by
    refine List.filter_eq_nil_iff.mpr fun e mem unsent => ?_
    simp only [Bool.and_eq_true, Bool.not_eq_true'] at unsent
    exact absurd ((sent e mem unsent.1).symm.trans unsent.2) (by decide)
  unfold removeOwn
  rw [none_unsent]
  exact congrArg (fun c => { l with own := l.own.filter fun e => !k e, ownUnsent := c }) (satAdd_zero l.ownUnsent)

/-- An entry sent on a port (R13). -/
def sentEntry (i : PortId) (e : OwnEntry) : OwnEntry :=
  match i with
  | .a => { e with onA := false, sentOnce := true }
  | .b => { e with onB := false, sentOnce := true }

theorem sentEntry_eq (i : PortId) (e : OwnEntry) : ({ dropFromSet i e with sentOnce := true } : OwnEntry) = sentEntry i e := by
  cases i <;> rfl

theorem markSent_eq (i : PortId) (place : Nat) (l : LineInterface) : markSent i place l =
    { l with own := (l.own.map fun e => if e.place = place then sentEntry i e else e).filter fun e =>
        !(e.place == place && !e.onA && !e.onB) } := by
  have marked : (updWhere (·.place == place) (fun e => { dropFromSet i e with sentOnce := true }) l.own) =
      l.own.map fun e => if e.place = place then sentEntry i e else e := by
    refine List.map_congr_left fun e _ => ?_
    simp only [beq_iff_eq, sentEntry_eq]
  have removed (e : OwnEntry) : (e.place == place && setEmpty e) = (e.place == place && !e.onA && !e.onB) := by
    rw [Bool.and_assoc]
    rfl
  unfold markSent
  rw [marked, removeOwn_of_sent]
  · simp only [removed]
  · intro e mem sent
    obtain ⟨x, _, rfl⟩ := List.mem_map.mp mem
    split
    · cases i <;> rfl
    · next away => simp [away] at sent

/-- Settles O12, by what is being sent on the port. -/
theorem sendingEnds : Obligations.SendingEnds := by
  unfold Obligations.SendingEnds
  intro i s quiet
  rw [exec_forwardedTelegramSent i quiet, exec_ownTelegramSent i quiet]
  refine ⟨fun forwards => ?_, fun other => ?_, fun m place owns => ?_, fun other => ?_⟩
  · unfold endForwarded
    rw [forwards]
  · unfold endForwarded
    split
    · next forwards => exact absurd forwards other
    · rfl
  · unfold endOwn
    rw [owns]
    dsimp only
    rw [markSent_eq]
    rfl
  · unfold endOwn
    split
    · next m place owns => exact absurd owns (other m place)
    · rfl

/-! ### Own telegrams queued (R10 to R12) -/

section
variable {r : OwnRequest} {p : Part}

theorem queueOwn_of_unaddressed (nowhere : ¬ p.addressed = true) : queueOwn r p = p :=
  if_pos (by simpa using nowhere)

variable (addressed : p.addressed = true)
include addressed

theorem queueOwn_of_none_up (low : ¬ ((p.port .a).state = .up ∨ (p.port .b).state = .up)) : queueOwn r p =
    { p with line := { p.line with ownUnsent := bump p.line.ownUnsent } } := by
  unfold queueOwn
  rw [if_neg (by simp [addressed]), if_pos (by simpa [Part.isUp] using low)]

variable (up : (p.port .a).state = .up ∨ (p.port .b).state = .up)
include up

theorem queueOwn_of_full (reply : isReply (classOf r) = true)
    (full : 4 ≤ (p.line.own.filter fun e => isReply e.cls).length) : queueOwn r p =
    { p with line := { p.line with droppedReplies := bump p.line.droppedReplies } } := by
  unfold queueOwn
  rw [if_neg (by simp [addressed]), if_neg (by simpa [Part.isUp, imp_iff_not_or] using up), if_pos (by simp [reply, full])]

theorem queueOwn_of_room (room : isReply (classOf r) = true → ¬ 4 ≤ (p.line.own.filter fun e => isReply e.cls).length) :
    queueOwn r p = { p with line := joinOwn r (p.isUp .a) (p.isUp .b) p.line } := by
  unfold queueOwn
  rw [if_neg (by simp [addressed]), if_neg (by simpa [Part.isUp, imp_iff_not_or] using up), if_neg (by simpa using room)]

end

/-- Settles O13, by the cases of `queueOwn`. -/
theorem ownTelegramQueued : Obligations.OwnTelegramQueued := by
  unfold Obligations.OwnTelegramQueued
  intro r s quiet l becomes addressed up join
  have becomes_of {k : LineInterface} (queued : queueOwn r s.part = { s.part with line := k }) : becomes k :=
    (exec_queueOwnTelegram r s quiet).trans (congrArg (nextPart s) queued)
  refine ⟨fun nowhere => becomes_of (queueOwn_of_unaddressed (mt (addressed_iff _).mp nowhere)),
    fun here low => becomes_of (queueOwn_of_none_up ((addressed_iff _).mpr here) low), fun here is_up => ?_⟩
  have here : s.part.addressed = true := (addressed_iff _).mpr here
  cases r with
  | fanOrder station tag output kind => exact becomes_of (queueOwn_of_room here is_up nofun)
  | bulletin b => exact becomes_of (queueOwn_of_room here is_up nofun)
  | mgmtReply dest payload =>
    have replies : (l.own.filter fun e => e.cls == .mgmtReply) = l.own.filter fun e => isReply e.cls :=
      List.filter_congr fun e _ => isReply_eq e
    dsimp only
    rw [replies]
    split
    · next full => exact becomes_of (queueOwn_of_full here is_up rfl full)
    · next room =>
      have all_kept : l.own = l.own.filter fun h => !replaces .mgmtReply h := (List.filter_eq_self.mpr fun _ _ => rfl).symm
      refine becomes_of ((queueOwn_of_room here is_up fun _ => room).trans ?_)
      unfold joinOwn
      conv_rhs => rw [all_kept]
      rfl

end Sys2Proof.Machine
end

section
/-! PROOFS. The bytes of a telegram and its check (R6, R19). -/

namespace Sys2Proof.Machine

/-- Two bytes hold a 16-bit number exactly when they are its bytes, high byte first. -/
theorem ofNat_beNat_eq_iff {l : List Byte} (two : l.length = 2) (c : BitVec 16) :
    BitVec.ofNat 16 (beNat l) = c ↔ l = beBytes 2 c.toNat := by
  obtain ⟨a, b, rfl⟩ := List.length_eq_two.mp two
  have bytes : beBytes 2 c.toNat = [BitVec.ofNat 8 (c.toNat / 256), BitVec.ofNat 8 c.toNat] := rfl
  have ha := a.isLt
  have hb := b.isLt
  have hc := c.isLt
  rw [bytes, List.cons.injEq, List.cons.injEq, ← BitVec.toNat_inj, ← BitVec.toNat_inj, ← BitVec.toNat_inj]
  simp only [beNat, List.foldl_cons, List.foldl_nil, BitVec.toNat_ofNat, and_true]
  omega

theorem length_beBytes (n v : Nat) : (beBytes n v).length = n := by
  induction n generalizing v with
  | zero => rfl
  | succ n ih =>
    unfold beBytes
    rw [List.length_append, ih]
    rfl

/-- The six bytes of a header before the payload, and the payload they announce (R19). -/
theorem telegramBody_of_length {m : Telegram} {len : Byte} (length : m.payload.length = len.toNat) :
    telegramBody m = [m.dest, m.src, m.kind, m.seq, m.hop, len] ++ m.payload := by
  unfold telegramBody
  rw [length, BitVec.ofNat_toNat, BitVec.setWidth_eq]

section
variable {dest src kind seq hop len : Byte} {rest : List Byte}

/-- The bytes after a header spell a telegram when they are its payload and its check (R6). -/
theorem parseTelegram_eq_some (length : rest.length = len.toNat + 2) (short : len.toNat ≤ 240)
    (checked : rest.drop len.toNat = beBytes 2 (crc ([dest, src, kind, seq, hop, len] ++ rest.take len.toNat)).toNat) :
    parseTelegram (dest :: src :: kind :: seq :: hop :: len :: rest) =
      some ⟨dest, src, kind, seq, hop, rest.take len.toNat, crc ([dest, src, kind, seq, hop, len] ++ rest.take len.toNat)⟩ := by
  have payload : (rest.take len.toNat).length = len.toNat := by
    rw [List.length_take]
    omega
  have check : BitVec.ofNat 16 (beNat (rest.drop len.toNat)) =
      crc ([dest, src, kind, seq, hop, len] ++ rest.take len.toNat) := by
    rw [ofNat_beNat_eq_iff (by rw [List.length_drop]; omega)]
    exact checked
  unfold parseTelegram
  dsimp only
  rw [check, telegramBody_of_length (len := len) payload]
  exact if_pos (by simp [short, length])

theorem parseTelegram_eq_none_iff :
    parseTelegram (dest :: src :: kind :: seq :: hop :: len :: rest) = none ↔
      240 < len.toNat ∨ rest.length ≠ len.toNat + 2 ∨
      rest.drop len.toNat ≠ beBytes 2 (crc ([dest, src, kind, seq, hop, len] ++ rest.take len.toNat)).toNat := by
  by_cases short : len.toNat ≤ 240
  · by_cases length : rest.length = len.toNat + 2
    · by_cases checked : rest.drop len.toNat =
          beBytes 2 (crc ([dest, src, kind, seq, hop, len] ++ rest.take len.toNat)).toNat
      · rw [parseTelegram_eq_some length short checked]
        simp only [reduceCtorEq, false_iff, not_or, not_not]
        exact ⟨by omega, length, checked⟩
      · refine iff_of_true ?_ (.inr (.inr checked))
        rw [← ofNat_beNat_eq_iff (by rw [List.length_drop]; omega)] at checked
        have payload : (rest.take len.toNat).length = len.toNat := by
          rw [List.length_take]
          omega
        unfold parseTelegram
        dsimp only
        rw [telegramBody_of_length (len := len) payload]
        exact if_neg (by simpa using fun _ _ => checked)
    · exact iff_of_true (if_neg (by simp [length])) (.inr (.inl length))
  · exact iff_of_true (if_neg (by simp [short])) (.inl (by omega))

end

theorem parseTelegram_of_few {bytes : List Byte} (few : bytes.length < 6) : parseTelegram bytes = none := by
  unfold parseTelegram
  split
  · simp only [List.length_cons] at few
    omega
  · rfl

/-- The six bytes of a header, and the rest. -/
theorem eq_header_of_length {bytes : List Byte} (six : 6 ≤ bytes.length) :
    ∃ dest src kind seq hop len rest, bytes = dest :: src :: kind :: seq :: hop :: len :: rest := by
  obtain _ | ⟨dest, _ | ⟨src, _ | ⟨kind, _ | ⟨seq, _ | ⟨hop, _ | ⟨len, rest⟩⟩⟩⟩⟩⟩ := bytes
  iterate 6 exact absurd six (by simp)
  exact ⟨dest, src, kind, seq, hop, len, rest, rfl⟩

/-- R6, as the statement says it. -/
theorem parseTelegram_eq_none_iff_bytes (bytes : List Byte) : parseTelegram bytes = none ↔
    bytes.length < 8 ∨ 240 < (bytes.getD 5 0).toNat ∨ bytes.length ≠ 8 + (bytes.getD 5 0).toNat ∨
    bytes.drop (6 + (bytes.getD 5 0).toNat) ≠ beBytes 2 (crc (bytes.take (6 + (bytes.getD 5 0).toNat))).toNat := by
  by_cases few : bytes.length < 6
  · exact iff_of_true (parseTelegram_of_few few) (.inl (by omega))
  · obtain ⟨dest, src, kind, seq, hop, len, rest, rfl⟩ := eq_header_of_length (Nat.le_of_not_lt few)
    have fifth : (dest :: src :: kind :: seq :: hop :: len :: rest).getD 5 0 = len := rfl
    have body : (dest :: src :: kind :: seq :: hop :: len :: rest).take (6 + len.toNat) =
        [dest, src, kind, seq, hop, len] ++ rest.take len.toNat := by
      rw [Nat.add_comm]
      rfl
    have tail : (dest :: src :: kind :: seq :: hop :: len :: rest).drop (6 + len.toNat) = rest.drop len.toNat := by
      rw [Nat.add_comm]
      rfl
    rw [parseTelegram_eq_none_iff, fifth, body, tail]
    simp only [List.length_cons]
    constructor
    · rintro (long | wrong | fails)
      · exact .inr (.inl long)
      · exact .inr (.inr (.inl (by omega)))
      · exact .inr (.inr (.inr fails))
    · rintro (few | long | wrong | fails)
      · exact .inr (.inl (by omega))
      · exact .inl long
      · exact .inr (.inl (by omega))
      · exact .inr (.inr fails)

/-- Settles O14: the bytes after the six of the header are the payload and the check, or the check fails. -/
theorem telegramBytesReadBack : Obligations.TelegramBytesReadBack := by
  unfold Obligations.TelegramBytesReadBack
  refine ⟨fun m short => ?_, ?_⟩
  · have len : (BitVec.ofNat 8 m.payload.length).toNat = m.payload.length := by
      rw [BitVec.toNat_ofNat]
      omega
    have taken : (m.payload ++ beBytes 2 (crc (telegramBody m)).toNat).take m.payload.length = m.payload :=
      List.take_left
    have checked : (m.payload ++ beBytes 2 (crc (telegramBody m)).toNat).drop m.payload.length =
        beBytes 2 (crc (telegramBody m)).toNat := List.drop_left
    have parsed := parseTelegram_eq_some (dest := m.dest) (src := m.src) (kind := m.kind) (seq := m.seq) (hop := m.hop)
      (len := BitVec.ofNat 8 m.payload.length) (rest := m.payload ++ beBytes 2 (crc (telegramBody m)).toNat)
    rw [len, taken, checked, List.length_append, length_beBytes] at parsed
    exact parsed rfl short rfl
  · exact parseTelegram_eq_none_iff_bytes

end Sys2Proof.Machine
end

section
/-! PROOFS. A telegram taken (R25 to R30): tested by the Dispatcher, and delivered as the command that hands its fields
to its block. -/

namespace Sys2Proof.Machine

/-! ### The kinds taken -/

/-- The kind of the telegram that hands a delivery on. -/
def kindOf : Delivery → TelegramKind
  | .sample _ => .sample
  | .fanReport _ => .fanReport
  | .fanAnswer _ _ _ _ => .fanAnswer
  | .notice _ _ => .incidentNotice
  | .bulletin _ => .bulletin
  | .mgmtRequest _ _ _ => .mgmtRequest

theorem parsePayload_kindOf {k : TelegramKind} {bs : List Byte} {d : Delivery} (fits : parsePayload k bs = some d) :
    kindOf d = k := by
  cases k
  case sample =>
    have fits : parseSample bs = some d := fits
    unfold parseSample at fits
    split at fits
    · split at fits
      · obtain ⟨_, _, rfl⟩ := Option.map_eq_some_iff.mp fits
        rfl
      · exact absurd fits.symm (Option.some_ne_none d)
    · exact absurd fits.symm (Option.some_ne_none d)
  case fanReport =>
    have fits : parseFanReport bs = some d := fits
    unfold parseFanReport at fits
    split at fits
    · split at fits
      · obtain ⟨_, _, rfl⟩ := Option.map_eq_some_iff.mp fits
        rfl
      · exact absurd fits.symm (Option.some_ne_none d)
    · exact absurd fits.symm (Option.some_ne_none d)
  case fanAnswer =>
    have fits : parseFanAnswer bs = some d := fits
    unfold parseFanAnswer at fits
    split at fits
    · obtain ⟨_, _, fits⟩ := Option.bind_eq_some_iff.mp fits
      obtain ⟨_, _, fits⟩ := Option.bind_eq_some_iff.mp fits
      split at fits
      · obtain rfl := Option.some.inj fits
        rfl
      · exact absurd fits.symm (Option.some_ne_none d)
    · exact absurd fits.symm (Option.some_ne_none d)
  case incidentNotice =>
    have fits : parseNotice bs = some d := fits
    unfold parseNotice at fits
    split at fits
    · obtain rfl := Option.some.inj fits
      rfl
    · exact absurd fits.symm (Option.some_ne_none d)
  case bulletin =>
    have fits : parseBulletin bs = some d := fits
    unfold parseBulletin at fits
    iterate 9 obtain ⟨_, _, fits⟩ := Option.bind_eq_some_iff.mp fits
    split at fits
    · obtain rfl := Option.some.inj fits
      rfl
    · exact absurd fits.symm (Option.some_ne_none d)
  case mgmtRequest =>
    have fits : parseRequest bs = some d := fits
    unfold parseRequest at fits
    split at fits
    · obtain rfl := Option.some.inj fits
      rfl
    · exact absurd fits.symm (Option.some_ne_none d)
  case fanOrder => exact absurd fits.symm (Option.some_ne_none d)
  case mgmtReply => exact absurd fits.symm (Option.some_ne_none d)

theorem takable_kindOf (d : Delivery) : takable (kindOf d) = true := by cases d <;> rfl

/-- A telegram that is for the part and spells a delivery is handed to the Dispatcher, and offered afterwards if it was
for all (R7, R8). -/
theorem receive_of_taken {i : PortId} {bytes : List Byte} {m : Telegram} {k : TelegramKind} {d : Delivery} {p : Part}
    (short : bytes.length ≤ 248) (passes : parseTelegram bytes = some m) (up : (p.port i).state = .up)
    (addressed : 1 ≤ p.line.node.toNat ∧ p.line.node.toNat ≤ 239) (foreign : m.src ≠ p.line.node)
    (here : m.dest = p.line.node ∨ m.dest = 255) (kind : kindOfCode m.kind = some k)
    (fits : parsePayload k m.payload = some d) :
    receive i bytes p =
      if m.dest = 255 then offer i m (settled (dispatch m.src m.seq d (p.onPort i passedUp)))
      else dispatch m.src m.seq d (p.onPort i passedUp) := by
  have node : (p.onPort i passedUp).line.node = p.line.node := node_onPort p i passedUp
  have addressed_after : (p.onPort i passedUp).addressed = true := (addressed_iff _).mpr (node.symm ▸ addressed)
  have foreign_after : ¬ ((p.onPort i passedUp).addressed = true ∧ m.src = (p.onPort i passedUp).line.node) :=
    fun ⟨_, own⟩ => foreign (own.trans node)
  have to_part : forPart m (p.onPort i passedUp) = true :=
    (forPart_iff _ _).mpr (here.symm.imp_right fun own => ⟨addressed_after, own.trans node.symm⟩)
  rw [receive_of_passed_up short passes up,
    dispose_of_taken foreign_after kind addressed_after (parsePayload_kindOf fits ▸ takable_kindOf d) to_part,
    takeTelegram_of_parsed _ fits]

/-- One that the Dispatcher takes without handing anything on leaves what the Dispatcher leaves (R7, R8). -/
theorem exec_of_dispatched {i : PortId} {bytes : List Byte} {m : Telegram} {d : Delivery} {s : State} {q : Part}
    (received : receive i bytes s.part =
      if m.dest = 255 then offer i m (settled (dispatch m.src m.seq d (s.part.onPort i passedUp)))
      else dispatch m.src m.seq d (s.part.onPort i passedUp))
    (dispatched : dispatch m.src m.seq d (s.part.onPort i passedUp) = q) (none_waits : q.handOns = []) :
    exec (.telegramReceived i bytes) s = nextPart s (if m.dest = 255 then Rule.offered i m q else q) := by
  rw [dispatched, settled_of_quiet _ none_waits, offer_eq] at received
  refine exec_telegramReceived_of i received ?_
  split
  · rw [← offer_eq]
    exact (offer_ofLine i m q).handOns.trans none_waits
  · exact none_waits

/-! ### The tests of the Dispatcher (R25 to R27) -/

/-- The part-wide counters of the Dispatcher and its station records, replaced. -/
def withStations (stations : List StationRec) (c : DispatchCounters) (p : Part) : Part :=
  { p with disp := { p.disp with stations := stations, counters := c } }

theorem names_iff (source : Byte) :
    (decide (1 ≤ source.toNat) && decide (source.toNat ≤ 239)) = true ↔ ¬ (source = 0 ∨ 240 ≤ source.toNat) := by
  have zero : source = 0 ↔ source.toNat = 0 := BitVec.toNat_inj.symm
  rw [Bool.and_eq_true, decide_eq_true_iff, decide_eq_true_iff, zero]
  omega

section
variable {source seq : Byte} {d : Delivery} {p : Part}

/-- A telegram taken is counted. -/
def countTaken (p : Part) : Part := countDispatch (fun c => { c with taken := bump c.taken }) p

theorem dispatch_of_badSource (bad : source = 0 ∨ 240 ≤ source.toNat)
    (judged : p.mgmt.stations ≠ none ∨ kindOf d = .mgmtRequest) : dispatch source seq d p =
    countDispatch (fun c => { c with badSource := bump c.badSource }) (countTaken p) := by
  unfold dispatch
  extract_lets p1 mismatch badSource names
  have nameless : ¬ names = true := fun named => (names_iff source).mp named bad
  by_cases table : p.mgmt.stations = none
  · have request := judged.resolve_left (not_not.mpr table)
    rw [if_neg (show ¬ p1.mgmt.stations.isSome = true from mt Option.isSome_iff_ne_none.mp (not_not.mpr table))]
    cases d
    case mgmtRequest kind number args => exact if_neg nameless
    all_goals exact nomatch request
  · rw [if_pos (show p1.mgmt.stations.isSome = true from Option.isSome_iff_ne_none.mpr table), if_neg nameless]
    rfl

theorem dispatch_of_mismatch (wrong : p.mgmt.stations = none ∧ kindOf d ≠ .mgmtRequest ∨
      ¬ (source = 0 ∨ 240 ≤ source.toNat) ∧ p.mgmt.stations ≠ none ∧
        p.stationWith source.toNat (requiredRole d) = none) :
    dispatch source seq d p = countDispatch (fun c => { c with roleMismatch := bump c.roleMismatch }) (countTaken p) := by
  unfold dispatch
  extract_lets p1 mismatch badSource names
  obtain ⟨no_table, other⟩ | ⟨good, table, unlisted⟩ := wrong
  · rw [if_neg (show ¬ p1.mgmt.stations.isSome = true from mt Option.isSome_iff_ne_none.mp (not_not.mpr no_table))]
    cases d
    case mgmtRequest kind number args => exact absurd rfl other
    all_goals rfl
  · have unlisted : p1.stationWith source.toNat (requiredRole d) = none := unlisted
    rw [if_pos (show p1.mgmt.stations.isSome = true from Option.isSome_iff_ne_none.mpr table),
      if_pos (show names = true from (names_iff source).mpr good), unlisted]
    rfl

theorem dispatch_of_listed (good : ¬ (source = 0 ∨ 240 ≤ source.toNat)) (table : p.mgmt.stations ≠ none)
    {r : StationRec} (listed : p.stationWith source.toNat (requiredRole d) = some r) :
    dispatch source seq d p = testStation r seq d (countTaken p) := by
  unfold dispatch
  extract_lets p1 mismatch badSource names
  have listed : p1.stationWith source.toNat (requiredRole d) = some r := listed
  rw [if_pos (show p1.mgmt.stations.isSome = true from Option.isSome_iff_ne_none.mpr table),
    if_pos (show names = true from (names_iff source).mpr good), listed]
  rfl

theorem dispatch_of_provisional (good : ¬ (source = 0 ∨ 240 ≤ source.toNat)) (no_table : p.mgmt.stations = none)
    (request : kindOf d = .mgmtRequest) : dispatch source seq d p = testProvisional source seq d (countTaken p) := by
  unfold dispatch
  extract_lets p1 mismatch badSource names
  rw [if_neg (show ¬ p1.mgmt.stations.isSome = true from mt Option.isSome_iff_ne_none.mp (not_not.mpr no_table))]
  cases d
  case mgmtRequest kind number args => exact if_pos ((names_iff source).mpr good)
  all_goals exact nomatch request

end

section
variable {last seq : Byte}

theorem seqTest_same : seqTest last last = .duplicate := by
  unfold seqTest
  rw [BitVec.sub_self]
  rfl

theorem seqTest_old (behind : 224 ≤ (seq - last).toNat) : seqTest last seq = .old := by
  unfold seqTest
  extract_lets d
  rw [if_neg (by rw [beq_iff_eq]; omega), if_neg (by omega)]

theorem seqTest_fresh (ahead : 1 ≤ (seq - last).toNat ∧ (seq - last).toNat ≤ 223) :
    seqTest last seq = .fresh ((seq - last).toNat - 1) := by
  unfold seqTest
  extract_lets d
  rw [if_neg (by rw [beq_iff_eq]; omega), if_pos (by omega)]

end

section
variable {r : StationRec} {seq : Byte} {d : Delivery} {p : Part}

/-- A station's record after a duplicate (R27). -/
def countedAgain (r : StationRec) (p : Part) : Part :=
  onStation r.address (fun s => { s with duplicates := bump s.duplicates }) p

theorem testStation_of_duplicate (known : r.known = true) (same : seq = r.lastSeq) : testStation r seq d p =
    countDispatch (fun c => { c with duplicates := bump c.duplicates }) (countedAgain r p) := by
  unfold testStation
  rw [if_neg (by simp [known]), same, seqTest_same]
  rfl

theorem testStation_of_old (known : r.known = true) (behind : 224 ≤ (seq - r.lastSeq).toNat) : testStation r seq d p =
    countDispatch (fun c => { c with old := bump c.old }) (countedAgain r p) := by
  unfold testStation
  rw [if_neg (by simp [known]), seqTest_old behind]
  rfl

end

section
variable {source seq : Byte} {r : ProvisionalRec} {d : Delivery} {p : Part}
  (found : p.disp.provisional.find? (fun r => r.source == source.toNat) = some r)
include found

theorem testProvisional_of_duplicate (same : seq = r.lastSeq) : testProvisional source seq d p =
    countDispatch (fun c => { c with duplicates := bump c.duplicates }) p := by
  unfold testProvisional
  rw [found]
  dsimp only
  rw [same, seqTest_same]

theorem testProvisional_of_old (behind : 224 ≤ (seq - r.lastSeq).toNat) : testProvisional source seq d p =
    countDispatch (fun c => { c with old := bump c.old }) p := by
  unfold testProvisional
  rw [found]
  dsimp only
  rw [seqTest_old behind]

end

/-- Settles O15, by the tests of the Dispatcher. -/
theorem telegramNotDelivered : Obligations.TelegramNotDelivered := by
  unfold Obligations.TelegramNotDelivered
  intro i bytes m k d s quiet short passes up addressed foreign here kind fits p c becomes badSource role listed
  have received := receive_of_taken short passes up addressed foreign here kind fits
  have is_kind : kindOf d = k := parsePayload_kindOf fits
  have is_role : requiredRole d = role := by
    unfold role
    rw [← is_kind]
    cases d <;> rfl
  have becomes_of {stations : List StationRec} {counters : DispatchCounters}
      (dispatched : dispatch m.src m.seq d p = withStations stations counters p) : becomes stations counters :=
    exec_of_dispatched received dispatched quiet
  refine ⟨fun bad judged => ?badSource, fun wrong => ?mismatch, ?listed,
    fun r good no_table request found => ?provisional⟩
  case badSource => exact becomes_of (dispatch_of_badSource bad (judged.imp_right is_kind.trans))
  case mismatch =>
    refine becomes_of (dispatch_of_mismatch ?_)
    rw [is_kind, is_role]
    exact wrong
  case listed =>
    intro r good table found known counted
    have found : p.stationWith m.src.toNat (requiredRole d) = some r := is_role ▸ found
    have tested := dispatch_of_listed (p := p) (seq := m.seq) good table found
    have again : (countedAgain r (countTaken p)).disp.stations = counted :=
      List.map_congr_left fun x _ => by simp only [beq_iff_eq]
    have counts (g : DispatchCounters → DispatchCounters) : countDispatch g (countedAgain r (countTaken p)) =
        withStations counted (g { c with taken := bump c.taken }) p := by
      rw [← again]
      rfl
    exact ⟨fun same => becomes_of ((tested.trans (testStation_of_duplicate known same)).trans (counts _)),
      fun behind => becomes_of ((tested.trans (testStation_of_old known behind)).trans (counts _))⟩
  case provisional =>
    have tested := dispatch_of_provisional (p := p) (seq := m.seq) good no_table (is_kind.trans request)
    have found : (countTaken p).disp.provisional.find? (fun x => x.source == m.src.toNat) = some r := found
    exact ⟨fun same => becomes_of (tested.trans (testProvisional_of_duplicate found same)),
      fun behind => becomes_of (tested.trans (testProvisional_of_old found behind))⟩

end Sys2Proof.Machine
end

section
/-! PROOFS. A telegram delivered (R26 to R30): its record and the counters take it, and it acts as the command that
hands its fields to its block. -/

namespace Sys2Proof.Machine

/-! ### Delivery as a command (R29) -/

theorem judgeNotice_eq (action : Nat) (n : Notice) (src seq : Byte) (p : Part) :
    judgeNotice action n p = eventOf (Rule.commandOf src seq (.notice action n)) p := by
  unfold judgeNotice
  split
  case h_7 => simp_all [Rule.commandOf, eventOf]
  all_goals rfl

theorem manage_eq (kind seq : Byte) (r : Request) (p : Part) :
    manage kind seq r p = eventOf (Rule.commandOf r.source seq (.mgmtRequest kind r.number r.args)) p := by
  have literal {n : Nat} (is_n : kind.toNat = n) : kind = BitVec.ofNat 8 n := by
    rw [← is_n, BitVec.ofNat_toNat, BitVec.setWidth_eq]
  unfold manage
  split
  case h_11 h1 h2 h3 h4 h5 h6 h7 h8 h9 h10 =>
    have other (b : Byte) (differs : ¬ kind.toNat = b.toNat) : ¬ kind = b := mt (congrArg BitVec.toNat) differs
    unfold Rule.commandOf
    dsimp only
    rw [if_neg (other 1 h1), if_neg (other 2 h2), if_neg (other 3 h3), if_neg (other 4 h4), if_neg (other 5 h5),
      if_neg (other 6 h6), if_neg (other 7 h7), if_neg (other 8 h8), if_neg (other 9 h9), if_neg (other 10 h10)]
    rfl
  all_goals next is_n => obtain rfl := literal is_n; rfl

/-- A telegram is delivered by the command that hands its fields to its block. -/
theorem deliver_eq (src seq : Byte) (d : Delivery) (p : Part) : deliver src seq d p = eventOf (Rule.commandOf src seq d) p := by
  cases d with
  | notice action n => exact judgeNotice_eq action n src seq p
  | mgmtRequest kind number args => exact manage_eq kind seq ⟨src, number, args⟩ p
  | _ => rfl

/-! ### The health formed before a telegram is offered -/

/-- A part with the health and its causes replaced. -/
def withHealth (h : Health) (c : Byte) (p : Part) : Part := { p with fc := { p.fc with health := h, causes := c } }

theorem formHealth_withHealth (h : Health) (c : Byte) (p : Part) : formHealth (withHealth h c p) = formHealth p := rfl

theorem report_withHealth (k : FaultKind) (o : FaultObject) (h : Health) (c : Byte) (p : Part) :
    report k o (withHealth h c p) = withHealth h c (report k o p) := by
  unfold report withHealth
  dsimp only
  split <;> rfl

theorem offer_withHealth (i : PortId) (t : Telegram) (h : Health) (c : Byte) (p : Part) :
    offer i t (withHealth h c p) = withHealth h c (offer i t p) := by
  rw [offer_eq, offer_eq]
  unfold Rule.offered
  by_cases expired : t.hop = 0
  · rw [if_pos expired, if_pos expired]
    rfl
  · rw [if_neg expired, if_neg expired]
    have port : (withHealth h c p).port (other i) = p.port (other i) := rfl
    rw [port]
    dsimp only
    split
    · rfl
    · split
      · rw [← report_withHealth]
        rfl
      · rfl

theorem offer_formHealth (i : PortId) (t : Telegram) (p : Part) :
    formHealth (offer i t (formHealth p)) = formHealth (offer i t p) := by
  have formed : formHealth p = withHealth (formHealth p).fc.health (formHealth p).fc.causes p := rfl
  rw [formed, offer_withHealth, formHealth_withHealth]

/-! ### The end of the event -/

/-- A telegram delivered to `told` acts as its command does, and is offered afterwards if it was for all. -/
theorem acts_of {i : PortId} {bytes : List Byte} {m : Telegram} {d : Delivery} {s told : State}
    (pending : told.pending = s.pending)
    (received : receive i bytes s.part =
      if m.dest = 255 then offer i m (settled (deliver m.src m.seq d told.part)) else deliver m.src m.seq d told.part) :
    ∃ u, exec (Rule.commandOf m.src m.seq d) told = .next u ∧
      exec (.telegramReceived i bytes) s = nextPart u (if m.dest = 255 then Rule.offered i m u.part else u.part) := by
  refine ⟨{ told with part := finish (deliver m.src m.seq d told.part) }, ?_, ?_⟩
  · rw [exec_eventOf, deliver_eq]
    rfl
  · have ran : exec (.telegramReceived i bytes) s = .next { s with part := finish (receive i bytes s.part) } := rfl
    rw [ran, received, ← offer_eq]
    unfold nextPart
    rw [← pending]
    refine congrArg (fun p => Host.Outcome.next { told with part := p }) ?_
    split
    · have none_waits : (offer i m (settled (deliver m.src m.seq d told.part))).handOns = [] :=
        (offer_ofLine i m _).handOns
      unfold finish
      rw [settled_of_quiet _ none_waits, offer_formHealth]
    · exact (formHealth_idem _).symm

/-! ### Skipped numbers (R28) -/

/-- Numbers skipped by a source are reported. -/
def reportGap (source skipped : Nat) (p : Part) : Part :=
  if skipped = 0 then p else report .sequenceGap ⟨.station, source⟩ p

theorem report_withDisp (k : FaultKind) (o : FaultObject) (d : Dispatcher) (p : Part) :
    report k o { p with disp := d } = { report k o p with disp := d } := by
  unfold report
  dsimp only
  split <;> rfl

theorem reportGap_withDisp (source skipped : Nat) (d : Dispatcher) (p : Part) :
    reportGap source skipped { p with disp := d } = { reportGap source skipped p with disp := d } := by
  unfold reportGap
  split
  · rfl
  · exact report_withDisp _ _ d p

theorem reportGap_disp (source skipped : Nat) (p : Part) : (reportGap source skipped p).disp = p.disp := by
  unfold reportGap
  split
  · rfl
  · exact report_disp _ _ p

theorem reportGap_handOns (source skipped : Nat) (p : Part) : (reportGap source skipped p).handOns = p.handOns := by
  unfold reportGap
  split
  · rfl
  · exact report_handOns _ _ p

theorem countDispatch_gap_zero (p : Part) : countDispatch (fun c => { c with gap := satAdd c.gap 0 }) p = p := by
  unfold countDispatch
  dsimp only
  rw [satAdd_zero]

theorem countGap_eq (source skipped : Nat) (p : Part) : countGap source skipped p =
    countDispatch (fun c => { c with gap := satAdd c.gap skipped }) (reportGap source skipped p) := by
  unfold countGap reportGap
  by_cases none_skipped : skipped = 0
  · rw [if_pos (beq_iff_eq.mpr none_skipped), if_pos none_skipped, none_skipped]
    exact (countDispatch_gap_zero p).symm
  · rw [if_neg (mt beq_iff_eq.mp none_skipped), if_neg none_skipped]
    unfold countDispatch
    rw [report_withDisp, report_disp]

theorem countGap_withDisp (source skipped : Nat) (d : Dispatcher) (p : Part) :
    countGap source skipped { p with disp := d } = { reportGap source skipped p with disp :=
      { d with counters := { d.counters with gap := satAdd d.counters.gap skipped } } } := by
  rw [countGap_eq, reportGap_withDisp]
  rfl

/-! ### Accepted from a listed station (R27, R30) -/

/-- A station's record once it has taken a telegram, `delivered` being its count of those delivered. -/
def acceptedRec (seq : Byte) (skipped : Nat) (delivered : StationRec → Counter) (x : StationRec) : StationRec :=
  { x with known := true, lastSeq := seq, gaps := satAdd x.gaps skipped, delivered := delivered x }

/-- A part once a telegram of a source is accepted, its record being that of an address. -/
def acceptedPart (source address skipped : Nat) (one : StationRec → StationRec) (c : DispatchCounters) (p : Part) : Part :=
  withStations ((reportGap source skipped p).disp.stations.map fun x => if x.address = address then one x else x) c
    (reportGap source skipped p)

theorem updWhere_updWhere (a : Nat) (f g : StationRec → StationRec) (same : ∀ x, (g x).address = x.address)
    (l : List StationRec) :
    updWhere (fun s => s.address == a) f (updWhere (fun s => s.address == a) g l) =
      updWhere (fun s => s.address == a) (f ∘ g) l := by
  unfold updWhere
  rw [List.map_map]
  refine List.map_congr_left fun x _ => ?_
  dsimp only [Function.comp]
  by_cases here : x.address = a
  · simp only [here, same, beq_self_eq_true, if_true]
  · simp only [here, beq_iff_eq, if_false]

theorem updWhere_eq_map (a : Nat) (f : StationRec → StationRec) (l : List StationRec) :
    updWhere (fun s => s.address == a) f l = l.map fun x => if x.address = a then f x else x :=
  List.map_congr_left fun x _ => by simp only [beq_iff_eq]

section
variable {r : StationRec} {seq : Byte} {d : Delivery} {p : Part}

/-- The part before the tag of a FAN ANSWER is looked at: the skipped numbers counted. -/
def gapCounted (address skipped : Nat) (p : Part) : Part :=
  countGap address skipped (onStation address (fun s => { s with gaps := satAdd s.gaps skipped }) (countTaken p))

theorem testStation_of_accepted (ahead : r.known = true → 1 ≤ (seq - r.lastSeq).toNat ∧ (seq - r.lastSeq).toNat ≤ 223) :
    testStation r seq d (countTaken p) =
      acceptFrom r seq d (gapCounted r.address (if r.known then (seq - r.lastSeq).toNat - 1 else 0) p) := by
  unfold testStation gapCounted
  by_cases known : r.known = true
  · rw [if_neg (by simp [known]), if_pos known, seqTest_fresh (ahead known)]
  · rw [if_pos (by simpa using known), if_neg known, countGap_eq]
    have unchanged : onStation r.address (fun s => { s with gaps := satAdd s.gaps 0 }) (countTaken p) = countTaken p := by
      unfold onStation
      rw [updWhere_eq_map]
      simp only [satAdd_zero, ite_self, List.map_id']
    rw [unchanged]
    exact (congrArg _ (countDispatch_gap_zero (countTaken p))).symm

theorem acceptFrom_of_badTag (bad : badTag r d = true) : acceptFrom r seq d p =
    countDispatch (fun c => { c with badTag := bump c.badTag })
      (onStation r.address (fun s => { s with known := true, lastSeq := seq }) p) := by
  unfold acceptFrom
  exact if_pos bad

theorem acceptFrom_of_tag (fits : badTag r d = false) : acceptFrom r seq d p =
    deliver (BitVec.ofNat 8 r.address) seq d (countDispatch (fun c => { c with delivered := bump c.delivered })
      (onStation r.address (fun s => { s with delivered := bump s.delivered })
        (onStation r.address (fun s => { s with known := true, lastSeq := seq }) p))) := by
  unfold acceptFrom
  exact if_neg (Bool.eq_false_iff.mp fits)

theorem gapCounted_eq (address skipped : Nat) (p : Part) : gapCounted address skipped p =
    acceptedPart address address skipped (fun x => { x with gaps := satAdd x.gaps skipped })
      { p.disp.counters with taken := bump p.disp.counters.taken, gap := satAdd p.disp.counters.gap skipped } p := by
  unfold gapCounted acceptedPart withStations countTaken onStation countDispatch
  rw [countGap_eq, reportGap_withDisp, reportGap_withDisp, reportGap_disp, updWhere_eq_map]
  rfl

theorem onStation_acceptedPart (source address skipped : Nat) (f g : StationRec → StationRec) (c : DispatchCounters) (p : Part)
    (same : ∀ x, (g x).address = x.address) :
    onStation address f (acceptedPart source address skipped g c p) = acceptedPart source address skipped (f ∘ g) c p := by
  unfold acceptedPart withStations onStation
  dsimp only
  rw [← updWhere_eq_map, ← updWhere_eq_map, updWhere_updWhere address f g same]

end

/-- A telegram from a listed station of its role (R25, R27, R28, R30). -/
theorem dispatch_of_accepted {src seq : Byte} {d : Delivery} {p : Part} {r : StationRec}
    (good : ¬ (src = 0 ∨ 240 ≤ src.toNat)) (table : p.mgmt.stations ≠ none)
    (listed : p.stationWith src.toNat (requiredRole d) = some r)
    (ahead : r.known = true → 1 ≤ (seq - r.lastSeq).toNat ∧ (seq - r.lastSeq).toNat ≤ 223) :
    let skipped := if r.known then (seq - r.lastSeq).toNat - 1 else 0
    let c := { p.disp.counters with taken := bump p.disp.counters.taken, gap := satAdd p.disp.counters.gap skipped }
    dispatch src seq d p =
      if badTag r d then
        acceptedPart src.toNat r.address skipped (acceptedRec seq skipped fun x => x.delivered) { c with badTag := bump c.badTag } p
      else deliver src seq d
        (acceptedPart src.toNat r.address skipped (acceptedRec seq skipped fun x => bump x.delivered)
          { c with delivered := bump c.delivered } p) := by
  intro skipped c
  have address : r.address = src.toNat := by
    have holds := List.find?_some listed
    simp only [Bool.and_eq_true, beq_iff_eq] at holds
    exact holds.1
  have source : BitVec.ofNat 8 src.toNat = src := by rw [BitVec.ofNat_toNat, BitVec.setWidth_eq]
  rw [dispatch_of_listed good table listed, testStation_of_accepted ahead, gapCounted_eq]
  by_cases bad : badTag r d = true
  · rw [if_pos bad, acceptFrom_of_badTag bad, onStation_acceptedPart, address]
    · rfl
    · exact fun _ => rfl
  · rw [if_neg bad, acceptFrom_of_tag (Bool.eq_false_iff.mpr bad), onStation_acceptedPart,
      onStation_acceptedPart, address, source]
    · rfl
    · exact fun _ => rfl
    · exact fun _ => rfl

/-! ### Accepted without a STATION table (R26) -/

/-- A part once a MGMT REQUEST of a source without a station record is accepted. -/
def acceptedRequest (source skipped : Nat) (list : List ProvisionalRec) (c : DispatchCounters) (p : Part) : Part :=
  { reportGap source skipped p with disp := { (reportGap source skipped p).disp with provisional := list, counters := c } }

/-- The record made for a source. -/
def newProvisional (source : Nat) (seq : Byte) (p : Part) : ProvisionalRec := ⟨source, seq, p.now⟩

section
variable {src seq : Byte} {d : Delivery} {p : Part}

theorem testProvisional_of_new (absent : p.disp.provisional.find? (fun r => r.source == src.toNat) = none) :
    testProvisional src seq d (countTaken p) = deliver src seq d
      (countDispatch (fun c => { c with delivered := bump c.delivered }) (admitProvisional src.toNat seq (countTaken p))) := by
  have absent : (countTaken p).disp.provisional.find? (fun r => r.source == src.toNat) = none := absent
  unfold testProvisional
  rw [absent]

theorem testProvisional_of_room (absent : p.disp.provisional.find? (fun r => r.source == src.toNat) = none)
    (room : p.disp.provisional.length < 8) :
    testProvisional src seq d (countTaken p) = deliver src seq d (acceptedRequest src.toNat 0
      (p.disp.provisional ++ [newProvisional src.toNat seq p])
      { p.disp.counters with taken := bump p.disp.counters.taken, delivered := bump p.disp.counters.delivered } p) := by
  rw [testProvisional_of_new absent]
  have admitted : admitProvisional src.toNat seq (countTaken p) = { countTaken p with disp := { (countTaken p).disp with
      provisional := p.disp.provisional ++ [newProvisional src.toNat seq p] } } := if_pos room
  rw [admitted]
  rfl

end

/-- The elder of a record held and another, the one held if they are equally old. -/
def elder (now : PartTime) (acc : Option ProvisionalRec) (r : ProvisionalRec) : Option ProvisionalRec :=
  match acc with
  | none => some r
  | some a => if (now - a.accepted).toNat < (now - r.accepted).toNat then some r else acc

theorem oldestProvisional_eq_foldl (now : PartTime) (l : List ProvisionalRec) :
    oldestProvisional now l = l.foldl (elder now) none := by
  unfold oldestProvisional
  refine congrArg (fun f => l.foldl f none) (funext fun acc => funext fun r => ?_)
  cases acc <;> rfl

section
variable {now : PartTime} {old : ProvisionalRec}

/-- Whether a record is younger than `old`. -/
def Younger (now : PartTime) (old x : ProvisionalRec) : Prop := (now - x.accepted).toNat < (now - old.accepted).toNat

theorem elder_younger {l : List ProvisionalRec} (young : ∀ x ∈ l, Younger now old x) (acc : Option ProvisionalRec)
    (held : ∀ a ∈ acc, Younger now old a) : ∀ a ∈ l.foldl (elder now) acc, Younger now old a := by
  induction l generalizing acc with
  | nil => exact held
  | cons x l ih =>
    have young_x := young x List.mem_cons_self
    refine ih (fun y mem => young y (List.mem_cons_of_mem _ mem)) _ fun a is_a => ?_
    unfold elder at is_a
    split at is_a
    · exact Option.mem_some_iff.mp is_a ▸ young_x
    · split at is_a
      · exact Option.mem_some_iff.mp is_a ▸ young_x
      · exact held a is_a

theorem foldl_elder_of_oldest {l : List ProvisionalRec} (no_older : ∀ x ∈ l, ¬ Younger now x old) :
    l.foldl (elder now) (some old) = some old := by
  induction l with
  | nil => rfl
  | cons x l ih =>
    have stays : elder now (some old) x = some old := if_neg (no_older x List.mem_cons_self)
    rw [List.foldl_cons, stays]
    exact ih fun y mem => no_older y (List.mem_cons_of_mem _ mem)

/-- The eldest of several records, the first of equals, is the one found by going through them. -/
theorem oldestProvisional_of_split {pre post : List ProvisionalRec} (young : ∀ x ∈ pre, Younger now old x)
    (no_older : ∀ x ∈ post, ¬ Younger now x old) : oldestProvisional now (pre ++ old :: post) = some old := by
  have reached : elder now (pre.foldl (elder now) none) old = some old := by
    have before := elder_younger young none nofun
    cases held : pre.foldl (elder now) none with
    | none => rfl
    | some a => exact if_pos (before a held)
  rw [oldestProvisional_eq_foldl, List.foldl_append, List.foldl_cons, reached]
  exact foldl_elder_of_oldest no_older

end

theorem updFirst_of_split {α : Type} {k : α → Bool} {f : α → α} {pre post : List α} {x : α}
    (first : ∀ y ∈ pre, k y = false) (holds : k x = true) : updFirst k f (pre ++ x :: post) = pre ++ f x :: post := by
  induction pre with
  | nil => exact if_pos holds
  | cons y pre ih =>
    have skips : updFirst k f (y :: (pre ++ x :: post)) = y :: updFirst k f (pre ++ x :: post) :=
      if_neg (Bool.eq_false_iff.mp (first y List.mem_cons_self))
    rw [List.cons_append, skips, ih fun z mem => first z (List.mem_cons_of_mem _ mem)]
    rfl

section
variable {src seq : Byte} {d : Delivery} {p : Part}

theorem testProvisional_of_replaced {pre post : List ProvisionalRec} {old : ProvisionalRec}
    (absent : p.disp.provisional.find? (fun r => r.source == src.toNat) = none) (full : 8 ≤ p.disp.provisional.length)
    (held : p.disp.provisional = pre ++ old :: post) (young : ∀ x ∈ pre, Younger p.now old x)
    (no_older : ∀ x ∈ post, ¬ Younger p.now x old) :
    testProvisional src seq d (countTaken p) = deliver src seq d (acceptedRequest src.toNat 0
      (pre ++ newProvisional src.toNat seq p :: post)
      { p.disp.counters with taken := bump p.disp.counters.taken, replaced := bump p.disp.counters.replaced,
                             delivered := bump p.disp.counters.delivered } p) := by
  have eldest : oldestProvisional (countTaken p).now (countTaken p).disp.provisional = some old :=
    (congrArg (oldestProvisional p.now) held).trans (oldestProvisional_of_split young no_older)
  have replaced : updFirst (fun x => x == old) (fun _ => newProvisional src.toNat seq p) p.disp.provisional =
      pre ++ newProvisional src.toNat seq p :: post := by
    rw [held]
    refine updFirst_of_split (fun y mem => beq_eq_false_iff_ne.mpr ?_) (beq_self_eq_true old)
    rintro rfl
    exact absurd (young y mem) (Nat.lt_irrefl _)
  rw [testProvisional_of_new absent]
  unfold admitProvisional
  rw [if_neg (show ¬ (countTaken p).disp.provisional.length < 8 from Nat.not_lt.mpr full), eldest]
  unfold acceptedRequest
  rw [← replaced]
  rfl

theorem testProvisional_of_ahead {r : ProvisionalRec}
    (found : p.disp.provisional.find? (fun r => r.source == src.toNat) = some r)
    (ahead : 1 ≤ (seq - r.lastSeq).toNat ∧ (seq - r.lastSeq).toNat ≤ 223) :
    testProvisional src seq d (countTaken p) = deliver src seq d (acceptedRequest src.toNat ((seq - r.lastSeq).toNat - 1)
      (p.disp.provisional.map fun x => if x.source = src.toNat then { x with lastSeq := seq, accepted := p.now } else x)
      { p.disp.counters with taken := bump p.disp.counters.taken,
                             gap := satAdd p.disp.counters.gap ((seq - r.lastSeq).toNat - 1),
                             delivered := bump p.disp.counters.delivered } p) := by
  have found : (countTaken p).disp.provisional.find? (fun r => r.source == src.toNat) = some r := found
  unfold testProvisional
  rw [found]
  dsimp only
  rw [seqTest_fresh ahead]
  dsimp only
  have renewed : updWhere (fun x => x.source == src.toNat) (fun x => { x with lastSeq := seq, accepted := p.now })
      p.disp.provisional =
      p.disp.provisional.map fun x => if x.source = src.toNat then { x with lastSeq := seq, accepted := p.now } else x :=
    List.map_congr_left fun x _ => by simp only [beq_iff_eq]
  refine congrArg (deliver src seq d) ((congrArg (countDispatch _) (countGap_withDisp _ _ _ p)).trans ?_)
  unfold acceptedRequest
  rw [reportGap_disp, ← renewed]
  rfl

end

/-- Settles O16, from the Dispatcher's way with a telegram it accepts and from delivery as a command. -/
theorem telegramDelivered : Obligations.TelegramDelivered := by
  unfold Obligations.TelegramDelivered
  intro i bytes m s quiet short passes up addressed foreign here in_range p reported after acts c ahead
  have good : ¬ (m.src = 0 ∨ 240 ≤ m.src.toNat) := by
    rintro (zero | high)
    · exact absurd (zero ▸ in_range.1) (by decide)
    · omega
  have received {k : TelegramKind} {d : Delivery} (kind : kindOfCode m.kind = some k)
      (fits : parsePayload k m.payload = some d) := receive_of_taken short passes up addressed foreign here kind fits
  have acts_told {k : TelegramKind} {d : Delivery} {told : State} (kind : kindOfCode m.kind = some k)
      (fits : parsePayload k m.payload = some d) (pending : told.pending = s.pending)
      (dispatched : dispatch m.src m.seq d p = deliver m.src m.seq d told.part) : acts (Rule.commandOf m.src m.seq d) told := by
    refine acts_of pending ?_
    rw [received kind fits]
    exact congrArg (fun q => if m.dest = 255 then offer i m (settled q) else q) dispatched
  refine ⟨?listed, ?unlisted⟩
  case listed =>
    intro k d r table kind fits listed known_ahead skipped accepted c told
    have dispatched := dispatch_of_accepted (p := p) good table listed known_ahead
    have takes (tag_fits : badTag r d = false) : acts (Rule.commandOf m.src m.seq d) told :=
      acts_told kind fits rfl (dispatched.trans (if_neg (Bool.eq_false_iff.mp tag_fits)))
    cases d with
    | fanAnswer tag output outcome run =>
      dsimp only
      split
      · next fits_tag => exact takes (decide_eq_false (Nat.not_le.mpr fits_tag))
      · next beyond =>
        have bad : badTag r (.fanAnswer tag output outcome run) = true := decide_eq_true (Nat.le_of_not_lt beyond)
        refine exec_of_dispatched (received kind fits) (dispatched.trans (if_pos bad)) ?_
        exact (reportGap_handOns _ _ _).trans quiet
    | _ => exact takes rfl
  case unlisted =>
    intro kind num args no_table code fits held new age accepted found
    have known : kindOfCode m.kind = some .mgmtRequest := by rw [code]; rfl
    have dispatched := dispatch_of_provisional (p := p) (seq := m.seq) (d := .mgmtRequest kind num args) good no_table rfl
    refine ⟨fun absent room => ?_, fun pre old post absent full split young no_older => ?_, ?_⟩
    · exact acts_told known fits rfl (dispatched.trans (testProvisional_of_room absent room))
    · refine acts_told known fits rfl (dispatched.trans (testProvisional_of_replaced absent full split young ?_))
      exact fun x mem => Nat.not_lt.mpr (no_older x mem)
    · intro r is_r is_ahead skipped
      exact acts_told known fits rfl (dispatched.trans (testProvisional_of_ahead is_r is_ahead))

end Sys2Proof.Machine
end

section
/-! PROOFS. The Incident Register (R63 to R69): notices refused, and the zones of the detection list. -/

namespace Sys2Proof.Machine

/-! ### The tests of a notice (R63) -/

theorem idFails_iff (n : Notice) : idFails n = true ↔ n.id = 0 ∨ 0xEFFF < n.id := by
  unfold idFails
  rw [Bool.or_eq_true, beq_iff_eq, decide_eq_true_iff]

theorem chainageFails_iff (c : Option Nat) : chainageFails c = true ↔ ∃ v, c = some v ∧ 20000 < v := by
  cases c with
  | none => exact iff_of_false Bool.noConfusion nofun
  | some v => simp [chainageFails]

theorem fieldsFail_iff (n : Notice) : fieldsFail n = true ↔
    (∃ v, n.fire = some v ∧ 20000 < v) ∨ (∃ v, n.head = some v ∧ 20000 < v) ∨ (∃ v, n.tail = some v ∧ 20000 < v) ∨
      2 < n.direction ∨ 6 < n.heat := by
  unfold fieldsFail
  simp only [Bool.or_eq_true, chainageFails_iff, decide_eq_true_iff, or_assoc]

/-! ### Refusals -/

section
variable {n : Notice} {p : Part}

/-- The three states in which an incident is under response. -/
def Responding (x : IncidentState) : Prop := x = .declared ∨ x = .control ∨ x = .hold

theorem judgeDeclare_of_badField (bad : (n.id = 0 ∨ 0xEFFF < n.id) ∨ n.fire = none ∨ fieldsFail n = true) :
    judgeDeclare n p = refuseNotice .badField p := by
  refine if_pos ?_
  rw [Bool.or_eq_true, Bool.or_eq_true, idFails_iff, Option.isNone_iff_eq_none, or_assoc]
  exact bad

section
variable (good : ¬ idFails n = true) (fire : n.fire ≠ none) (fits : ¬ fieldsFail n = true)
include good fire fits

theorem judgeDeclare_passes : ¬ (idFails n || n.fire.isNone || fieldsFail n) = true := by
  rw [Bool.or_eq_true, Bool.or_eq_true, Option.isNone_iff_eq_none]
  exact not_or.mpr ⟨not_or.mpr ⟨good, fire⟩, fits⟩

theorem judgeDeclare_of_no_table (absent : p.mgmt.control = none) : judgeDeclare n p = refuseNotice .wrongState p := by
  unfold judgeDeclare
  rw [if_neg (judgeDeclare_passes good fire fits), absent]

theorem judgeDeclare_of_same_clearing {t : ControlTable} (active : p.mgmt.control = some t)
    (clearing : p.reg.record.state = .clearing) (same : n.id = p.reg.record.id) :
    judgeDeclare n p = refuseNotice .sameId p := by
  unfold judgeDeclare
  rw [if_neg (judgeDeclare_passes good fire fits), active]
  dsimp only
  rw [clearing]
  exact if_pos (beq_iff_eq.mpr same)

theorem judgeDeclare_of_other {t : ControlTable} (active : p.mgmt.control = some t)
    (responds : Responding p.reg.record.state) (other : n.id ≠ p.reg.record.id) :
    judgeDeclare n p = refuseNotice .activeIncident p := by
  unfold judgeDeclare
  rw [if_neg (judgeDeclare_passes good fire fits), active]
  dsimp only
  obtain state | state | state := responds <;>
  · rw [state]
    exact if_neg (mt beq_iff_eq.mp other)

end

theorem judgeUpdate_of_badField (bad : idFails n = true ∨ fieldsFail n = true) :
    judgeUpdate n p = refuseNotice .badField p := if_pos (by rwa [Bool.or_eq_true])

theorem judgeFreeze_of_badField {a b : IncidentState} (bad : idFails n = true) :
    judgeFreeze a b n p = refuseNotice .badField p := if_pos bad

theorem judgeClear_of_badField (bad : idFails n = true) : judgeClear n p = refuseNotice .badField p := if_pos bad

section
variable (good : ¬ idFails n = true)
include good

theorem judgeUpdate_of_other (fits : ¬ fieldsFail n = true) (responds : Responding p.reg.record.state)
    (other : n.id ≠ p.reg.record.id) : judgeUpdate n p = refuseNotice .activeIncident p := by
  unfold judgeUpdate
  rw [if_neg (by rw [Bool.or_eq_true]; exact not_or.mpr ⟨good, fits⟩)]
  obtain state | state | state := responds <;>
  · rw [state]
    exact if_neg (mt beq_iff_eq.mp other)

theorem judgeUpdate_of_idle (fits : ¬ fieldsFail n = true) (idle : ¬ Responding p.reg.record.state) :
    judgeUpdate n p = refuseNotice .wrongState p := by
  unfold judgeUpdate
  rw [if_neg (by rw [Bool.or_eq_true]; exact not_or.mpr ⟨good, fits⟩)]
  cases state : p.reg.record.state
  case declared => exact absurd (.inl state) idle
  case control => exact absurd (.inr (.inl state)) idle
  case hold => exact absurd (.inr (.inr state)) idle
  all_goals rfl

theorem judgeFreeze_of_other {a b : IncidentState} (responds : Responding p.reg.record.state)
    (other : n.id ≠ p.reg.record.id) : judgeFreeze a b n p = refuseNotice .activeIncident p := by
  unfold judgeFreeze
  rw [if_neg good]
  obtain state | state | state := responds <;>
  · rw [state]
    exact if_pos (bne_iff_ne.mpr other)

theorem judgeFreeze_of_idle {a b : IncidentState} (idle : ¬ Responding p.reg.record.state) :
    judgeFreeze a b n p = refuseNotice .wrongState p := by
  unfold judgeFreeze
  rw [if_neg good]
  cases state : p.reg.record.state
  case declared => exact absurd (.inl state) idle
  case control => exact absurd (.inr (.inl state)) idle
  case hold => exact absurd (.inr (.inr state)) idle
  all_goals rfl

theorem judgeFreeze_of_elsewhere {a b : IncidentState} (responds : Responding p.reg.record.state)
    (same : n.id = p.reg.record.id) (elsewhere : p.reg.record.state ≠ a) :
    judgeFreeze a b n p = refuseNotice .wrongState p := by
  unfold judgeFreeze
  rw [if_neg good]
  obtain state | state | state := responds <;>
  · rw [state]
    dsimp only
    rw [if_neg (by simp [same]), if_neg (by simpa [state] using elsewhere)]

theorem judgeClear_of_other (responds : Responding p.reg.record.state) (other : n.id ≠ p.reg.record.id) :
    judgeClear n p = refuseNotice .activeIncident p := by
  unfold judgeClear
  rw [if_neg good]
  obtain state | state | state := responds <;>
  · rw [state]
    exact if_neg (mt beq_iff_eq.mp other)

theorem judgeClear_of_idle (idle : ¬ Responding p.reg.record.state) : judgeClear n p = refuseNotice .wrongState p := by
  unfold judgeClear
  rw [if_neg good]
  cases state : p.reg.record.state
  case declared => exact absurd (.inl state) idle
  case control => exact absurd (.inr (.inl state)) idle
  case hold => exact absurd (.inr (.inr state)) idle
  all_goals rfl

end

end

/-- An event that leaves `q`, no hand-on waiting, has no other effect. -/
theorem nextWith_of_left {f : Part → Part} {s : State} {q : Part} (left : f s.part = q) (none_waits : q.handOns = []) :
    nextWith f s = nextPart s q := left ▸ nextWith_of_quiet f s (left ▸ none_waits)

/-- An event that refuses a notice has no other effect. -/
theorem nextWith_of_refused {f : Part → Part} {o : NoticeOutcome} {s : State} (quiet : Quiescent s)
    (refused : f s.part = refuseNotice o s.part) : nextWith f s = nextPart s (refuseNotice o s.part) :=
  nextWith_of_left refused quiet

/-- Settles O23, by the tests of each notice. -/
theorem noticesRefused : Obligations.NoticesRefused := by
  unfold Obligations.NoticesRefused
  intro n s quiet g refused badId far badFields responding
  have refuses {c : Instr} {f : Part → Part} {o : NoticeOutcome} (is_event : exec c s = nextWith f s)
      (judged : f s.part = refuseNotice o s.part) : refused c o := is_event.trans (nextWith_of_refused quiet judged)
  have bad_id : idFails n = true ↔ badId := idFails_iff n
  have bad_fields : fieldsFail n = true ↔ badFields := fieldsFail_iff n
  rw [← bad_id, ← bad_fields]
  refine ⟨fun action => refuses rfl rfl, fun bad => ?declare, fun bad => ?update, fun bad => ?badId,
    fun good fire fits => ?declareGood, fun good fits => ?updateGood, fun good responds other => ?other,
    fun good idle => ?idle, fun good responds same => ?freeze, fun state => ?cancel⟩
  case declare => exact refuses rfl (judgeDeclare_of_badField (bad.imp_left bad_id.mp))
  case update => exact refuses rfl (judgeUpdate_of_badField bad)
  case badId =>
    exact ⟨refuses rfl (judgeFreeze_of_badField bad), refuses rfl (judgeFreeze_of_badField bad),
      refuses rfl (judgeClear_of_badField bad)⟩
  case declareGood =>
    refine ⟨fun absent => refuses rfl (judgeDeclare_of_no_table good fire fits absent), fun active clearing same => ?_,
      fun active responds other => ?_⟩
    · obtain ⟨t, active⟩ := Option.ne_none_iff_exists'.mp active
      exact refuses rfl (judgeDeclare_of_same_clearing good fire fits active clearing same)
    · obtain ⟨t, active⟩ := Option.ne_none_iff_exists'.mp active
      exact refuses rfl (judgeDeclare_of_other good fire fits active responds other)
  case updateGood =>
    exact ⟨fun responds other => refuses rfl (judgeUpdate_of_other good fits responds other),
      fun idle => refuses rfl (judgeUpdate_of_idle good fits idle)⟩
  case other =>
    exact ⟨refuses rfl (judgeFreeze_of_other good responds other), refuses rfl (judgeFreeze_of_other good responds other),
      refuses rfl (judgeClear_of_other good responds other)⟩
  case idle =>
    exact ⟨refuses rfl (judgeFreeze_of_idle good idle), refuses rfl (judgeFreeze_of_idle good idle),
      refuses rfl (judgeClear_of_idle good idle)⟩
  case freeze =>
    exact ⟨fun elsewhere => refuses rfl (judgeFreeze_of_elsewhere good responds same elsewhere),
      fun elsewhere => refuses rfl (judgeFreeze_of_elsewhere good responds same elsewhere)⟩
  case cancel => exact exec_cancelAlert_of_not_alert n quiet state

/-! ### What putting a record leaves (R61, R62) -/

/-- The Register after it has put a record: the detection list emptied on an entry to QUIET (R69). -/
def putReg (new : IncidentRecord) (g : IncidentRegister) : IncidentRegister :=
  { g with record := markControlled g.record new,
           detection := if new.state = .quiet ∧ g.record.state ≠ .quiet then [] else g.detection }

/-- The Measurement Unit after it: the zone alarms cleared on an entry to QUIET (R54). -/
def putMeas (new : IncidentRecord) (p : Part) : MeasurementUnit :=
  if new.state = .quiet ∧ p.reg.record.state ≠ .quiet then (clearAlarms p).meas else p.meas

theorem putRecord_regMeas (new : IncidentRecord) (p : Part) :
    (putRecord new p).reg = putReg new p.reg ∧ (putRecord new p).meas = putMeas new p := by
  unfold putRecord
  extract_lets old stored g1 p1 p2 g2 p3
  have raised : p2.reg = p1.reg ∧ p2.meas = p.meas := by unfold p2; split <;> exact ⟨rfl, rfl⟩
  have entry : (new.state == .quiet && old.state != .quiet) = true ↔ new.state = .quiet ∧ p.reg.record.state ≠ .quiet := by
    rw [Bool.and_eq_true, beq_iff_eq, bne_iff_ne]
  have emptied : p3.reg = putReg new p.reg ∧ p3.meas = putMeas new p := by
    unfold p3 putReg putMeas
    by_cases enters : new.state = .quiet ∧ p.reg.record.state ≠ .quiet
    · rw [if_pos (entry.mpr enters), if_pos enters, if_pos enters]
      unfold g2 clearAlarms
      dsimp only
      rw [raised.1, raised.2]
      exact ⟨rfl, rfl⟩
    · rw [if_neg (mt entry.mp enters), if_neg enters, if_neg enters]
      exact raised
  split
  · have delivered := deliverRecord_regMeasKept ⟨old.state, stored, entryKind old new⟩ p3
    exact ⟨delivered.reg.trans emptied.1, delivered.meas.trans emptied.2⟩
  · exact emptied

/-- A record whose state or id differs from the one before raises INCIDENT_CHANGE (R61). -/
theorem putRecord_incidentChange {new : IncidentRecord} {p : Part}
    (differs : p.reg.record.state ≠ new.state ∨ p.reg.record.id ≠ new.id) :
    (putRecord new p).fc.flags &&& 0x0200 = 0x0200 := by
  unfold putRecord
  extract_lets old stored g1 p1 p2 g2 p3
  have raises : p2 = raise .incidentChange p1 := if_pos (by simpa [old] using differs)
  have raised : p2.fc.flags &&& 0x0200 = 0x0200 := by
    rw [raises]
    exact raise_flags_and_flagBit .incidentChange p1
  have emptied : EventStep p2 p3 := EventStep.ite ((clearAlarms_event _).after (reg_event _ p2)) (.refl p2)
  exact ((EventStep.ite (deliverRecord_event _ p3) (.refl p3)).after emptied).flags.of_mask raised

/-! ### The detection list (R69) -/

theorem takeZone_of_listed {zone : Nat} {p : Part} (stays : zone ∈ p.reg.detection ∨ 16 ≤ p.reg.detection.length) :
    takeZone zone p = p := if_pos (by simpa using stays)

/-- The part once a zone has joined the detection list. -/
def zoneListed (zone : Nat) (p : Part) : Part :=
  { p with reg := { p.reg with detection := p.reg.detection ++ [zone] } }

/-- The auto-declare timer as an alert arms it (R69). -/
def alertTimer (p : Part) : Timer :=
  match p.mgmt.control with
  | some c => if c.autoDeclare = 0 then none else some (p.now + BitVec.ofNat 32 (1000 * c.autoDeclare))
  | none => none

section
variable {zone : Nat} {p : Part} (fresh : zone ∉ p.reg.detection) (room : p.reg.detection.length < 16)
include fresh room

theorem takeZone_of_not_quiet (active : p.reg.record.state ≠ .quiet) : takeZone zone p = zoneListed zone p := by
  unfold takeZone
  rw [if_neg (by simpa [fresh] using room)]
  dsimp only
  split
  · next quiet => exact absurd quiet active
  · rfl

theorem takeZone_of_quiet (quiet : p.reg.record.state = .quiet) : takeZone zone p =
    putRecord (.empty .alert) { zoneListed zone p with reg := { (zoneListed zone p).reg with autoDeclare := alertTimer p } } := by
  unfold takeZone
  rw [if_neg (by simpa [fresh] using room)]
  dsimp only
  rw [quiet]
  dsimp only
  unfold alertTimer
  cases p.mgmt.control with
  | none => rfl
  | some c =>
    dsimp only
    simp only [beq_iff_eq]
    rfl

end

/-- Settles O22, from the record that an alert puts. -/
theorem zoneJoinsDetectionList : Obligations.ZoneJoinsDetectionList := by
  unfold Obligations.ZoneJoinsDetectionList
  intro zone s none_waits g
  have is_event : exec (.zoneAlarmHandOn zone) s = nextWith (takeZone zone) s := rfl
  refine ⟨fun stays => ?_, fun fresh room => ⟨fun active => ?_, fun quiet => ?_⟩⟩
  · exact is_event.trans (nextWith_of_left (takeZone_of_listed stays) none_waits)
  · exact is_event.trans (nextWith_of_left (takeZone_of_not_quiet fresh room active) none_waits)
  · have judged := takeZone_of_quiet fresh room quiet
    have reg : (takeZone zone s.part).reg =
        { g with record := .empty .alert, detection := g.detection ++ [zone], autoDeclare := alertTimer s.part } := by
      rw [judged, (putRecord_regMeas _ _).1]
      rfl
    have kept := finish_regMeasKept (takeZone zone s.part) (by rw [reg]; exact IncidentState.noConfusion)
    refine ⟨_, is_event, kept.reg.trans reg, ?_⟩
    have raised : (takeZone zone s.part).fc.flags &&& 0x0200 = 0x0200 := by
      rw [judged]
      refine putRecord_incidentChange (.inl fun same => ?_)
      exact absurd (quiet.symm.trans same) IncidentState.noConfusion
    have still : (finish (takeZone zone s.part)).fc.flags &&& 0x0200 = 0x0200 := (finish_event _).flags.of_mask raised
    change (finish (takeZone zone s.part)).fc.flags &&& 0x0200 ≠ 0
    rw [still]
    decide

end Sys2Proof.Machine
end

section
/-! PROOFS. Incidents taken on, updated and declared by the timers (R64, R65, R70 to R76). -/

namespace Sys2Proof.Machine

/-! ### An incident taken on (R64, R73 to R75) -/

/-- The Register with an incident taken on, in DECLARED. -/
def takenOn (r : IncidentRecord) (p : Part) : IncidentRegister :=
  { p.reg with
    autoDeclare := none, leadWait := none, entry := none,
    record := { r with state := .declared, controlled := false, role := judgedRole p r.fire p.reg.record.role } }

theorem control_of_mgmt {p q : Part} (same : q.mgmt = p.mgmt) : q.control = p.control := by
  unfold Part.control
  rw [same]

/-- The Register after it leaves DECLARED for CONTROL (R74). -/
theorem leaveDeclared_reg {state : IncidentState} (role : IncidentRole) (p : Part) (active : state ≠ .quiet) :
    (leaveDeclared state role p).reg = { p.reg with
      leadWait := none, entry := none,
      record := markControlled p.reg.record { p.reg.record with state := state, role := role } } := by
  unfold leaveDeclared
  rw [(putRecord_regMeas _ _).1]
  unfold putReg
  rw [if_neg fun enters => active enters.1]
  rfl

theorem markControlled_entry {old new : IncidentRecord} (outside : old.state ≠ .control) (inside : new.state = .control) :
    markControlled old new = { new with controlled := true } :=
  if_pos (by simp [outside, inside])

theorem markControlled_elsewhere {old new : IncidentRecord} (elsewhere : new.state ≠ .control ∨ old.state = .control) :
    markControlled old new = new := by
  refine if_neg ?_
  rw [Bool.and_eq_true, beq_iff_eq, bne_iff_ne]
  exact fun ⟨inside, outside⟩ => elsewhere.elim (fun other => other inside) fun was => outside was

theorem judgedRole_of_not_lead {p : Part} {fire : Option Nat} (before : IncidentRole) (outside : judgedLead p fire = false) :
    judgedRole p fire before = if before = .localRole then .localRole else .follower := by
  unfold judgedRole
  rw [if_neg (Bool.eq_false_iff.mp outside)]
  cases before <;> rfl

section
variable (r : IncidentRecord) (p : Part)

/-- The part with the incident in DECLARED. -/
def declaredPart : Part :=
  putRecord (takenOn r p).record { p with reg := { p.reg with autoDeclare := none, leadWait := none, entry := none } }

theorem takeOn_eq : takeOn r p = proceed (declaredPart r p) := rfl

theorem declaredPart_reg : (declaredPart r p).reg = takenOn r p := by
  unfold declaredPart
  rw [(putRecord_regMeas _ _).1]
  unfold putReg
  rw [if_neg fun enters => IncidentState.noConfusion enters.1, markControlled_elsewhere (.inl IncidentState.noConfusion)]
  rfl

theorem declaredPart_event : EventStep p (declaredPart r p) := (putRecord_event _ _).after (reg_event _ p)

variable {r p}

theorem takeOn_reg_of_held (lead : judgedLead p r.fire = true) (held : p.reg.storeHold = true) :
    (takeOn r p).reg = takenOn r p := by
  have role : (declaredPart r p).reg.record.role = .lead := by
    rw [declaredPart_reg]
    exact if_pos lead
  have held : (declaredPart r p).reg.storeHold = true := by
    rw [declaredPart_reg]
    exact held
  rw [takeOn_eq]
  unfold proceed
  rw [role]
  dsimp only
  rw [if_pos held, declaredPart_reg]

theorem takeOn_reg_of_lead (lead : judgedLead p r.fire = true) (free : p.reg.storeHold = false) :
    (takeOn r p).reg = { takenOn r p with record := { (takenOn r p).record with state := .control, controlled := true } } := by
  have is_lead : (takenOn r p).record.role = .lead := if_pos lead
  have role : (declaredPart r p).reg.record.role = .lead := by
    rw [declaredPart_reg]
    exact is_lead
  have free : ¬ (declaredPart r p).reg.storeHold = true := by
    rw [declaredPart_reg]
    exact Bool.eq_false_iff.mp free
  rw [takeOn_eq]
  unfold proceed
  rw [role]
  dsimp only
  rw [if_neg free, leaveDeclared_reg _ _ IncidentState.noConfusion, declaredPart_reg,
    markControlled_entry IncidentState.noConfusion rfl, ← is_lead]
  rfl

theorem takeOn_reg_of_follower (follower : judgedLead p r.fire = false) :
    (takeOn r p).reg = { takenOn r p with leadWait := arm p.now (1000 * p.control.leadWait) } := by
  have role : (declaredPart r p).reg.record.role ≠ .lead := by
    rw [declaredPart_reg]
    change judgedRole p r.fire p.reg.record.role ≠ .lead
    rw [judgedRole_of_not_lead _ follower]
    split <;> exact IncidentRole.noConfusion
  have waits : (declaredPart r p).reg.leadWait = none := by rw [declaredPart_reg]; rfl
  have event := declaredPart_event r p
  rw [takeOn_eq]
  unfold proceed
  split
  · next lead => exact absurd lead role
  · unfold armLeadWait
    rw [waits]
    change { (declaredPart r p).reg with leadWait := arm (declaredPart r p).now (1000 * (declaredPart r p).control.leadWait) } = _
    rw [declaredPart_reg, event.now, control_of_mgmt event.mgmt]

/-- Whichever role is judged, the incident stands in DECLARED or in CONTROL. -/
theorem takeOn_reg (r : IncidentRecord) (p : Part) : ∃ state controlled wait, (state = .declared ∨ state = .control) ∧
    (takeOn r p).reg = { takenOn r p with
      leadWait := wait, record := { (takenOn r p).record with state := state, controlled := controlled } } := by
  cases lead : judgedLead p r.fire with
  | false => exact ⟨.declared, false, _, .inl rfl, takeOn_reg_of_follower lead⟩
  | true =>
    cases held : p.reg.storeHold with
    | true => exact ⟨.declared, false, none, .inl rfl, takeOn_reg_of_held lead held⟩
    | false => exact ⟨.control, true, none, .inr rfl, takeOn_reg_of_lead lead held⟩

theorem takeOn_state (r : IncidentRecord) (p : Part) :
    (takeOn r p).reg.record.state = .declared ∨ (takeOn r p).reg.record.state = .control := by
  obtain ⟨state, controlled, wait, active, reg⟩ := takeOn_reg r p
  rw [reg]
  exact active

/-- An event that takes an incident on leaves the Register as the taking on does. -/
theorem finish_takeOn_reg (r : IncidentRecord) (p : Part) : (finish (takeOn r p)).reg = (takeOn r p).reg := by
  refine (finish_regMeasKept _ ?_).reg
  obtain state | state := takeOn_state r p <;>
  · rw [state]
    exact IncidentState.noConfusion

end

/-! ### A DECLARE taken on (R64, R71, R73) -/

theorem judgedLead_iff (p : Part) (fire : Option Nat) : judgedLead p fire = true ↔
    ∃ x v, p.mgmt.sections = some x ∧ fire = some v ∧ x.lo ≤ v ∧ v < x.hi := by
  unfold judgedLead
  split
  · next x v is_x => simp [is_x]
  · next absent =>
    refine iff_of_false Bool.noConfusion ?_
    rintro ⟨x, v, is_x, is_v, _⟩
    exact absent x v is_x is_v

theorem explicitDir_eq {code : Nat} (small : code ≤ 2) : explicitDir code =
    if code = 1 then some .ab else if code = 2 then some .ba else none := by
  obtain rfl | rfl | rfl : code = 0 ∨ code = 1 ∨ code = 2 := by omega
  all_goals rfl

theorem directionRule_eq {dflt : Direction} {code fire : Nat} {head tail : Option Nat} (small : code ≤ 2) :
    directionRule dflt code fire head tail =
      if code = 1 then (.ab, .explicit) else if code = 2 then (.ba, .explicit) else trainRule dflt fire head tail := by
  unfold directionRule
  rw [explicitDir_eq small]
  split_ifs
  all_goals rfl

theorem fields_pass {n : Notice} (fire : ∀ v, n.fire = some v → v ≤ 20000) (head : ∀ v, n.head = some v → v ≤ 20000)
    (tail : ∀ v, n.tail = some v → v ≤ 20000) (direction : n.direction ≤ 2) (heat : n.heat ≤ 6) :
    ¬ fieldsFail n = true := by
  rw [fieldsFail_iff]
  rintro (⟨v, is_v, far⟩ | ⟨v, is_v, far⟩ | ⟨v, is_v, far⟩ | far | far)
  · exact absurd (fire v is_v) (by omega)
  · exact absurd (head v is_v) (by omega)
  · exact absurd (tail v is_v) (by omega)
  · omega
  · omega

theorem id_passes {n : Notice} (range : 1 ≤ n.id ∧ n.id ≤ 0xEFFF) : ¬ idFails n = true := by
  rw [idFails_iff]
  omega

section
variable {n : Notice} {p : Part} {t : ControlTable}

theorem judgeDeclare_of_taken (good : ¬ idFails n = true) (fire : n.fire ≠ none) (fits : ¬ fieldsFail n = true)
    (active : p.mgmt.control = some t)
    (open_ : p.reg.record.state = .quiet ∨ p.reg.record.state = .alert ∨
      (p.reg.record.state = .clearing ∧ n.id ≠ p.reg.record.id)) :
    judgeDeclare n p = takeOn (declaredRecord t n) (acceptNotice p) := by
  unfold judgeDeclare
  rw [if_neg (judgeDeclare_passes good fire fits), active]
  dsimp only
  obtain state | state | ⟨state, other⟩ := open_
  · rw [state]
  · rw [state]
  · rw [state]
    exact if_neg (mt beq_iff_eq.mp other)

theorem judgeDeclare_of_update (good : ¬ idFails n = true) (fire : n.fire ≠ none) (fits : ¬ fieldsFail n = true)
    (active : p.mgmt.control = some t) (responds : Responding p.reg.record.state) (same : n.id = p.reg.record.id) :
    judgeDeclare n p = applyUpdate n p := by
  unfold judgeDeclare
  rw [if_neg (judgeDeclare_passes good fire fits), active]
  dsimp only
  obtain state | state | state := responds <;>
  · rw [state]
    exact if_pos (beq_iff_eq.mpr same)

theorem judgeUpdate_of_held (good : ¬ idFails n = true) (fits : ¬ fieldsFail n = true)
    (responds : Responding p.reg.record.state) (same : n.id = p.reg.record.id) : judgeUpdate n p = applyUpdate n p := by
  unfold judgeUpdate
  rw [if_neg (by rw [Bool.or_eq_true]; exact not_or.mpr ⟨good, fits⟩)]
  obtain state | state | state := responds <;>
  · rw [state]
    exact if_pos (beq_iff_eq.mpr same)

end

/-- Settles O24, from the Register that taking an incident on leaves. -/
theorem declareTakenOn : Obligations.DeclareTakenOn := by
  unfold Obligations.DeclareTakenOn
  intro n fire c s quiet active id_range is_fire fire_near head_near tail_near direction heat g open_ dir inSection
  have fits : ¬ fieldsFail n = true := fields_pass
    (fun v is_v => Option.some.inj (is_fire.symm.trans is_v) ▸ fire_near) head_near tail_near direction heat
  have judged := judgeDeclare_of_taken (id_passes id_range) (is_fire ▸ Option.some_ne_none fire) fits active open_
  have rule : directionRule c.direction n.direction fire n.head n.tail = dir := by
    rw [directionRule_eq direction]
    unfold dir
    split_ifs
    · rfl
    · rfl
    · cases n.head <;> cases n.tail <;> rfl
  have record : declaredRecord c n = { IncidentRecord.empty .declared with
      id := n.id, fire := some fire, head := n.head, tail := n.tail, dir := some dir.1, dirSource := some dir.2,
      heat := some (if n.heat = 0 then c.heat else n.heat) } := by
    unfold declaredRecord
    rw [is_fire]
    dsimp only
    rw [rule]
    simp only [beq_iff_eq]
  have control : (acceptNotice s.part).control = c := by
    unfold Part.control
    change (match s.part.mgmt.control with | some t => t | none => _) = c
    rw [active]
  have is_lead : judgedLead (acceptNotice s.part) (declaredRecord c n).fire = true ↔ inSection := by
    rw [judgedLead_iff, record]
    constructor
    · rintro ⟨x, v, is_x, is_v, near⟩
      exact ⟨x, is_x, Option.some.inj is_v ▸ near⟩
    · rintro ⟨x, is_x, near⟩
      exact ⟨x, fire, is_x, rfl, near⟩
  obtain ⟨state, controlled, wait, -, reg⟩ := takeOn_reg (declaredRecord c n) (acceptNotice s.part)
  have ended : (finish (judgeDeclare n s.part)).reg = (takeOn (declaredRecord c n) (acceptNotice s.part)).reg := by
    rw [judged]
    exact finish_takeOn_reg _ _
  refine ⟨_, rfl, ?record, fun inside => ?lead, fun outside => ?follower, ?rest⟩
  case record =>
    change (finish (judgeDeclare n s.part)).reg.record.id = _ ∧ _
    rw [ended, reg, record]
    exact ⟨rfl, rfl, rfl, rfl, rfl, rfl, rfl⟩
  case lead =>
    change (finish (judgeDeclare n s.part)).reg.record.role = _ ∧ (finish (judgeDeclare n s.part)).reg.leadWait = _ ∧
      (finish (judgeDeclare n s.part)).reg.record.state = _ ∧ (finish (judgeDeclare n s.part)).reg.record.controlled = _
    have role : (takenOn (declaredRecord c n) (acceptNotice s.part)).record.role = .lead := if_pos (is_lead.mpr inside)
    rw [ended]
    cases held : g.storeHold with
    | true =>
      rw [takeOn_reg_of_held (is_lead.mpr inside) held]
      exact ⟨role, rfl, rfl, rfl⟩
    | false =>
      rw [takeOn_reg_of_lead (is_lead.mpr inside) held]
      exact ⟨role, rfl, rfl, rfl⟩
  case follower =>
    change (finish (judgeDeclare n s.part)).reg.record.state = _ ∧
      (finish (judgeDeclare n s.part)).reg.record.controlled = _ ∧ (finish (judgeDeclare n s.part)).reg.leadWait = _ ∧
      (finish (judgeDeclare n s.part)).reg.record.role = _
    have follower : judgedLead (acceptNotice s.part) (declaredRecord c n).fire = false :=
      Bool.eq_false_iff.mpr (mt is_lead.mp outside)
    rw [ended, takeOn_reg_of_follower follower, control]
    exact ⟨rfl, rfl, rfl, judgedRole_of_not_lead _ follower⟩
  case rest =>
    change (finish (judgeDeclare n s.part)).reg.outcome = _ ∧ (finish (judgeDeclare n s.part)).reg.autoDeclare = _ ∧
      (finish (judgeDeclare n s.part)).reg.entry = _ ∧ (finish (judgeDeclare n s.part)).reg.detection = _ ∧
      (finish (judgeDeclare n s.part)).reg.lastCleared = _ ∧ (finish (judgeDeclare n s.part)).reg.storeHold = _
    rw [ended, reg]
    exact ⟨rfl, rfl, rfl, rfl, rfl, rfl⟩

end Sys2Proof.Machine
end

section
/-! PROOFS. An UPDATE accepted, and the timers of the Register (R65, R70 to R76). -/

namespace Sys2Proof.Machine

/-! ### The record after an UPDATE (R65, R72, R73) -/

theorem replaced_eq (new held : Option Nat) : replaced new held = new.or held := by cases new <;> rfl

/-- The direction of the train rule and its source, as the statements give them. -/
theorem some_trainRule (dflt : Direction) (fire : Nat) (head tail : Option Nat) :
    (some (trainRule dflt fire head tail).1, some (trainRule dflt fire head tail).2) =
    match head, tail with
    | some h, some t => (some (if (h + t) / 2 < fire then .ab else if fire < (h + t) / 2 then .ba else dflt), some .train)
    | _, _ => (some dflt, some .default) := by
  cases head <;> cases tail <;> rfl

section
variable (t : ControlTable) (n : Notice) (old new : IncidentRecord)

/-- The fire or the train of a record differ from those of another (R72). -/
def Moved (old new : IncidentRecord) : Prop := new.fire ≠ old.fire ∨ new.head ≠ old.head ∨ new.tail ≠ old.tail

/-- An explicit direction is taken (R72). -/
theorem settleDirection_of_explicit {d : Direction} (given : explicitDir n.direction = some d) :
    settleDirection t n old new = { new with dir := some d, dirSource := some .explicit } := by
  unfold settleDirection
  rw [given]

/-- A direction that the train or the default gave is settled afresh where the fire or the train has moved (R72). -/
theorem settleDirection_of_moved (given : explicitDir n.direction = none) (moved : Moved old new)
    (settles : old.dirSource = some .train ∨ old.dirSource = some .default) :
    settleDirection t n old new = { new with
      dir := some (trainRule t.direction (new.fire.getD 0) new.head new.tail).1,
      dirSource := some (trainRule t.direction (new.fire.getD 0) new.head new.tail).2 } := by
  unfold settleDirection
  rw [given]
  dsimp only
  rw [if_pos]
  · cases new.fire <;> rfl
  · unfold Moved at moved
    simp only [Bool.and_eq_true, Bool.or_eq_true, bne_iff_ne, beq_iff_eq, or_assoc]
    exact ⟨moved.imp Ne.symm (Or.imp Ne.symm Ne.symm), settles⟩

theorem settleDirection_of_kept (given : explicitDir n.direction = none)
    (kept : ¬ (Moved old new ∧ (old.dirSource = some .train ∨ old.dirSource = some .default))) :
    settleDirection t n old new = new := by
  unfold settleDirection
  rw [given]
  dsimp only
  rw [if_neg]
  unfold Moved at kept
  simp only [Bool.and_eq_true, Bool.or_eq_true, bne_iff_ne, beq_iff_eq, or_assoc]
  exact fun ⟨moved, settles⟩ => kept ⟨moved.imp Ne.symm (Or.imp Ne.symm Ne.symm), settles⟩

end

/-- The fields that an UPDATE gives, over those held (R65). -/
def updateFields (n : Notice) (r : IncidentRecord) : IncidentRecord :=
  { r with fire := n.fire.or r.fire, head := n.head.or r.head, tail := n.tail.or r.tail,
           heat := if n.heat = 0 then r.heat else some n.heat }

theorem settledRecord_eq (p : Part) (n : Notice) :
    settledRecord p n = settleDirection p.control n p.reg.record (updateFields n p.reg.record) := by
  unfold settledRecord updateFields
  simp only [replaced_eq, beq_iff_eq]

/-- What the direction settled leaves of the fields. -/
theorem settleDirection_fields (t : ControlTable) (n : Notice) (old new : IncidentRecord) :
    ∃ d s, settleDirection t n old new = { new with dir := d, dirSource := s } := by
  unfold settleDirection
  split
  · exact ⟨_, _, rfl⟩
  · dsimp only
    split
    · exact ⟨_, _, rfl⟩
    · exact ⟨_, _, rfl⟩

theorem updatedRecord_of_fire_kept {p : Part} {n : Notice} (kept : n.fire.or p.reg.record.fire = p.reg.record.fire) :
    updatedRecord p n = settledRecord p n := by
  obtain ⟨d, s, settled⟩ := settleDirection_fields p.control n p.reg.record (updateFields n p.reg.record)
  have fire : (settledRecord p n).fire = p.reg.record.fire := by
    rw [settledRecord_eq, settled]
    exact kept
  exact if_neg (by rw [bne_iff_ne]; exact not_not.mpr fire.symm)

theorem updatedRecord_of_fire_moved {p : Part} {n : Notice} (moved : n.fire.or p.reg.record.fire ≠ p.reg.record.fire) :
    updatedRecord p n = { settledRecord p n with
      role := judgedRole p (n.fire.or p.reg.record.fire) p.reg.record.role } := by
  obtain ⟨d, s, settled⟩ := settleDirection_fields p.control n p.reg.record (updateFields n p.reg.record)
  have fire : (settledRecord p n).fire = n.fire.or p.reg.record.fire := by rw [settledRecord_eq, settled]; rfl
  rw [← fire]
  refine if_pos ?_
  rw [bne_iff_ne]
  exact fun same => moved (fire.symm.trans same.symm)

/-! ### The Register after it -/

/-- The part with an UPDATE accepted, and the change of direction it brings raised (R65). -/
def updateAcceptedPart (n : Notice) (p : Part) : Part :=
  if p.reg.record.dir != (updatedRecord p n).dir then raise .directionChanged (acceptNotice p) else acceptNotice p

theorem updateAcceptedPart_reg (n : Notice) (p : Part) :
    (updateAcceptedPart n p).reg = { p.reg with outcome := .accepted } := by
  unfold updateAcceptedPart
  split <;> rfl

/-- A record put that stays in its state. -/
theorem putRecord_reg_of_same_state {new : IncidentRecord} {p : Part} (same : new.state = p.reg.record.state) :
    (putRecord new p).reg = { p.reg with record := new } := by
  rw [(putRecord_regMeas new p).1]
  unfold putReg
  rw [if_neg fun ⟨quiet, left⟩ => left (same.symm.trans quiet), markControlled_elsewhere]
  by_cases inside : p.reg.record.state = .control
  · exact .inr inside
  · exact .inl (same ▸ inside)

theorem updatedRecord_fire (p : Part) (n : Notice) : (updatedRecord p n).fire = n.fire.or p.reg.record.fire := by
  obtain ⟨role, updated⟩ := updatedRecord_eq p n
  obtain ⟨d, s, settled⟩ := settleDirection_fields p.control n p.reg.record (updateFields n p.reg.record)
  rw [updated]
  exact (congrArg IncidentRecord.fire ((settledRecord_eq p n).trans settled))

/-- The ways in which an UPDATE ends (R65, R74, R75). -/
theorem applyUpdate_cases (n : Notice) (p : Part) :
    (p.reg.record.state = .declared ∧ n.fire.or p.reg.record.fire ≠ p.reg.record.fire ∧
      (updatedRecord p n).role = .lead ∧
      applyUpdate n p = putRecord { updatedRecord p n with state := .control } (dropWait (updateAcceptedPart n p))) ∨
    applyUpdate n p = putRecord (updatedRecord p n) (updateAcceptedPart n p) ∨
    applyUpdate n p = armLeadWait (putRecord (updatedRecord p n) (updateAcceptedPart n p)) := by
  unfold applyUpdate
  extract_lets old new p1 p2 p3
  split
  · next moves =>
    rw [Bool.and_eq_true, beq_iff_eq, bne_iff_ne] at moves
    split
    · next enters =>
      rw [Bool.and_eq_true, beq_iff_eq] at enters
      exact .inl ⟨moves.1, fun same => moves.2 (same.symm.trans (updatedRecord_fire p n).symm), enters.1, rfl⟩
    · split
      · exact .inr (.inl rfl)
      · exact .inr (.inr rfl)
  · exact .inr (.inl rfl)

theorem armLeadWait_reg (p : Part) : ∃ wait, (armLeadWait p).reg = { p.reg with leadWait := wait } := by
  unfold armLeadWait
  split
  · exact ⟨p.reg.leadWait, rfl⟩
  · exact ⟨_, rfl⟩

/-- An UPDATE leaves the record updated, in its state or, for a DECLARED part that it makes LEAD, in CONTROL. -/
theorem applyUpdate_reg (n : Notice) (p : Part) : ∃ state controlled wait entry,
    (state = p.reg.record.state ∨ (p.reg.record.state = .declared ∧
      n.fire.or p.reg.record.fire ≠ p.reg.record.fire ∧ (updatedRecord p n).role = .lead ∧ state = .control)) ∧
    (applyUpdate n p).reg = { p.reg with
      outcome := .accepted, leadWait := wait, entry := entry,
      record := { updatedRecord p n with state := state, controlled := controlled } } := by
  have stays : (updatedRecord p n).state = (updateAcceptedPart n p).reg.record.state := by
    rw [updateAcceptedPart_reg]
    exact updatedRecord_state p n
  have put : (putRecord (updatedRecord p n) (updateAcceptedPart n p)).reg =
      { p.reg with outcome := .accepted, record := updatedRecord p n } := by
    rw [putRecord_reg_of_same_state stays, updateAcceptedPart_reg]
  have same : updatedRecord p n = { updatedRecord p n with
      state := p.reg.record.state, controlled := (updatedRecord p n).controlled } := by
    rw [← updatedRecord_state p n]
  obtain ⟨declared, moved, lead, left⟩ | left | left := applyUpdate_cases n p
  · refine ⟨.control, true, none, none, .inr ⟨declared, moved, lead, rfl⟩, ?_⟩
    have outside : (dropWait (updateAcceptedPart n p)).reg.record.state ≠ .control := by
      change (updateAcceptedPart n p).reg.record.state ≠ .control
      rw [updateAcceptedPart_reg, show (_ : IncidentRegister).record.state = .declared from declared]
      exact IncidentState.noConfusion
    rw [left, (putRecord_regMeas _ _).1]
    unfold putReg
    rw [if_neg fun enters => IncidentState.noConfusion enters.1, markControlled_entry outside rfl]
    unfold dropWait
    rw [updateAcceptedPart_reg]
  · refine ⟨p.reg.record.state, (updatedRecord p n).controlled, p.reg.leadWait, p.reg.entry, .inl rfl, ?_⟩
    rw [left, put, ← same]
  · obtain ⟨wait, armed⟩ := armLeadWait_reg (putRecord (updatedRecord p n) (updateAcceptedPart n p))
    refine ⟨p.reg.record.state, (updatedRecord p n).controlled, wait, p.reg.entry, .inl rfl, ?_⟩
    rw [left, armed, put, ← same]

/-- A change of direction raises DIRECTION_CHANGED (R72). -/
theorem applyUpdate_directionChanged {n : Notice} {p : Part} (changed : p.reg.record.dir ≠ (updatedRecord p n).dir) :
    (applyUpdate n p).fc.flags &&& 0x0010 = 0x0010 := by
  have raises : updateAcceptedPart n p = raise .directionChanged (acceptNotice p) := if_pos (bne_iff_ne.mpr changed)
  have raised : (updateAcceptedPart n p).fc.flags &&& 0x0010 = 0x0010 := by
    rw [raises]
    exact raise_flags_and_flagBit .directionChanged _
  have event : EventStep (updateAcceptedPart n p) (applyUpdate n p) := by
    obtain ⟨_, _, _, left⟩ | left | left := applyUpdate_cases n p
    · rw [left]
      exact (putRecord_event _ _).after (dropWait_event _)
    · rw [left]
      exact putRecord_event _ _
    · rw [left]
      exact (armLeadWait_event _).after (putRecord_event _ _)
  exact event.flags.of_mask raised

/-- Settles O25, from the record after an UPDATE and the Register after it. -/
theorem updateAccepted : Obligations.UpdateAccepted := by
  unfold Obligations.UpdateAccepted
  intro n c s quiet active id_range fire_near head_near tail_near direction heat r responds same fire head tail moved dir
    inSection cmd is_cmd
  have good := id_passes id_range
  have fits := fields_pass fire_near head_near tail_near direction heat
  have ran : exec cmd s = .next { s with part := finish (applyUpdate n s.part) } := by
    obtain rfl | ⟨rfl, given⟩ := is_cmd
    · exact congrArg (fun p => Host.Outcome.next { s with part := finish p }) (judgeUpdate_of_held good fits responds same)
    · exact congrArg (fun p => Host.Outcome.next { s with part := finish p })
        (judgeDeclare_of_update good given fits active responds same)
  have control : s.part.control = c := by
    unfold Part.control
    rw [active]
  obtain ⟨state, controlled, wait, entry, is_state, reg⟩ := applyUpdate_reg n s.part
  have settled : settledRecord s.part n = { updateFields n r with dir := dir.1, dirSource := dir.2 } := by
    rw [settledRecord_eq, control]
    have given := explicitDir_eq direction
    unfold dir
    by_cases ab : n.direction = 1
    · rw [if_pos ab] at given ⊢
      exact settleDirection_of_explicit _ _ _ _ given
    · rw [if_neg ab] at given ⊢
      by_cases ba : n.direction = 2
      · rw [if_pos ba] at given ⊢
        exact settleDirection_of_explicit _ _ _ _ given
      · rw [if_neg ba] at given ⊢
        by_cases settles : moved ∧ (r.dirSource = some .train ∨ r.dirSource = some .default)
        · rw [if_pos settles, settleDirection_of_moved _ _ r (updateFields n r) given settles.1 settles.2]
          exact congrArg (fun d : Option Direction × Option DirectionSource =>
            { updateFields n r with dir := d.1, dirSource := d.2 }) (some_trainRule c.direction (fire.getD 0) head tail)
        · rw [if_neg settles]
          exact settleDirection_of_kept _ _ _ _ given settles
  obtain ⟨role, updated⟩ := updatedRecord_eq s.part n
  have not_clearing : (applyUpdate n s.part).reg.record.state ≠ .clearing := by
    rw [reg]
    change state ≠ .clearing
    obtain kept | ⟨_, _, _, entered⟩ := is_state
    · rw [kept]
      obtain is | is | is := responds <;>
      · rw [is]
        exact IncidentState.noConfusion
    · rw [entered]
      exact IncidentState.noConfusion
  have ended : (finish (applyUpdate n s.part)).reg = { s.part.reg with
      outcome := .accepted, leadWait := wait, entry := entry,
      record := { updateFields n r with
        dir := dir.1, dirSource := dir.2, role := role, state := state, controlled := controlled } } := by
    rw [(finish_regMeasKept _ not_clearing).reg, reg, updated, settled]
  refine ⟨_, ran, ?_⟩
  dsimp only
  rw [ended]
  have is_role : role = (updatedRecord s.part n).role := by rw [updated]
  have inside_iff : judgedLead s.part fire = true ↔ inSection := judgedLead_iff s.part fire
  refine ⟨rfl, rfl, rfl, rfl, rfl, rfl, rfl, rfl, fun kept => ⟨?roleKept, ?stateKept⟩, fun fire_moved inside => ?lead,
    fun fire_moved outside => ⟨?stateStays, ?follower⟩, fun left => ?elsewhere, fun changed => ?flag, rfl, rfl⟩
  case roleKept => rw [is_role, updatedRecord_of_fire_kept kept, settled]; rfl
  case stateKept => exact is_state.resolve_right fun ⟨_, fire_moved, _⟩ => fire_moved kept
  case lead =>
    rw [is_role, updatedRecord_of_fire_moved fire_moved]
    exact if_pos (inside_iff.mpr inside)
  case stateStays =>
    refine is_state.resolve_right fun ⟨_, _, lead, _⟩ => ?_
    rw [updatedRecord_of_fire_moved fire_moved] at lead
    have not_lead := judgedRole_of_not_lead r.role (Bool.eq_false_iff.mpr (mt inside_iff.mp outside))
    refine absurd (not_lead.symm.trans lead) ?_
    split <;> exact IncidentRole.noConfusion
  case follower =>
    rw [is_role, updatedRecord_of_fire_moved fire_moved]
    exact judgedRole_of_not_lead _ (Bool.eq_false_iff.mpr (mt inside_iff.mp outside))
  case elsewhere => exact is_state.resolve_right fun ⟨declared, _⟩ => left declared
  case flag =>
    have new_dir : (updatedRecord s.part n).dir = dir.1 := by rw [updated, settled]
    have raised := (finish_event (applyUpdate n s.part)).flags.of_mask (applyUpdate_directionChanged (new_dir ▸ changed))
    rw [raised]
    decide

/-! ### The timers of the Register (R70, R75, R76) -/

section
variable {p : Part}

theorem autoDeclareExpires_of_unarmed (unarmed : p.reg.autoDeclare = none) : autoDeclareExpires p = p :=
  if_pos (Option.isNone_iff_eq_none.mpr unarmed)

/-- The part with the auto-declare timer spent. -/
def autoDeclareSpent (p : Part) : Part := { p with reg := { p.reg with autoDeclare := none } }

theorem autoDeclareExpires_of_spent (armed : p.reg.autoDeclare ≠ none)
    (idle : p.reg.record.state ≠ .alert ∨ firstConfigured p = none) : autoDeclareExpires p = autoDeclareSpent p := by
  unfold autoDeclareExpires
  rw [if_neg (by simpa using armed)]
  dsimp only
  split
  · next z alert first => exact absurd idle (not_or.mpr ⟨not_not.mpr alert, first ▸ Option.some_ne_none z⟩)
  · rfl

/-- The record of an auto incident in a zone (R70). -/
def autoRecord (z : ZoneEntry) (p : Part) : IncidentRecord :=
  { IncidentRecord.empty .declared with
    id := 0xF000 + p.node, fire := some ((z.lo + z.hi) / 2), dir := some p.control.direction,
    dirSource := some .default, heat := some p.control.heat }

theorem autoDeclareExpires_of_alert {z : ZoneEntry} (armed : p.reg.autoDeclare ≠ none)
    (alert : p.reg.record.state = .alert) (first : firstConfigured p = some z) :
    autoDeclareExpires p = takeOn (autoRecord z p) (autoDeclareSpent p) := by
  have first : firstConfigured (autoDeclareSpent p) = some z := first
  unfold autoDeclareExpires
  rw [if_neg (by simpa using armed)]
  change (match (autoDeclareSpent p).reg.record.state, firstConfigured (autoDeclareSpent p) with
    | .alert, some z => takeOn (autoRecord z (autoDeclareSpent p)) (autoDeclareSpent p)
    | _, _ => autoDeclareSpent p) = _
  rw [first, show (autoDeclareSpent p).reg.record.state = .alert from alert]
  rfl

theorem leadWaitExpires_of_unarmed (unarmed : p.reg.leadWait = none) : leadWaitExpires p = p :=
  if_pos (Option.isNone_iff_eq_none.mpr unarmed)

variable (armed : p.reg.leadWait ≠ none)
include armed

theorem leadWaitExpires_of_elsewhere (elsewhere : p.reg.record.state ≠ .declared) :
    leadWaitExpires p = { p with reg := { p.reg with leadWait := none } } := by
  unfold leadWaitExpires
  rw [if_neg (by simpa using armed)]
  exact if_pos (bne_iff_ne.mpr elsewhere)

variable (declared : p.reg.record.state = .declared)
include declared

theorem leadWaitExpires_of_held (held : p.reg.storeHold = true) : leadWaitExpires p =
    { p with reg := { p.reg with
      leadWait := none,
      entry := if p.reg.entry = some .leadViewControl ∨ p.reg.entry = some .leadViewHold then p.reg.entry
        else some .leadWaitExpiry } } := by
  unfold leadWaitExpires
  rw [if_neg (by simpa using armed)]
  dsimp only
  rw [if_neg (by simp [declared]), if_pos held]
  split
  · next pending => simp [pending]
  · next pending => simp [pending]
  · next no_control no_hold => rw [if_neg (not_or.mpr ⟨no_control, no_hold⟩)]

theorem leadWaitExpires_of_follower (free : p.reg.storeHold = false) (role : follows p.reg.record.role = true) :
    leadWaitExpires p = leaveDeclared .control .localRole { p with reg := { p.reg with leadWait := none } } := by
  unfold leadWaitExpires
  rw [if_neg (by simpa using armed)]
  dsimp only
  rw [if_neg (by simp [declared]), if_neg (Bool.eq_false_iff.mp free), if_pos role]

end

/-- Settles O28, by the cases of the two expiries. -/
theorem incidentTimersExpire : Obligations.IncidentTimersExpire := by
  unfold Obligations.IncidentTimersExpire
  refine ⟨fun s quiet => ?_, fun s quiet => ?_⟩
  · intro g zone
    have is_event : exec .autoDeclareTimerExpiry s = nextWith autoDeclareExpires s := rfl
    refine ⟨fun unarmed => is_event.trans (nextWith_of_left (autoDeclareExpires_of_unarmed unarmed) quiet),
      fun armed idle => is_event.trans (nextWith_of_left (autoDeclareExpires_of_spent armed idle) quiet),
      fun z armed alert first => ?_⟩
    have taken := autoDeclareExpires_of_alert armed alert first
    obtain ⟨state, controlled, wait, active, reg⟩ := takeOn_reg (autoRecord z s.part) (autoDeclareSpent s.part)
    have ended : (finish (autoDeclareExpires s.part)).reg = { takenOn (autoRecord z s.part) (autoDeclareSpent s.part) with
        leadWait := wait, record := { (takenOn (autoRecord z s.part) (autoDeclareSpent s.part)).record with
          state := state, controlled := controlled } } := by
      rw [taken, finish_takeOn_reg, reg]
    refine ⟨_, is_event, ?_⟩
    dsimp only
    rw [ended]
    exact ⟨rfl, rfl, rfl, rfl, rfl, rfl, rfl, active, rfl, rfl⟩
  · intro g spent
    have is_event : exec .leadWaitTimerExpiry s = nextWith leadWaitExpires s := rfl
    refine ⟨fun unarmed => is_event.trans (nextWith_of_left (leadWaitExpires_of_unarmed unarmed) quiet),
      fun armed elsewhere => is_event.trans (nextWith_of_left (leadWaitExpires_of_elsewhere armed elsewhere) quiet),
      fun armed declared held => is_event.trans (nextWith_of_left (leadWaitExpires_of_held armed declared held) quiet),
      fun armed declared free role => ?_⟩
    have left := leadWaitExpires_of_follower armed declared free (by simpa [follows] using role)
    have reg : (leadWaitExpires s.part).reg = { spent with
        record := { g.record with state := .control, role := .localRole, controlled := true }, entry := none } := by
      rw [left, leaveDeclared_reg _ _ IncidentState.noConfusion, markControlled_entry _ rfl]
      exact fun inside => absurd (declared.symm.trans inside) IncidentState.noConfusion
    have kept := finish_regMeasKept (leadWaitExpires s.part) (by rw [reg]; exact IncidentState.noConfusion)
    exact ⟨_, is_event, kept.reg.trans reg⟩

end Sys2Proof.Machine
end

section
/-! PROOFS. The part's bulletin and the record the Coordinator takes (R173 to R175, R179, R180): the ascending lists of
peers, the lead view and the claims of lead, and the bulletin queued. -/

namespace Sys2Proof.Machine

/-! ### Lists in order -/

section
variable {α : Type} {lt : α → α → Bool} (asymm : ∀ a b, lt a b = true → lt b a = false)
  (later : ∀ a b c, lt b a = false → lt c b = false → lt c a = false)
include asymm later

theorem insertBy_pairwise (x : α) {l : List α} (sorted : l.Pairwise fun a b => lt b a = false) :
    (insertBy lt x l).Pairwise fun a b => lt b a = false := by
  induction l with
  | nil => simp [insertBy]
  | cons y l ih =>
    obtain ⟨first, rest⟩ := List.pairwise_cons.mp sorted
    by_cases before : lt x y = true
    · rw [insertBy, if_pos before]
      refine List.pairwise_cons.mpr ⟨fun z mem => ?_, sorted⟩
      rcases List.mem_cons.mp mem with rfl | mem
      · exact asymm _ _ before
      · exact later _ _ _ (asymm _ _ before) (first z mem)
    · rw [insertBy, if_neg before]
      refine List.pairwise_cons.mpr ⟨fun z mem => ?_, ih rest⟩
      rcases List.mem_cons.mp ((insertBy_perm lt x l).mem_iff.mp mem) with rfl | mem
      · simpa using before
      · exact first z mem

theorem sortBy_pairwise (l : List α) : (sortBy lt l).Pairwise fun a b => lt b a = false := by
  have all : ∀ (l acc : List α), acc.Pairwise (fun a b => lt b a = false) →
      (l.foldl (fun acc x => insertBy lt x acc) acc).Pairwise fun a b => lt b a = false := by
    intro l
    induction l with
    | nil => exact fun _ sorted => sorted
    | cons x l ih => exact fun acc sorted => ih _ (insertBy_pairwise asymm later x sorted)
  exact all l [] .nil

end

/-- The head of an ascending list is its least element. -/
theorem head_isLeast {l : List Nat} (sorted : l.Pairwise (· ≤ ·)) {a : Nat} (head : l.head? = some a) :
    a ∈ l ∧ ∀ b ∈ l, a ≤ b := by
  cases l with
  | nil => exact nomatch head
  | cons x l =>
    obtain rfl : x = a := by simpa using head
    have first := (List.pairwise_cons.mp sorted).1
    exact ⟨by simp, fun b mem => (List.mem_cons.mp mem).elim (fun e => e ▸ Nat.le_refl _) (first b)⟩

/-! ### The claims of lead -/

theorem claimsLead_eq (id : Nat) (q : PeerRec) : claimsLead id q = Rule.claims id q := by
  unfold claimsLead Rule.claims
  cases q.held with
  | none => rfl
  | some b =>
    rw [Bool.eq_iff_iff]
    simp only [Bool.and_eq_true, beq_iff_eq, bne_iff_ne, decide_eq_true_eq]
    tauto

theorem claimants_perm (id : Nat) (peers : List PeerRec) :
    (claimants id peers).Perm ((peers.filter (Rule.claims id)).map (·.address)) := by
  have same : claimsLead id = Rule.claims id := funext (claimsLead_eq id)
  unfold claimants
  rw [same]
  exact sortBy_perm _ _

theorem mem_claimants {id : Nat} {peers : List PeerRec} {a : Nat} :
    a ∈ claimants id peers ↔ ∃ q ∈ peers, Rule.claims id q = true ∧ q.address = a := by
  rw [(claimants_perm id peers).mem_iff]
  simp only [List.mem_map, List.mem_filter, and_assoc]

theorem claimants_sorted (id : Nat) (peers : List PeerRec) : (claimants id peers).Pairwise (· ≤ ·) := by
  have sorted := sortBy_pairwise (lt := fun a b : Nat => decide (a < b)) (by simp; omega) (by simp; omega)
    ((peers.filter (claimsLead id)).map (·.address))
  exact sorted.imp fun h => by simpa using h

theorem claimants_nodup {id : Nat} {peers : List PeerRec} (apart : (peers.map (·.address)).Nodup) :
    (claimants id peers).Nodup :=
  (claimants_perm id peers).nodup_iff.mpr ((List.filter_sublist.map _).nodup apart)

/-- The lead view is the lowest claimant (R179). -/
theorem isLeadView_leadViewFor (id : Nat) (peers : List PeerRec) : Rule.IsLeadView id peers (leadViewFor id peers) := by
  unfold Rule.IsLeadView
  cases view : leadViewFor id peers with
  | none =>
    have empty : claimants id peers = [] := List.head?_eq_none_iff.mp view
    intro q mem
    by_contra claims
    have : q.address ∈ claimants id peers := mem_claimants.mpr ⟨q, mem, by simpa using claims, rfl⟩
    simp [empty] at this
  | some a =>
    obtain ⟨mem, least⟩ := head_isLeast (claimants_sorted id peers) view
    exact ⟨mem_claimants.mp mem, fun q inside claims => least _ (mem_claimants.mpr ⟨q, inside, claims, rfl⟩)⟩

theorem isLeadView_some_iff {id : Nat} {peers : List PeerRec} {a : Nat} :
    Rule.IsLeadView id peers (some a) ↔ leadViewFor id peers = some a := by
  refine ⟨fun view => ?_, fun view => view ▸ isLeadView_leadViewFor id peers⟩
  obtain ⟨⟨q, mem, claims, rfl⟩, least⟩ := view
  have judged := isLeadView_leadViewFor id peers
  cases found : leadViewFor id peers with
  | none =>
    rw [found] at judged
    exact absurd claims (by simp [judged q mem])
  | some b =>
    rw [found] at judged
    obtain ⟨⟨x, inside, also, rfl⟩, lowest⟩ := judged
    rw [Nat.le_antisymm (lowest q mem claims) (least x inside also)]

theorem claims_zero (q : PeerRec) : Rule.claims 0 q = false := by
  unfold Rule.claims
  cases q.held <;> simp

/-- What `judgeLead` finds two claims of lead by is R180's count of them. -/
theorem conflict_iff (id : Nat) (role : IncidentRole) (peers : List PeerRec) :
    2 ≤ (claimants id peers).length + (if (role == .lead && id != 0) = true then 1 else 0) ↔
      Rule.Conflict id role peers := by
  have count : (claimants id peers).length = (peers.filter (Rule.claims id)).length := by
    rw [(claimants_perm id peers).length_eq, List.length_map]
  unfold Rule.Conflict
  rw [count]
  by_cases none_held : id = 0
  · subst none_held
    have none_claims : peers.filter (Rule.claims 0) = [] := List.filter_eq_nil_iff.mpr (by simp [claims_zero])
    rw [none_claims]
    simp only [List.length_nil]
    split_ifs <;> simp
  · simp [none_held]

/-- The object of TWO_LEADS is the one R180 names. -/
theorem isTwoLeadsObject {id : Nat} {role : IncidentRole} {peers : List PeerRec} (apart : (peers.map (·.address)).Nodup)
    (conflict : Rule.Conflict id role peers) : Rule.IsTwoLeadsObject id role peers
      (twoLeadsObject role (leadViewFor id peers) (claimants id peers)) := by
  have two := (conflict_iff id role peers).mpr conflict
  have sorted := claimants_sorted id peers
  -- the claimants counted, in ascending order
  obtain ⟨others, made, exactly, order⟩ : ∃ others : List Nat,
      twoLeadsObject role (leadViewFor id peers) (claimants id peers) = others.head?.getD 0 ∧
      (∀ a, a ∈ others ↔ a ∈ claimants id peers ∧ (role = .lead ∨ leadViewFor id peers ≠ some a)) ∧
      others.Pairwise (· ≤ ·) := by
    refine ⟨if role == .lead then claimants id peers
      else (claimants id peers).filter fun a => some a != leadViewFor id peers, ?_, fun a => ?_, ?_⟩
    · have head (l : List Nat) : (match l with | a :: _ => a | [] => 0) = l.head?.getD 0 := by cases l <;> rfl
      exact head _
    · by_cases lead : role = .lead
      · simp [lead]
      · simp [lead, eq_comm (a := some a)]
    · split
      · exact sorted
      · exact sorted.sublist List.filter_sublist
  have counted (a : Nat) : a ∈ others ↔ ∃ q ∈ peers,
      (Rule.claims id q = true ∧ (role = .lead ∨ ¬ Rule.IsLeadView id peers (some q.address))) ∧ q.address = a := by
    rw [exactly, mem_claimants]
    simp only [isLeadView_some_iff]
    constructor
    · rintro ⟨⟨q, mem, claims, rfl⟩, own⟩
      exact ⟨q, mem, ⟨claims, own⟩, rfl⟩
    · rintro ⟨q, mem, ⟨claims, own⟩, rfl⟩
      exact ⟨⟨q, mem, claims, rfl⟩, own⟩
  have some_other : others ≠ [] := by
    intro empty
    have none_left : ∀ a ∈ claimants id peers, role ≠ .lead ∧ leadViewFor id peers = some a := by
      intro a mem
      have := (exactly a).not.mp (by simp [empty])
      tauto
    have distinct := claimants_nodup (id := id) apart
    match listed : claimants id peers with
    | [] =>
      rw [listed] at two
      split_ifs at two <;> simp at two
    | [a] =>
      have := (none_left a (by simp [listed])).1
      rw [listed, if_neg (by simp [this])] at two
      simp at two
    | a :: b :: rest =>
      have first := (none_left a (by simp [listed])).2
      have second := (none_left b (by simp [listed])).2
      rw [listed] at distinct
      have : a = b := by simpa [first] using second
      simp [this] at distinct
  obtain ⟨n, rest, listed⟩ := List.exists_cons_of_ne_nil some_other
  have head : others.head? = some n := by rw [listed]; rfl
  obtain ⟨mem, least⟩ := head_isLeast order head
  rw [made, head]
  exact ⟨(counted n).mp mem, fun q inside claims => least _ ((counted q.address).mpr ⟨q, inside, claims, rfl⟩)⟩

/-! ### The bulletin queued -/

theorem buildBulletin_eq (p : Part) : buildBulletin p = Rule.bulletin p := by
  unfold buildBulletin Rule.bulletin
  dsimp only
  cases p.reg.record.heat <;> cases p.reg.record.fire <;> rfl

theorem queueOwn_withCoord (r : OwnRequest) (p : Part) (c : SectionCoordinator) :
    queueOwn r { p with coord := c } = { queueOwn r p with coord := c } := by
  have line : (queueOwn r { p with coord := c }).line = (queueOwn r p).line := queueOwn_line_congr r rfl
  calc queueOwn r { p with coord := c }
    _ = { p with line := (queueOwn r p).line, coord := c } := by rw [queueOwn_eq, line]
    _ = { queueOwn r p with coord := c } := by rw [queueOwn_eq r p]

/-- A telegram queued leaves the inputs of the health as they are. -/
theorem healthConditions_queueOwn (r : OwnRequest) (p : Part) :
    healthConditions (queueOwn r p) = healthConditions p := by
  have own : OwnLine p.line (queueOwn r p).line := (queueOwn_step r p).line
  rw [queueOwn_eq, own]
  rfl

/-- The coordinator after a bulletin built (R173, R175). -/
def bulletinCounted (p : Part) : SectionCoordinator :=
  { p.coord with built := bump p.coord.built, timer := arm p.now (bulletinTime p) }

theorem sendBulletin_eq (p : Part) : sendBulletin p =
    queueOwn (.bulletin (Rule.bulletin (formHealth p))) { formHealth p with coord := bulletinCounted p } := by
  rw [queueOwn_withCoord _ (formHealth p) (bulletinCounted p), ← buildBulletin_eq]
  unfold sendBulletin
  dsimp only
  rw [queueOwn_eq]
  rfl

theorem bulletinTime_eq (p : Part) :
    bulletinTime p = match p.mgmt.control with | some c => 1000 * c.period | none => 5000 := by
  unfold bulletinTime
  cases p.mgmt.control <;> rfl

/-- Settles O43, by `sendBulletin_eq`: the bulletin is built of the values that stand, the health being formed. -/
theorem bulletinSent : Obligations.BulletinSent := by
  unfold Obligations.BulletinSent
  intro s quiet formed p ms
  refine ⟨fun unarmed => nextWith_of_left (if_neg (by simp [show s.part.coord.timer = none from unarmed])) quiet,
    fun armed => ⟨_, rfl, ?_⟩⟩
  have sent : bulletinExpires p = queueOwn (.bulletin (Rule.bulletin p)) { p with coord := { p.coord with
      built := bump p.coord.built, timer := some (p.now + BitVec.ofNat 32 ms) } } := by
    have same : formHealth p = p := formed
    rw [bulletinExpires, if_pos (Option.isSome_iff_ne_none.mpr armed), sendBulletin_eq, same, bulletinCounted,
      bulletinTime_eq]
    rfl
  refine (exec_queueOwnTelegram _ _ (by exact quiet)).trans ?_
  dsimp only
  rw [← sent]
  exact (nextWith_of_left rfl (by rw [sent, queueOwn_eq]; exact quiet)).symm

/-! ### The record the Coordinator takes -/

section
variable (p : Part)

theorem judgeLead_coord : (judgeLead p).coord = { p.coord with
    leadView := leadViewFor p.coord.heldId p.coord.peers,
    twoLeads := 2 ≤ (claimants p.coord.heldId p.coord.peers).length +
      (if (p.coord.role == .lead && p.coord.heldId != 0) = true then 1 else 0) } := by
  unfold judgeLead
  extract_lets c cs lead own conflict q
  split
  · rw [report_eq]
    rfl
  · rfl

/-- Judging the lead writes the Coordinator and Fault Capture alone. -/
theorem judgeLead_eq : judgeLead p = { p with coord := (judgeLead p).coord, fc := (judgeLead p).fc } := by
  unfold judgeLead
  extract_lets c cs lead own conflict q
  split
  · rw [report_eq]
  · rfl

theorem judgeLead_twoLeads_iff :
    (judgeLead p).coord.twoLeads = true ↔ Rule.Conflict p.coord.heldId p.coord.role p.coord.peers := by
  rw [judgeLead_coord, ← conflict_iff]
  exact decide_eq_true_iff

theorem report_withCoord (k : FaultKind) (o : FaultObject) (c : SectionCoordinator) :
    report k o { p with coord := c } = { report k o p with coord := c } := by
  unfold report
  dsimp only
  split <;> rfl

/-- The fault of a conflict that is new (R180). -/
theorem judgeLead_fc_of_new (conflict : Rule.Conflict p.coord.heldId p.coord.role p.coord.peers)
    (clear : p.coord.twoLeads = false) : (judgeLead p).fc = (report .twoLeads ⟨.station,
      twoLeadsObject p.coord.role (leadViewFor p.coord.heldId p.coord.peers)
        (claimants p.coord.heldId p.coord.peers)⟩ p).fc := by
  have two := (conflict_iff _ _ _).mpr conflict
  unfold judgeLead
  dsimp only
  rw [if_pos, report_withCoord]
  · rfl
  · rw [Bool.and_eq_true, decide_eq_true_iff]
    exact ⟨two, by rw [clear]; rfl⟩

theorem judgeLead_fc_of_old
    (old : ¬ (Rule.Conflict p.coord.heldId p.coord.role p.coord.peers ∧ p.coord.twoLeads = false)) :
    (judgeLead p).fc = p.fc := by
  unfold judgeLead
  dsimp only
  rw [if_neg]
  rw [Bool.and_eq_true, decide_eq_true_iff, conflict_iff]
  simpa using old

end

/-- The Coordinator with a record handed on held (R176). -/
def coordHeld (h : RecordHandOn) (p : Part) : Part :=
  { p with coord := { p.coord with heldId := h.record.id, role := h.record.role } }

/-- The record held and, where its id is another, the lead view judged (R176, R179). -/
def coordJudged (h : RecordHandOn) (p : Part) : Part :=
  if h.record.id = p.coord.heldId then coordHeld h p else judgeLead (coordHeld h p)

section
variable (h : RecordHandOn) (p : Part)

theorem coordTakeRecord_eq : coordTakeRecord h p =
    if h.before = h.record.state then coordJudged h p else sendBulletin (coordJudged h p) := by
  unfold coordTakeRecord coordJudged coordHeld
  by_cases same : h.record.id = p.coord.heldId <;> by_cases stays : h.before = h.record.state <;> simp [same, stays]

theorem coordJudged_eq : coordJudged h p = { p with coord := (coordJudged h p).coord, fc := (coordJudged h p).fc } := by
  unfold coordJudged
  split
  · rfl
  · rw [judgeLead_eq]
    rfl

theorem coordJudged_coord : (coordJudged h p).coord.heldId = h.record.id ∧
    (coordJudged h p).coord.role = h.record.role ∧ (coordJudged h p).coord.peers = p.coord.peers ∧
    (coordJudged h p).coord.built = p.coord.built ∧ (coordJudged h p).coord.timer = p.coord.timer := by
  unfold coordJudged
  split
  · exact ⟨rfl, rfl, rfl, rfl, rfl⟩
  · rw [judgeLead_coord]
    exact ⟨rfl, rfl, rfl, rfl, rfl⟩

theorem coordJudged_of_other (other : h.record.id ≠ p.coord.heldId) :
    (coordJudged h p).coord.leadView = leadViewFor h.record.id p.coord.peers ∧
    ((coordJudged h p).coord.twoLeads = true ↔ Rule.Conflict h.record.id h.record.role p.coord.peers) := by
  rw [coordJudged, if_neg other]
  exact ⟨by rw [judgeLead_coord]; rfl, judgeLead_twoLeads_iff _⟩

/-- The fault reported with the lead view judged: TWO_LEADS where a conflict is new, else none (R180). -/
theorem coordJudged_fc_of_new (other : h.record.id ≠ p.coord.heldId)
    (conflict : Rule.Conflict h.record.id h.record.role p.coord.peers) (clear : p.coord.twoLeads = false) :
    (coordJudged h p).fc = (report .twoLeads ⟨.station, twoLeadsObject h.record.role
      (leadViewFor h.record.id p.coord.peers) (claimants h.record.id p.coord.peers)⟩ p).fc := by
  rw [coordJudged, if_neg other, judgeLead_fc_of_new (coordHeld h p) conflict clear, coordHeld, report_withCoord]

theorem coordJudged_fc_of_old (old : ¬ ((h.record.id ≠ p.coord.heldId ∧
      Rule.Conflict h.record.id h.record.role p.coord.peers) ∧ p.coord.twoLeads = false)) :
    (coordJudged h p).fc = p.fc := by
  unfold coordJudged
  split
  · rfl
  · rename_i other
    exact judgeLead_fc_of_old (coordHeld h p) fun ⟨conflict, clear⟩ => old ⟨⟨other, conflict⟩, clear⟩

/-- Fault Capture at the end of the event: that of the lead view judged, with the health formed. -/
theorem coordTakeRecord_fc : (formHealth (coordTakeRecord h p)).fc = (formHealth { p with fc := (coordJudged h p).fc }).fc := by
  have judged : (formHealth (coordJudged h p)).fc = (formHealth { p with fc := (coordJudged h p).fc }).fc := by
    rw [coordJudged_eq]
    rfl
  rw [coordTakeRecord_eq, ← judged]
  split
  · rfl
  · rw [sendBulletin_eq, formHealth_fc, queueOwn_fc, healthConditions_queueOwn]
    rfl

theorem coordTakeRecord_rest : coordTakeRecord h p = { p with
    coord := (coordTakeRecord h p).coord, fc := (coordTakeRecord h p).fc, line := (coordTakeRecord h p).line } := by
  rw [coordTakeRecord_eq]
  split
  · rw [coordJudged_eq]
  · rw [sendBulletin_eq, queueOwn_eq, coordJudged_eq]
    rfl

/-- The bulletin of a change of state is built of the values that stand with the lead view judged (R174) [29]. -/
theorem coordTakeRecord_of_change (changes : h.before ≠ h.record.state) : coordTakeRecord h p =
    queueOwn (.bulletin (Rule.bulletin { p with fc := (formHealth { p with fc := (coordJudged h p).fc }).fc }))
      { p with coord := bulletinCounted (coordJudged h p), fc := (formHealth { p with fc := (coordJudged h p).fc }).fc } := by
  have same : formHealth (coordJudged h p) = { p with
      coord := (coordJudged h p).coord, fc := (formHealth { p with fc := (coordJudged h p).fc }).fc } := by
    conv_lhs => rw [coordJudged_eq]
    rfl
  rw [coordTakeRecord_eq, if_neg changes, sendBulletin_eq, same]
  rfl

theorem coordTakeRecord_coord : (coordTakeRecord h p).coord =
    if h.before = h.record.state then (coordJudged h p).coord else bulletinCounted (coordJudged h p) := by
  rw [coordTakeRecord_eq]
  split
  · rfl
  · rw [sendBulletin_eq, queueOwn_eq]

end

/-- Settles O44: what is judged, by `judgeLead_coord` and `isTwoLeadsObject`; the bulletin, by `sendBulletin_eq`. -/
theorem coordinatorTakesRecord : Obligations.CoordinatorTakesRecord := by
  unfold Obligations.CoordinatorTakesRecord
  intro h s quiet ms c
  obtain ⟨heldId, role, peers, built, timer⟩ := coordJudged_coord h s.part
  have coord := coordTakeRecord_coord h s.part
  have fc := coordTakeRecord_fc h s.part
  have next : exec (.incidentRecordToCoordinator h) s = nextPart s (coordTakeRecord h s.part) :=
    nextWith_of_left rfl (by rw [coordTakeRecord_rest]; exact quiet)
  refine ⟨_, next, ?_, ?_, ?_, fun other => ?_, fun same => ?_, ?_, fun changes => ?_, fun stays => ?_, ?_⟩
  · change (coordTakeRecord h s.part).coord.heldId = _
    rw [coord]
    split <;> exact heldId
  · change (coordTakeRecord h s.part).coord.role = _
    rw [coord]
    split <;> exact role
  · change (coordTakeRecord h s.part).coord.peers = _
    rw [coord]
    split <;> exact peers
  · change (coordTakeRecord h s.part).coord.leadView = _
    rw [coord]
    split <;> exact (coordJudged_of_other h s.part other).1
  · change (coordTakeRecord h s.part).coord.leadView = _ ∧ (coordTakeRecord h s.part).coord.twoLeads = _
    have stays : (coordJudged h s.part).coord.leadView = c.leadView ∧ (coordJudged h s.part).coord.twoLeads = c.twoLeads := by
      rw [coordJudged, if_pos same]
      exact ⟨rfl, rfl⟩
    rw [coord]
    split <;> exact stays
  · intro id conflict reported
    refine ⟨fun other => ?_, fun ⟨⟨other, two⟩, clear⟩ apart => ?_, fun silent => ?_⟩
    · obtain ⟨view, mark⟩ := coordJudged_of_other h s.part other
      change Rule.IsLeadView id c.peers (coordTakeRecord h s.part).coord.leadView ∧
        ((coordTakeRecord h s.part).coord.twoLeads = true ↔ conflict)
      have judged : Rule.IsLeadView id c.peers (coordJudged h s.part).coord.leadView ∧
          ((coordJudged h s.part).coord.twoLeads = true ↔ conflict) := by
        rw [view, mark]
        exact ⟨isLeadView_leadViewFor _ _, fun two => ⟨other, two⟩, fun two => two.2⟩
      rw [coord]
      split <;> exact judged
    · refine ⟨_, _, isTwoLeadsObject apart two, exec_faultReport _ _ s quiet, ?_⟩
      change (formHealth (coordTakeRecord h s.part)).fc = (formHealth _).fc
      rw [fc, coordJudged_fc_of_new h s.part other two clear, ← report_eq]
    · change (formHealth (coordTakeRecord h s.part)).fc = (formHealth _).fc
      rw [fc, coordJudged_fc_of_old h s.part silent]
  · refine ⟨?_, ?_, (exec_queueOwnTelegram _ _ (by exact quiet)).trans ?_⟩
    · change (coordTakeRecord h s.part).coord.built = _
      rw [coord, if_neg changes, bulletinCounted, built]
    · change (coordTakeRecord h s.part).coord.timer = _
      rw [coord, if_neg changes, bulletinCounted, bulletinTime_eq, coordJudged_eq]
      rfl
    · have sent := coordTakeRecord_of_change h s.part changes
      rw [← fc] at sent
      unfold nextPart
      dsimp only [formHealth_coord]
      rw [coord, if_neg changes, ← sent]
  · change (coordTakeRecord h s.part).coord.built = _ ∧ (coordTakeRecord h s.part).coord.timer = _ ∧
      (coordTakeRecord h s.part).line = _
    rw [coordTakeRecord_eq, if_pos stays, coordJudged_eq]
    exact ⟨built, timer, rfl⟩
  · dsimp only [formHealth_reg]
    rw [coordTakeRecord_rest]
    exact ⟨rfl, rfl, rfl, rfl, rfl, rfl, rfl⟩

end Sys2Proof.Machine
end

section
/-! PROOFS. What the hand-ons of an event can do to a fan (`Drift`): an order withdrawn gives up a STARTING fan, a slot
freed starts a fan of the start queue, and the end of clearing clears the marks; every other fan stands. -/

namespace Sys2Proof.Machine

/-! ### The record of a fan -/

theorem fan?_num {p : Part} {n : Nat} {f : FanRec} (found : p.fan? n = some f) : f.e.num = n := by
  simpa using List.find?_some found

theorem find?_updWhere {α : Type} {k s : α → Bool} {g : α → α} (same : ∀ x, k (g x) = k x) (l : List α) :
    (updWhere s g l).find? k = (l.find? k).map fun x => if s x then g x else x := by
  have keeps (x : α) : k (if s x then g x else x) = k x := by
    split
    · exact same x
    · rfl
  unfold updWhere
  rw [List.find?_map]
  have comp : (k ∘ fun x => if s x = true then g x else x) = k := funext keeps
  rw [comp]

theorem fan?_onFan (m n : Nat) {g : FanRec → FanRec} (same : ∀ f, (g f).e = f.e) (p : Part) :
    (onFan m g p).fan? n = (p.fan? n).map fun f => if n = m then g f else f := by
  unfold Part.fan? onFan
  rw [find?_updWhere fun f => by rw [same]]
  cases found : p.fm.fans.find? fun f => f.e.num == n with
  | none => rfl
  | some f =>
    have num : f.e.num = n := fan?_num found
    simp [num]

/-! ### Counters -/

theorem le_bump (c : Counter) : c.toNat ≤ (bump c).toNat := by
  have small := c.isLt
  unfold bump satAdd
  split
  · rw [BitVec.toNat_ofNat]
    omega
  · change c.toNat ≤ 65535
    omega

/-- A report counts its own kind. -/
theorem report_counts_same (kind : FaultKind) (o : FaultObject) (p : Part) :
    (report kind o p).fc.counts[faultCode kind - 1]? = (p.fc.counts[faultCode kind - 1]?).map bump := by
  rw [report_counts, bumpCount, List.getElem?_modify_eq]
  rfl

/-- A report counts no other kind. -/
theorem report_counts_other {kind : FaultKind} {k : Nat} (other : k ≠ faultCode kind - 1) (o : FaultObject) (p : Part) :
    (report kind o p).fc.counts[k]? = p.fc.counts[k]? := by
  rw [report_counts, bumpCount, List.getElem?_modify_ne _ _ other.symm]

/-! ### Drift -/

/-- No hand-on of an event changes this fan, but for its marks: it is not STARTING, and cannot be started. -/
def Still (queue : List Nat) (f : FanRec) : Prop :=
  f.state ≠ .starting ∧ (f.state = .stopped → f.resting = true ∨ f.e.num ∉ queue)

/-- A fan is RUNNING. -/
def Runs (p : Part) : Prop := ∃ n f, p.fan? n = some f ∧ f.state = .running

/-- What the hand-ons of an event leave of the Fan Manager; while a fan is RUNNING no clearing ends (R146). -/
structure Drift (p q : Part) : Prop where
  rest  : q.fm = { q.fm with
    reach := p.fm.reach, zoneTemps := p.fm.zoneTemps, lastDemand := p.fm.lastDemand, unmatched := p.fm.unmatched,
    unexpected := p.fm.unexpected }
  queue : q.fm.queue.Sublist p.fm.queue
  fans  : ∀ n f, p.fan? n = some f → ∃ g, q.fan? n = some g ∧ g.e = f.e ∧
    (Still p.fm.queue f → g = { f with excluded := g.excluded, heat := g.heat })
  noEnd : Runs p → .clearingEnd ∉ p.handOns → .clearingEnd ∉ q.handOns ∧ q.fm.clearingSent = p.fm.clearingSent
  spacing : q.fm.record.state = .clearing → p.fm.record.state = .clearing ∧ q.fm.stopSpacing = p.fm.stopSpacing

theorem Drift.of_fm {p q : Part} (same : q.fm = p.fm)
    (handOns : .clearingEnd ∈ q.handOns → .clearingEnd ∈ p.handOns := by exact id) : Drift p q := by
  refine ⟨by rw [same], by rw [same], fun n f found => ⟨f, ?_, rfl, fun _ => rfl⟩, fun _ out => ⟨mt handOns out, by rw [same]⟩,
    fun clearing => ⟨by rwa [same] at clearing, by rw [same]⟩⟩
  unfold Part.fan? at *
  rw [same]
  exact found

theorem Drift.runs {p q : Part} (h : Drift p q) : Runs p → Runs q := by
  rintro ⟨n, f, found, running⟩
  obtain ⟨g, found_g, _, kept⟩ := h.fans n f found
  refine ⟨n, g, found_g, ?_⟩
  rw [kept ⟨by simp [running], by simp [running]⟩]
  exact running

/-- A fan that stands but for its marks stands after that too. -/
theorem Drift.still_of_mark {p q : Part} (h : Drift p q) {f g : FanRec}
    (same : g = { f with excluded := g.excluded, heat := g.heat }) (still : Still p.fm.queue f) : Still q.fm.queue g := by
  rw [same]
  exact ⟨still.1, fun stopped => (still.2 stopped).imp_right fun out mem => out (h.queue.subset mem)⟩

theorem Drift.refl (p : Part) : Drift p p := .of_fm rfl

theorem Drift.trans {p q r : Part} (h : Drift p q) (k : Drift q r) : Drift p r := by
  refine ⟨by rw [k.rest, h.rest], k.queue.trans h.queue, fun n f found => ?_, fun runs out => ?ended, fun clearing => ?timed⟩
  case timed =>
    obtain ⟨clearing_q, spacing_q⟩ := k.spacing clearing
    obtain ⟨clearing_p, spacing_p⟩ := h.spacing clearing_q
    exact ⟨clearing_p, spacing_q.trans spacing_p⟩
  case ended =>
    obtain ⟨out_q, sent_q⟩ := h.noEnd runs out
    obtain ⟨out_r, sent_r⟩ := k.noEnd (h.runs runs) out_q
    exact ⟨out_r, sent_r.trans sent_q⟩
  obtain ⟨g, found_g, entry_g, kept_g⟩ := h.fans n f found
  obtain ⟨u, found_u, entry_u, kept_u⟩ := k.fans n g found_g
  refine ⟨u, found_u, entry_u.trans entry_g, fun still => ?_⟩
  have same := kept_g still
  rw [kept_u (h.still_of_mark same still), same]


/-! ### The course of an event -/

/-- No request of `l` is for a fan that stands. -/
def AsksMoving (p : Part) (l : List HandOn) : Prop :=
  ∀ m kind, .orderRequest m kind ∈ l → ∀ f, p.fan? m = some f → ¬ Still p.fm.queue f

/-- A tag in QUARANTINE stands, and no other goes there. -/
def TagKept (g h : TagRec) : Prop := (g.state = .quarantine → h = g) ∧ (g.state ≠ .quarantine → h.state ≠ .quarantine)

/-- Every tag of the pool is kept so. -/
def TagsKept (p q : Part) : Prop := ∀ a k g, p.tag? a k = some g → ∃ h, q.tag? a k = some h ∧ TagKept g h

theorem TagsKept.of_tags {p q : Part} (same : q.ord.tags = p.ord.tags) : TagsKept p q :=
  fun a k g found => ⟨g, by unfold Part.tag? at *; rwa [same], fun _ => rfl, id⟩

theorem TagsKept.trans {p q r : Part} (h : TagsKept p q) (k : TagsKept q r) : TagsKept p r := by
  intro a tag g found
  obtain ⟨u, found_u, stays_u, out_u⟩ := h a tag g found
  obtain ⟨v, found_v, stays_v, out_v⟩ := k a tag u found_u
  refine ⟨v, found_v, fun quarantined => ?_, fun other => out_v (out_u other)⟩
  obtain rfl := stays_u quarantined
  exact stays_v quarantined

/-- A change of the first element that satisfies `s` changes at most what is found. -/
theorem find?_updFirst {α : Type} {k s : α → Bool} {g : α → α} (same : ∀ x, k (g x) = k x) {l : List α} {x : α}
    (found : l.find? k = some x) : (updFirst s g l).find? k = some x ∨ s x = true ∧ (updFirst s g l).find? k = some (g x) := by
  induction l with
  | nil => exact nomatch found
  | cons y rest ih =>
    unfold updFirst
    by_cases is_it : k y = true
    · obtain rfl : y = x := by simpa [List.find?_cons, is_it] using found
      split
      · next selected => exact .inr ⟨selected, by simp [same, is_it]⟩
      · exact .inl (by simp [is_it])
    · have later : rest.find? k = some x := by simpa [List.find?_cons, is_it] using found
      split
      · exact .inl (by simpa [List.find?_cons, same, is_it] using later)
      · simpa [List.find?_cons, is_it] using ih later

theorem takeTag_tags (a k : Nat) (p : Part) : TagsKept p (takeTag a k p) := by
  intro b l g found
  unfold takeTag
  rcases find?_updFirst (s := fun t => t.station == a && t.tag == k && t.state == .free)
    (g := fun t => { t with state := .busy, quarantine := none }) (fun _ => rfl) found with same | ⟨free, taken⟩
  · exact ⟨g, same, fun _ => rfl, id⟩
  · have state : g.state = .free := beq_iff_eq.mp (Bool.and_eq_true _ _ ▸ free).2
    exact ⟨_, taken, fun quarantined => absurd (state.symm.trans quarantined) (by decide), fun _ => by simp⟩

/-- A BUSY tag freed. -/
theorem freeTagOf_tags (r : OrderRec) (p : Part) : TagsKept p (freeTagOf r p) := by
  unfold freeTagOf tagToFree
  split
  · next tag _ =>
    split
    · next busy =>
      intro b l g found
      rcases find?_updFirst (s := fun t => t.station == r.station && t.tag == tag)
        (g := fun t => { t with state := .free, quarantine := none }) (fun _ => rfl) found with same | ⟨its, freed⟩
      · exact ⟨g, same, fun _ => rfl, id⟩
      · refine ⟨_, freed, fun quarantined => ?_, fun _ => by simp⟩
        have key : r.station = b ∧ tag = l := by
          have is_it : (g.station == b && g.tag == l) = true := List.find?_some (p := fun t : TagRec => t.station == b && t.tag == l) found
          simp only [Bool.and_eq_true, beq_iff_eq] at its is_it
          exact ⟨its.1.symm.trans is_it.1, its.2.symm.trans is_it.2⟩
        unfold tagBusy at busy
        rw [key.1, key.2, found] at busy
        simp [quarantined] at busy
    · exact .of_tags rfl
  · exact .of_tags rfl

/-- What one hand-on of an event does: a drift, which posts behind what waits, and counts only orders issued and withdrawn
and, of the faults, only TWO_LEADS. -/
structure Course (p q : Part) : Prop extends Drift p q where
  posts    : ∃ l, q.handOns = p.handOns ++ l ∧ AsksMoving p l
  counters : q.ord.counters = { p.ord.counters with
    issued := q.ord.counters.issued, withdrawn := q.ord.counters.withdrawn }
  withdrawn : p.ord.counters.withdrawn.toNat ≤ q.ord.counters.withdrawn.toNat
  counts   : ∀ k, k ≠ 8 → q.fc.counts[k]? = p.fc.counts[k]?
  tags     : TagsKept p q

theorem asksMoving_nil (p : Part) : AsksMoving p [] := fun _ _ mem => nomatch mem

/-- A change of other blocks than the Fan Manager. -/
theorem Course.of_fm {p q : Part} (same : q.fm = p.fm) (handOns : q.handOns = p.handOns := by rfl)
    (counters : q.ord.counters = { p.ord.counters with
      issued := q.ord.counters.issued, withdrawn := q.ord.counters.withdrawn } := by rfl)
    (withdrawn : p.ord.counters.withdrawn.toNat ≤ q.ord.counters.withdrawn.toNat := by exact Nat.le_refl _)
    (counts : ∀ k, k ≠ 8 → q.fc.counts[k]? = p.fc.counts[k]? := by exact fun _ _ => rfl)
    (tags : TagsKept p q := by exact .of_tags rfl) : Course p q :=
  ⟨.of_fm same (handOns ▸ id), ⟨[], by simp [handOns], asksMoving_nil p⟩, counters, withdrawn, counts, tags⟩

/-- A drift of the fans that posts nothing. -/
theorem Course.of_drift {p q : Part} (drift : Drift p q) (handOns : q.handOns = p.handOns := by rfl)
    (ord : q.ord = p.ord := by rfl) (fc : q.fc = p.fc := by rfl) : Course p q :=
  ⟨drift, ⟨[], by simp [handOns], asksMoving_nil p⟩, by rw [ord], by rw [ord], fun _ _ => by rw [fc],
    .of_tags (by rw [ord])⟩

theorem Course.refl (p : Part) : Course p p := .of_fm rfl

theorem Course.trans {p q r : Part} (h : Course p q) (k : Course q r) : Course p r := by
  obtain ⟨l, posted_l, moving_l⟩ := h.posts
  obtain ⟨m, posted_m, moving_m⟩ := k.posts
  refine ⟨h.toDrift.trans k.toDrift, ⟨l ++ m, by rw [posted_m, posted_l, List.append_assoc], fun n kind mem f found still => ?_⟩,
    by rw [k.counters, h.counters], h.withdrawn.trans k.withdrawn, fun n other => (k.counts n other).trans (h.counts n other),
    h.tags.trans k.tags⟩
  rcases List.mem_append.mp mem with mem | mem
  · exact moving_l n kind mem f found still
  · obtain ⟨g, found_g, _, kept_g⟩ := h.fans n f found
    exact moving_m n kind mem g found_g (h.still_of_mark (kept_g still) still)

/-- A request put behind the hand-ons of a course, for a fan that moves. -/
theorem Course.asking {p q : Part} (h : Course p q) {n : Nat} {kind : OrderKind}
    (moves : ∀ f, p.fan? n = some f → ¬ Still p.fm.queue f) : Course p (post (.orderRequest n kind) q) := by
  obtain ⟨l, posted, moving⟩ := h.posts
  refine ⟨⟨h.rest, h.queue, h.fans, fun runs out => ?_, ?_⟩, ⟨l ++ [.orderRequest n kind], ?_, fun m other mem f found => ?_⟩,
    h.counters, h.withdrawn, h.counts, h.tags⟩
  · obtain ⟨out, sent⟩ := h.noEnd runs out
    exact ⟨by simpa [post] using out, sent⟩
  · exact h.spacing
  · simp [post, posted]
  · rcases List.mem_append.mp mem with mem | mem
    · exact moving m other mem f found
    · obtain ⟨rfl, _⟩ : m = n ∧ other = kind := by simpa using mem
      exact moves f found

theorem Course.after {p q r : Part} (k : Course q r) (h : Course p q) : Course p r := h.trans k

theorem Course.ite {p : Part} {c : Prop} [Decidable c] {a b : Part} (ha : c → Course p a) (hb : Course p b) :
    Course p (if c then a else b) := by
  split
  · next h => exact ha h
  · exact hb

/-- A change of one fan that may change. -/
theorem onFan_course {n : Nat} {g : FanRec → FanRec} {p : Part} (same : ∀ f, (g f).e = f.e)
    (moves : ∀ f, p.fan? n = some f → ¬ Still p.fm.queue f) : Course p (onFan n g p) := by
  refine .of_drift ⟨rfl, .refl _, fun m f found => ⟨if m = n then g f else f, ?_, ?_, fun still => ?_⟩,
    fun _ out => ⟨out, rfl⟩, fun clearing => ⟨clearing, rfl⟩⟩
  · rw [fan?_onFan n m same, found]
    rfl
  · split
    · exact same f
    · rfl
  · split
    · next h => exact absurd still (moves f (h ▸ found))
    · rfl

/-- A change of the Fan Manager that leaves its fans, and at most shortens the queue. -/
theorem Course.of_fans {p q : Part} (fans : q.fm.fans = p.fm.fans) (queue : q.fm.queue.Sublist p.fm.queue)
    (rest : q.fm = { q.fm with
      reach := p.fm.reach, zoneTemps := p.fm.zoneTemps, lastDemand := p.fm.lastDemand, unmatched := p.fm.unmatched,
      unexpected := p.fm.unexpected } := by rfl)
    (sent : q.fm.clearingSent = p.fm.clearingSent := by rfl) (handOns : q.handOns = p.handOns := by rfl)
    (ord : q.ord = p.ord := by rfl) (fc : q.fc = p.fc := by rfl)
    (spacing : q.fm.record.state = .clearing → p.fm.record.state = .clearing ∧ q.fm.stopSpacing = p.fm.stopSpacing := by
      exact fun clearing => ⟨clearing, rfl⟩) : Course p q :=
  .of_drift ⟨rest, queue, fun n f found => ⟨f, by unfold Part.fan? at *; rwa [fans], rfl, fun _ => rfl⟩,
    fun _ out => ⟨handOns ▸ out, sent⟩, spacing⟩ handOns ord fc

/-! ### The gate -/

theorem pruneQueue_course (p : Part) : Course p (pruneQueue p) := .of_fans rfl List.filter_sublist

theorem formThrust_course (p : Part) : Course p (formThrust p) := .of_fans rfl (.refl _)

/-- A fan that is RUNNING holds the clearing open (R146). -/
theorem testClearing_of_runs {p : Part} (runs : Runs p) : testClearing p = p := by
  obtain ⟨n, f, found, running⟩ := runs
  have open_ : p.fm.fans.any holdsOpen = true := List.any_eq_true.mpr
    ⟨f, List.mem_of_find?_eq_some found, by unfold holdsOpen; rw [running]⟩
  exact if_neg (by simp [open_])

theorem testClearing_course (p : Part) : Course p (testClearing p) := by
  by_cases runs : Runs p
  · rw [testClearing_of_runs runs]
    exact .refl p
  · refine .ite (fun _ => ⟨⟨rfl, .refl _, fun n f found => ⟨f, found, rfl, fun _ => rfl⟩, fun r => absurd r runs, fun c => ⟨c, rfl⟩⟩,
      ⟨[.clearingEnd], rfl, fun _ _ mem => nomatch List.mem_singleton.mp mem⟩, rfl, Nat.le_refl _, fun _ _ => rfl, .of_tags rfl⟩) (.refl p)

theorem fanTail_course (p : Part) : Course p (fanTail p) :=
  (testClearing_course _).after ((formThrust_course _).after (pruneQueue_course p))

/-- Every fan of the start queue is eligible, or has been started. -/
def QueueStarts (p : Part) : Prop := ∀ n ∈ p.fm.queue, ∀ f, p.fan? n = some f → ¬ Still p.fm.queue f

theorem eligible_iff (r : IncidentRecord) (f : FanRec) : eligible r f = true ↔
    f.state = .stopped ∧ f.resting = false ∧ f.excluded = false ∧ f.heat = false ∧ 0 < (useful r f.e).1 := by
  unfold eligible
  simp [and_assoc]

theorem eligibleNum_iff (m : FanManager) (n : Nat) : eligibleNum m n = true ↔
    ∃ f, m.fans.find? (fun f => f.e.num == n) = some f ∧ eligible m.record f = true := by
  unfold eligibleNum
  split
  · next f found => simp [found]
  · next missing => simp [missing]

theorem pruneQueue_starts (p : Part) : QueueStarts (pruneQueue p) := by
  intro n mem f found still
  obtain ⟨g, found_g, ready⟩ := (eligibleNum_iff _ _).mp (List.mem_filter.mp mem).2
  obtain rfl : g = f := Option.some.inj (found_g.symm.trans found)
  obtain ⟨stopped, rested, _⟩ := (eligible_iff _ _).mp ready
  rcases still.2 stopped with resting | out
  · exact absurd resting (by simp [rested])
  · exact out (fan?_num found ▸ mem)

theorem grantOne_course {p : Part} (starts : QueueStarts p) : Course p (grantOne p) ∧ QueueStarts (grantOne p) := by
  unfold grantOne
  split
  · exact ⟨.refl p, starts⟩
  · next n rest queue =>
    split
    · exact ⟨.refl p, starts⟩
    · next f found =>
      split
      · exact ⟨.refl p, starts⟩
      · next d _ =>
        split
        · have head : n ∈ p.fm.queue := by simp [queue]
          have fewer : rest.Sublist p.fm.queue := queue ▸ List.sublist_cons_self n rest
          constructor
          · -- the head of the queue is started before it leaves the queue
            have started : Course p { onFan n (enter .starting (some d)) p with fm := {
                (onFan n (enter .starting (some d)) p).fm with
                queue := rest, slots := takeSlot n p.control.gate p.fm.slots } } :=
              .of_drift ⟨rfl, fewer, (onFan_course (p := p) (g := enter .starting (some d)) (fun _ => rfl) (starts n head)).fans,
                fun _ out => ⟨out, rfl⟩, fun clearing => ⟨clearing, rfl⟩⟩
            exact started.asking (starts n head)
          · intro m mem g found_g still
            have located : (onFan n (enter .starting (some d)) p).fan? m = some g := found_g
            rw [fan?_onFan n m (g := enter .starting (some d)) (fun _ => rfl)] at located
            obtain ⟨f', found', made⟩ := Option.map_eq_some_iff.mp located
            split at made
            · exact still.1 (made ▸ rfl)
            · subst made
              exact starts m (fewer.subset mem) _ found'
                ⟨still.1, fun stopped => .inl ((still.2 stopped).resolve_right fun out => out (fan?_num found' ▸ mem))⟩
        · exact ⟨.refl p, starts⟩

theorem grants_course {p : Part} (starts : QueueStarts p) : Course p (grants p) := by
  obtain ⟨d1, s1⟩ := grantOne_course starts
  obtain ⟨d2, s2⟩ := grantOne_course s1
  obtain ⟨d3, s3⟩ := grantOne_course s2
  exact (((grantOne_course s3).1.after d3).after d2).after d1

theorem releaseSlots_course (p : Part) : Course p (releaseSlots p) := by
  unfold releaseSlots
  extract_lets slots freed m q
  have pruned : Course p q := .of_fans rfl List.filter_sublist
  exact .ite (fun _ => (grants_course (pruneQueue_starts _)).after pruned) pruned

/-! ### Orders withdrawn, served and requested -/

theorem becomeUnknown_course {n : Nat} {f : FanRec} {p : Part} (found : p.fan? n = some f) (starting : f.state = .starting) :
    Course p (onFan n becomeUnknown p) :=
  onFan_course becomeUnknown_e fun g found_g still => by
    obtain rfl : f = g := Option.some.inj (found.symm.trans found_g)
    exact still.1 starting

/-- An order withdrawn gives up a fan that is STARTING (R155). -/
theorem takeOutcome_withdrawn_course (n : Nat) {kind : OrderKind} (start : isStart kind = true) (p : Part) :
    Course p (takeOutcome n kind .withdrawn p) := by
  unfold takeOutcome
  split
  · exact .refl p
  · next f found =>
    have no_stop : (kind == .stop) = false := by cases kind <;> simp_all [isStart]
    dsimp only
    rw [if_neg (by simp [no_stop])]
    unfold judgeOutcome
    dsimp only
    refine (fanTail_course _).after (.ite (fun cond => ?_) (.refl p))
    have starting : f.state = .starting := by simpa [start] using cond
    rw [fan?_num found]
    refine ((releaseSlots_course _).after (becomeUnknown_course found starting)).asking fun g found_g still => ?_
    obtain rfl : f = g := Option.some.inj (found.symm.trans found_g)
    exact still.1 starting

theorem freeTagOf_fm (r : OrderRec) (p : Part) : (freeTagOf r p).fm = p.fm := by
  unfold freeTagOf tagToFree
  repeat' split
  all_goals rfl

theorem freeTagOf_course (r : OrderRec) (p : Part) : Course p (freeTagOf r p) := by
  have tags := freeTagOf_tags r p
  unfold freeTagOf tagToFree at *
  repeat' split
  all_goals exact .of_fm rfl rfl rfl (Nat.le_refl _) (fun _ _ => rfl) (by simp_all)

theorem reportEmpty_course (p : Part) : Course p (reportEmpty p) := .ite (fun _ => testClearing_course p) (.refl p)

theorem finishRec_course {r : OrderRec} {outcome : OrderOutcome} {p : Part}
    (taken : Course p (takeOutcome r.fan r.kind outcome p)) : Course p (finishRec r outcome p) := by
  unfold finishRec
  extract_lets q m u
  have removed : Course p u := taken.trans (.of_fm rfl)
  split
  · exact removed
  · exact removed.trans (.of_fm rfl)

/-- An order withdrawn is counted. -/
theorem countWithdrawn_course (p : Part) :
    Course p (countOrder (fun c => { c with withdrawn := bump c.withdrawn }) p) :=
  .of_fm rfl rfl rfl (le_bump _)

theorem withdrawRec_course {r : OrderRec} (start : isStart r.kind = true) (p : Part) : Course p (withdrawRec r p) := by
  unfold withdrawRec
  exact ((reportEmpty_course _).after (finishRec_course (takeOutcome_withdrawn_course _ start _))).after
    ((freeTagOf_course r p).trans (countWithdrawn_course _))

theorem startCheck_isStart {r : OrderRec} {p : Part} (fails : startCheck r p = false) : isStart r.kind = true := by
  unfold startCheck at fails
  split at fails
  · assumption
  · exact nomatch fails

theorem sendOrder_fm (r : OrderRec) (tag : Nat) (p : Part) : (sendOrder r tag p).fm = p.fm := by
  unfold sendOrder
  dsimp only
  rw [queueOwn_eq]
  rfl

theorem sendOrder_course (r : OrderRec) (tag : Nat) (p : Part) : Course p (sendOrder r tag p) := by
  unfold sendOrder
  dsimp only
  rw [queueOwn_eq]
  exact .of_fm rfl

theorem issue_course (r : OrderRec) (tag : Nat) (p : Part) : Course p (issue r tag p) := by
  have sent : Course p (sendOrder r tag (takeTag r.station tag p)) := (sendOrder_course _ _ _).after (.of_fm rfl rfl rfl (Nat.le_refl _) (fun _ _ => rfl) (takeTag_tags _ _ p))
  unfold issue
  extract_lets q u
  repeat' split
  · exact sent.trans (.of_fm rfl)
  · exact sent.trans (.of_fm rfl)
  · exact sent

theorem serveWith_course (fuel : Nat) (p : Part) : Course p (serveWith fuel p) := by
  induction fuel generalizing p with
  | zero => exact .refl p
  | succ fuel ih =>
    unfold serveWith
    split
    · split
      · exact .refl p
      · next r t _ =>
        refine (ih _).after ?_
        split
        · exact (issue_course _ _ _).after (.of_fm rfl)
        · next fails =>
          rw [Bool.or_eq_true, not_or, Bool.not_eq_true, Bool.not_eq_true] at fails
          have start : isStart r.kind = true := startCheck_isStart fails.2
          exact (withdrawRec_course start _).after (.of_fm rfl)
    · exact .refl p

theorem serve_course (p : Part) : Course p (serve p) := serveWith_course _ p

theorem dropStart_course (n : Nat) (old new : OrderKind) (p : Part) : Course p (dropStart n old new p) := by
  refine .ite (fun dropped => ?_) (.refl p)
  exact (takeOutcome_withdrawn_course n (by simpa using (Bool.and_eq_true _ _ ▸ dropped).1) _).after
    (countWithdrawn_course p)

theorem requestOrder_course (n : Nat) (kind : OrderKind) (p : Part) : Course p (requestOrder n kind p) := by
  unfold requestOrder
  split
  · split
    · exact .refl p
    · exact (serve_course _).after (.of_fm rfl)
  · dsimp only
    split
    · split
      · exact .of_fm rfl
      · exact (dropStart_course _ _ _ _).after (.of_fm rfl)
    · exact ((serve_course _).after (dropStart_course _ _ _ _)).after (.of_fm rfl)

/-! ### The end of clearing -/

/-- A change of the marks of every fan. -/
theorem marks_course {p q : Part} {x h : FanRec → Bool}
    (fans : q.fm.fans = p.fm.fans.map fun f => { f with excluded := x f, heat := h f })
    (queue : q.fm.queue.Sublist p.fm.queue)
    (rest : q.fm = { q.fm with
      reach := p.fm.reach, zoneTemps := p.fm.zoneTemps, lastDemand := p.fm.lastDemand, unmatched := p.fm.unmatched,
      unexpected := p.fm.unexpected } := by rfl)
    (sent : q.fm.clearingSent = p.fm.clearingSent := by rfl) (handOns : q.handOns = p.handOns := by rfl)
    (ord : q.ord = p.ord := by rfl) (fc : q.fc = p.fc := by rfl)
    (spacing : q.fm.record.state = .clearing → p.fm.record.state = .clearing ∧ q.fm.stopSpacing = p.fm.stopSpacing := by
      exact fun clearing => ⟨clearing, rfl⟩) : Course p q := by
  refine .of_drift ⟨rest, queue, fun n f found => ⟨{ f with excluded := x f, heat := h f }, ?_, rfl, fun _ => rfl⟩,
    fun _ out => ⟨handOns ▸ out, sent⟩, spacing⟩ handOns ord fc
  unfold Part.fan? at *
  rw [fans, List.find?_map]
  exact (congrArg _ found).trans rfl

theorem judgeHeat_course (k : FanRec → Bool) (p : Part) : Course p (judgeHeat k p) := by
  have marked : (judgeHeat k p).fm.fans = p.fm.fans.map fun f => { f with
      excluded := f.excluded,
      heat := if k f then f.heat || isExposed p.fm.record (zoneTempOf p.fm f.e.zone) f.e else f.heat } := by
    refine List.map_congr_left fun f _ => ?_
    split <;> rfl
  exact marks_course marked (.refl _)

/-- A record in QUIET or CLEARING, or any other but CONTROL, asks no stop of a fan outside CLEARING. -/
theorem fansTakeRecord_course (h : RecordHandOn) (p : Part) (elsewhere : h.record.state ≠ .control)
    (open_ : h.record.state ≠ .clearing) : Course p (fansTakeRecord h p) := by
  unfold fansTakeRecord
  extract_lets old new idChanged moved entering m0 p1 p2 p3 p4 p5 p6 p7 p8 m8 p9
  have h1 : Course p p1 := .of_fans rfl (.refl _) rfl rfl rfl rfl rfl fun clearing => absurd clearing open_
  have h2 : Course p1 p2 := marks_course (h := fun f => f.heat) rfl (.refl _)
  have h3 : Course p2 p3 := .ite (fun _ => marks_course (x := fun f => f.excluded) rfl (.refl _)) (.refl _)
  have h4 : Course p3 p4 := .ite (fun _ => judgeHeat_course _ _) (.refl _)
  have h5 : Course p4 p5 := .ite (fun _ => .of_fans rfl (.refl _)) (.refl _)
  have h6 : Course p5 p6 := .ite (fun _ => .of_fans rfl (List.nil_sublist _)) (pruneQueue_course _)
  have h7 : Course p6 p7 := formThrust_course _
  have h8 : Course p7 p8 := .ite (fun c => absurd c (by simp [new, elsewhere])) (.refl _)
  have h18 : Course p1 p8 := ((((((h8.after h7).after h6).after h5).after h4).after h3).after h2)
  have h9 : Course p8 p9 := .ite (fun c => absurd c (by simp [new, open_])) (.of_fans rfl (.refl _) rfl rfl rfl rfl rfl
    fun clearing => absurd (h18.spacing clearing).1 open_)
  exact ((h9.trans (testClearing_course p9)).after h18).after h1

theorem coordTakeRecord_fm (h : RecordHandOn) (p : Part) : (coordTakeRecord h p).fm = p.fm := by
  rw [coordTakeRecord_rest]

/-- Of a part, only the controller and the count of orders chosen differ. -/
def Aside (p q : Part) : Prop := q = { p with ctl := q.ctl, choice := q.choice }

theorem Aside.course {p q : Part} (h : Aside p q) : Course p q :=
  .of_fm (by rw [h]) (by rw [h]) (by rw [h]) (by rw [h]) (by rw [h]; exact fun _ _ => rfl)
    (.of_tags (by rw [h]))

theorem departed_aside (h : RecordHandOn) (p : Part) (elsewhere : h.record.state ≠ .control) :
    Aside p (ctlTakeRecord h p) := by
  unfold ctlTakeRecord
  extract_lets old new m0 p1 m1 p2 p3
  rw [if_neg (by simp [new, elsewhere])]
  have h2 : Aside p p2 := by
    unfold p2
    split <;> rfl
  unfold p3
  unfold Aside at *
  split
  all_goals
    rw [h2]
    rfl

theorem takeDemand_of_elsewhere (d : Nat) {p : Part} (elsewhere : inControl p = false) : takeDemand d p = p :=
  if_neg (by simp [elsewhere])

theorem formDemand_eq (start : ComputeStart) (p : Part) : formDemand start p = { p with ctl := (formDemand start p).ctl } := by
  unfold formDemand
  extract_lets own period
  split <;> rfl

/-- A controller that takes a record outside CONTROL leaves the Fan Manager as it is (R88, R138). -/
theorem ctlMeetsRecord_aside (h : RecordHandOn) (p : Part) (elsewhere : h.record.state ≠ .control) :
    Aside p (ctlMeetsRecord h p) := by
  unfold ctlMeetsRecord
  split
  · next early =>
    have outside : inControl p = false := by
      simp only [Bool.and_eq_true, bne_iff_ne] at early
      simpa [inControl] using early.1.2
    dsimp only
    unfold Aside
    rw [departed_aside _ _ elsewhere]
    split
    · rfl
    · unfold periodExpires compute
      split
      · split
        · rfl
        · dsimp only
          rw [takeDemand_of_elsewhere, formDemand_eq]
          · rfl
          · rw [formDemand_eq]
            exact outside
      · rfl
  · exact departed_aside _ _ elsewhere

/-- The Coordinator reports at most TWO_LEADS (R180). -/
theorem coordTakeRecord_counts (h : RecordHandOn) (p : Part) {k : Nat} (other : k ≠ 8) :
    (coordTakeRecord h p).fc.counts[k]? = p.fc.counts[k]? := by
  have judged : (coordTakeRecord h p).fc.counts = (coordJudged h p).fc.counts :=
    (congrArg FaultCapture.counts (coordTakeRecord_fc h p) :)
  rw [judged]
  by_cases new : (h.record.id ≠ p.coord.heldId ∧ Rule.Conflict h.record.id h.record.role p.coord.peers) ∧
      p.coord.twoLeads = false
  · obtain ⟨⟨differs, conflict⟩, clear⟩ := new
    rw [coordJudged_fc_of_new h p differs conflict clear]
    exact report_counts_other other _ p
  · rw [coordJudged_fc_of_old h p new]

theorem coordTakeRecord_course (h : RecordHandOn) (p : Part) : Course p (coordTakeRecord h p) := by
  have ord : (coordTakeRecord h p).ord = p.ord := by rw [coordTakeRecord_rest]
  exact .of_fm (coordTakeRecord_fm h p) (by rw [coordTakeRecord_rest]) (by rw [ord]) (by rw [ord])
    (fun _ => coordTakeRecord_counts h p) (.of_tags (by rw [ord]))

theorem deliverRecord_course (h : RecordHandOn) (p : Part) (elsewhere : h.record.state ≠ .control)
    (open_ : h.record.state ≠ .clearing) : Course p (deliverRecord h p) := by
  have f (q : Part) : Course q (fansTakeRecord h q) := fansTakeRecord_course h q elsewhere open_
  have c (q : Part) : Course q (ctlMeetsRecord h q) := (ctlMeetsRecord_aside h q elsewhere).course
  have s := coordTakeRecord_course h
  have chosen : Course p (choose 6 p).2 := .of_fm rfl
  unfold deliverRecord
  dsimp only
  split
  · exact (((s _).after (c _)).after (f _)).after chosen
  · exact (((c _).after (s _)).after (f _)).after chosen
  · exact (((s _).after (f _)).after (c _)).after chosen
  · exact (((f _).after (s _)).after (c _)).after chosen
  · exact (((c _).after (f _)).after (s _)).after chosen
  · exact (((f _).after (c _)).after (s _)).after chosen

theorem putRecord_course (new : IncidentRecord) (p : Part) (elsewhere : new.state ≠ .control)
    (open_ : new.state ≠ .clearing) : Course p (putRecord new p) := by
  unfold putRecord
  extract_lets old stored m0 p1 p2 m2 p3
  have h2 : Course p p2 := by
    unfold p2
    split <;> exact .of_fm rfl
  have h3 : Course p2 p3 := by
    unfold p3
    split <;> exact .of_fm rfl
  refine (Course.ite (fun _ => deliverRecord_course _ _ ?_ ?_) (.refl _)).after (h3.after h2)
  · exact markControlled_state old new ▸ elsewhere
  · exact markControlled_state old new ▸ open_

theorem takeClearingEnd_course (p : Part) : Course p (takeClearingEnd p) := by
  refine .ite (fun _ => ?_) (.refl p)
  exact (putRecord_course _ _ (by simp [IncidentRecord.empty]) (by simp [IncidentRecord.empty])).after (.of_fm rfl)

/-! ### The end of an event -/

theorem takeHandOn_course (h : HandOn) (p : Part) : Course p (takeHandOn h p) := by
  cases h
  · exact requestOrder_course _ _ p
  · exact takeClearingEnd_course p

theorem settle_drift (n : Nat) (p : Part) : Drift p (settle takeHandOn n p) := by
  induction n generalizing p with
  | zero => exact .refl p
  | succ n ih =>
    unfold settle
    split
    · exact .refl p
    · next h rest waiting =>
      have taken : Drift p { p with handOns := rest } := .of_fm rfl (waiting ▸ List.mem_cons_of_mem h)
      exact (taken.trans (takeHandOn_course h _).toDrift).trans (ih _)

/-- The end of an event. -/
theorem finish_drift (p : Part) : Drift p (finish p) := (settle_drift settleBound p).trans (.of_fm rfl nofun)

end Sys2Proof.Machine
end

section
/-! PROOFS. The law and the computations of the Airflow Controller (R87 to R101): the model's arithmetic is that of the
rules, a computation in LOCAL or LEAD is `Rule.inLocal` or `Rule.inLead`, and the demand handed on leaves the
controller as it is. -/

namespace Sys2Proof.Machine

/-! ### The arithmetic of the law (R92, R93, R96) -/

theorem clamp_eq {lo hi : Int} (order : lo ≤ hi) (x : Int) : clamp lo hi x = max lo (min hi x) := by
  unfold clamp
  split_ifs <;> omega

theorem roundDiv_sixteen (x : Int) : roundDiv x 16 = (if x < 0 then -1 else 1) * ((2 * x.natAbs + 16) / 32 : Nat) := by
  unfold roundDiv
  split_ifs <;> simp

theorem velocityError_eq {t : ControlTable} {r : IncidentRecord} {heat : Nat} {dir : Direction} (vm : Int)
    (class_ : r.heat = some heat) (direction : r.dir = some dir) :
    velocityError t r vm = Rule.error t heat dir vm := by
  have sign : dirSign r = match (generalizing := false) dir with | .ab => 1 | .ba => -1 := by
    unfold dirSign
    cases dir <;> rw [direction]
  unfold velocityError Rule.error heatClass
  rw [class_, sign, clamp_eq (by decide)]
  rfl

theorem pTerm_eq (t : ControlTable) (e : Int) : pTerm t e = Rule.pTerm t e := roundDiv_sixteen _

theorem boundIntegral_eq (a : Nat) (i : Int) : boundIntegral a i = Rule.bounded a i := clamp_eq (by omega) i

theorem law_eq (c : ControlTable) (a : Nat) (e pt i : Int) :
    (stepIntegral a c.ki e pt i, lawDemand a pt (stepIntegral a c.ki e pt i)) = Rule.law c a e pt i := by
  have kept : stepIntegral a c.ki e pt i = (Rule.law c a e pt i).1 := by
    unfold stepIntegral Rule.law
    dsimp only
    rw [boundIntegral_eq]
    simp only [Bool.or_eq_true, Bool.and_eq_true, decide_eq_true_eq]
    rfl
  refine Prod.ext kept ?_
  dsimp only
  rw [kept]
  exact congrArg _ (clamp_eq (by omega) _)

theorem bounded_natAbs (a : Nat) (i : Int) : (Rule.bounded a i).natAbs ≤ 256 * a := by
  unfold Rule.bounded
  omega

/-! ### A computation (R88, R94) -/

section
variable (p : Part) (a : Nat)

theorem judgeVelocity_of_lost (start : ComputeStart) (lost : p.meas.quality = .lost) : judgeVelocity p a start =
    if start = .first ∨ p.ctl.condition = .openLoop then openLoopResult p a
    else if p.ctl.condition = .held then heldResult p a p.ctl.velocityHold
    else heldResult p a (arm p.now (1000 * p.control.velocityHold)) := by
  unfold judgeVelocity
  rw [lost]
  cases start <;> cases condition : p.ctl.condition <;> rfl

theorem judgeVelocity_of_not_lost (start : ComputeStart) (good : p.meas.quality ≠ .lost) :
    judgeVelocity p a start = runLaw p a (decide (start = .transfer ∨ p.ctl.condition ≠ .ok)) := by
  unfold judgeVelocity
  rw [if_neg (by simpa using good)]
  congr 1
  rw [Bool.eq_iff_iff]
  simp

/-- The demand is at most the A that the computation uses, and I is within its bound. -/
theorem judgeVelocity_within (start : ComputeStart) :
    (judgeVelocity p a start).demand ≤ a ∧ (judgeVelocity p a start).integral.natAbs ≤ 256 * a := by
  by_cases lost : p.meas.quality = .lost
  · rw [judgeVelocity_of_lost p a start lost]
    split_ifs <;> exact ⟨Nat.min_le_right _ _, by
      dsimp only [openLoopResult, heldResult]
      rw [boundIntegral_eq]
      exact bounded_natAbs _ _⟩
  · rw [judgeVelocity_of_not_lost p a start lost]
    refine ⟨?_, ?_⟩
    · dsimp only [runLaw, lawDemand]
      rw [clamp_eq (by omega)]
      omega
    · dsimp only [runLaw, stepIntegral]
      rw [boundIntegral_eq]
      exact bounded_natAbs _ _

/-- What a computation leaves in the controller but for the demands handed on. -/
def lawTaken (start : ComputeStart) : AirflowController :=
  let r := judgeVelocity p a start
  { p.ctl with
    condition := r.condition, integral := r.integral, lastP := r.lastP, velocityHold := r.holdTimer, lastD := r.demand,
    boundA := a, period := arm p.now (1000 * p.control.period) }

theorem lawTaken_eq (start : ComputeStart) {heat : Nat} {dir : Direction} (class_ : p.ctl.record.heat = some heat)
    (direction : p.ctl.record.dir = some dir) : lawTaken p a start = Rule.computed p heat dir a start p.ctl := by
  unfold lawTaken Rule.computed
  by_cases lost : p.meas.quality = .lost
  · rw [judgeVelocity_of_lost p a start lost]
    dsimp only
    rw [if_pos lost]
    have heatClass : heatClass p.ctl.record = heat := by
      unfold heatClass
      rw [class_]
    split_ifs
    · dsimp only [openLoopResult]
      rw [boundIntegral_eq, heatClass]
      rfl
    · dsimp only [heldResult]
      rw [boundIntegral_eq]
      rfl
    · dsimp only [heldResult]
      rw [boundIntegral_eq]
      rfl
  · rw [judgeVelocity_of_not_lost p a start lost]
    dsimp only
    rw [if_neg lost]
    dsimp only [runLaw]
    rw [velocityError_eq _ class_ direction, pTerm_eq]
    have from_ : (if decide (start = .transfer ∨ p.ctl.condition ≠ .ok) = true
        then transferIntegral a p.ctl.lastD (Rule.pTerm p.control (Rule.error p.control heat dir p.meas.vm))
        else p.ctl.integral) = if start = .transfer ∨ p.ctl.condition ≠ .ok
        then Rule.bounded a (256 * ((p.ctl.lastD : Int) - Rule.pTerm p.control (Rule.error p.control heat dir p.meas.vm)))
        else p.ctl.integral := by
      simp only [decide_eq_true_eq, transferIntegral, boundIntegral_eq]
    rw [from_, ← law_eq]
    rfl

end

/-! ### The peers presented (R183) -/

theorem insertBy_map {α β : Type} (lt : β → β → Bool) (v : α → β) (x : α) (l : List α) :
    insertBy lt (v x) (l.map v) = (insertBy (fun a b => lt (v a) (v b)) x l).map v := by
  induction l with
  | nil => rfl
  | cons y l ih =>
    simp only [List.map_cons, insertBy]
    split
    · rfl
    · rw [ih, List.map_cons]

theorem sortBy_map {α β : Type} (lt : β → β → Bool) (v : α → β) (l : List α) :
    sortBy lt (l.map v) = (sortBy (fun a b => lt (v a) (v b)) l).map v := by
  have all : ∀ (l acc : List α), (l.map v).foldl (fun acc x => insertBy lt x acc) (acc.map v) =
      (l.foldl (fun acc x => insertBy (fun a b => lt (v a) (v b)) x acc) acc).map v := by
    intro l
    induction l with
    | nil => exact fun _ => rfl
    | cons x l ih =>
      intro acc
      rw [List.map_cons, List.foldl_cons, List.foldl_cons, insertBy_map, ih]
  exact all l []

/-- A peer that R183 presents for an id. -/
def isPresented (id : Nat) (q : PeerRec) : Bool :=
  q.fresh && q.held.any fun b => b.id == id && b.state == .control && b.role != .lead

/-- What the Coordinator presents of a peer record. -/
def presentedAs (q : PeerRec) : Presented := ⟨q.address, Rule.published q⟩

/-- The peer records presented for an id, in ascending node address. -/
def presentedPeers (id : Nat) (peers : List PeerRec) : List PeerRec :=
  sortBy (fun a b => a.address < b.address) (peers.filter (isPresented id))

theorem present_eq (id : Nat) (q : PeerRec) :
    present id q = if isPresented id q then some (presentedAs q) else none := by
  unfold present isPresented presentedAs Rule.published
  cases q.held with
  | none => simp
  | some b =>
    simp only [Option.any_some, Option.map_some, Option.getD_some, ← Bool.and_assoc]

theorem presented_eq (id : Nat) (peers : List PeerRec) :
    presented id peers = (presentedPeers id peers).map presentedAs := by
  have listed : peers.filterMap (present id) = (peers.filter (isPresented id)).map presentedAs := by
    rw [← List.filterMap_eq_map, List.filterMap_filter]
    refine List.filterMap_congr fun q _ => ?_
    rw [present_eq]
    rfl
  unfold presented presentedPeers
  rw [listed, sortBy_map]
  rfl

theorem isPresented_iff (id : Nat) (q : PeerRec) : isPresented id q = true ↔
    q.fresh = true ∧ ∃ b, q.held = some b ∧ b.id = id ∧ b.state = .control ∧ b.role ≠ .lead := by
  unfold isPresented
  cases q.held <;> simp [and_assoc]

theorem presentedPeers_presented (id : Nat) {peers : List PeerRec} (apart : (peers.map (·.address)).Nodup) :
    Rule.Presented id peers (presentedPeers id peers) := by
  have perm : (presentedPeers id peers).Perm (peers.filter (isPresented id)) := sortBy_perm _ _
  constructor
  · have distinct : ((presentedPeers id peers).map (·.address)).Nodup :=
      (perm.map _).nodup_iff.mpr ((List.filter_sublist.map _).nodup apart)
    have sorted := sortBy_pairwise (lt := fun a b : PeerRec => decide (a.address < b.address)) (by simp; omega)
      (by simp; omega) (peers.filter (isPresented id))
    refine (sorted.and (List.pairwise_map.mp distinct)).imp fun ⟨order, differ⟩ => ?_
    simp only [decide_eq_false_iff_not] at order
    omega
  · intro q
    rw [perm.mem_iff, List.mem_filter, isPresented_iff]

end Sys2Proof.Machine
end

section
/-! PROOFS. The computations of the control period (R87 to R99): LOCAL, LEAD and SHARE. -/

namespace Sys2Proof.Machine

/-! ### The demand formed and handed on -/

section
variable (start : ComputeStart) (p : Part)

theorem formDemand_of_local (mode : p.ctl.mode = .localMode) : (formDemand start p).ctl =
    { lawTaken p p.fm.a start with ownDemand := (lawTaken p p.fm.a start).lastD } := by
  unfold formDemand
  rw [mode]
  rfl

theorem formDemand_of_share (mode : p.ctl.mode = .share ∨ p.ctl.mode = .shareHeld) : (formDemand start p).ctl =
    { p.ctl with
      integral := Rule.bounded p.fm.a p.ctl.integral, lastD := min p.ctl.lastShare p.fm.a,
      ownDemand := min p.ctl.lastShare p.fm.a, boundA := p.fm.a,
      period := arm p.now (1000 * p.control.period) } := by
  unfold formDemand
  rw [← boundIntegral_eq]
  rcases mode with mode | mode <;> rw [mode]

theorem formDemand_of_idle (mode : p.ctl.mode = .idle) : formDemand start p = p := by
  unfold formDemand
  rw [mode]

/-- The A_sum of R98. -/
def leadSum : Nat := p.fm.a + ((presented p.ctl.record.id p.coord.peers).map (·.available)).sum

/-- The shares of R99. -/
def leadShares : List ShareEntry :=
  (presented p.ctl.record.id p.coord.peers).map
    (shareOf (judgeVelocity p (leadSum p) start).demand (leadSum p))

theorem formDemand_of_lead (mode : p.ctl.mode = .lead) : (formDemand start p).ctl =
    { lawTaken p (leadSum p) start with
      aSum := leadSum p, shares := leadShares start p,
      ownDemand := min p.fm.a
        ((judgeVelocity p (leadSum p) start).demand - ((leadShares start p).map (·.share)).sum) } := by
  have own (total : Nat) : (clamp 0 p.fm.a ((total : Int) - (((leadShares start p).map (·.share)).sum : Nat))).toNat =
      min p.fm.a (total - ((leadShares start p).map (·.share)).sum) := by
    rw [clamp_eq (by omega)]
    omega
  unfold formDemand
  rw [mode]
  dsimp only
  rw [sumOf_eq, sumOf_eq, ← own]
  rfl

variable {heat : Nat} {dir : Direction}

theorem formDemand_inLocal (mode : p.ctl.mode = .localMode) (class_ : p.ctl.record.heat = some heat)
    (direction : p.ctl.record.dir = some dir) : (formDemand start p).ctl = Rule.inLocal p heat dir start p.ctl := by
  rw [formDemand_of_local start p mode, lawTaken_eq p _ start class_ direction]
  rfl

theorem leadSum_eq : leadSum p = p.fm.a +
    ((presentedPeers p.ctl.record.id p.coord.peers).map Rule.published).sum := by
  rw [leadSum, presented_eq, List.map_map]
  rfl

theorem formDemand_inLead (mode : p.ctl.mode = .lead) (class_ : p.ctl.record.heat = some heat)
    (direction : p.ctl.record.dir = some dir) : (formDemand start p).ctl =
      Rule.inLead p heat dir (presentedPeers p.ctl.record.id p.coord.peers) start p.ctl := by
  have total : (judgeVelocity p (leadSum p) start).demand = (Rule.computed p heat dir (leadSum p) start p.ctl).lastD := by
    rw [← lawTaken_eq p _ start class_ direction]
    rfl
  have shares : leadShares start p = (presentedPeers p.ctl.record.id p.coord.peers).map fun q =>
      ⟨q.address, (Rule.computed p heat dir (leadSum p) start p.ctl).lastD * Rule.published q / leadSum p⟩ := by
    rw [leadShares, presented_eq, List.map_map, total]
    rfl
  rw [formDemand_of_lead start p mode, lawTaken_eq p _ start class_ direction, shares, total, leadSum_eq]
  rfl

end

/-- The floors of the parts of a total are together at most the total (R99). -/
theorem shares_le_total {total sum : Nat} (parts : List Nat) (within : parts.sum ≤ sum) :
    (parts.map fun k => total * k / sum).sum ≤ total := by
  by_cases empty : sum = 0
  · have none_left : (parts.map fun k => total * k / sum) = parts.map fun _ => 0 := by simp [empty]
    rw [none_left]
    simp
  · have below : (parts.map fun k => total * k / sum).sum * sum ≤ total * parts.sum := by
      clear within
      induction parts with
      | nil => simp
      | cons k parts ih =>
        simp only [List.map_cons, List.sum_cons, Nat.add_mul, Nat.mul_add]
        exact Nat.add_le_add (Nat.div_mul_le_self _ _) ih
    exact Nat.le_of_mul_le_mul_right (below.trans (Nat.mul_le_mul_left _ within)) (Nat.pos_of_ne_zero empty)

/-! ### The demand at the Fan Manager -/

theorem askStop_lastDemand (n : Nat) (p : Part) : (askStop n p).fm.lastDemand = p.fm.lastDemand := by
  unfold askStop
  repeat' split
  all_goals rfl

theorem stopRule_lastDemand (p : Part) : (stopRule p).fm.lastDemand = p.fm.lastDemand := by
  unfold stopRule
  repeat' split
  all_goals first
    | rfl
    | exact askStop_lastDemand _ p

theorem grantOne_lastDemand (p : Part) : (grantOne p).fm.lastDemand = p.fm.lastDemand := by
  unfold grantOne
  repeat' split
  all_goals rfl

theorem takeDemand_lastDemand (d : Nat) {p : Part} (inside : inControl p = true) : (takeDemand d p).fm.lastDemand = d := by
  have granted (q : Part) : (grants q).fm.lastDemand = q.fm.lastDemand := by
    unfold grants
    rw [grantOne_lastDemand, grantOne_lastDemand, grantOne_lastDemand, grantOne_lastDemand]
  unfold takeDemand
  rw [if_pos inside]
  dsimp only [formThrust, pruneQueue]
  rw [granted]
  split
  · rw [stopRule_lastDemand]
    rfl
  · rfl

theorem inControl_iff (p : Part) : inControl p = true ↔ p.fm.record.state = .control := by
  unfold inControl
  exact beq_iff_eq

/-- The hand-ons of a demand update are order requests alone. -/
theorem settled_takeDemand (d : Nat) {p : Part} (quiet : p.handOns = []) : OrderStep p (settled (takeDemand d p)) := by
  by_cases inside : inControl p = true
  · have step := takeDemand_step d p
    have open_ : p.fm.record.state ≠ .clearing := by
      rw [(inControl_iff p).mp inside]
      decide
    exact (settled_order _ (step.record ▸ open_) (step.noEnd open_ (by simp [quiet]))).after step.order
  · rw [takeDemand_of_elsewhere d (by simpa using inside), settled_of_quiet p quiet]
    exact .refl p

theorem finish_takeDemand_lastDemand (d : Nat) {p : Part} (inside : p.fm.record.state = .control) :
    (finish (takeDemand d p)).fm.lastDemand = d := by
  rw [(finish_drift _).rest]
  exact takeDemand_lastDemand d ((inControl_iff p).mpr inside)

theorem compute_of_active (start : ComputeStart) {p : Part} (active : p.ctl.mode ≠ .idle) :
    compute start p = takeDemand (formDemand start p).ctl.ownDemand (formDemand start p) :=
  if_neg (by simpa using active)

theorem compute_of_idle (start : ComputeStart) {p : Part} (idle : p.ctl.mode = .idle) : compute start p = p :=
  if_pos (by simpa using idle)

/-- A computation and its hand-ons leave of the part what `formDemand` writes in the controller. -/
theorem settled_compute (start : ComputeStart) {p : Part} (quiet : p.handOns = []) :
    OrderStep (formDemand start p) (settled (compute start p)) := by
  by_cases idle : p.ctl.mode = .idle
  · rw [compute_of_idle start idle, formDemand_of_idle start p idle, settled_of_quiet p quiet]
    exact .refl p
  · rw [compute_of_active start idle]
    exact settled_takeDemand _ (by rw [formDemand_eq]; exact quiet)

theorem finish_compute_ctl (start : ComputeStart) {p : Part} (quiet : p.handOns = []) :
    (finish (compute start p)).ctl = (formDemand start p).ctl := by
  change (settled (compute start p)).ctl = _
  rw [(settled_compute start quiet).rest]

/-! ### The control period -/

theorem exec_controlPeriodTimerExpiry {s : State} (armed : s.part.ctl.period ≠ none) :
    exec .controlPeriodTimerExpiry s = .next { s with part := finish (compute .period s.part) } := by
  have expires : periodExpires s.part = compute .period s.part := if_pos (Option.isSome_iff_ne_none.mpr armed)
  rw [← expires]
  rfl

theorem control_of_active {p : Part} {c : ControlTable} (active : p.mgmt.control = some c) : p.control = c := by
  unfold Part.control
  rw [active]

/-- Settles O30, by `formDemand_inLocal`: a computation in LOCAL with the velocity good is the law over own A. -/
theorem lawInLocal : Obligations.LawInLocal := by
  unfold Obligations.LawInLocal
  intro c s quiet active mode armed condition good class_ dir heat direction a sign target e product pTerm i trial dTrial
    kept bounded demand
  have computed : (formDemand .period s.part).ctl = { s.part.ctl with
      integral := bounded, lastP := pTerm, lastD := demand, ownDemand := demand, boundA := s.part.fm.a,
      velocityHold := none, period := some (s.part.now + BitVec.ofNat 32 (1000 * c.period)) } := by
    rw [formDemand_inLocal .period s.part mode heat direction, Rule.inLocal, Rule.computed]
    dsimp only
    rw [if_neg good, if_neg (by simp [condition]), control_of_active active, ← condition]
    rfl
  refine ⟨_, exec_controlPeriodTimerExpiry armed, (finish_compute_ctl .period quiet).trans computed, fun inside => ?_⟩
  change (finish (compute .period s.part)).fm.lastDemand = demand
  rw [compute_of_active .period (by simp [mode]), finish_takeDemand_lastDemand _ (by rw [formDemand_eq]; exact inside),
    computed]

/-- Settles O31, by `formDemand_of_local` and `formDemand_inLocal`, the quality judged against the condition (R94). -/
theorem velocityLostAndHeld : Obligations.VelocityLostAndHeld := by
  unfold Obligations.VelocityLostAndHeld
  refine ⟨?lost, ?back, fun s quiet => ?hold⟩
  case lost =>
    intro c class_ s quiet active mode armed lost heat a held opened out
    have heatClass : heatClass s.part.ctl.record = class_ := by
      unfold heatClass
      rw [heat]
    refine ⟨_, exec_controlPeriodTimerExpiry armed, (finish_compute_ctl .period quiet).trans ?_⟩
    rw [formDemand_of_local .period s.part mode, lawTaken, judgeVelocity_of_lost _ _ _ lost]
    unfold openLoopResult heldResult
    rw [heatClass, boundIntegral_eq, control_of_active active]
    unfold out
    cases condition : s.part.ctl.condition <;> rfl
  case back =>
    intro c class_ dir s quiet active mode armed off good heat direction a e pTerm integral out
    refine ⟨_, exec_controlPeriodTimerExpiry armed, (finish_compute_ctl .period quiet).trans ?_⟩
    rw [formDemand_inLocal .period s.part mode heat direction, Rule.inLocal, Rule.computed]
    dsimp only
    rw [if_neg good, if_pos (.inr off), control_of_active active]
    rfl
  case hold =>
    have expires : velocityHoldExpires s.part =
        if s.part.ctl.velocityHold ≠ none ∧ s.part.ctl.condition = .held then
          { s.part with ctl := { s.part.ctl with condition := .openLoop, velocityHold := none } }
        else s.part := by
      unfold velocityHoldExpires
      simp only [Bool.and_eq_true, Option.isSome_iff_ne_none, beq_iff_eq]
    exact nextWith_of_left expires (by split <;> exact quiet)

/-- Settles O32, by `formDemand_of_lead`, `formDemand_inLead` and `formDemand_of_share`; the shares are within the total by
`shares_le_total`. -/
theorem sharesComputed : Obligations.SharesComputed := by
  unfold Obligations.SharesComputed
  refine ⟨?lead, ?law, fun s quiet => ⟨fun still => ?still, fun armed mode => ?share⟩⟩
  case lead =>
    intro s quiet mode armed peers
    refine ⟨_, exec_controlPeriodTimerExpiry armed, ?_⟩
    dsimp only
    rw [finish_compute_ctl .period quiet, formDemand_of_lead .period s.part mode]
    obtain ⟨demand, integral⟩ := judgeVelocity_within s.part (leadSum s.part) .period
    refine ⟨mode, rfl, rfl, demand, integral, rfl, ?_, rfl, rfl⟩
    have listed : (leadShares .period s.part).map (·.share) = (peers.map (·.available)).map fun k =>
        (judgeVelocity s.part (leadSum s.part) .period).demand * k / leadSum s.part := by
      rw [leadShares, List.map_map, List.map_map]
      rfl
    dsimp only
    rw [listed]
    exact shares_le_total _ (Nat.le_add_left _ _)
  case law =>
    intro heat dir s quiet mode armed class_ direction apart
    exact ⟨_, _, exec_controlPeriodTimerExpiry armed, presentedPeers_presented _ apart,
      (finish_compute_ctl .period quiet).trans (formDemand_inLead .period s.part mode class_ direction)⟩
  case still =>
    refine nextWith_of_left ?_ quiet
    unfold periodExpires
    rcases still with unarmed | idle
    · rw [unarmed]
      rfl
    · rw [compute_of_idle .period idle, ite_self]
  case share =>
    exact ⟨_, exec_controlPeriodTimerExpiry armed,
      (finish_compute_ctl .period quiet).trans (formDemand_of_share .period s.part mode)⟩

end Sys2Proof.Machine
end

section
/-! PROOFS. The record the Airflow Controller takes (R87 to R91, R97, R103): the departure from CONTROL, an entry, and a
change of role. -/

namespace Sys2Proof.Machine

theorem exec_incidentRecordToController (h : RecordHandOn) (s : State) :
    exec (.incidentRecordToController h) s = .next { s with part := finish (ctlTakeRecord h s.part) } := rfl

/-! ### The record held -/

theorem reverses_iff (old new : IncidentRecord) : reverses old new = true ↔
    (old.id = new.id ∧ old.dir ≠ none ∧ new.dir ≠ none ∧ old.dir ≠ new.dir) ∧
      (new.state = .control ∨ new.state = .hold) := by
  unfold reverses
  simp only [Bool.and_eq_true, Bool.or_eq_true, beq_iff_eq, bne_iff_ne, Option.isSome_iff_ne_none, and_assoc]

/-- The controller with a record held, the integral 0 where it is a reversal (R97). -/
def recordTaken (h : RecordHandOn) (c : AirflowController) : AirflowController :=
  { c with record := h.record, integral := if reverses c.record h.record then 0 else c.integral }

/-- The controller at an entry to CONTROL, before the mode is taken (R89, R90). -/
def controlEntered (kind : EntryKind) (h : RecordHandOn) (c : AirflowController) : AirflowController :=
  match kind with
  | .first => { c with
      record := h.record, integral := 0, lastD := 0, ownDemand := 0, lastP := 0, lastShare := 0, condition := .ok,
      velocityHold := none, leadLoss := none }
  | .resumption => recordTaken h c

/-- How the computation of an entry begins (R89, R90). -/
def entryStart : EntryKind → ComputeStart
  | .first => .first
  | .resumption => .transfer

section
variable {h : RecordHandOn} {p : Part}

theorem ctlTakeRecord_eq : ctlTakeRecord h p =
    let q : Part := { p with ctl := recordTaken h p.ctl }
    if h.record.state = .control then
      match h.entry with
      | some kind => compute (entryStart kind) (takeMode { p with ctl := controlEntered kind h p.ctl })
      | none => changeRole p.ctl.record.role q
    else if h.record.state = .quiet then zeroControl (departControl q) else departControl q := by
  unfold ctlTakeRecord
  extract_lets old new c1 p1 c2 p2 p3 q
  have taken : p2 = q := by
    unfold p2 q recordTaken
    split <;> rfl
  by_cases inside : new.state = .control
  · rw [if_pos (by simpa using inside), if_pos inside]
    split
    · next entry =>
      rw [entry]
      unfold firstEntry p2
      split <;> rfl
    · next entry =>
      rw [entry, taken]
      rfl
    · next entry => rw [entry, taken]
  · rw [if_neg (by simpa using inside), if_neg inside]
    unfold p3
    rw [taken]
    by_cases quiet : new.state = .quiet
    · rw [if_pos (by simpa using quiet), if_pos quiet]
    · rw [if_neg (by simpa using quiet), if_neg quiet]

theorem ctlTakeRecord_of_entry (inside : h.record.state = .control) {kind : EntryKind} (entry : h.entry = some kind) :
    ctlTakeRecord h p = compute (entryStart kind) (takeMode { p with ctl := controlEntered kind h p.ctl }) := by
  rw [ctlTakeRecord_eq]
  dsimp only
  rw [if_pos inside, entry]

theorem ctlTakeRecord_of_held (inside : h.record.state = .control) (entry : h.entry = none) :
    ctlTakeRecord h p = changeRole p.ctl.record.role { p with ctl := recordTaken h p.ctl } := by
  rw [ctlTakeRecord_eq]
  dsimp only
  rw [if_pos inside, entry]

theorem controlEntered_record (kind : EntryKind) (c : AirflowController) : (controlEntered kind h c).record = h.record := by
  cases kind <;> rfl

/-- The share found for the node in the lead view of an id (R184). -/
def sharedFor (id : Nat) (p : Part) : Option Nat := (leadBulletin id p.coord.peers).bind (shareFor p.line.node.toNat)

/-- SHARE with a share taken, or SHARE_HELD with its timer armed (R89, R101). -/
def shareMode (p : Part) (c : AirflowController) : AirflowController :=
  let c := { c with condition := .ok, velocityHold := none }
  match sharedFor c.record.id p with
  | some v => { c with mode := .share, lastShare := v, leadLoss := none }
  | none => { c with mode := .shareHeld, leadLoss := arm p.now (1000 * p.control.leadLossHold) }

theorem takeShareMode_eq (p : Part) : takeShareMode p = { p with ctl := shareMode p p.ctl } := by
  unfold takeShareMode shareMode heldShare sharedFor
  dsimp only
  split
  · next found =>
    rw [show (leadBulletin p.ctl.record.id p.coord.peers).bind (shareFor p.line.node.toNat) = _ from found]
  · next found =>
    rw [show (leadBulletin p.ctl.record.id p.coord.peers).bind (shareFor p.line.node.toNat) = _ from found]
    rfl

theorem shareMode_mode (p : Part) (c : AirflowController) :
    (shareMode p c).mode = .share ∨ (shareMode p c).mode = .shareHeld := by
  unfold shareMode
  dsimp only
  split
  · exact .inl rfl
  · exact .inr rfl

section
variable {p : Part} {c : AirflowController}

theorem shareMode_of_some {v : Nat} (found : sharedFor c.record.id p = some v) : shareMode p c =
    { c with condition := .ok, velocityHold := none, mode := .share, lastShare := v, leadLoss := none } := by
  unfold shareMode
  dsimp only
  rw [found]

theorem shareMode_of_none (missing : sharedFor c.record.id p = none) : shareMode p c =
    { c with condition := .ok, velocityHold := none, mode := .shareHeld,
             leadLoss := arm p.now (1000 * p.control.leadLossHold) } := by
  unfold shareMode
  dsimp only
  rw [missing]

end

/-- The mode of a role, as R89 takes it. -/
def modeTaken (p : Part) (c : AirflowController) : AirflowController :=
  match c.record.role with
  | .lead => { c with mode := .lead }
  | .localRole => { c with mode := .localMode }
  | .follower | .none => shareMode p c

theorem takeMode_eq (p : Part) : takeMode p = { p with ctl := modeTaken p p.ctl } := by
  unfold takeMode modeTaken
  cases p.ctl.record.role
  case lead => rfl
  case localRole => rfl
  all_goals exact takeShareMode_eq p

theorem modeTaken_record (p : Part) (c : AirflowController) : (modeTaken p c).record = c.record := by
  have share : (shareMode p c).record = c.record := by
    unfold shareMode
    dsimp only
    split <;> rfl
  unfold modeTaken
  split
  · rfl
  · rfl
  all_goals exact share

theorem modeTaken_active (p : Part) (c : AirflowController) : (modeTaken p c).mode ≠ .idle := by
  have share : (shareMode p c).mode ≠ .idle := by rcases shareMode_mode p c with mode | mode <;> simp [mode]
  unfold modeTaken
  split
  · exact nofun
  · exact nofun
  all_goals exact share

section
variable {p : Part} {c : AirflowController}

theorem modeTaken_of_lead (role : c.record.role = .lead) : modeTaken p c = { c with mode := .lead } := by
  unfold modeTaken
  rw [role]

theorem modeTaken_of_local (role : c.record.role = .localRole) : modeTaken p c = { c with mode := .localMode } := by
  unfold modeTaken
  rw [role]

theorem modeTaken_of_follower (role : c.record.role = .follower) : modeTaken p c = shareMode p c := by
  unfold modeTaken
  rw [role]

end

/-- What an entry leaves in the controller. -/
theorem finish_entry {h : RecordHandOn} {p : Part} (quiet : p.handOns = []) (inside : h.record.state = .control)
    {kind : EntryKind} (entry : h.entry = some kind) : (finish (ctlTakeRecord h p)).ctl =
      (formDemand (entryStart kind) { p with ctl := modeTaken p (controlEntered kind h p.ctl) }).ctl := by
  rw [ctlTakeRecord_of_entry inside entry, takeMode_eq]
  exact finish_compute_ctl _ quiet

/-! ### A change of role (R103) -/

theorem changeRole_toLead {p : Part} {old : IncidentRole} (from_ : old = .follower ∨ old = .localRole)
    (role : p.ctl.record.role = .lead)
    (mode : p.ctl.mode = .share ∨ p.ctl.mode = .shareHeld ∨ p.ctl.mode = .localMode) : changeRole old p =
    compute .transfer { p with ctl := { p.ctl with mode := .lead, leadLoss := none } } := by
  unfold changeRole
  rcases from_ with rfl | rfl <;> rcases mode with mode | mode | mode <;> rw [role, mode]

theorem changeRole_toFollower {p : Part} (role : p.ctl.record.role = .follower) (mode : p.ctl.mode = .lead) :
    changeRole .lead p = compute .period (takeShareMode { p with ctl := { p.ctl with
      lastShare := p.ctl.ownDemand, shares := [], aSum := 0 } }) := by
  unfold changeRole
  rw [role, mode]

theorem changeRole_rejoins {p : Part} (role : p.ctl.record.role = .follower) (mode : p.ctl.mode = .localMode) :
    changeRole .localRole p = compute .period { p with ctl := { p.ctl with
      mode := .share, lastShare := (sharedFor p.ctl.record.id p).getD p.ctl.lastShare, condition := .ok,
      velocityHold := none, leadLoss := none } } := by
  have share : (match heldShare p with | some s => s | none => p.ctl.lastShare) =
      (sharedFor p.ctl.record.id p).getD p.ctl.lastShare := by
    unfold heldShare sharedFor Part.node
    cases (leadBulletin p.ctl.record.id p.coord.peers).bind (shareFor p.line.node.toNat) <;> rfl
  rw [← share]
  unfold changeRole
  rw [role, mode] <;> rfl

theorem changeRole_of_other {p : Part} {old : IncidentRole}
    (lead : ¬ ((old = .follower ∨ old = .localRole) ∧ p.ctl.record.role = .lead ∧
      (p.ctl.mode = .share ∨ p.ctl.mode = .shareHeld ∨ p.ctl.mode = .localMode)))
    (follower : ¬ (old = .lead ∧ p.ctl.record.role = .follower ∧ p.ctl.mode = .lead))
    (rejoins : ¬ (old = .localRole ∧ p.ctl.record.role = .follower ∧ p.ctl.mode = .localMode)) :
    changeRole old p = p := by
  unfold changeRole
  split <;> simp_all

end

/-! ### The obligation -/

theorem formDemand_keeps (start : ComputeStart) (p : Part) :
    (formDemand start p).ctl.record = p.ctl.record ∧ (formDemand start p).ctl.mode = p.ctl.mode ∧
    (formDemand start p).ctl.leadLoss = p.ctl.leadLoss ∧ (formDemand start p).ctl.lastShare = p.ctl.lastShare := by
  unfold formDemand
  extract_lets own period
  split <;> exact ⟨rfl, rfl, rfl, rfl⟩

theorem formDemand_period (start : ComputeStart) {p : Part} (active : p.ctl.mode ≠ .idle) :
    (formDemand start p).ctl.period = arm p.now (1000 * p.control.period) := by
  unfold formDemand
  extract_lets own period
  split
  · next idle => exact absurd idle active
  all_goals rfl

/-- The first computation of an entry, and a transfer, judge the velocity condition so (R89, R90, R94). -/
theorem judgeVelocity_first (p : Part) (a : Nat) :
    (judgeVelocity p a .first).condition = (if p.meas.quality = .lost then .openLoop else .ok) ∧
    (judgeVelocity p a .first).holdTimer = none := by
  by_cases lost : p.meas.quality = .lost
  · rw [judgeVelocity_of_lost p a _ lost, if_pos (.inl rfl), if_pos lost]
    exact ⟨rfl, rfl⟩
  · rw [judgeVelocity_of_not_lost p a _ lost, if_neg lost]
    exact ⟨rfl, rfl⟩

theorem judgeVelocity_transfer (p : Part) (a : Nat) : (judgeVelocity p a .transfer).condition =
    if p.meas.quality ≠ .lost then .ok else if p.ctl.condition = .ok then .held else p.ctl.condition := by
  by_cases lost : p.meas.quality = .lost
  · rw [judgeVelocity_of_lost p a _ lost, lost]
    cases p.ctl.condition <;> rfl
  · rw [judgeVelocity_of_not_lost p a _ lost, if_pos lost]
    rfl

/-- A computation of SHARE (R100). -/
theorem formDemand_shareMode (start : ComputeStart) {p : Part} (c : AirflowController)
    (share : c.mode = .share ∨ c.mode = .shareHeld) : (formDemand start { p with ctl := c }).ctl = { c with
      integral := Rule.bounded p.fm.a c.integral, lastD := min c.lastShare p.fm.a, ownDemand := min c.lastShare p.fm.a,
      boundA := p.fm.a, period := arm p.now (1000 * p.control.period) } :=
  formDemand_of_share start { p with ctl := c } share

/-- A controller in SHARE or SHARE_HELD after a computation (R87, R100, R101). -/
def shareComputed (p : Part) (k : AirflowController) : AirflowController :=
  { k with
    condition := .ok, velocityHold := none, period := arm p.now (1000 * p.control.period), boundA := p.fm.a,
    integral := Rule.bounded p.fm.a k.integral, lastD := min k.lastShare p.fm.a, ownDemand := min k.lastShare p.fm.a }

section
variable {p : Part} (quiet : p.handOns = []) {k : AirflowController}
include quiet

theorem finish_share (share : k.mode = .share ∨ k.mode = .shareHeld) (condition : k.condition = .ok)
    (hold : k.velocityHold = none) : (finish (compute .period { p with ctl := k })).ctl = shareComputed p k := by
  rw [finish_compute_ctl .period (by exact quiet), formDemand_shareMode .period k share]
  cases k
  dsimp only at condition hold
  subst condition hold
  rfl

/-- A LEAD that becomes FOLLOWER (R103). -/
theorem finish_toFollower (role : k.record.role = .follower) (mode : k.mode = .lead) :
    (finish (changeRole .lead { p with ctl := k })).ctl = shareComputed p (match sharedFor k.record.id p with
      | some v => { k with shares := [], aSum := 0, mode := .share, lastShare := v, leadLoss := none }
      | none => { k with
          shares := [], aSum := 0, mode := .shareHeld, lastShare := k.ownDemand,
          leadLoss := arm p.now (1000 * p.control.leadLossHold) }) := by
  rw [changeRole_toFollower (p := { p with ctl := k }) role mode, takeShareMode_eq]
  dsimp only
  cases share : sharedFor k.record.id p with
  | some v =>
    rw [shareMode_of_some (v := v) (by exact share)]
    exact finish_share quiet (.inl rfl) rfl rfl
  | none =>
    rw [shareMode_of_none (by exact share)]
    exact finish_share quiet (.inr rfl) rfl rfl

/-- A LOCAL part that becomes FOLLOWER (R103). -/
theorem finish_rejoins (role : k.record.role = .follower) (mode : k.mode = .localMode) :
    (finish (changeRole .localRole { p with ctl := k })).ctl = shareComputed p { k with
      mode := .share, lastShare := (sharedFor k.record.id p).getD k.lastShare, leadLoss := none } := by
  rw [changeRole_rejoins (p := { p with ctl := k }) role mode]
  exact finish_share quiet (.inl rfl) rfl rfl

end

/-- Settles O29, by `ctlTakeRecord_eq`: the departure writes the controller alone, an entry is a computation in the mode of
the role, and a change of role one of `changeRole_toLead`, `changeRole_toFollower` and `changeRole_rejoins`. -/
theorem controllerTakesRecord : Obligations.ControllerTakesRecord := by
  unfold Obligations.ControllerTakesRecord
  refine ⟨?departs, ?enters, ?entered, ?held⟩
  case departs =>
    intro h s quiet outside c reversal idle
    have same : reverses c.record h.record = true ↔ reversal := by
      rw [reverses_iff]
      simp [outside, reversal, and_assoc]
    refine nextWith_of_left ?_ (by split <;> exact quiet)
    rw [ctlTakeRecord_eq]
    dsimp only
    rw [if_neg outside]
    have integral : (if reverses s.part.ctl.record h.record = true then 0 else s.part.ctl.integral) =
        if reversal then 0 else c.integral := if_congr same rfl rfl
    unfold recordTaken idle
    rw [integral]
    by_cases empty : h.record.state = .quiet
    · rw [if_pos empty, if_pos empty]
      rfl
    · rw [if_neg empty, if_neg empty]
      rfl
  case enters =>
    intro h kind s quiet inside entry shared
    have record : (controlEntered kind h s.part.ctl).record = h.record := controlEntered_record kind _
    have ctl := finish_entry quiet inside entry
    have active := modeTaken_active s.part (controlEntered kind h s.part.ctl)
    obtain ⟨record', mode', leadLoss', lastShare'⟩ := formDemand_keeps (entryStart kind)
      { s.part with ctl := modeTaken s.part (controlEntered kind h s.part.ctl) }
    refine ⟨_, exec_incidentRecordToController h s, ?_, ?_, fun lead => ?_, fun local_ => ?_, fun law first => ?_,
      fun follower => ?_⟩
    all_goals dsimp only; rw [ctl]
    · rw [record', modeTaken_record, record]
    · exact formDemand_period _ active
    · rw [modeTaken_of_lead (record ▸ lead), formDemand_of_lead _ _ rfl]
      exact ⟨rfl, rfl⟩
    · rw [modeTaken_of_local (record ▸ local_), formDemand_of_local _ _ rfl]
      exact ⟨rfl, rfl⟩
    · subst first
      rcases law with lead | local_
      · rw [modeTaken_of_lead (record ▸ lead), formDemand_of_lead _ _ rfl]
        exact ⟨(judgeVelocity_first _ _).2, rfl, (judgeVelocity_first _ _).1⟩
      · rw [modeTaken_of_local (record ▸ local_), formDemand_of_local _ _ rfl]
        exact ⟨(judgeVelocity_first _ _).2, rfl, (judgeVelocity_first _ _).1⟩
    · have found : sharedFor (controlEntered kind h s.part.ctl).record.id s.part = shared := by rw [record]; rfl
      have mode : modeTaken s.part (controlEntered kind h s.part.ctl) = shareMode s.part (controlEntered kind h s.part.ctl) :=
        modeTaken_of_follower (record ▸ follower)
      rw [mode, formDemand_shareMode _ _ (shareMode_mode _ _)]
      cases share : shared with
      | some v =>
        rw [shareMode_of_some (found.trans share)]
        exact ⟨rfl, rfl, rfl, fun w same => ⟨rfl, Option.some.inj same⟩, nofun⟩
      | none =>
        rw [shareMode_of_none (found.trans share)]
        refine ⟨rfl, rfl, rfl, nofun, fun _ => ⟨rfl, ?_, rfl⟩⟩
        cases kind <;> rfl
  case entered =>
    intro h kind heat dir s quiet inside entry class_ direction apart c reversal start entered
    have record : (controlEntered kind h s.part.ctl).record = h.record := controlEntered_record kind _
    have ctl := finish_entry quiet inside entry
    have integral : (if reverses s.part.ctl.record h.record = true then 0 else s.part.ctl.integral) =
        if reversal then 0 else c.integral := by
      refine if_congr ?_ rfl rfl
      rw [reverses_iff, inside, direction]
      simp [reversal, c]
    have made (mode : ControllerMode) : { controlEntered kind h s.part.ctl with mode := mode } = entered mode := by
      cases kind
      · rfl
      · unfold controlEntered recordTaken entered
        dsimp only
        rw [integral]
    have started : entryStart kind = start := by cases kind <;> rfl
    refine ⟨_, _, exec_incidentRecordToController h s, presentedPeers_presented _ apart, fun lead => ?_, fun local_ => ?_⟩
    · dsimp only
      rw [ctl, modeTaken_of_lead (record ▸ lead),
        formDemand_inLead _ _ rfl (by rw [record, class_]) (by rw [record, direction]), started, made]
      cases kind <;> rfl
    · dsimp only
      rw [ctl, modeTaken_of_local (record ▸ local_),
        formDemand_inLocal _ _ rfl (by rw [record, class_]) (by rw [record, direction]), started, made]
      rfl
  case held =>
    intro h s quiet inside entry c reversal taken shared a seconds follower toLead toFollower rejoins
    have took : recordTaken h s.part.ctl = taken := by
      have integral : (if reverses s.part.ctl.record h.record = true then 0 else s.part.ctl.integral) =
          if reversal then 0 else c.integral := by
        refine if_congr ?_ rfl rfl
        rw [reverses_iff]
        simp [inside, reversal, c]
      unfold recordTaken taken
      rw [integral]
    have changed : ctlTakeRecord h s.part = changeRole c.record.role { s.part with ctl := taken } := by
      rw [ctlTakeRecord_of_held inside entry, took]
    refine ⟨fun lead leaves back => nextWith_of_left (changed.trans (changeRole_of_other lead leaves back)) quiet,
      fun lead => ?_, fun leaves => ?_, fun back => ?_⟩
    · obtain ⟨from_, role, mode⟩ := lead
      have ctl : (finish (ctlTakeRecord h s.part)).ctl =
          (formDemand .transfer { s.part with ctl := { taken with mode := .lead, leadLoss := none } }).ctl := by
        rw [changed, changeRole_toLead (p := { s.part with ctl := taken }) from_ role mode]
        exact finish_compute_ctl _ quiet
      refine ⟨_, exec_incidentRecordToController h s, ?_⟩
      dsimp only
      rw [ctl]
      refine ⟨rfl, rfl, rfl, rfl, ?_, ?_, fun heat dir class_ direction apart => ?_⟩
      · rw [formDemand_of_lead _ _ rfl]
        rfl
      · rw [formDemand_of_lead _ _ rfl]
        exact judgeVelocity_transfer _ _
      · exact ⟨_, presentedPeers_presented _ apart, formDemand_inLead .transfer _ rfl class_ direction⟩
    · obtain ⟨from_, role, mode⟩ := leaves
      refine ⟨_, exec_incidentRecordToController h s, ?_⟩
      change (finish (ctlTakeRecord h s.part)).ctl = _
      rw [changed, from_, finish_toFollower quiet (k := taken) role mode]
      cases share : shared <;> rw [show sharedFor taken.record.id s.part = _ from share] <;> rfl
    · obtain ⟨from_, role, mode⟩ := back
      refine ⟨_, exec_incidentRecordToController h s, ?_⟩
      change (finish (ctlTakeRecord h s.part)).ctl = _
      rw [changed, from_, finish_rejoins quiet (k := taken) role mode]
      rfl

end Sys2Proof.Machine
end

section
/-! PROOFS. A record handed on to the controller, the Fan Manager and the Coordinator in any of the six orders (R62): what
each takes is taken of the block as it stood, the others writing blocks of their own. -/

namespace Sys2Proof.Machine

/-! ### The three blocks -/

theorem fansTakeRecord_rest (h : RecordHandOn) (p : Part) : fansTakeRecord h p = { p with
    fm := (fansTakeRecord h p).fm, fc := (fansTakeRecord h p).fc, handOns := (fansTakeRecord h p).handOns } :=
  (fansTakeRecord_step h p).rest

/-- A property that the choice of the order and the three operations keep holds when a record has been handed on. -/
theorem deliverRecord_induction {h : RecordHandOn} {p : Part} {P : Part → Prop} (start : P (choose 6 p).2)
    (fans : ∀ q, P q → P (fansTakeRecord h q)) (ctl : ∀ q, P q → P (ctlMeetsRecord h q))
    (coord : ∀ q, P q → P (coordTakeRecord h q)) : P (deliverRecord h p) := by
  unfold deliverRecord
  dsimp only
  split
  · exact coord _ (ctl _ (fans _ start))
  · exact ctl _ (coord _ (fans _ start))
  · exact coord _ (fans _ (ctl _ start))
  · exact fans _ (coord _ (ctl _ start))
  · exact ctl _ (fans _ (coord _ start))
  · exact fans _ (ctl _ (coord _ start))

/-- What the controller makes of its own record, whatever the other two have done. -/
theorem deliverRecord_ctl {h : RecordHandOn} {p : Part} {P : AirflowController → Prop}
    (met : ∀ q, q.ctl = p.ctl → EventStep p q → P (ctlMeetsRecord h q).ctl) : P (deliverRecord h p).ctl := by
  have f (q : Part) : (fansTakeRecord h q).ctl = q.ctl := by rw [fansTakeRecord_rest]
  have s (q : Part) : (coordTakeRecord h q).ctl = q.ctl := by rw [coordTakeRecord_rest]
  have chosen := choose_event 6 p
  have fans (q : Part) (k : EventStep p q) := (fansTakeRecord_step h q).event.after k
  have coord (q : Part) (k : EventStep p q) := (coordTakeRecord_event h q).after k
  unfold deliverRecord
  dsimp only
  split
  · rw [s]
    exact met _ (f _) (fans _ chosen)
  · exact met _ ((s _).trans (f _)) (coord _ (fans _ chosen))
  · rw [s, f]
    exact met _ rfl chosen
  · rw [f, s]
    exact met _ rfl chosen
  · exact met _ ((f _).trans (s _)) (fans _ (coord _ chosen))
  · rw [f]
    exact met _ (s _) (coord _ chosen)

/-- What the Fan Manager makes of its own state, whatever the other two have done, where the controller writes itself
alone. -/
theorem deliverRecord_fans {h : RecordHandOn} {p : Part} {P : FanManager → List HandOn → Prop}
    (aside : ∀ q, Aside q (ctlMeetsRecord h q))
    (taken : ∀ q, q.fm = p.fm → q.handOns = p.handOns → q.ord = p.ord → EventStep p q →
      P (fansTakeRecord h q).fm (fansTakeRecord h q).handOns) :
    P (deliverRecord h p).fm (deliverRecord h p).handOns := by
  have c (q : Part) : (ctlMeetsRecord h q).fm = q.fm ∧ (ctlMeetsRecord h q).handOns = q.handOns ∧
      (ctlMeetsRecord h q).ord = q.ord := by
    rw [aside q]
    exact ⟨rfl, rfl, rfl⟩
  have s (q : Part) : (coordTakeRecord h q).fm = q.fm ∧ (coordTakeRecord h q).handOns = q.handOns ∧
      (coordTakeRecord h q).ord = q.ord := by
    rw [coordTakeRecord_rest]
    exact ⟨rfl, rfl, rfl⟩
  have chosen := choose_event 6 p
  have ctl (q : Part) (k : EventStep p q) := (ctlMeetsRecord_event h q).after k
  have coord (q : Part) (k : EventStep p q) := (coordTakeRecord_event h q).after k
  unfold deliverRecord
  dsimp only
  split
  · rw [(s _).1, (s _).2.1, (c _).1, (c _).2.1]
    exact taken _ rfl rfl rfl chosen
  · rw [(c _).1, (c _).2.1, (s _).1, (s _).2.1]
    exact taken _ rfl rfl rfl chosen
  · rw [(s _).1, (s _).2.1]
    exact taken _ (c _).1 (c _).2.1 (c _).2.2 (ctl _ chosen)
  · exact taken _ ((s _).1.trans (c _).1) ((s _).2.1.trans (c _).2.1) ((s _).2.2.trans (c _).2.2) (coord _ (ctl _ chosen))
  · rw [(c _).1, (c _).2.1]
    exact taken _ (s _).1 (s _).2.1 (s _).2.2 (coord _ chosen)
  · exact taken _ ((c _).1.trans (s _).1) ((c _).2.1.trans (s _).2.1) ((c _).2.2.trans (s _).2.2) (ctl _ (coord _ chosen))

/-! ### The record the Fan Manager takes -/

/-- A record changes the id, the fire or the direction held (R135). -/
def movesFrom (old new : IncidentRecord) : Bool := new.id != old.id || new.fire != old.fire || new.dir != old.dir

/-- A record enters CONTROL. -/
def entersControl (h : RecordHandOn) : Bool := h.record.state == .control && h.before != .control

theorem movesFrom_iff (old new : IncidentRecord) : movesFrom old new = true ↔
    new.id ≠ old.id ∨ new.fire ≠ old.fire ∨ new.dir ≠ old.dir := by
  unfold movesFrom
  simp only [Bool.or_eq_true, bne_iff_ne, or_assoc]

theorem entersControl_iff (h : RecordHandOn) : entersControl h = true ↔ h.record.state = .control ∧ h.before ≠ .control := by
  unfold entersControl
  simp only [Bool.and_eq_true, beq_iff_eq, bne_iff_ne]

/-- The Fan Manager with a record held and its fans judged, before anything is asked (R112, R113, R135, R141). -/
def fansJudged (h : RecordHandOn) (p : Part) : Part :=
  let moved := movesFrom p.fm.record h.record
  let q : Part := { p with fm := { p.fm with record := h.record } }
  let q := judgeExclusion q
  let q := if h.record.id != p.fm.record.id || h.record.id == 0 then clearHeat q else q
  let q := if moved then judgeHeat (fun _ => true) q else q
  let q := if moved || entersControl h || h.record.id == 0 then formPreference q else q
  let q := if h.record.state != .control || moved || entersControl h then emptyQueue q else pruneQueue q
  formThrust q

/-- The stops that a record asks of the unwanted fans (R136). -/
def fansAsked (h : RecordHandOn) (p : Part) : Part :=
  if h.record.state == .control && (movesFrom p.fm.record h.record || entersControl h) then
    testAllUnwanted (fansJudged h p)
  else fansJudged h p

/-- The stop-spacing timer cancelled (R145). -/
def spacingCancelled (p : Part) : Part := { p with fm := { p.fm with stopSpacing := none } }

/-- The clearing begun, its first stop asked (R145). -/
def clearingBegun (p : Part) : Part := staggeredStop { p with fm := { p.fm with clearingSent := false } }

section
variable (h : RecordHandOn) (p : Part)

theorem fansTakeRecord_eq : fansTakeRecord h p = testClearing (
    if h.record.state == .clearing then
      if h.before != .clearing then clearingBegun (fansAsked h p) else fansAsked h p
    else spacingCancelled (fansAsked h p)) := rfl

/-- The judgement of the fans writes the Fan Manager alone. -/
theorem fansJudged_eq : fansJudged h p = { p with fm := (fansJudged h p).fm } := by
  unfold fansJudged
  extract_lets moved m q' q q1 q2 q3 q4
  have rest (r : Part) (own : ∃ m, r = { p with fm := m }) : r = { p with fm := r.fm } := by
    obtain ⟨m, rfl⟩ := own
    rfl
  have h0 : ∃ m, q = { p with fm := m } := ⟨_, rfl⟩
  have h1 : ∃ m, q1 = { p with fm := m } := by
    unfold q1
    split <;> exact ⟨_, rfl⟩
  have h2 : ∃ m, q2 = { p with fm := m } := by
    obtain ⟨m, same⟩ := h1
    unfold q2
    rw [same]
    split <;> exact ⟨_, rfl⟩
  have h3 : ∃ m, q3 = { p with fm := m } := by
    obtain ⟨m, same⟩ := h2
    unfold q3
    rw [same]
    split <;> exact ⟨_, rfl⟩
  have h4 : ∃ m, q4 = { p with fm := m } := by
    obtain ⟨m, same⟩ := h3
    unfold q4
    rw [same]
    split <;> exact ⟨_, rfl⟩
  obtain ⟨m, same⟩ := h4
  exact rest _ ⟨_, by rw [same]; rfl⟩

theorem fansJudged_record : (fansJudged h p).fm.record = h.record := by
  unfold fansJudged
  extract_lets moved m q' q q1 q2 q3 q4
  have h1 : q1.fm.record = h.record := by
    unfold q1
    split <;> rfl
  have h2 : q2.fm.record = q1.fm.record := by
    unfold q2
    split <;> rfl
  have h3 : q3.fm.record = q2.fm.record := by
    unfold q3
    split <;> rfl
  have h4 : q4.fm.record = q3.fm.record := by
    unfold q4
    split <;> rfl
  exact h4.trans (h3.trans (h2.trans h1))

theorem fansAsked_step : FanStep (fansJudged h p) (fansAsked h p) :=
  FanStep.ite (testAllUnwanted_step _) (.refl _)

theorem spacingCancelled_step : FanStep p (spacingCancelled p) := fm_step _ p

/-- The Fan Manager after a record: what its judgement has made, and the steps that follow. -/
theorem fansTakeRecord_judged : FanStep (fansJudged h p) (fansTakeRecord h p) := by
  rw [fansTakeRecord_eq]
  have begun (q : Part) : FanStep q (clearingBegun q) := (staggeredStop_step _).after (fm_step _ q)
  exact ((testClearing_step _).after (FanStep.ite (FanStep.ite (begun _) (.refl _)) (spacingCancelled_step _))).after
    (fansAsked_step h p)

theorem fansTakeRecord_record : (fansTakeRecord h p).fm.record = h.record :=
  (fansTakeRecord_judged h p).record.trans (fansJudged_record h p)

variable {h p}

theorem testClearing_of_elsewhere (elsewhere : p.fm.record.state ≠ .clearing) : testClearing p = p :=
  if_neg (by simp [elsewhere])

/-- A record outside CLEARING cancels the stop-spacing timer and ends no clearing. -/
theorem fansTakeRecord_of_open (open_ : h.record.state ≠ .clearing) :
    fansTakeRecord h p = spacingCancelled (fansAsked h p) := by
  have state : (spacingCancelled (fansAsked h p)).fm.record.state ≠ .clearing := by
    rw [(spacingCancelled_step _).record, (fansAsked_step h p).record, fansJudged_record]
    exact open_
  rw [fansTakeRecord_eq, if_neg (by simpa using open_), testClearing_of_elsewhere state]

theorem fansAsked_of_not_control (outside : h.record.state ≠ .control) : fansAsked h p = fansJudged h p :=
  if_neg (by simp [outside])

/-- A record outside CONTROL and CLEARING asks nothing. -/
theorem fansTakeRecord_handOns (outside : h.record.state ≠ .control) (open_ : h.record.state ≠ .clearing) :
    (fansTakeRecord h p).handOns = p.handOns := by
  rw [fansTakeRecord_of_open open_, fansAsked_of_not_control outside, fansJudged_eq]
  rfl

theorem fansTakeRecord_noEnd (open_ : h.record.state ≠ .clearing) (out : .clearingEnd ∉ p.handOns) :
    .clearingEnd ∉ (fansTakeRecord h p).handOns :=
  (fansTakeRecord_judged h p).noEnd (by rwa [fansJudged_record]) (by rwa [fansJudged_eq])

end

/-! ### Hand-ons of a record -/

theorem compute_handOns (start : ComputeStart) {p : Part} (out : .clearingEnd ∉ p.handOns) :
    .clearingEnd ∉ (compute start p).handOns := by
  unfold compute
  split
  · exact out
  · have formed : .clearingEnd ∉ (formDemand start p).handOns := by rwa [formDemand_eq]
    by_cases inside : inControl (formDemand start p) = true
    · refine (takeDemand_step _ _).noEnd ?_ formed
      rw [(inControl_iff _).mp inside]
      decide
    · dsimp only
      rwa [takeDemand_of_elsewhere _ (by simpa using inside)]

theorem ctlTakeRecord_noEnd (h : RecordHandOn) {p : Part} (out : .clearingEnd ∉ p.handOns) :
    .clearingEnd ∉ (ctlTakeRecord h p).handOns := by
  by_cases inside : h.record.state = .control
  · rw [ctlTakeRecord_eq]
    dsimp only
    rw [if_pos inside]
    split
    · rw [takeMode_eq]
      exact compute_handOns _ out
    · unfold changeRole
      split
      all_goals first
        | exact out
        | exact compute_handOns _ out
        | (rw [takeShareMode_eq]; exact compute_handOns _ out)
  · rwa [departed_aside h p inside]

theorem ctlMeetsRecord_noEnd (h : RecordHandOn) {p : Part} (out : .clearingEnd ∉ p.handOns) :
    .clearingEnd ∉ (ctlMeetsRecord h p).handOns := by
  by_cases inside : h.record.state = .control
  · rw [ctlMeetsRecord, if_neg (by simp [inside])]
    exact ctlTakeRecord_noEnd h out
  · rwa [ctlMeetsRecord_aside h p inside]

theorem deliverRecord_noEnd {h : RecordHandOn} {p : Part} (open_ : h.record.state ≠ .clearing)
    (out : .clearingEnd ∉ p.handOns) : .clearingEnd ∉ (deliverRecord h p).handOns :=
  deliverRecord_induction (P := fun q => .clearingEnd ∉ q.handOns) out (fun _ => fansTakeRecord_noEnd open_)
    (fun _ => ctlMeetsRecord_noEnd h) (fun q out => by rwa [coordTakeRecord_rest])

/-- The controller leaves the record that the Fan Manager holds. -/
theorem compute_fmRecord (start : ComputeStart) (p : Part) : (compute start p).fm.record = p.fm.record := by
  unfold compute
  split
  · rfl
  · rw [(takeDemand_step _ _).record, formDemand_eq]

theorem ctlTakeRecord_fmRecord (h : RecordHandOn) (p : Part) : (ctlTakeRecord h p).fm.record = p.fm.record := by
  by_cases inside : h.record.state = .control
  · rw [ctlTakeRecord_eq]
    dsimp only
    rw [if_pos inside]
    split
    · rw [takeMode_eq, compute_fmRecord]
    · unfold changeRole
      split
      all_goals first
        | rfl
        | exact compute_fmRecord _ _
        | (rw [takeShareMode_eq]; exact compute_fmRecord _ _)
  · rw [departed_aside h p inside]

theorem ctlMeetsRecord_fmRecord (h : RecordHandOn) (p : Part) : (ctlMeetsRecord h p).fm.record = p.fm.record := by
  by_cases inside : h.record.state = .control
  · rw [ctlMeetsRecord, if_neg (by simp [inside]), ctlTakeRecord_fmRecord]
  · rw [ctlMeetsRecord_aside h p inside]

theorem deliverRecord_fmRecord (h : RecordHandOn) (p : Part) : (deliverRecord h p).fm.record = h.record := by
  have f (q : Part) : (fansTakeRecord h q).fm.record = h.record := fansTakeRecord_record h q
  have c := ctlMeetsRecord_fmRecord h
  have s (q : Part) : (coordTakeRecord h q).fm.record = q.fm.record := by rw [coordTakeRecord_rest]
  unfold deliverRecord
  dsimp only
  split
  · rw [s, c, f]
  · rw [c, s, f]
  · rw [s, f]
  · rw [f]
  · rw [c, f]
  · rw [f]

/-- A record handed on outside CLEARING: its hand-ons are order requests alone. -/
theorem settled_deliverRecord {h : RecordHandOn} {p : Part} (open_ : h.record.state ≠ .clearing)
    (quiet : p.handOns = []) : OrderStep (deliverRecord h p) (settled (deliverRecord h p)) :=
  settled_order _ (by rwa [deliverRecord_fmRecord]) (deliverRecord_noEnd open_ (by simp [quiet]))

/-! ### A record put -/

/-- The part with a record stored, before it is handed on (R61, R69). -/
def recordStored (new : IncidentRecord) (p : Part) : Part :=
  let old := p.reg.record
  let p := { p with reg := { p.reg with record := markControlled old new } }
  let p := if old.state != new.state || old.id != new.id then raise .incidentChange p else p
  if new.state == .quiet && old.state != .quiet then clearAlarms { p with reg := { p.reg with detection := [] } } else p

/-- The hand-on of a record (R62). -/
def handedOn (old new : IncidentRecord) : RecordHandOn := ⟨old.state, markControlled old new, entryKind old new⟩

theorem putRecord_eq (new : IncidentRecord) (p : Part) : putRecord new p =
    if isHandedOn p.reg.record new then deliverRecord (handedOn p.reg.record new) (recordStored new p)
    else recordStored new p := rfl

theorem recordStored_rest (new : IncidentRecord) (p : Part) : recordStored new p = { p with
    reg := (recordStored new p).reg, fc := (recordStored new p).fc, meas := (recordStored new p).meas } := by
  unfold recordStored
  dsimp only
  repeat' split
  all_goals rfl

theorem isHandedOn_of_state {old new : IncidentRecord} (differs : old.state ≠ new.state) : isHandedOn old new = true := by
  unfold isHandedOn
  simp [differs]

end Sys2Proof.Machine
end

section
/-! PROOFS. The loss of the lead (R102), and a HOLD, a RESUME and a CLEAR (R66, R67): the record handed on, and what the
controller and the Fan Manager make of it. -/

namespace Sys2Proof.Machine

/-! ### What the controller makes of a record -/

theorem compute_mode (start : ComputeStart) (p : Part) : (compute start p).ctl.mode = p.ctl.mode := by
  unfold compute
  split
  · rfl
  · rw [(takeDemand_step _ _).rest]
    exact (formDemand_keeps start p).2.1

section
variable {h : RecordHandOn} {p : Part}

theorem ctlTakeRecord_idle (outside : h.record.state ≠ .control) (p : Part) : (ctlTakeRecord h p).ctl.mode = .idle := by
  rw [ctlTakeRecord_eq]
  dsimp only
  rw [if_neg outside]
  split <;> rfl

/-- A record outside CONTROL takes the controller out of it (R91). -/
theorem ctlMeetsRecord_idle (outside : h.record.state ≠ .control) (p : Part) : (ctlMeetsRecord h p).ctl.mode = .idle := by
  unfold ctlMeetsRecord
  split
  · exact ctlTakeRecord_idle outside _
  · exact ctlTakeRecord_idle outside p

theorem ctlMeetsRecord_of_control (inside : h.record.state = .control) (p : Part) :
    ctlMeetsRecord h p = ctlTakeRecord h p := if_neg (by simp [inside])

/-- An entry to CONTROL takes a mode (R89, R90). -/
theorem ctlMeetsRecord_active (inside : h.record.state = .control) {kind : EntryKind} (entry : h.entry = some kind)
    (p : Part) : (ctlMeetsRecord h p).ctl.mode ≠ .idle := by
  have active := modeTaken_active p (controlEntered kind h p.ctl)
  rw [ctlMeetsRecord_of_control inside, ctlTakeRecord_of_entry inside entry, takeMode_eq, compute_mode]
  exact active

/-- A record in CONTROL that makes the role LOCAL is held (R103). -/
theorem ctlMeetsRecord_of_localRole (inside : h.record.state = .control) (entry : h.entry = none)
    (role : h.record.role = .localRole) (p : Part) : ctlMeetsRecord h p = { p with ctl := recordTaken h p.ctl } := by
  rw [ctlMeetsRecord_of_control inside, ctlTakeRecord_of_held inside entry]
  refine changeRole_of_other ?_ ?_ ?_
  all_goals exact fun ⟨_, other, _⟩ => absurd (role.symm.trans other) (by decide)

end

/-- A computation and its hand-ons, where no clearing can end. -/
theorem settled_compute_of_open (start : ComputeStart) {p : Part} (open_ : p.fm.record.state ≠ .clearing)
    (out : .clearingEnd ∉ p.handOns) : OrderStep (formDemand start p) (settled (compute start p)) := by
  have settles : OrderStep (compute start p) (settled (compute start p)) :=
    settled_order _ (by rwa [compute_fmRecord]) (compute_handOns start out)
  refine settles.after ?_
  by_cases idle : p.ctl.mode = .idle
  · rw [compute_of_idle start idle, formDemand_of_idle start p idle]
    exact .refl p
  · rw [compute_of_active start idle]
    exact (takeDemand_step _ _).order

/-! ### The fans judged -/

theorem isExcluded_rule (exclusion : Nat) (r : IncidentRecord) (e : FanEntry) :
    isExcluded exclusion r e = Rule.excluded exclusion r e := by
  unfold isExcluded Rule.excluded distance
  cases r.fire with
  | none => simp
  | some fire =>
    by_cases none_held : r.id = 0
    · simp [none_held]
    · rw [if_neg (by simpa using none_held), Bool.eq_iff_iff]
      dsimp only
      split <;> simp [none_held] <;> omega

section
variable {h : RecordHandOn} {p : Part}

/-- The fans judged by a record that keeps the id, the fire and the direction: their exclusion alone (R112). -/
theorem fansJudged_fans_of_kept (kept : movesFrom p.fm.record h.record = false) (held : h.record.id ≠ 0) :
    (fansJudged h p).fm.fans =
      p.fm.fans.map fun f => { f with excluded := Rule.excluded p.control.exclusion h.record f.e } := by
  have same_id : h.record.id = p.fm.record.id := by
    by_contra differs
    exact absurd ((movesFrom_iff _ _).mpr (.inl differs)) (by simp [kept])
  unfold fansJudged
  extract_lets moved m q' q q1 q2 q3 q4
  have h1 : q1 = q := if_neg (by simp [← same_id, held])
  have h2 : q2 = q1 := if_neg (by simp [moved, kept])
  have h3 : q3.fm.fans = q2.fm.fans := by
    unfold q3
    split <;> rfl
  have h4 : q4.fm.fans = q3.fm.fans := by
    unfold q4
    split <;> rfl
  change q4.fm.fans = _
  rw [h4, h3, h2, h1]
  refine List.map_congr_left fun f _ => ?_
  rw [isExcluded_rule]
  rfl

end

/-! ### The loss of the lead -/

/-- The part once the lead is lost, before its role is reported (R102). -/
def leadGone (p : Part) : Part := raise .leadLost { p with ctl := { p.ctl with mode := .localMode, leadLoss := none } }

section
variable {p : Part}

theorem leadLossExpires_of_held (armed : p.ctl.leadLoss ≠ none) (mode : p.ctl.mode = .shareHeld) :
    leadLossExpires p = compute .transfer (reportLocal p.ctl.record.id (leadGone p)) :=
  if_pos (by simp [Option.isSome_iff_ne_none, armed, mode])

theorem leadLossExpires_of_still (still : p.ctl.leadLoss = none ∨ p.ctl.mode ≠ .shareHeld) : leadLossExpires p = p :=
  if_neg (by rcases still with unarmed | mode <;> simp_all)

theorem reportLocal_of_other {id : Nat} (other : ¬ (p.reg.record.id = id ∧ p.reg.record.role = .follower)) :
    reportLocal id p = p := if_neg (by simp only [Bool.and_eq_true, beq_iff_eq]; tauto)

/-- A change of role handed on. -/
theorem putRecord_of_role {role : IncidentRole} (holds : holdsId p.reg.record.state = true)
    (differs : p.reg.record.role ≠ role) : putRecord { p.reg.record with role := role } p =
      deliverRecord ⟨p.reg.record.state, { p.reg.record with role := role }, none⟩
        { p with reg := { p.reg with record := { p.reg.record with role := role } } } := by
  have kept : markControlled p.reg.record { p.reg.record with role := role } = { p.reg.record with role := role } :=
    if_neg (by cases p.reg.record.state <;> simp)
  have none_entered : entryKind p.reg.record { p.reg.record with role := role } = none :=
    if_neg (by cases p.reg.record.state <;> simp)
  have handed : isHandedOn p.reg.record { p.reg.record with role := role } = true := by
    unfold isHandedOn
    simp [holds, differs]
  have stored : recordStored { p.reg.record with role := role } p =
      { p with reg := { p.reg with record := { p.reg.record with role := role } } } := by
    unfold recordStored
    dsimp only
    rw [kept, if_neg (by simp), if_neg (by cases p.reg.record.state <;> simp)]
  rw [putRecord_eq, if_pos handed, stored, handedOn, kept, none_entered]

/-- The record that a LOCAL part hands on (R77, R102). -/
def localHandOn (r : IncidentRecord) : RecordHandOn := ⟨r.state, { r with role := .localRole }, none⟩

theorem reportLocal_of_named {id : Nat} (state : p.reg.record.state = .control ∨ p.reg.record.state = .hold)
    (named : p.reg.record.id = id ∧ p.reg.record.role = .follower) : reportLocal id p =
      deliverRecord (localHandOn p.reg.record)
        { p with reg := { p.reg with record := { p.reg.record with role := .localRole } } } := by
  have reports : reportLocal id p = putRecord { p.reg.record with role := .localRole } p :=
    if_pos (by rcases state with state | state <;> simp [state, named])
  rw [reports, putRecord_of_role (by rcases state with state | state <;> rw [state] <;> rfl) (by simp [named.2])]
  rfl

theorem reportLocal_reg {id : Nat} (state : p.reg.record.state = .control ∨ p.reg.record.state = .hold) :
    (reportLocal id p).reg = { p.reg with record :=
      if p.reg.record.id = id ∧ p.reg.record.role = .follower then { p.reg.record with role := .localRole }
      else p.reg.record } := by
  split
  · next named =>
    rw [reportLocal_of_named state named]
    exact (deliverRecord_regMeasKept _ _).reg
  · next other => rw [reportLocal_of_other other]

end

/-! ### The obligation: the loss of the lead -/

/-- The fans a LOCAL part judges, and their A (R111, R112). -/
theorem fansTakeRecord_a_of_local {q : Part} {r : IncidentRecord} (record : q.fm.record = r) (inside : r.state = .control) :
    (fansTakeRecord (localHandOn r) q).fm.a = Rule.available { q.fm with
      fans := q.fm.fans.map fun f => { f with excluded := Rule.excluded q.control.exclusion r f.e } } := by
  have kept : movesFrom q.fm.record (localHandOn r).record = false := by
    rw [record]
    simp [movesFrom, localHandOn]
  have stays : entersControl (localHandOn r) = false := by simp [entersControl, localHandOn, inside]
  have asked : fansAsked (localHandOn r) q = fansJudged (localHandOn r) q :=
    if_neg (by simp [kept, stays])
  have open_ : (localHandOn r).record.state ≠ .clearing := by
    change r.state ≠ _
    simp [inside]
  have formed : (fansTakeRecord (localHandOn r) q).fm.a = availableThrust (fansJudged (localHandOn r) q).fm := by
    rw [fansTakeRecord_of_open open_, asked]
    rfl
  rw [formed, ← availableThrust_rule]
  by_cases none_held : r.id = 0
  · rw [(thrust_of_no_incident (by rw [fansJudged_record]; exact none_held)).1,
      (thrust_of_no_incident (by rw [← record] at none_held; exact none_held)).1]
  · have fans := fansJudged_fans_of_kept kept none_held
    have useful_same (e : FanEntry) : useful (localHandOn r).record e = useful r e := rfl
    unfold availableThrust
    rw [fans, fansJudged_record, record]
    rfl

/-- A computation in LOCAL reads the part time, the CONTROL values, the velocity and its quality, and A. -/
theorem inLocal_congr {p q : Part} (heat : Nat) (dir : Direction) (start : ComputeStart) (k : AirflowController)
    (now : p.now = q.now) (control : p.control = q.control) (quality : p.meas.quality = q.meas.quality)
    (vm : p.meas.vm = q.meas.vm) (a : p.fm.a = q.fm.a) :
    Rule.inLocal p heat dir start k = Rule.inLocal q heat dir start k := by
  unfold Rule.inLocal Rule.computed
  rw [now, control, quality, vm, a]

section
variable {p : Part} (quiet : p.handOns = [])

theorem reportLocal_event (id : Nat) (p : Part) : EventStep p (reportLocal id p) :=
  EventStep.ite (putRecord_event _ _) (.refl _)

/-- The controller of a part that reports LOCAL in CONTROL takes the record, where its own report is. -/
theorem reportLocal_ctl {id : Nat} (inside : p.reg.record.state = .control) : (reportLocal id p).ctl =
    if p.reg.record.id = id ∧ p.reg.record.role = .follower then recordTaken (localHandOn p.reg.record) p.ctl
    else p.ctl := by
  split
  · next named =>
    rw [reportLocal_of_named (.inl inside) named]
    refine deliverRecord_ctl (P := (· = recordTaken (localHandOn p.reg.record) p.ctl)) fun q same _ => ?_
    rw [ctlMeetsRecord_of_localRole inside rfl rfl, same]
  · next other => rw [reportLocal_of_other other]

theorem reportLocal_a {id : Nat} (inside : p.reg.record.state = .control)
    (named : p.reg.record.id = id ∧ p.reg.record.role = .follower) (record : p.fm.record = p.reg.record) :
    (reportLocal id p).fm.a = Rule.available { p.fm with
      fans := p.fm.fans.map fun f => { f with excluded := Rule.excluded p.control.exclusion p.reg.record f.e } } := by
  rw [reportLocal_of_named (.inl inside) named]
  refine deliverRecord_fans (P := fun m _ => m.a = _)
    (fun q => by unfold Aside; rw [ctlMeetsRecord_of_localRole inside rfl rfl]) fun q fm _ _ event => ?_
  rw [fansTakeRecord_a_of_local (fm ▸ record) inside, fm, control_of_mgmt event.mgmt]
  rfl

include quiet

/-- The hand-ons of the computation that follows a report of LOCAL are order requests alone. -/
theorem settled_reportLocal {id : Nat} (start : ComputeStart) (inside : p.reg.record.state = .control) :
    OrderStep (formDemand start (reportLocal id p)) (settled (compute start (reportLocal id p))) := by
  by_cases named : p.reg.record.id = id ∧ p.reg.record.role = .follower
  · rw [reportLocal_of_named (.inl inside) named]
    have open_ : (localHandOn p.reg.record).record.state ≠ .clearing := by
      change p.reg.record.state ≠ _
      simp [inside]
    refine settled_compute_of_open start ?_ (deliverRecord_noEnd open_ (by simp [quiet]))
    rw [deliverRecord_fmRecord]
    exact open_
  · rw [reportLocal_of_other named]
    exact settled_compute start quiet

/-- A part that reports LOCAL in HOLD is idle, and asks nothing. -/
theorem reportLocal_of_hold {id : Nat} (state : p.reg.record.state = .hold)
    (named : p.reg.record.id = id ∧ p.reg.record.role = .follower) :
    (reportLocal id p).ctl.mode = .idle ∧ (reportLocal id p).handOns = [] := by
  have outside : (localHandOn p.reg.record).record.state ≠ .control := by
    change p.reg.record.state ≠ _
    simp [state]
  have open_ : (localHandOn p.reg.record).record.state ≠ .clearing := by
    change p.reg.record.state ≠ _
    simp [state]
  rw [reportLocal_of_named (.inr state) named]
  exact ⟨deliverRecord_ctl (P := (·.mode = .idle)) fun q _ _ => ctlMeetsRecord_idle outside q,
    deliverRecord_fans (P := fun _ l => l = []) (fun q => ctlMeetsRecord_aside _ q outside) fun q _ handOns _ _ =>
      (fansTakeRecord_handOns outside open_).trans (handOns.trans quiet)⟩

end

/-- Settles O33, by `reportLocal_of_named` and `deliverRecord_ctl`: the role reported, the computation is one in LOCAL. -/
theorem leadLossExpires_holds : Obligations.LeadLossExpires := by
  unfold Obligations.LeadLossExpires
  intro s quiet
  refine ⟨fun still => nextWith_of_left (leadLossExpires_of_still still) quiet, fun armed mode => ?_⟩
  have expires := leadLossExpires_of_held armed mode
  have event : EventStep (leadGone s.part) (finish (leadLossExpires s.part)) := by
    rw [expires]
    exact ((finish_event _).after (compute_event _ _)).after (reportLocal_event _ _)
  refine ⟨_, rfl, ?_, ?_⟩
  · have lost := event.flags.of_mask (raise_flags_and_flagBit .leadLost _)
    change (finish (leadLossExpires s.part)).fc.flags &&& 0x0008 ≠ 0
    rw [show (finish (leadLossExpires s.part)).fc.flags &&& 0x0008 = 0x0008 from lost]
    decide
  intro r named
  have reported := reportLocal_event s.part.ctl.record.id (leadGone s.part)
  have quality : (reportLocal s.part.ctl.record.id (leadGone s.part)).meas.quality = s.part.meas.quality := by
    rw [reported.meas]
    rfl
  have local_ctl (inside : r.state = .control) : (finish (leadLossExpires s.part)).ctl =
      (formDemand .transfer (reportLocal s.part.ctl.record.id (leadGone s.part))).ctl := by
    rw [expires]
    change (settled _).ctl = _
    rw [(settled_reportLocal (p := leadGone s.part) quiet .transfer inside).rest]
  refine ⟨fun hold is_named => ?_, fun inside condition => ?_, fun heat dir inside ctl fm class_ direction => ?_⟩
  · obtain ⟨idle, none_waits⟩ := reportLocal_of_hold (p := leadGone s.part) quiet hold is_named
    have ends : finish (leadLossExpires s.part) = formHealth (reportLocal s.part.ctl.record.id (leadGone s.part)) := by
      rw [expires, compute_of_idle .transfer idle, finish, settled_of_quiet _ none_waits]
    dsimp only
    rw [ends, formHealth_reg, formHealth_ctl, reportLocal_reg (p := leadGone s.part) (.inr hold)]
    refine ⟨?_, idle⟩
    rw [if_pos (by exact is_named)]
    rfl
  · have reg : (finish (leadLossExpires s.part)).reg = (reportLocal s.part.ctl.record.id (leadGone s.part)).reg := by
      rw [expires]
      change (settled _).reg = _
      rw [(settled_reportLocal (p := leadGone s.part) quiet .transfer inside).rest, formDemand_eq]
    have taken : ∃ i x, (reportLocal s.part.ctl.record.id (leadGone s.part)).ctl =
        { (leadGone s.part).ctl with integral := i, record := x } := by
      rw [reportLocal_ctl (p := leadGone s.part) inside]
      split <;> exact ⟨_, _, rfl⟩
    obtain ⟨i, x, taken⟩ := taken
    have local_mode : (reportLocal s.part.ctl.record.id (leadGone s.part)).ctl.mode = .localMode := by rw [taken]; rfl
    refine ⟨?_, ?_, ?_, ?_⟩
    · change (finish (leadLossExpires s.part)).reg = _
      rw [reg, reportLocal_reg (p := leadGone s.part) (.inl inside)]
      rfl
    all_goals
      dsimp only
      rw [local_ctl inside, formDemand_of_local _ _ local_mode]
    · exact local_mode
    · change (reportLocal s.part.ctl.record.id (leadGone s.part)).ctl.leadLoss = none
      rw [taken]
      rfl
    · refine (judgeVelocity_transfer _ _).trans ?_
      rw [quality, show (reportLocal s.part.ctl.record.id (leadGone s.part)).ctl.condition = .ok by rw [taken]; exact condition]
      by_cases lost : s.part.meas.quality = .lost <;> simp [lost]
  · intro m judged ownA role
    have named_iff : named ↔ r.role = .follower := and_iff_right (by rw [ctl])
    have stays (other : IncidentRecord) (dirs : other.dir = r.dir) : reverses r other = false := by
      rw [Bool.eq_false_iff, Ne, reverses_iff]
      exact fun ⟨⟨_, _, _, turned⟩, _⟩ => turned dirs.symm
    have control := control_of_mgmt reported.mgmt
    have vm : (reportLocal s.part.ctl.record.id (leadGone s.part)).meas.vm = s.part.meas.vm := by
      rw [reported.meas]
      rfl
    obtain ⟨a, k⟩ : (reportLocal s.part.ctl.record.id (leadGone s.part)).fm.a = ownA ∧
        (reportLocal s.part.ctl.record.id (leadGone s.part)).ctl =
          { s.part.ctl with mode := .localMode, leadLoss := none, record := { r with role := role } } := by
      by_cases follower : r.role = .follower
      · refine ⟨?_, ?_⟩
        · rw [reportLocal_a (p := leadGone s.part) inside (named_iff.mpr follower) (by exact fm)]
          exact (if_pos follower).symm
        · rw [reportLocal_ctl (p := leadGone s.part) inside, if_pos (by exact named_iff.mpr follower)]
          have same : reverses s.part.ctl.record { r with role := .localRole } = false := by
            rw [ctl]
            exact stays _ rfl
          change recordTaken (localHandOn r) (leadGone s.part).ctl = _
          unfold recordTaken
          rw [if_neg (by exact Bool.not_eq_true _ ▸ same), show role = .localRole from if_pos follower]
          rfl
      · have other : ¬ named := fun is_named => follower (named_iff.mp is_named)
        rw [reportLocal_of_other (p := leadGone s.part) (by exact other)]
        refine ⟨(if_neg follower).symm, ?_⟩
        rw [show role = r.role from if_neg follower]
        change { s.part.ctl with mode := .localMode, leadLoss := none } = _
        rw [← ctl]
    dsimp only
    rw [local_ctl inside, formDemand_inLocal (p := reportLocal s.part.ctl.record.id (leadGone s.part)) (heat := heat)
      (dir := dir) .transfer (by rw [k]) (by rw [k]; exact class_) (by rw [k]; exact direction), k]
    exact inLocal_congr heat dir .transfer _ reported.now control quality vm a

end Sys2Proof.Machine
end

section
/-! PROOFS. The order requests of an event (R153): each that waits is taken, for it has few before it, and the order it
makes stands, as no other request of the event is for a fan that stands. -/

namespace Sys2Proof.Machine

/-! ### An order of a fan -/

/-- The order of a fan is of a kind, or is to be followed by one that is. -/
def Asked (n : Nat) (k : OrderKind) (p : Part) : Prop :=
  ∃ o, p.order? n = some o ∧ (o.kind = k ∨ o.successor = some k)

section
variable {n m : Nat} {k kind : OrderKind} {p q : Part}

theorem order?_fan {o : OrderRec} (found : p.order? n = some o) : o.fan = n := by
  simpa using List.find?_some found

theorem Asked.record (asked : Asked n k p) : ∃ o ∈ p.ord.records, o.fan = n ∧ (o.kind = k ∨ o.successor = some k) := by
  obtain ⟨o, found, is⟩ := asked
  exact ⟨o, List.mem_of_find?_eq_some found, order?_fan found, is⟩

theorem Asked.of_records (asked : Asked n k p) (same : q.ord.records = p.ord.records) : Asked n k q := by
  obtain ⟨o, found, is⟩ := asked
  exact ⟨o, by unfold Part.order? at *; rwa [same], is⟩

theorem order?_onOrder (m n : Nat) {g : OrderRec → OrderRec} (same : ∀ r, (g r).fan = r.fan) (p : Part) :
    (onOrder m g p).order? n = (p.order? n).map fun r => if n = m then g r else r := by
  unfold Part.order? onOrder
  rw [find?_updWhere fun r => by rw [same]]
  cases found : p.ord.records.find? fun r => r.fan == n with
  | none => rfl
  | some r =>
    have fan : r.fan = n := order?_fan found
    simp [fan]

theorem Asked.onOrder (asked : Asked n k p) {g : OrderRec → OrderRec} (same : ∀ r, (g r).fan = r.fan)
    (keeps : m = n → ∀ r, r.kind = k ∨ r.successor = some k → (g r).kind = k ∨ (g r).successor = some k) :
    Asked n k (onOrder m g p) := by
  obtain ⟨o, found, is⟩ := asked
  refine ⟨if n = m then g o else o, by rw [order?_onOrder m n same, found]; rfl, ?_⟩
  split
  · next is_it => exact keeps is_it.symm o is
  · exact is

/-! ### Orders served -/

theorem takeOutcome_ord (n : Nat) (order : OrderKind) (outcome : OrderOutcome) (p : Part) :
    (takeOutcome n order outcome p).ord = p.ord := by rw [(takeOutcome_step n order outcome p).rest]

theorem testClearing_ord (p : Part) : (testClearing p).ord = p.ord := by rw [(testClearing_step p).rest]

theorem reportEmpty_ord (p : Part) : (reportEmpty p).ord = p.ord := by
  unfold reportEmpty
  split
  · exact testClearing_ord p
  · rfl

theorem freeTagOf_records (r : OrderRec) (p : Part) : (freeTagOf r p).ord.records = p.ord.records := by
  unfold freeTagOf tagToFree
  repeat' split
  all_goals rfl

/-- The records without those of a fan. -/
theorem find?_removed (l : List OrderRec) (m n : Nat) : (l.filter fun x => x.fan != m).find? (fun x => x.fan == n) =
    if n = m then none else l.find? fun x => x.fan == n := by
  rw [List.find?_filter]
  split
  · next is_it =>
    subst is_it
    simp
  · next other =>
    congr 1
    funext x
    by_cases is_it : x.fan = n <;> simp [is_it, other]

/-- What the end of a record makes of the orders (R168). -/
theorem finishRec_order? (r : OrderRec) (outcome : OrderOutcome) (p : Part) (n : Nat) :
    (n ≠ r.fan → (finishRec r outcome p).order? n = p.order? n) ∧
    (∀ k, r.successor = some k → ∃ o, (finishRec r outcome p).order? r.fan = some o ∧ o.kind = k) := by
  unfold finishRec
  extract_lets q m u
  have records : u.ord.records = p.ord.records.filter fun x => x.fan != r.fan := by
    change (q.ord.records).filter _ = _
    rw [show q.ord = p.ord from takeOutcome_ord _ _ _ p]
  refine ⟨fun other => ?_, fun k succeeded => ?_⟩
  · have kept : u.order? n = p.order? n := by
      unfold Part.order?
      rw [records, find?_removed, if_neg other]
    split
    · exact kept
    · rw [← kept]
      unfold Part.order? joinBack
      dsimp only
      rw [List.find?_append]
      have last_other (x : OrderRec) (fan : x.fan = r.fan) : [x].find? (fun x => x.fan == n) = none := by
        simp [fan, Ne.symm other]
      rw [last_other _ (by split <;> rfl), Option.or_none]
  · rw [succeeded]
    dsimp only
    unfold Part.order? joinBack
    dsimp only
    rw [List.find?_append, records, find?_removed, if_pos rfl, Option.none_or]
    split <;> exact ⟨_, by simp [waitingRec]; rfl, rfl⟩

theorem Asked.finishRec (asked : Asked n k p) {r : OrderRec} (found : p.order? r.fan = some r) (other : r.kind ≠ k)
    (outcome : OrderOutcome) : Asked n k (finishRec r outcome p) := by
  obtain ⟨o, found_o, is⟩ := asked
  obtain ⟨kept, succeeds⟩ := finishRec_order? r outcome p n
  by_cases own : n = r.fan
  · subst own
    obtain rfl : o = r := Option.some.inj (found_o.symm.trans found)
    obtain ⟨x, found_x, kind⟩ := succeeds k (is.resolve_left other)
    exact ⟨x, found_x, .inl kind⟩
  · exact ⟨o, (kept own).trans found_o, is⟩

theorem Asked.withdrawRec (asked : Asked n k p) (ends : isStart k = false) {r : OrderRec} (found : p.order? r.fan = some r)
    (start : isStart r.kind = true) : Asked n k (withdrawRec r p) := by
  have freed : Asked n k (countOrder (fun c => { c with withdrawn := bump c.withdrawn }) (freeTagOf r p)) :=
    asked.of_records (freeTagOf_records r p)
  refine (freed.finishRec ?_ (fun same => ?_) .withdrawn).of_records (by rw [Machine.withdrawRec, reportEmpty_ord])
  · unfold Part.order? at *
    rw [← found]
    exact congrArg (List.find? _) (freeTagOf_records r p)
  · rw [same, ends] at start
    exact nomatch start

theorem sendOrder_asked (asked : Asked n k p) (r : OrderRec) (tag : Nat) : Asked n k (sendOrder r tag p) := by
  unfold sendOrder
  dsimp only
  rw [queueOwn_eq]
  have sent := asked.onOrder (m := r.fan) (g := fun x => { x with
    tag := some tag, response := arm p.now (responseTime p) }) (fun _ => rfl) (fun _ _ is => is)
  exact sent.of_records rfl

theorem issue_asked (asked : Asked n k p) (r : OrderRec) (tag : Nat) : Asked n k (issue r tag p) := by
  have taken : Asked n k (takeTag r.station tag p) := asked.of_records rfl
  have sent := sendOrder_asked taken r tag
  have waited := sent.onOrder (m := r.fan) (g := fun x => { x with state := .sent }) (fun _ => rfl) (fun _ _ is => is)
  unfold issue
  extract_lets q u
  repeat' split
  · exact waited
  · exact waited.onOrder (fun _ => rfl) (fun _ _ is => is)
  · exact sent

theorem nextToIssue_found {p : Part} {l : List Nat} {r : OrderRec} {t : Nat} (next : nextToIssue p l = some (r, t)) :
    p.order? r.fan = some r := by
  induction l with
  | nil => exact nomatch next
  | cons a rest ih =>
    unfold nextToIssue at next
    split at next
    · exact ih next
    · next x found =>
      split at next
      · exact ih next
      · obtain rfl : x = r := (Prod.mk.inj (Option.some.inj next)).1
        rwa [order?_fan found]

theorem serveWith_asked (ends : isStart k = false) (fuel : Nat) {p : Part} (asked : Asked n k p) :
    Asked n k (serveWith fuel p) := by
  induction fuel generalizing p with
  | zero => exact asked
  | succ fuel ih =>
    unfold serveWith
    split
    · split
      · exact asked
      · next r t next =>
        have found : p.order? r.fan = some r := nextToIssue_found next
        have unserved : Asked n k { p with ord := { p.ord with
          backlog := p.ord.backlog.filter fun n => n != r.fan } } := asked.of_records rfl
        refine ih ?_
        split
        · exact issue_asked unserved r t
        · next fails =>
          rw [Bool.or_eq_true, not_or, Bool.not_eq_true, Bool.not_eq_true] at fails
          exact unserved.withdrawRec ends found (startCheck_isStart fails.2)
    · exact asked

theorem serve_asked (ends : isStart k = false) (asked : Asked n k p) : Asked n k (serve p) := serveWith_asked ends _ asked

theorem dropStart_records (n : Nat) (old new : OrderKind) (p : Part) :
    (dropStart n old new p).ord.records = p.ord.records := by
  unfold dropStart
  split
  · rw [takeOutcome_ord]
    rfl
  · rfl

/-! ### Requests -/

/-- An order that stands, stands after a request for another fan, and after one of its own kind. -/
theorem requestOrder_asked (ends : isStart k = false) (asked : Asked n k p) (own : m = n → kind = k) :
    Asked n k (requestOrder m kind p) := by
  have succeeded := asked.onOrder (m := m) (g := fun x => { x with successor := some kind }) (fun _ => rfl)
    fun is_it _ _ => .inr (by rw [own is_it])
  unfold requestOrder
  split
  · split
    · exact asked
    · refine serve_asked ends ?_
      obtain ⟨o, found, is⟩ := asked
      refine ⟨o, ?_, is⟩
      unfold Part.order? joinBack at *
      dsimp only
      rw [List.find?_append, found, Option.some_or]
  · dsimp only
    split
    · split
      · exact succeeded
      · exact succeeded.of_records (dropStart_records _ _ _ _)
    · refine serve_asked ends (Asked.of_records ?_ (dropStart_records _ _ _ _))
      exact asked.onOrder (fun _ => rfl) fun is_it _ _ => .inl (own is_it)

/-- A request for a fan makes its order. -/
theorem requestOrder_asks (ends : isStart k = false) {f : FanRec} (found : p.fan? n = some f) :
    Asked n k (requestOrder n k p) := by
  unfold requestOrder
  split
  · next missing =>
    rw [found]
    refine serve_asked ends ⟨waitingRec n f.e.station f.e.output k, ?_, .inl rfl⟩
    unfold Part.order? joinBack at *
    dsimp only
    rw [List.find?_append, missing]
    simp [waitingRec]
  · next r has =>
    have made {g : OrderRec → OrderRec} (same : ∀ r, (g r).fan = r.fan)
        (is : (g r).kind = k ∨ (g r).successor = some k) : Asked n k (onOrder n g p) :=
      ⟨g r, by rw [order?_onOrder n n same, has]; simp, is⟩
    dsimp only
    split
    · have succeeded := made (g := fun x => { x with successor := some k }) (fun _ => rfl) (.inr rfl)
      split
      · exact succeeded
      · exact succeeded.of_records (dropStart_records _ _ _ _)
    · refine serve_asked ends (Asked.of_records ?_ (dropStart_records _ _ _ _))
      exact made (fun _ => rfl) (.inl rfl)

end

/-! ### The end of an event -/

theorem putRecord_ord (new : IncidentRecord) (p : Part) (elsewhere : new.state ≠ .control) :
    (putRecord new p).ord = p.ord := by
  rw [putRecord_eq]
  have stored : (recordStored new p).ord = p.ord := by rw [recordStored_rest]
  have outside : (handedOn p.reg.record new).record.state ≠ .control := by
    rw [show (handedOn p.reg.record new).record = markControlled p.reg.record new from rfl, markControlled_state]
    exact elsewhere
  split
  · refine deliverRecord_induction (P := (·.ord = p.ord)) stored (fun q same => ?_) (fun q same => ?_) fun q same => ?_
    · rw [fansTakeRecord_rest]
      exact same
    · rw [ctlMeetsRecord_aside _ q outside]
      exact same
    · rw [coordTakeRecord_rest]
      exact same
  · exact stored

theorem takeClearingEnd_ord (p : Part) : (takeClearingEnd p).ord = p.ord := by
  unfold takeClearingEnd
  split
  · exact putRecord_ord _ _ (by simp [IncidentRecord.empty])
  · rfl

/-- Hand-ons are taken as an event's end and a RESTART's end take them (R82, R153, R211). -/
structure Taking (take : HandOn → Part → Part) : Prop where
  request : ∀ n k p, take (.orderRequest n k) p = requestOrder n k p
  ends    : ∀ p, Course p (take .clearingEnd p) ∧ (take .clearingEnd p).ord = p.ord

theorem takeHandOn_taking : Taking takeHandOn :=
  ⟨fun _ _ _ => rfl, fun p => ⟨takeClearingEnd_course p, takeClearingEnd_ord p⟩⟩

theorem takeRequestOnly_taking : Taking takeRequestOnly := ⟨fun _ _ _ => rfl, fun p => ⟨.refl p, rfl⟩⟩

section
variable {take : HandOn → Part → Part} (taking : Taking take)

include taking

theorem Taking.course (h : HandOn) (p : Part) : Course p (take h p) := by
  cases h with
  | orderRequest n k =>
    rw [taking.request]
    exact requestOrder_course n k p
  | clearingEnd => exact (taking.ends p).1

/-- A request that waits for a fan that stands is taken, and its order stands. -/
theorem Taking.settle_asked {n : Nat} {k : OrderKind} (ends : isStart k = false) (fuel : Nat) {p : Part} {f : FanRec}
    (found : p.fan? n = some f) (still : Still p.fm.queue f) (own : ∀ kind, .orderRequest n kind ∈ p.handOns → kind = k)
    (will : Asked n k p ∨ ∃ i, i < fuel ∧ p.handOns[i]? = some (.orderRequest n k)) : Asked n k (settle take fuel p) := by
  induction fuel generalizing p f with
  | zero => exact will.resolve_right fun ⟨_, few, _⟩ => absurd few (Nat.not_lt_zero _)
  | succ fuel ih =>
    unfold settle
    split
    · next none_waits => exact will.resolve_right fun ⟨_, _, waits⟩ => by simp [none_waits] at waits
    · next h rest waiting =>
      rw [waiting] at own will
      let p' : Part := { p with handOns := rest }
      have course : Course p' (take h p') := taking.course h p'
      obtain ⟨g, found_g, _, kept⟩ := course.fans n f found
      obtain ⟨l, posted, moving⟩ := course.posts
      refine ih found_g (course.still_of_mark (kept still) still) (fun kind mem => ?_) ?_
      · rw [posted] at mem
        rcases List.mem_append.mp mem with mem | mem
        · exact own kind (List.mem_cons_of_mem h mem)
        · exact absurd still (moving n kind mem f found)
      · rcases will with asked | ⟨i, few, waits⟩
        · left
          cases h with
          | orderRequest m kind =>
            rw [taking.request]
            exact requestOrder_asked ends (asked.of_records rfl) fun is_it => own kind (by simp [is_it])
          | clearingEnd => exact asked.of_records (congrArg OrderEngine.records (taking.ends p').2)
        · cases i with
          | zero =>
            left
            obtain rfl : h = .orderRequest n k := by simpa using waits
            rw [taking.request]
            exact requestOrder_asks ends found
          | succ i =>
            right
            refine ⟨i, Nat.lt_of_succ_lt_succ few, ?_⟩
            have waits : rest[i]? = some (.orderRequest n k) := by simpa using waits
            rw [posted, List.getElem?_append_left (List.getElem?_eq_some_iff.mp waits).1]
            exact waits

/-- The counters and the tags that the hand-ons of an event leave. -/
theorem Taking.settle_counters (fuel : Nat) (p : Part) :
    (settle take fuel p).ord.counters = { p.ord.counters with
      issued := (settle take fuel p).ord.counters.issued, withdrawn := (settle take fuel p).ord.counters.withdrawn } ∧
    p.ord.counters.withdrawn.toNat ≤ (settle take fuel p).ord.counters.withdrawn.toNat ∧
    (∀ k, k ≠ 8 → (settle take fuel p).fc.counts[k]? = p.fc.counts[k]?) ∧ TagsKept p (settle take fuel p) := by
  induction fuel generalizing p with
  | zero => exact ⟨rfl, Nat.le_refl _, fun _ _ => rfl, .of_tags rfl⟩
  | succ fuel ih =>
    unfold settle
    split
    · exact ⟨rfl, Nat.le_refl _, fun _ _ => rfl, .of_tags rfl⟩
    · next h rest waiting =>
      have course := taking.course h { p with handOns := rest }
      obtain ⟨counters, withdrawn, counts, tags⟩ := ih (take h { p with handOns := rest })
      refine ⟨?_, course.withdrawn.trans withdrawn, fun k other => (counts k other).trans (course.counts k other),
        course.tags.trans tags⟩
      rw [counters, course.counters]

end

/-- The counters and the tags that the end of an event leaves. -/
theorem finish_counters (p : Part) :
    (finish p).ord.counters = { p.ord.counters with
      issued := (finish p).ord.counters.issued, withdrawn := (finish p).ord.counters.withdrawn } ∧
    p.ord.counters.withdrawn.toNat ≤ (finish p).ord.counters.withdrawn.toNat ∧
    (∀ k, k ≠ 8 → (finish p).fc.counts[k]? = p.fc.counts[k]?) ∧ TagsKept p (finish p) := takeHandOn_taking.settle_counters settleBound p

/-- A request that waits at the end of an event, for a fan that stands, has its order made. -/
theorem finish_asked {n : Nat} {k : OrderKind} (ends : isStart k = false) {p : Part} {f : FanRec}
    (found : p.fan? n = some f) (still : Still p.fm.queue f) (own : ∀ kind, .orderRequest n kind ∈ p.handOns → kind = k)
    {i : Nat} (few : i < 1000) (waits : p.handOns[i]? = some (.orderRequest n k)) : Asked n k (finish p) :=
  (takeHandOn_taking.settle_asked ends settleBound found still own (.inr ⟨i, few, waits⟩)).of_records rfl

/-- While a fan is RUNNING the hand-ons of an event are order requests alone (R146). -/
theorem settled_of_runs {p : Part} (runs : Runs p) (out : .clearingEnd ∉ p.handOns) : OrderStep p (settled p) := by
  suffices settles : ∀ fuel q, Runs q → .clearingEnd ∉ q.handOns → OrderStep q (settle takeHandOn fuel q) from
    (handOns_step [] _ nofun).after (settles settleBound p runs out)
  intro fuel
  induction fuel with
  | zero => exact fun q _ _ => .refl q
  | succ fuel ih =>
    intro q runs out
    unfold settle
    split
    · exact .refl q
    · next h rest waiting =>
      rw [waiting] at out
      have none_ends : .clearingEnd ∉ rest := fun mem => out (List.mem_cons_of_mem h mem)
      have course := takeHandOn_course h { q with handOns := rest }
      cases h with
      | orderRequest n k =>
        exact ((ih _ (course.runs runs) (course.noEnd runs none_ends).1).after
          (requestOrder_step n k _)).after (handOns_step rest q none_ends)
      | clearingEnd => exact absurd (List.mem_cons_self ..) out

end Sys2Proof.Machine
end

section
/-! PROOFS. The staggered stops of a clearing (R145), and the entry to CLEARING: a fan that is RUNNING, or an order that
stands, holds the clearing open; with neither, the Register is in QUIET when the event is over (R146, R82). -/

namespace Sys2Proof.Machine

/-! ### A stop asked (R137) -/

/-- A fan that a staggered stop can ask: RUNNING, its stop not yet requested (R145). -/
def Stoppable (f : FanRec) : Prop := f.state = .running ∧ f.stopReq = false

/-- A part with a fan's stop requested. -/
def stopAsked (n : Nat) (p : Part) : Part := post (.orderRequest n .stop) (onFan n (fun f => { f with stopReq := true }) p)

section
variable {n : Nat} {f : FanRec} {p : Part} (found : p.fan? n = some f)

include found

theorem askStop_of_stoppable (stoppable : Stoppable f) : askStop n p = stopAsked n p := by
  obtain ⟨running, clear⟩ := stoppable
  unfold askStop
  rw [found]
  exact if_pos (by simp [running, clear])

theorem askStop_of_other (other : ¬ Stoppable f) : askStop n p = p := by
  unfold askStop
  rw [found]
  exact if_neg (by simpa [Stoppable] using other)

theorem stopAsked_fan? : (stopAsked n p).fan? n = some { f with stopReq := true } := by
  change (onFan n (fun f => { f with stopReq := true }) p).fan? n = _
  rw [fan?_onFan n n (g := fun f => { f with stopReq := true }) (fun _ => rfl), found]
  simp

omit found in
theorem stopAsked_fan?_other {m : Nat} (other : m ≠ n) : (stopAsked n p).fan? m = p.fan? m := by
  change (onFan n (fun f => { f with stopReq := true }) p).fan? m = _
  rw [fan?_onFan n m (g := fun f => { f with stopReq := true }) (fun _ => rfl)]
  simp [other]

theorem stopAsked_runs (running : f.state = .running) : Runs (stopAsked n p) := ⟨n, _, stopAsked_fan? found, running⟩

end

theorem still_of_running {f : FanRec} (running : f.state = .running) (queue : List Nat) : Still queue f :=
  ⟨by simp [running], by simp [running]⟩

/-- What stands of a fan at the end of an event, where it stands. -/
theorem finish_fan? {p : Part} {n : Nat} {f : FanRec} (found : p.fan? n = some f) (still : Still p.fm.queue f) :
    ∃ g, (finish p).fan? n = some g ∧ g = { f with excluded := g.excluded, heat := g.heat } := by
  obtain ⟨g, found_g, _, kept⟩ := (finish_drift p).fans n f found
  exact ⟨g, found_g, kept still⟩

/-! ### The staggered stop (R145) -/

/-- The stop-spacing timer armed with the stop spacing. -/
def spacingArmed (p : Part) : Part :=
  { p with fm := { p.fm with stopSpacing := some (p.now + BitVec.ofNat 32 (1000 * p.control.stopSpacing)) } }

theorem mem_preferred {m : FanManager} {f : FanRec} : f ∈ preferred m ↔
    ∃ n ∈ m.preference, m.fans.find? (fun g => g.e.num == n) = some f := List.mem_filterMap

section
variable {p : Part}

theorem staggeredStop_of_none (none_stands : ∀ f ∈ preferred p.fm, ¬ Stoppable f) : staggeredStop p = spacingArmed p := by
  have empty : lastWhere (fun f => f.state == .running && !f.stopReq) (preferred p.fm) = none := by
    unfold lastWhere
    rw [List.getLast?_eq_none_iff, List.filter_eq_nil_iff]
    intro f mem
    simpa [Stoppable] using none_stands f mem
  unfold staggeredStop
  rw [empty]
  rfl

/-- The stop asked is that of the last fan of the preference order that can be asked. -/
theorem staggeredStop_of_last {pre post : List Nat} {n : Nat} {f : FanRec} (order : p.fm.preference = pre ++ n :: post)
    (found : p.fan? n = some f) (stoppable : Stoppable f)
    (last : ∀ m ∈ post, ∀ g, p.fan? m = some g → ¬ Stoppable g) :
    staggeredStop p = spacingArmed (stopAsked n p) := by
  have after_it : (post.filterMap fun m => p.fm.fans.find? fun f => f.e.num == m).filter
      (fun f => f.state == .running && !f.stopReq) = [] := by
    rw [List.filter_eq_nil_iff]
    intro g mem
    obtain ⟨m, mem_m, found_m⟩ := List.mem_filterMap.mp mem
    simpa [Stoppable] using last m mem_m g found_m
  have chosen : lastWhere (fun f => f.state == .running && !f.stopReq) (preferred p.fm) = some f := by
    unfold lastWhere preferred
    have located : p.fm.fans.find? (fun f => f.e.num == n) = some f := found
    rw [order, List.filterMap_append, List.filterMap_cons, located, List.filter_append]
    dsimp only
    rw [List.filter_cons_of_pos (by simp [stoppable.1, stoppable.2]), after_it, List.getLast?_append,
      List.getLast?_singleton, Option.some_or]
  unfold staggeredStop
  rw [chosen]
  dsimp only
  rw [fan?_num found, askStop_of_stoppable found stoppable]
  rfl

/-- A staggered stop arms the timer, and asks at most one stop. -/
theorem staggeredStop_cases (p : Part) : staggeredStop p = spacingArmed p ∨
    ∃ n f, p.fan? n = some f ∧ Stoppable f ∧ staggeredStop p = spacingArmed (stopAsked n p) := by
  unfold staggeredStop
  split
  · next f last =>
    have mem := List.mem_filter.mp (List.mem_of_getLast? last)
    obtain ⟨n, _, found⟩ := mem_preferred.mp mem.1
    have located : p.fan? n = some f := found
    have stoppable : Stoppable f := by simpa [Stoppable] using mem.2
    refine .inr ⟨n, f, located, stoppable, ?_⟩
    dsimp only
    rw [fan?_num located, askStop_of_stoppable located stoppable]
    rfl
  · exact .inl rfl

end

/-- The end of an event that has asked the stop of a RUNNING fan: the stop is requested of the Order Engine (R153). -/
theorem finish_stopAsked {p : Part} {n : Nat} {f : FanRec} (quiet : p.handOns = []) (found : p.fan? n = some f)
    (running : f.state = .running) :
    OrderStep (spacingArmed (stopAsked n p)) (settled (spacingArmed (stopAsked n p))) ∧
    (∃ g, (finish (spacingArmed (stopAsked n p))).fan? n = some g ∧ g.state = .running ∧ g.stopReq = true) ∧
    Asked n .stop (finish (spacingArmed (stopAsked n p))) := by
  have asked : (spacingArmed (stopAsked n p)).handOns = [.orderRequest n .stop] := congrArg (· ++ _) quiet
  have located : (spacingArmed (stopAsked n p)).fan? n = some { f with stopReq := true } := stopAsked_fan? found
  refine ⟨settled_of_runs (stopAsked_runs found running) (by simp [asked]), ?_, ?_⟩
  · obtain ⟨g, found_g, same⟩ := finish_fan? located (still_of_running running _)
    exact ⟨g, found_g, by rw [same]; exact running, by rw [same]⟩
  · refine finish_asked rfl located (still_of_running running _) (fun kind mem => ?_) (i := 0) (by omega) (by rw [asked]; rfl)
    simpa [asked] using mem

/-! ### The obligation: the stop-spacing timer -/

/-- Settles O34, from what a staggered stop asks. -/
theorem stopSpacing : Obligations.StopSpacing := by
  unfold Obligations.StopSpacing
  intro s quiet
  have in_clearing (armed : s.part.fm.stopSpacing ≠ none) (clearing : s.part.fm.record.state = .clearing) :
      spacingExpires s.part = staggeredStop s.part := by
    unfold spacingExpires
    rw [if_pos (by simpa [Option.isSome_iff_ne_none] using armed), if_pos (by simp [clearing])]
  refine ⟨fun unarmed => ?_, fun armed elsewhere => ?_, fun armed clearing none_stands => ?_,
    fun armed clearing pre n post f order found running clear last => ?_⟩
  · exact nextWith_of_left (if_neg (by simp [unarmed])) quiet
  · refine nextWith_of_left (f := spacingExpires) (q := spacingCancelled s.part) ?_ quiet
    unfold spacingExpires
    rw [if_pos (by simpa [Option.isSome_iff_ne_none] using armed), if_neg (by simpa using elsewhere)]
    rfl
  · refine nextWith_of_left (f := spacingExpires) (q := spacingArmed s.part) ?_ quiet
    rw [in_clearing armed clearing]
    refine staggeredStop_of_none fun f mem => ?_
    obtain ⟨n, mem_n, found⟩ := mem_preferred.mp mem
    exact none_stands n mem_n f found
  · have stops : spacingExpires s.part = spacingArmed (stopAsked n s.part) :=
      (in_clearing armed clearing).trans (staggeredStop_of_last order found ⟨running, clear⟩ last)
    obtain ⟨settles, ⟨g, found_g, running_g, asked_g⟩, asked⟩ := finish_stopAsked quiet found running
    have spacing := ((finish_drift (spacingArmed (stopAsked n s.part))).spacing
      (by rw [show (finish _).fm.record = _ from settles.record]; exact clearing)).2
    refine ⟨_, g, rfl, ?_⟩
    change (finish (spacingExpires s.part)).fm.stopSpacing = _ ∧ (finish (spacingExpires s.part)).fan? n = _ ∧ _ ∧ _ ∧
      ∃ r ∈ (finish (spacingExpires s.part)).ord.records, _
    rw [stops]
    exact ⟨spacing, found_g, running_g, asked_g, asked.record⟩

end Sys2Proof.Machine
end

section
/-! PROOFS. The entry to CLEARING (R67, R145, R146), and a HOLD, a RESUME and a CLEAR (R66, R67). -/

namespace Sys2Proof.Machine

/-! ### What holds a clearing open -/

theorem holdsOpen_iff (f : FanRec) : holdsOpen f = true ↔ Rule.holdsOpen f := by
  unfold holdsOpen Rule.holdsOpen
  cases f.state <;> simp
  cases f.known <;> simp

/-- A fan or an order holds a clearing open (R146). -/
def HeldOpen (p : Part) : Prop := (∃ f ∈ p.fm.fans, Rule.holdsOpen f) ∨ p.ord.records ≠ []

theorem testClearing_of_open {p : Part} (open_ : HeldOpen p) : testClearing p = p := by
  refine if_neg ?_
  rcases open_ with ⟨f, mem, holds⟩ | records
  · have any : p.fm.fans.any holdsOpen = true := List.any_eq_true.mpr ⟨f, mem, (holdsOpen_iff f).mpr holds⟩
    simp [any]
  · have waits : noOrders p = false := by simp [noOrders, records]
    simp [waits]

/-- The end of a clearing that nothing holds open is reported, the first time (R146). -/
theorem testClearing_of_over {p : Part} (clearing : p.fm.record.state = .clearing) (unsent : p.fm.clearingSent = false)
    (closed : ¬ HeldOpen p) (quiet : p.handOns = []) :
    testClearing p = post .clearingEnd { p with fm := { p.fm with clearingSent := true } } := by
  obtain ⟨none_open, records⟩ := not_or.mp closed
  have none_any : p.fm.fans.any holdsOpen = false := by
    rw [List.any_eq_false]
    exact fun f mem holds => none_open ⟨f, mem, (holdsOpen_iff f).mp holds⟩
  have none_waits : noOrders p = true := by simp [noOrders, not_not.mp records, quiet]
  exact if_pos (by simp [clearing, unsent, none_any, none_waits])

/-- The fans judged are the fans as they stood, but for their marks (R112, R113). -/
theorem fansJudged_marks (h : RecordHandOn) (p : Part) : ∃ x e : FanRec → Bool, (fansJudged h p).fm.fans =
    p.fm.fans.map fun f => { f with excluded := x f, heat := e f } := by
  unfold fansJudged
  extract_lets moved m q' q q1 q2 q3 q4
  let Marked (l : List FanRec) : Prop := ∃ x e : FanRec → Bool, l = p.fm.fans.map fun f => { f with excluded := x f, heat := e f }
  have h0 : Marked q.fm.fans := ⟨fun f => isExcluded p.control.exclusion h.record f.e, (·.heat), rfl⟩
  have h1 : Marked q1.fm.fans := by
    unfold q1
    split
    · obtain ⟨x, e, same⟩ := h0
      refine ⟨x, fun _ => false, ?_⟩
      unfold clearHeat
      dsimp only
      rw [same, List.map_map]
      rfl
    · exact h0
  have h2 : Marked q2.fm.fans := by
    unfold q2
    split
    · obtain ⟨x, e, same⟩ := h1
      refine ⟨x, fun f => e f || isExposed q1.fm.record (zoneTempOf q1.fm f.e.zone) f.e, ?_⟩
      unfold judgeHeat updWhere
      dsimp only
      rw [same, List.map_map]
      rfl
    · exact h1
  have h3 : q3.fm.fans = q2.fm.fans := by
    unfold q3
    split <;> rfl
  have h4 : q4.fm.fans = q3.fm.fans := by
    unfold q4
    split <;> rfl
  change Marked q4.fm.fans
  rw [h4, h3]
  exact h2

theorem fansJudged_open (h : RecordHandOn) (p : Part) : HeldOpen (fansJudged h p) ↔ HeldOpen p := by
  obtain ⟨x, e, marked⟩ := fansJudged_marks h p
  have ord : (fansJudged h p).ord = p.ord := by rw [fansJudged_eq]
  unfold HeldOpen
  rw [marked, ord]
  simp only [List.mem_map, exists_exists_and_eq_and]
  rfl

/-! ### A record in CLEARING taken by the Fan Manager -/

section
variable {h : RecordHandOn} {p : Part} (clearing : h.record.state = .clearing) (enters : h.before ≠ .clearing)

include clearing enters

theorem fansTakeRecord_of_clearing : fansTakeRecord h p = testClearing (clearingBegun (fansJudged h p)) := by
  rw [fansTakeRecord_eq, if_pos (by simp [clearing]), if_pos (by simpa using enters),
    fansAsked_of_not_control (by simp [clearing])]

/-- What the Fan Manager makes of a record that enters CLEARING: nothing asked, or the stop of a RUNNING fan, where the
clearing is held open; else its end reported (R145, R146). -/
theorem fansTakeRecord_clearing (quiet : p.handOns = []) :
    (HeldOpen p → (fansTakeRecord h p).handOns = [] ∨
      Runs (fansTakeRecord h p) ∧ .clearingEnd ∉ (fansTakeRecord h p).handOns) ∧
    (¬ HeldOpen p → (fansTakeRecord h p).handOns = [.clearingEnd]) := by
  rw [fansTakeRecord_of_clearing clearing enters]
  let j : Part := { fansJudged h p with fm := { (fansJudged h p).fm with clearingSent := false } }
  have waits : j.handOns = [] := by
    change (fansJudged h p).handOns = _
    rw [fansJudged_eq]
    exact quiet
  have same : HeldOpen j ↔ HeldOpen p := fansJudged_open h p
  change (_ → (testClearing (staggeredStop j)).handOns = _ ∨ _) ∧ _
  rw [show clearingBegun (fansJudged h p) = staggeredStop j from rfl]
  rcases staggeredStop_cases j with none_asked | ⟨n, f, found, ⟨running, clear⟩, asked⟩
  · rw [none_asked]
    constructor
    · intro open_
      rw [testClearing_of_open (p := spacingArmed j) (same.mpr open_)]
      exact .inl waits
    · intro closed
      have state : (spacingArmed j).fm.record.state = .clearing := by
        change (fansJudged h p).fm.record.state = _
        rw [fansJudged_record]
        exact clearing
      rw [testClearing_of_over (p := spacingArmed j) state rfl (mt same.mp closed) waits]
      exact congrArg (· ++ _) waits
  · have runs : Runs (spacingArmed (stopAsked n j)) := stopAsked_runs found running
    rw [asked, testClearing_of_runs runs]
    have posted : (spacingArmed (stopAsked n j)).handOns = [.orderRequest n .stop] := congrArg (· ++ _) waits
    refine ⟨fun _ => .inr ⟨runs, by simp [posted]⟩, fun closed => absurd (same.mp ?_) closed⟩
    exact .inl ⟨f, List.mem_of_find?_eq_some found, .inr (.inl running)⟩

end

/-! ### The entry to CLEARING -/

/-- The record that enters CLEARING (R67, R80). -/
def clearingHandOn (r : IncidentRecord) : RecordHandOn := ⟨r.state, { r with state := .clearing }, none⟩

section
variable {p : Part} (responds : Responding p.reg.record.state)

include responds

theorem enterClearing_eq : enterClearing p = deliverRecord (clearingHandOn p.reg.record)
    (recordStored { p.reg.record with state := .clearing } (dropWait p)) := by
  have differs : p.reg.record.state ≠ .clearing := by rcases responds with s | s | s <;> simp [s]
  have kept : handedOn p.reg.record { p.reg.record with state := .clearing } = clearingHandOn p.reg.record := by
    unfold handedOn
    rw [markControlled_elsewhere (.inl (by simp)), show entryKind p.reg.record { p.reg.record with state := .clearing } = none
      from if_neg (by simp)]
    rfl
  unfold enterClearing
  rw [putRecord_eq, if_pos (isHandedOn_of_state (by exact differs))]
  exact congrArg (deliverRecord · _) kept

omit responds in
theorem enterClearing_reg : (enterClearing p).reg = { p.reg with
    record := { p.reg.record with state := .clearing }, leadWait := none, entry := none } := by
  unfold enterClearing
  rw [(putRecord_regMeas _ _).1, putReg, markControlled_elsewhere (.inl (by simp)), if_neg (by simp)]
  rfl

/-- What the entry to CLEARING posts. -/
theorem enterClearing_posts (quiet : p.handOns = []) :
    (HeldOpen p → (enterClearing p).handOns = [] ∨ Runs (enterClearing p) ∧ .clearingEnd ∉ (enterClearing p).handOns) ∧
    (¬ HeldOpen p → (enterClearing p).handOns = [.clearingEnd]) := by
  have differs : p.reg.record.state ≠ .clearing := by rcases responds with s | s | s <;> simp [s]
  rw [enterClearing_eq responds]
  have stored := recordStored_rest { p.reg.record with state := .clearing } (dropWait p)
  refine deliverRecord_fans (P := fun m l => (HeldOpen p → l = [] ∨
      (∃ n f, m.fans.find? (fun f => f.e.num == n) = some f ∧ f.state = .running) ∧ .clearingEnd ∉ l) ∧
      (¬ HeldOpen p → l = [.clearingEnd]))
    (fun q => ctlMeetsRecord_aside (clearingHandOn p.reg.record) q (by simp [clearingHandOn])) fun q fm handOns ord _ => ?_
  have same : HeldOpen q ↔ HeldOpen p := by
    unfold HeldOpen
    rw [fm, ord, stored]
    rfl
  rw [← same]
  refine fansTakeRecord_clearing rfl differs ?_
  rw [handOns, stored]
  exact quiet

/-- What holds of the Register when an event that enters CLEARING is over. -/
theorem finish_enterClearing (quiet : p.handOns = []) :
    (HeldOpen p → (finish (enterClearing p)).reg = { p.reg with
      record := { p.reg.record with state := .clearing }, leadWait := none, entry := none }) ∧
    (¬ HeldOpen p → (finish (enterClearing p)).reg = { p.reg with
      record := .empty .quiet, lastCleared := p.reg.record.id, detection := [], autoDeclare := none, leadWait := none,
      entry := none }) := by
  obtain ⟨held, reports⟩ := enterClearing_posts responds quiet
  have reg := enterClearing_reg (p := p)
  refine ⟨fun open_ => ?_, fun closed => ?_⟩
  · rw [← reg]
    change (settled (enterClearing p)).reg = _
    rcases held open_ with none_waits | ⟨runs, out⟩
    · rw [settled_of_quiet _ none_waits]
    · exact (settled_of_runs runs out).regMeasKept.reg
  · let q : Part := { enterClearing p with handOns := [] }
    have clearing : q.reg.record.state = .clearing := by
      change (enterClearing p).reg.record.state = _
      rw [reg]
    have taken : takeClearingEnd q = enterQuiet { q with reg := { q.reg with lastCleared := q.reg.record.id } } :=
      if_pos (by simp [clearing])
    have settles : settle takeHandOn settleBound (enterClearing p) = settle takeHandOn 999 (takeClearingEnd q) := by
      change settle takeHandOn 1000 _ = _
      rw [settle, reports closed]
      rfl
    have entered := enterQuiet_regMeasKept (p := { q with reg := { q.reg with lastCleared := q.reg.record.id } })
      (by simp [clearing])
    change (settle takeHandOn settleBound (enterClearing p)).reg = _
    rw [settles, taken, (settle_regMeasKept 999 _ (by rw [entered.reg]; exact IncidentState.noConfusion)).reg, entered.reg]
    change { (enterClearing p).reg with
      record := .empty .quiet, lastCleared := (enterClearing p).reg.record.id, detection := [], autoDeclare := none,
      leadWait := none, entry := none } = _
    rw [reg]

end

/-! ### The obligation -/

section
variable {n : Notice} {p : Part} (good : ¬ idFails n = true) (named : n.id = p.reg.record.id)

include good named

theorem judgeFreeze_of_named {a b : IncidentState} (responds : Responding a) (state : p.reg.record.state = a) :
    judgeFreeze a b n p = putRecord { p.reg.record with state := b } (acceptNotice p) := by
  unfold judgeFreeze
  rw [if_neg good]
  rcases responds with rfl | rfl | rfl <;> simp [state, named]

theorem judgeClear_of_named (responds : Responding p.reg.record.state) :
    judgeClear n p = enterClearing (acceptNotice p) := by
  unfold judgeClear
  rw [if_neg good]
  rcases responds with state | state | state <;> simp [state, named]

end

/-- A change of state from one of CONTROL and HOLD to the other, as the event leaves it. -/
theorem finish_frozen {p : Part} {a b : IncidentState} (quiet : p.handOns = []) (differs : a ≠ b)
    (state : p.reg.record.state = a) (open_ : b = .control ∨ b = .hold) :
    let q := putRecord { p.reg.record with state := b } p
    (finish q).reg = { p.reg with record := markControlled p.reg.record { p.reg.record with state := b } } ∧
    (finish q).fc.flags &&& 0x0200 ≠ 0 ∧ (finish q).ctl = q.ctl := by
  intro q
  have not_quiet : b ≠ .quiet := by rcases open_ with rfl | rfl <;> simp
  have not_clearing : b ≠ .clearing := by rcases open_ with rfl | rfl <;> simp
  have reg : q.reg = { p.reg with record := markControlled p.reg.record { p.reg.record with state := b } } := by
    unfold q
    rw [(putRecord_regMeas _ _).1, putReg, if_neg fun enters => not_quiet enters.1]
  have raised := putRecord_incidentChange (p := p) (new := { p.reg.record with state := b }) (.inl (by rw [state]; exact differs))
  have settles : OrderStep q (settled q) := by
    unfold q
    rw [putRecord_eq, if_pos (isHandedOn_of_state (by rw [state]; exact differs))]
    refine settled_deliverRecord ?_ (by rw [recordStored_rest]; exact quiet)
    rw [show (handedOn p.reg.record _).record = markControlled p.reg.record { p.reg.record with state := b } from rfl,
      markControlled_state]
    exact not_clearing
  refine ⟨?_, ?_, ?_⟩
  · change (settled q).reg = _
    rw [settles.regMeasKept.reg, reg]
  · rw [(finish_event q).flags.of_mask raised]
    decide
  · change (settled q).ctl = _
    rw [settles.rest]

/-- Settles O26, by `finish_frozen` and `finish_enterClearing`. -/
theorem holdResumeClear : Obligations.HoldResumeClear := by
  unfold Obligations.HoldResumeClear
  refine ⟨fun n s quiet range named => ⟨fun inside => ?_, fun hold => ?_⟩, fun n s quiet range named => ?_⟩
  · have judged := judgeFreeze_of_named (b := .hold) (id_passes range) named (.inr (.inl rfl)) inside
    obtain ⟨reg, raised, ctl⟩ := finish_frozen (p := acceptNotice s.part) (b := .hold) quiet (by simp) inside (.inr rfl)
    refine ⟨_, rfl, ?_⟩
    change (finish (judgeFreeze .control .hold n s.part)).reg = _ ∧ (finish (judgeFreeze .control .hold n s.part)).fc.flags &&& _ ≠ 0 ∧
      (finish (judgeFreeze .control .hold n s.part)).ctl.mode = _
    rw [judged]
    refine ⟨reg.trans ?_, raised, ?_⟩
    · rw [markControlled_elsewhere (.inl (by simp))]
      rfl
    · refine (congrArg AirflowController.mode ctl).trans ?_
      rw [putRecord_eq, if_pos (isHandedOn_of_state (by rw [show (acceptNotice s.part).reg.record.state = _ from inside]; simp))]
      refine deliverRecord_ctl (P := (·.mode = .idle)) fun q _ _ => ctlMeetsRecord_idle ?_ q
      rw [show (handedOn _ _).record = markControlled _ _ from rfl, markControlled_state]
      simp
  · have judged := judgeFreeze_of_named (b := .control) (id_passes range) named (.inr (.inr rfl)) hold
    obtain ⟨reg, raised, ctl⟩ := finish_frozen (p := acceptNotice s.part) (b := .control) quiet (by simp) hold (.inl rfl)
    have outside : (acceptNotice s.part).reg.record.state ≠ .control := by
      rw [show (acceptNotice s.part).reg.record.state = _ from hold]
      simp
    refine ⟨_, rfl, ?_⟩
    change (finish (judgeFreeze .hold .control n s.part)).reg = _ ∧ (finish (judgeFreeze .hold .control n s.part)).fc.flags &&& _ ≠ 0 ∧
      (finish (judgeFreeze .hold .control n s.part)).ctl.mode ≠ _
    rw [judged]
    refine ⟨reg.trans ?_, raised, ?_⟩
    · rw [markControlled_entry outside rfl]
      rfl
    · refine fun idle => absurd ((congrArg AirflowController.mode ctl).symm.trans idle) ?_
      rw [putRecord_eq, if_pos (isHandedOn_of_state (by exact outside))]
      refine deliverRecord_ctl (P := (·.mode ≠ .idle)) fun q _ _ => ctlMeetsRecord_active ?_ (if_pos (by simpa using outside)) q
      rw [show (handedOn _ _).record = markControlled _ _ from rfl, markControlled_state]
  · intro r responds
    have judged := judgeClear_of_named (id_passes range) named responds
    obtain ⟨held, ended⟩ := finish_enterClearing (p := acceptNotice s.part) responds quiet
    refine ⟨_, rfl, ?_⟩
    change (finish (judgeClear n s.part)).reg.outcome = _ ∧ (finish (judgeClear n s.part)).reg.leadWait = _ ∧
      (finish (judgeClear n s.part)).reg.entry = _ ∧ (_ → (finish (judgeClear n s.part)).reg.record = _ ∧
      (finish (judgeClear n s.part)).reg.lastCleared = _ ∧ (finish (judgeClear n s.part)).reg.detection = _) ∧ (_ → _ →
      (finish (judgeClear n s.part)).reg.record = _ ∧
      (finish (judgeClear n s.part)).reg.lastCleared = _ ∧ (finish (judgeClear n s.part)).reg.detection = _)
    rw [judged]
    by_cases open_ : HeldOpen s.part
    · rw [held open_]
      exact ⟨rfl, rfl, rfl, fun _ => ⟨rfl, rfl, rfl⟩, fun none_open records => absurd open_ (by simp [HeldOpen, none_open, records])⟩
    · rw [ended open_]
      exact ⟨rfl, rfl, rfl, fun opens => absurd opens open_, fun _ _ => ⟨rfl, rfl, rfl⟩⟩

end Sys2Proof.Machine
end

section
/-! PROOFS. The section velocity and its quality (R48, R49), and the hold timer of a point (R45). -/

namespace Sys2Proof.Machine

/-! ### Vm and its quality -/

theorem weightedSum_eq (l : List PointRec) :
    weightedSum l = (l.map fun q => (weight q : Int) * q.voted.getD 0).sum := by
  induction l with
  | nil => rfl
  | cons q rest ih =>
    rw [List.map_cons, List.sum_cons, ← ih]
    unfold weightedSum
    rw [List.foldr_cons]
    cases q.voted <;> rfl

theorem weight_eq (q : PointRec) : weight q = if q.quality = .good then 2 else if q.quality = .unknown then 0 else 1 := by
  unfold weight
  cases q.quality <;> rfl

theorem sectionVelocity_eq (points : List PointRec) (last : Int) : sectionVelocity points last =
    if (points.map weight).sum = 0 then last
    else Int.tdiv (points.map fun q => (weight q : Int) * q.voted.getD 0).sum (points.map weight).sum := by
  unfold sectionVelocity
  dsimp only
  rw [sumOf_eq, weightedSum_eq]
  by_cases none_usable : (points.map weight).sum = 0
  · rw [if_pos (by simpa using none_usable), if_pos none_usable]
  · rw [if_neg (by simpa using none_usable), if_neg none_usable]
    rfl

theorem sectionQuality_eq (points : List PointRec) (c : Nat) : sectionQuality points c =
    if 1 ≤ c ∧ c ≤ 2 * (points.filter fun q => q.quality == .good || q.quality == .paired).length then .good
    else if c = 0 ∨ ∀ q ∈ points, q.quality = .unknown then .lost
    else .degraded := by
  have unusable : points.any usable = false ↔ ∀ q ∈ points, q.quality = .unknown := by
    simp [List.any_eq_false, usable]
  unfold sectionQuality
  dsimp only
  simp only [Bool.and_eq_true, Bool.or_eq_true, decide_eq_true_iff, beq_iff_eq, Bool.not_eq_true', unusable]

/-- Vm and its quality recomputed: the Measurement Unit, and VELOCITY_LOST where the quality becomes LOST (R48, R49). -/
theorem recomputeVm_meas (p : Part) : (recomputeVm p).meas = { p.meas with
    vm := sectionVelocity p.meas.points p.meas.vm,
    quality := sectionQuality p.meas.points p.pointEntries.length } := by
  unfold recomputeVm
  dsimp only
  split
  · rw [raise_meas, report_meas]
  · rfl

theorem recomputeVm_fc {k : Nat} (other : k ≠ 12) (p : Part) : FlagsKept p.fc.flags (recomputeVm p).fc.flags ∧
    (recomputeVm p).fc.counts[k]? = p.fc.counts[k]? := by
  unfold recomputeVm
  extract_lets q entered m p'
  split
  · exact ⟨(report_flagsKept _ _ p').trans (raise_flagsKept _ _), report_counts_other (kind := .velocityLost) other _ p'⟩
  · exact ⟨.refl _, rfl⟩

theorem recomputeVm_handOns (p : Part) : (recomputeVm p).handOns = p.handOns := by
  unfold recomputeVm
  dsimp only
  split
  · rw [raise_handOns, report_handOns]
  · rfl

/-! ### The loss of a point (R45) -/

theorem losePoint_meas (n : Nat) (p : Part) : (losePoint n p).meas = { p.meas with
    points := p.meas.points.map fun q =>
      if q.num = n then { q with quality := .unknown, voted := none, holdTimer := none } else q } := by
  unfold losePoint
  dsimp only
  rw [raise_meas, report_meas]
  unfold onPoint updWhere
  simp only [beq_iff_eq]

theorem losePoint_fc (n : Nat) (p : Part) : (losePoint n p).fc.flags &&& 0x1000 = 0x1000 ∧
    (losePoint n p).fc.counts[11]? = (p.fc.counts[11]?).map bump :=
  ⟨raise_flags_and_flagBit .pointLost _, report_counts_same .pointLost _ _⟩

theorem losePoint_handOns (n : Nat) (p : Part) : (losePoint n p).handOns = p.handOns := by
  unfold losePoint
  dsimp only
  rw [raise_handOns, report_handOns]
  rfl

/-! ### The obligation -/

/-- Settles O20, from the loss of the point and Vm recomputed. -/
theorem pointHoldExpires_holds : Obligations.PointHoldExpires := by
  unfold Obligations.PointHoldExpires
  intro n q s quiet found
  have located : s.part.point? n = some q := found
  refine ⟨fun other => ?_, fun held armed => ?_⟩
  · refine nextWith_of_left (f := pointHoldExpires n) (q := s.part) ?_ quiet
    unfold pointHoldExpires
    rw [located]
    exact if_neg (by simpa [Option.isSome_iff_ne_none] using other)
  · intro points w weights total agreed configured quality
    have expires : pointHoldExpires n s.part = recomputeVm (losePoint n s.part) := by
      unfold pointHoldExpires
      rw [located]
      exact if_pos (by simp [held, Option.isSome_iff_ne_none, armed])
    have left : exec (.pointHoldTimerExpiry n) s = nextPart s (recomputeVm (losePoint n s.part)) :=
      nextWith_of_left expires (by rw [recomputeVm_handOns, losePoint_handOns]; exact quiet)
    have w_eq : w = weight := funext fun y => (weight_eq y).symm
    obtain ⟨lost, counted⟩ := losePoint_fc n s.part
    obtain ⟨flags, counts⟩ := recomputeVm_fc (k := 11) (by decide) (losePoint n s.part)
    refine ⟨_, left, ?_, ?_, ?_⟩
    · change (recomputeVm (losePoint n s.part)).meas = _
      have entries : (losePoint n s.part).pointEntries = s.part.pointEntries := by
        unfold Part.pointEntries
        rw [(losePoint_step n s.part).mgmt]
      rw [recomputeVm_meas, losePoint_meas, entries, sectionVelocity_eq, sectionQuality_eq]
      unfold weights total
      rw [w_eq]
    · change (recomputeVm (losePoint n s.part)).fc.flags &&& _ ≠ 0
      rw [flags.of_mask lost]
      decide
    · exact counts.trans counted

end Sys2Proof.Machine
end

section
/-! PROOFS. Answers that are counted or retried (R158, R160), and the retry and quarantine timers (R160, R167). -/

namespace Sys2Proof.Machine

/-! ### Answers -/

theorem carries_query_iff (r : OrderRec) : carries r = .query ↔ r.state = .querying ∨ r.kind = .query := by
  unfold carries
  by_cases querying : r.state = .querying <;> simp [querying]

theorem fits_iff (r : OrderRec) (o : AnswerOutcome) :
    fits r o = true ↔ ((r.state = .querying ∨ r.kind = .query) ↔ o = .state) := by
  unfold fits
  rw [beq_iff_eq, ← carries_query_iff, Bool.eq_iff_iff, beq_iff_eq, beq_iff_eq]

/-- A fan's order changed, as a list of records. -/
theorem onOrder_eq (n : Nat) (g : OrderRec → OrderRec) (p : Part) : onOrder n g p = { p with ord := { p.ord with
    records := p.ord.records.map fun x => if x.fan = n then g x else x } } := by
  unfold onOrder updWhere
  simp only [beq_iff_eq]

theorem onOrder_onOrder (n : Nat) (f g : OrderRec → OrderRec) (p : Part) (same : ∀ r, (f r).fan = r.fan) :
    onOrder n g (onOrder n f p) = onOrder n (fun r => g (f r)) p := by
  simp only [onOrder_eq, List.map_map]
  refine congrArg (fun l => ({ p with ord := { p.ord with records := l } } : Part)) (List.map_congr_left fun x _ => ?_)
  by_cases own : x.fan = n <;> simp [own, same]

theorem countOrder_onOrder (c : OrderCounters → OrderCounters) (n : Nat) (g : OrderRec → OrderRec) (p : Part) :
    countOrder c (onOrder n g p) = onOrder n g (countOrder c p) := rfl

/-- Orders counted. -/
def ordersCounted (c : OrderCounters) (p : Part) : Part := { p with ord := { p.ord with counters := c } }

section
variable {station tag output : Nat} {o : AnswerOutcome} {run : RunState} {g : TagRec} {r : OrderRec} {p : Part}
variable (found : p.ord.tags.find? (fun t => t.station == station && t.tag == tag) = some g)

include found

theorem takeAnswer_of_quarantine (late : g.state = .quarantine) : takeAnswer station tag output o run p =
    ordersCounted { p.ord.counters with late := bump p.ord.counters.late } p := by
  unfold takeAnswer Part.tag?
  rw [found]
  dsimp only
  rw [late]
  rfl

theorem takeAnswer_of_free (free : g.state = .free) : takeAnswer station tag output o run p =
    ordersCounted { p.ord.counters with unexpected := bump p.ord.counters.unexpected } p := by
  unfold takeAnswer Part.tag?
  rw [found]
  dsimp only
  rw [free]
  rfl

variable (busy : g.state = .busy) (holder : p.ord.records.find? (fun r => r.station == station && r.tag == some tag) = some r)

include busy holder

theorem takeAnswer_of_held : takeAnswer station tag output o run p =
    if r.state = .retryWait then ordersCounted { p.ord.counters with unexpected := bump p.ord.counters.unexpected } p
    else if r.output = output ∧ fits r o = true then answerMatched r o run p
    else ordersCounted { p.ord.counters with mismatched := bump p.ord.counters.mismatched } p := by
  unfold takeAnswer Part.tag?
  rw [found]
  dsimp only
  rw [busy]
  dsimp only
  rw [holder]
  dsimp only
  simp only [beq_iff_eq, Bool.and_eq_true]
  rfl

theorem takeAnswer_of_matched (waits : r.state ≠ .retryWait) (fit : fits r o = true) :
    takeAnswer station tag r.output o run p = answerMatched r o run p := by
  rw [takeAnswer_of_held found busy holder, if_neg waits, if_pos ⟨rfl, fit⟩]

end

/-- Settles O39, by the cases of `takeAnswer`. -/
theorem answerCountedOrRetried : Obligations.AnswerCountedOrRetried := by
  unfold Obligations.AnswerCountedOrRetried
  refine ⟨fun station tag output o run g s quiet found => ?_, fun station tag run g r s quiet found busy holder sent kind open_ => ?_⟩
  · intro c holder becomes
    have counted {c : OrderCounters} (left : takeAnswer station tag output o run s.part = ordersCounted c s.part) :
        becomes c := nextWith_of_left left quiet
    refine ⟨fun late => counted (takeAnswer_of_quarantine found late), fun free => counted (takeAnswer_of_free found free),
      fun r busy held => ⟨fun waits => ?_, fun waits unfit => ?_⟩⟩
    · exact counted (by rw [takeAnswer_of_held found busy held, if_pos waits])
    · refine counted ?_
      rw [takeAnswer_of_held found busy held, if_neg waits, if_neg]
      rw [fits_iff]
      rintro ⟨same, fit⟩
      rcases unfit with differs | crossed
      · exact differs same
      · exact absurd (fit.symm.trans crossed) (by simp)
  · have fit : fits r .busy = true := by
      rw [fits_iff]
      simp [sent, kind]
    refine nextWith_of_left (f := takeAnswer station tag r.output .busy run) ?_ quiet
    rw [takeAnswer_of_matched found busy holder (by simp [sent]) fit]
    unfold answerMatched answerBusy
    dsimp only
    rw [if_pos open_]
    rw [countOrder_onOrder, onOrder_onOrder r.fan (fun x => { x with response := none }) _ _ fun _ => rfl, onOrder_eq]
    rfl

/-- A change of the first element that satisfies `k`, found by it. -/
theorem find?_updFirst_self {α : Type} {k : α → Bool} {g : α → α} (same : ∀ x, k (g x) = k x) {l : List α} {x : α}
    (found : l.find? k = some x) : (updFirst k g l).find? k = some (g x) := by
  obtain ⟨is_it, pre, post, rfl, others⟩ := List.find?_eq_some_iff_append.mp found
  have first : ∀ y ∈ pre, k y = false := fun y mem => by simpa using others y mem
  rw [updFirst_of_split first is_it, List.find?_append, List.find?_eq_none.mpr fun y mem => by simp [first y mem],
    Option.none_or, List.find?_cons_of_pos (by rw [same]; exact is_it)]

/-! ### Orders sent again, and withdrawn -/

theorem startCheck_iff (r : OrderRec) (p : Part) : startCheck r p = true ↔ Rule.mayStart p r := by
  have judged (d : RunDir) : (match p.fan? r.fan with
        | some f => f.state == .starting && f.dir == some d && (useful p.fm.record f.e).2 == some d
        | none => false) = true ↔
      ∃ f, p.fm.fans.find? (fun x => x.e.num == r.fan) = some f ∧ f.state = .starting ∧ f.dir = some d ∧
        (Rule.useful p.fm.record f.e).2 = some d := by
    unfold Part.fan?
    cases p.fm.fans.find? fun x => x.e.num == r.fan with
    | none => simp
    | some f => simp [useful_rule, and_assoc]
  unfold startCheck Rule.mayStart
  cases r.kind with
  | startFwd => exact (judged .fwd).trans ⟨fun h d same => by cases d <;> simp_all, fun h => h .fwd rfl⟩
  | startRev => exact (judged .rev).trans ⟨fun h d same => by cases d <;> simp_all, fun h => h .rev rfl⟩
  | stop => exact ⟨fun _ d same => by cases d <;> exact absurd same (by decide), fun _ => rfl⟩
  | query => exact ⟨fun _ d same => by cases d <;> exact absurd same (by decide), fun _ => rfl⟩

/-- An order sent: recorded and counted, and its telegram queued (R156). -/
theorem sendOrder_eq (r : OrderRec) (tag : Nat) (p : Part) : sendOrder r tag p =
    queueOwn (.fanOrder r.station tag r.output (carries r)) (countOrder (fun c => { c with issued := bump c.issued })
      (onOrder r.fan (fun x => { x with tag := some tag, response := arm p.now (responseTime p) }) p)) := by
  unfold sendOrder
  dsimp only
  rw [queueOwn_eq _ p, queueOwn_eq _ (countOrder _ _), queueOwn_line_congr _ (p := countOrder _ (onOrder _ _ p)) (q := p) rfl]
  rfl

theorem reissue_of_passed {r : OrderRec} {tag : Nat} {p : Part} (tagged : r.tag = some tag) (passes : startCheck r p = true) :
    reissue r p = sendOrder { r with state := .sent } tag (onOrder r.fan (fun x => { x with state := .sent }) p) := by
  unfold reissue
  rw [tagged]
  exact if_pos passes

theorem reissue_of_failed {r : OrderRec} {tag : Nat} {p : Part} (tagged : r.tag = some tag) (fails : ¬ startCheck r p = true) :
    reissue r p = serve (withdrawRec r p) := by
  unfold reissue
  rw [tagged]
  exact if_neg fails

theorem freeTagOf_counters (r : OrderRec) (p : Part) : (freeTagOf r p).ord.counters = p.ord.counters := by
  unfold freeTagOf tagToFree
  repeat' split
  all_goals rfl

/-- An event that ends in the withdrawal of a START: counted, and no order failed (R155, R170). -/
theorem finish_withdrawn {r : OrderRec} {p : Part} (start : isStart r.kind = true) :
    (bump p.ord.counters.withdrawn).toNat ≤ (finish (serve (withdrawRec r p))).ord.counters.withdrawn.toNat ∧
    (finish (serve (withdrawRec r p))).ord.counters.failed = p.ord.counters.failed := by
  have counted : (countOrder (fun c => { c with withdrawn := bump c.withdrawn }) (freeTagOf r p)).ord.counters =
      { p.ord.counters with withdrawn := bump p.ord.counters.withdrawn } := by
    change ({ (freeTagOf r p).ord.counters with withdrawn := bump (freeTagOf r p).ord.counters.withdrawn } : OrderCounters) = _
    rw [freeTagOf_counters]
  have course : Course (countOrder (fun c => { c with withdrawn := bump c.withdrawn }) (freeTagOf r p))
      (serve (withdrawRec r p)) :=
    (serve_course _).after ((reportEmpty_course _).after (finishRec_course (takeOutcome_withdrawn_course _ start _)))
  obtain ⟨counters, withdrawn, _⟩ := finish_counters (serve (withdrawRec r p))
  have from_counted := course.withdrawn
  rw [counted] at from_counted
  refine ⟨from_counted.trans withdrawn, ?_⟩
  rw [counters, course.counters, counted]

theorem startCheck_congr {r x : OrderRec} {p q : Part} (kind : x.kind = r.kind) (fan : x.fan = r.fan) (fm : q.fm = p.fm) :
    startCheck x q = startCheck r p := by
  unfold startCheck Part.fan?
  rw [kind, fan, fm]

/-! ### The retry and quarantine timers -/

theorem serve_of_empty {p : Part} (empty : p.ord.backlog = []) : serve p = p := by
  unfold serve
  rw [empty]
  rfl

theorem retryExpires_of_still {n : Nat} {p : Part}
    (still : ∀ r, p.order? n = some r → r.retry = none ∨ r.state ≠ .retryWait) : retryExpires n p = p := by
  unfold retryExpires
  split
  · rfl
  · next r found =>
    refine if_neg ?_
    rcases still r found with unarmed | other <;> simp_all

theorem retryExpires_of_waiting {n : Nat} {p : Part} {r : OrderRec} (found : p.order? n = some r) (armed : r.retry ≠ none)
    (waits : r.state = .retryWait) :
    retryExpires n p = reissue { r with retry := none } (onOrder n (fun x => { x with retry := none }) p) := by
  unfold retryExpires
  rw [found]
  exact if_pos (by simp [Option.isSome_iff_ne_none, armed, waits])

/-- Settles O42, by the cases of the three expiries. -/
theorem retryAndQuarantineExpire : Obligations.RetryAndQuarantineExpire := by
  unfold Obligations.RetryAndQuarantineExpire
  refine ⟨fun n s quiet => ⟨?_, fun missing => ?_, fun r found => ⟨fun still => ?_, ?_⟩⟩, fun station tag g s quiet found => ?_⟩
  · refine nextWith_of_left (f := windowExpires n) ?_ quiet
    unfold windowExpires
    rw [onOrder_eq]
    refine congrArg (fun l => ({ s.part with ord := { s.part.ord with records := l } } : Part))
      (List.map_congr_left fun x _ => ?_)
    by_cases own : x.fan = n <;> by_cases armed : x.window = none <;> simp [own, armed, Option.isSome_iff_ne_none]
  · refine nextWith_of_left (retryExpires_of_still fun r found => ?_) quiet
    exact absurd (found.symm.trans missing) (by simp)
  · refine nextWith_of_left (retryExpires_of_still fun x found_x => ?_) quiet
    obtain rfl : r = x := Option.some.inj (found.symm.trans found_x)
    exact still
  · intro tag armed waits motion tagged p records
    have expires := retryExpires_of_waiting found armed waits
    have fan : r.fan = n := order?_fan found
    have check : startCheck { r with retry := none } (onOrder n (fun x => { x with retry := none }) p) = startCheck r p :=
      startCheck_congr rfl rfl rfl
    refine ⟨fun may => ?_, fun may_not => ?_⟩
    · have passes := (startCheck_iff r p).mpr may
      have carried : carries { r with retry := none, state := .sent } = r.kind := by simp [carries]
      have sent : retryExpires n p = queueOwn (.fanOrder r.station tag r.output r.kind) { p with ord := { p.ord with
          records := records, counters := { p.ord.counters with issued := bump p.ord.counters.issued } } } := by
        rw [expires, reissue_of_passed (r := { r with retry := none }) tagged (check.trans passes), sendOrder_eq, carried]
        dsimp only
        rw [fan, onOrder_onOrder n (fun x => { x with retry := none }) _ _ fun _ => rfl,
          onOrder_onOrder n (fun x => { x with retry := none, state := .sent }) _ _ fun _ => rfl, countOrder_onOrder,
          onOrder_eq]
        rfl
      have left : exec (.retrySpacingTimerExpiry n) s = nextPart s (retryExpires n p) := by
        refine nextWith_of_left rfl ?_
        rw [sent, queueOwn_eq]
        exact quiet
      refine ⟨_, left, ?_⟩
      rw [exec_queueOwnTelegram _ _ (by exact quiet), sent]
      rfl
    · have fails := mt (startCheck_iff r p).mp may_not
      have start : isStart r.kind = true := startCheck_isStart (by simpa using fails)
      obtain ⟨withdrawn, failed⟩ := finish_withdrawn (r := { r with retry := none })
        (p := onOrder n (fun x => { x with retry := none }) p) start
      refine ⟨_, rfl, ?_⟩
      change _ ≤ (finish (retryExpires n p)).ord.counters.withdrawn.toNat ∧ (finish (retryExpires n p)).ord.counters.failed = _
      rw [expires, reissue_of_failed (r := { r with retry := none }) tagged (by rw [check]; exact fails)]
      exact ⟨withdrawn, failed⟩
  · have located : s.part.tag? station tag = some g := found
    have expires : quarantineExpires station tag s.part = if g.state = .quarantine ∧ g.quarantine ≠ none then
        serve (setTag station tag .free none s.part) else s.part := by
      unfold quarantineExpires
      rw [located]
      simp only [Bool.and_eq_true, beq_iff_eq, Option.isSome_iff_ne_none]
    refine ⟨fun still => ?_, fun quarantined armed => ⟨?_, fun empty pre post split_ others => ?_⟩⟩
    · refine nextWith_of_left (f := quarantineExpires station tag) ?_ quiet
      rw [expires]
      exact if_neg (by rcases still with other | unarmed <;> simp [*])
    · rw [if_pos ⟨quarantined, armed⟩] at expires
      have freed : (setTag station tag .free none s.part).tag? station tag =
          some { g with state := .free, quarantine := none } := 
        find?_updFirst_self (g := fun t : TagRec => { t with state := .free, quarantine := none }) (fun _ => rfl) found
      obtain ⟨u, found_u, _, kept⟩ := ((serve_course _).tags.trans (finish_counters _).2.2.2) station tag _ freed
      refine ⟨_, u, rfl, ?_, kept (by simp)⟩
      change (finish (quarantineExpires station tag s.part)).tag? station tag = _
      rw [expires]
      exact found_u
    · refine nextWith_of_left (f := quarantineExpires station tag) ?_ quiet
      rw [expires, if_pos ⟨quarantined, armed⟩, serve_of_empty (by exact empty)]
      have is_it : (g.station == station && g.tag == tag) = true :=
        List.find?_some (p := fun t : TagRec => t.station == station && t.tag == tag) found
      unfold setTag
      dsimp only
      rw [split_, updFirst_of_split (k := fun t : TagRec => t.station == station && t.tag == tag)
        (fun x mem => by simpa using others x mem) is_it]

end Sys2Proof.Machine
end

section
/-! PROOFS. What the commands leave alone: the frame of the fan and order commands, and the frame of every command,
block by block. -/

namespace Sys2Proof.Machine

/-! ### Fan and order commands -/

/-- Settles O53, by the frame of each operation and of the hand-ons outside CLEARING. -/
theorem fanAndOrderFrame : Obligations.FanAndOrderFrame := by
  unfold Obligations.FanAndOrderFrame
  intro c s t quiet outside ran command
  rw [exec_eventOf] at ran
  cases ran
  have acted : OrderStep s.part (eventOf c s.part) := by
    rcases command with ⟨n, rfl | rfl | rfl | rfl | rfl | rfl | rfl | rfl⟩ | rfl | ⟨a, l, rfl⟩ | ⟨n, k, o, rfl⟩ |
      ⟨a, n, x, o, r, rfl⟩ | ⟨a, n, rfl⟩
    · exact (takeDemand_step _ _).order
    · exact (restExpires_step _ _).order
    · exact (runUpExpires_step _ _).order
    · exact (runDownExpires_step _ _).order
    · exact (silenceExpires_step _ _).order
    · exact responseExpires_step _ _
    · exact retryExpires_step _ _
    · exact windowExpires_step _ _
    · exact (spacingExpires_step _).order
    · exact (takeReport_step _ _ _).order
    · exact (takeOutcome_step _ _ _ _).order
    · exact takeAnswer_step _ _ _ _ _ _
    · exact quarantineExpires_step _ _ _
  have none_ends : .clearingEnd ∉ (eventOf c s.part).handOns :=
    acted.noEnd outside (by rw [show s.part.handOns = [] from quiet]; exact List.not_mem_nil)
  have whole := (settled_order _ (by rw [acted.record]; exact outside) none_ends).after acted
  change (settled _).reg = _ ∧ (settled _).ctl = _ ∧ (settled _).coord = _ ∧ (settled _).meas = _ ∧ _
  refine ⟨?_, ?_, ?_, ?_, whole.record, whole.preference, whole.zoneTemps, whole.entries⟩ <;> rw [whole.rest]

/-! ### The blocks a change leaves -/

/-- The part time and the addresses are as before, and so is each block whose proposition holds: the Dispatcher, the
Management Agent, the ports, the counters of what is not taken, the instruments with the points and Vm, the peers. -/
structure Leaves (disp mgmt ports counts meas peers : Prop) (p q : Part) : Prop where
  now    : q.now = p.now
  node   : q.line.node = p.line.node
  straps : q.line.straps = p.line.straps
  disp   : disp → q.disp = p.disp
  mgmt   : mgmt → q.mgmt = p.mgmt
  ports  : ports → q.line.portA = p.line.portA ∧ q.line.portB = p.line.portB
  counts : counts → q.line.unknownKinds = p.line.unknownKinds ∧ q.line.malformed = p.line.malformed
  meas   : meas → q.meas.points = p.meas.points ∧ q.meas.vm = p.meas.vm ∧ q.meas.quality = p.meas.quality ∧
    instruments q.meas = instruments p.meas
  peers  : peers → q.coord.peers = p.coord.peers

section
variable {d m l u s c : Prop} {p q r : Part}

theorem Leaves.trans (h : Leaves d m l u s c p q) (k : Leaves d m l u s c q r) : Leaves d m l u s c p r where
  now := k.now.trans h.now
  node := k.node.trans h.node
  straps := k.straps.trans h.straps
  disp x := (k.disp x).trans (h.disp x)
  mgmt x := (k.mgmt x).trans (h.mgmt x)
  ports x := ⟨(k.ports x).1.trans (h.ports x).1, (k.ports x).2.trans (h.ports x).2⟩
  counts x := ⟨(k.counts x).1.trans (h.counts x).1, (k.counts x).2.trans (h.counts x).2⟩
  meas x := by
    obtain ⟨points, vm, quality, instruments⟩ := h.meas x
    obtain ⟨points', vm', quality', instruments'⟩ := k.meas x
    exact ⟨points'.trans points, vm'.trans vm, quality'.trans quality, instruments'.trans instruments⟩
  peers x := (k.peers x).trans (h.peers x)

theorem Leaves.after (k : Leaves d m l u s c q r) (h : Leaves d m l u s c p q) : Leaves d m l u s c p r := h.trans k

theorem OwnLine.ports {a b : LineInterface} (h : OwnLine a b) : b.portA = a.portA ∧ b.portB = a.portB := by
  rw [show b = _ from h]
  exact ⟨rfl, rfl⟩

theorem OwnLine.counts {a b : LineInterface} (h : OwnLine a b) :
    b.unknownKinds = a.unknownKinds ∧ b.malformed = a.malformed := by
  rw [show b = _ from h]
  exact ⟨rfl, rfl⟩

theorem OwnLine.addresses {a b : LineInterface} (h : OwnLine a b) : b.node = a.node ∧ b.straps = a.straps := by
  rw [show b = _ from h]
  exact ⟨rfl, rfl⟩

/-- What an event of the Register, the controller, the Coordinator, the fans or the orders leaves. -/
theorem EventStep.leaves (h : EventStep p q) : Leaves d m l u s c p q where
  now := h.now
  node := h.line.addresses.1
  straps := h.line.addresses.2
  disp _ := h.disp
  mgmt _ := h.mgmt
  ports _ := h.line.ports
  counts _ := h.line.counts
  meas _ := ⟨by rw [h.meas], by rw [h.meas], by rw [h.meas], h.instruments⟩
  peers _ := h.peers

/-- What an event of the Measurement Unit leaves. -/
theorem MeasStep.leaves (h : MeasStep p q) : Leaves d m l u False c p q where
  now := h.now
  node := h.line.addresses.1
  straps := h.line.addresses.2
  disp _ := h.disp
  mgmt _ := h.mgmt
  ports _ := h.line.ports
  counts _ := h.line.counts
  meas := False.elim
  peers _ := h.peers

theorem Leaves.refl (p : Part) : Leaves d m l u s c p p := (EventStep.refl p).leaves

theorem Leaves.ite {x : Prop} [Decidable x] {a b : Part} (ha : Leaves d m l u s c p a) (hb : Leaves d m l u s c p b) :
    Leaves d m l u s c p (if x then a else b) := by
  split
  · exact ha
  · exact hb

theorem Leaves.foldl {α : Type} (g : Part → α → Part) (step : ∀ p a, Leaves d m l u s c p (g p a)) (as : List α) :
    ∀ p, Leaves d m l u s c p (as.foldl g p) := by
  induction as with
  | nil => exact Leaves.refl
  | cons a as ih => exact fun p => (ih _).after (step p a)

theorem disp_leaves (x : Dispatcher) (p : Part) : Leaves False m l u s c p { p with disp := x } :=
  ⟨rfl, rfl, rfl, False.elim, fun _ => rfl, fun _ => ⟨rfl, rfl⟩, fun _ => ⟨rfl, rfl⟩, fun _ => ⟨rfl, rfl, rfl, rfl⟩,
    fun _ => rfl⟩

theorem mgmt_leaves (x : ManagementAgent) (p : Part) : Leaves d False l u s c p { p with mgmt := x } :=
  ⟨rfl, rfl, rfl, fun _ => rfl, False.elim, fun _ => ⟨rfl, rfl⟩, fun _ => ⟨rfl, rfl⟩, fun _ => ⟨rfl, rfl, rfl, rfl⟩,
    fun _ => rfl⟩

theorem coord_leaves (x : SectionCoordinator) (p : Part) : Leaves d m l u s False p { p with coord := x } :=
  ⟨rfl, rfl, rfl, fun _ => rfl, fun _ => rfl, fun _ => ⟨rfl, rfl⟩, fun _ => ⟨rfl, rfl⟩, fun _ => ⟨rfl, rfl, rfl, rfl⟩,
    False.elim⟩

/-! ### Ports -/

/-- What an operation of the ports leaves that keeps the counters of what is not taken. -/
theorem LineStep.leaves (h : LineStep p q)
    (counts : q.line.unknownKinds = p.line.unknownKinds ∧ q.line.malformed = p.line.malformed) :
    Leaves d m False u s c p q := by
  obtain ⟨rest, node, straps, _⟩ := h
  refine ⟨?_, node, straps, fun _ => ?_, fun _ => ?_, False.elim, fun _ => counts, fun _ => ?_, fun _ => ?_⟩
  case refine_4 => rw [rest]; exact ⟨rfl, rfl, rfl, rfl⟩
  all_goals rw [rest]

theorem onPort_leaves (p : Part) (i : PortId) (f : Port → Port) : Leaves d m False u s c p (p.onPort i f) :=
  (onPort_ofLine p i f).leaves (by cases i <;> exact ⟨rfl, rfl⟩)

theorem countPort_leaves (i : PortId) (f : PortCounters → PortCounters) (p : Part) :
    Leaves d m False u s c p (countPort i f p) := onPort_leaves p i _

theorem leaveUp_leaves (i : PortId) (next : PortState) (p : Part) : Leaves d m False u s c p (leaveUp i next p) := by
  unfold leaveUp
  extract_lets p1 p2
  have left : Leaves d m False u s c p p1 := onPort_leaves p i _
  have dropped : Leaves d m False u s c p1 p2 := LineStep.leaves ⟨rfl, rfl, rfl, FlagsKept.refl _⟩ ⟨rfl, rfl⟩
  exact (((raise_event _ _).after (report_event _ _ p2)).leaves.after dropped).after left

theorem detectSignal_leaves (i : PortId) (p : Part) : Leaves d m False u s c p (detectSignal i p) := by
  unfold detectSignal
  dsimp only
  split
  · exact (onPort_leaves _ i _).after (onPort_leaves p i _)
  · exact onPort_leaves p i _

theorem loseSignal_leaves (i : PortId) (p : Part) : Leaves d m False u s c p (loseSignal i p) := by
  unfold loseSignal
  dsimp only
  split
  · exact onPort_leaves p i _
  · exact (leaveUp_leaves i _ _).after (onPort_leaves p i _)
  · exact (onPort_leaves _ i _).after (onPort_leaves p i _)

theorem fillComplete_leaves (i : PortId) (p : Part) : Leaves d m False u s c p (fillComplete i p) := by
  unfold fillComplete
  split
  · exact onPort_leaves p i _
  · exact .refl p

theorem qualify_leaves (i : PortId) (p : Part) : Leaves d m False u s c p (qualify i p) :=
  .ite ((raise_event _ _).leaves.after (onPort_leaves p i _)) (.refl p)

theorem symbolError_leaves (i : PortId) (f : PortCounters → PortCounters) (p : Part) :
    Leaves d m False u s c p (symbolError i f p) := by
  unfold symbolError
  split
  · exact .refl p
  · exact onPort_leaves p i _
  · exact (countPort_leaves i f _).after (onPort_leaves p i _)
  · exact countPort_leaves i f p

theorem closeWindow_leaves (i : PortId) (fills : Nat) (p : Part) :
    Leaves d m False u s c p (closeWindow i fills p) := by
  unfold closeWindow
  extract_lets failed
  have counted : ∀ q, Leaves d m False u s c q (failed q) := fun q => countPort_leaves i _ q
  split
  · exact .ite (onPort_leaves p i _) ((counted _).after (onPort_leaves p i _))
  · exact .ite (onPort_leaves p i _) ((leaveUp_leaves i _ _).after (counted p))
  · exact .refl p

theorem failCheckUp_leaves (i : PortId) (p : Part) : Leaves d m False u s c p (failCheckUp i p) := by
  unfold failCheckUp
  extract_lets p1 p2
  have h : Leaves d m False u s c p p2 := (report_event _ _ p1).leaves.after (onPort_leaves p i _)
  exact .ite ((leaveUp_leaves i _ p2).after h) h

theorem offer_leaves (i : PortId) (t : Telegram) (p : Part) : Leaves d m False u s c p (offer i t p) := by
  unfold offer
  extract_lets out
  repeat' split
  · exact countPort_leaves i _ p
  · exact countPort_leaves out _ p
  · exact (report_event _ _ _).leaves.after (countPort_leaves out _ p)
  · exact onPort_leaves p out _

theorem arbitrate_leaves (i : PortId) (p : Part) : Leaves d m False u s c p (arbitrate i p) := by
  unfold arbitrate
  dsimp only
  split
  · split
    · exact .ite (onPort_leaves p i _) (onPort_leaves p i _)
    · exact .ite (.refl p) (onPort_leaves p i _)
  · exact .refl p

theorem endForwarded_leaves (i : PortId) (p : Part) : Leaves d m False u s c p (endForwarded i p) := by
  unfold endForwarded
  split
  · exact onPort_leaves p i _
  · exact .refl p

theorem endOwn_leaves (i : PortId) (p : Part) : Leaves d m False u s c p (endOwn i p) := by
  unfold endOwn
  split
  · extract_lets q
    have ended : Leaves d m False u s c p q := onPort_leaves p i _
    exact Leaves.after (LineStep.leaves ⟨rfl, rfl, rfl, FlagsKept.refl _⟩ ⟨rfl, rfl⟩) ended
  · exact .refl p

/-! ### Peers -/

theorem judgeAndHandOn_event (taken : Option Nat) (p : Part) : EventStep p (judgeAndHandOn taken p) := by
  have handed (n : Nat) (q : Part) : EventStep q (handNewLead n q) := by
    unfold handNewLead
    split
    · exact .refl q
    · exact .ite ((takeLeadShare_event _ _).after (takeView_event _ _ q)) (takeView_event _ _ q)
  unfold judgeAndHandOn
  extract_lets before p1
  have judged : EventStep p p1 := judgeLead_event p
  split
  · exact (takeLeadShare_event _ p1).after judged
  · exact .ite ((handed _ p1).after judged) judged
  · exact judged

theorem takeBulletin_leaves (source : Nat) (b : Bulletin) (p : Part) :
    Leaves d m l u s False p (takeBulletin source b p) := by
  unfold takeBulletin
  split
  · exact .refl p
  · extract_lets x p1 p2 p3
    have held : Leaves d m l u s False p p1 := coord_leaves _ p
    have viewed : EventStep p1 p3 := (takeView_event _ _ p2).after (judgeAndHandOn_event _ p1)
    exact (EventStep.ite ((takeLeadShare_event _ p3).after viewed) viewed).leaves.after held

theorem freshnessExpires_leaves (addr : Nat) (p : Part) : Leaves d m l u s False p (freshnessExpires addr p) := by
  unfold freshnessExpires
  split
  · exact .refl p
  · exact .ite (.refl p) ((judgeAndHandOn_event none _).leaves.after (coord_leaves _ p))

/-! ### Zones -/

theorem requalifyExpires_leaves (p : Part) : Leaves d m l u s c p (requalifyExpires p) := by
  have dropped : Leaves d m l u s c p { p with meas := { p.meas with
      zones := p.meas.zones.map fun z => { z with holdO := false, holdT := false }, requalify := none } } := by
    refine ⟨rfl, rfl, rfl, fun _ => rfl, fun _ => rfl, fun _ => ⟨rfl, rfl⟩, fun _ => ⟨rfl, rfl⟩,
      fun _ => ⟨rfl, rfl, rfl, ?_⟩, fun _ => rfl⟩
    exact instruments_zones _ _ (by rw [List.map_map]; rfl)
  exact .ite (.refl p) ((EventStep.foldl _ (fun q n => recomputeZone_event n q) _ _).leaves.after dropped)

/-! ### Management requests -/

/-- The answer to a judged request is an event of the own queue after its judgement. -/
theorem answer_leaves (kind : Byte) (r : Request) {j : Judged} (judged : Leaves d m l u s c p j.2) :
    Leaves d m l u s c p (answer kind r j) :=
  ((queueOwn_step _ _).event.after (settled_event j.2)).leaves.after judged

theorem setBuffer_leaves (b : LoadBuffer) (p : Part) : Leaves d False l u s c p (setBuffer b p) := mgmt_leaves _ p

theorem clearAfterRead_leaves (object : Nat) (p : Part) : Leaves False m False False s c p (clearAfterRead object p) := by
  have station (a : Nat) : Leaves False m False False s c p (clearStation a p) := disp_leaves _ p
  have counters : Leaves False m False False s c p (clearCounters p) :=
    ⟨rfl, rfl, rfl, False.elim, fun _ => rfl, False.elim, False.elim, fun _ => ⟨rfl, rfl, rfl, rfl⟩, fun _ => rfl⟩
  unfold clearAfterRead
  split
  · exact counters
  · split
    · exact station _
    · exact .refl p

theorem judgeReadStatus_leaves (r : Request) (p : Part) : Leaves False m False False s c p (judgeReadStatus r p).2 := by
  unfold judgeReadStatus
  split
  · dsimp only
    split
    · exact .refl p
    · split
      · exact (formHealth_event p).leaves
      · exact .ite ((clearAfterRead_leaves _ _).after (formHealth_event p).leaves) (formHealth_event p).leaves
  · exact .refl p

theorem judgeLoadBegin_leaves (r : Request) (p : Part) : Leaves d False l u s c p (judgeLoadBegin r p).2 := by
  unfold judgeLoadBegin
  split
  · split
    · exact .refl p
    · split
      · exact .refl p
      · split
        · exact .refl p
        · exact setBuffer_leaves _ p
  · exact .refl p

theorem judgeLoadBlock_leaves (r : Request) (p : Part) : Leaves d False l u s c p (judgeLoadBlock r p).2 := by
  have block (n : Nat) (data : List Byte) : Leaves d False l u s c p (takeBlock n data p).2 := by
    unfold takeBlock
    dsimp only
    split
    · exact setBuffer_leaves _ p
    · split
      · exact setBuffer_leaves _ p
      · exact setBuffer_leaves _ p
  unfold judgeLoadBlock
  split
  · split
    · exact .refl p
    · split
      · exact .refl p
      · split
        · exact block _ _
        all_goals exact .refl p
  · exact .refl p

theorem judgeLoadEnd_leaves (r : Request) (p : Part) : Leaves d False l u s c p (judgeLoadEnd r p).2 := by
  unfold judgeLoadEnd
  split
  · dsimp only
    split
    · exact .refl p
    · split
      · split
        · exact setBuffer_leaves _ p
        · exact setBuffer_leaves _ p
      all_goals exact .refl p
  · exact .refl p

theorem takeActivate_leaves (r : Request) (p : Part) : Leaves d False l u s c p (takeActivate r p) := by
  have refused (x : ReplyReason) : Leaves d False l u s c p (answer 5 r (refusal x p)) := answer_leaves 5 r (.refl p)
  unfold takeActivate
  split
  · split
    · exact refused _
    · split
      · exact refused _
      · exact (reg_event _ _).leaves.after (mgmt_leaves _ p)
  · exact refused _

theorem judgeAckEvents_leaves (r : Request) (p : Part) :
    Leaves d m l u s c p (judgeAckEvents r p).2 := by
  unfold judgeAckEvents
  split
  · exact ⟨rfl, rfl, rfl, fun _ => rfl, fun _ => rfl, fun _ => ⟨rfl, rfl⟩, fun _ => ⟨rfl, rfl⟩,
      fun _ => ⟨rfl, rfl, rfl, rfl⟩, fun _ => rfl⟩
  · exact .refl p

theorem judgeClearFault_leaves (r : Request) (p : Part) : Leaves d m l u s c p (judgeClearFault r p).2 := by
  unfold judgeClearFault
  split
  · exact ⟨rfl, rfl, rfl, fun _ => rfl, fun _ => rfl, fun _ => ⟨rfl, rfl⟩, fun _ => ⟨rfl, rfl⟩,
      fun _ => ⟨rfl, rfl, rfl, rfl⟩, fun _ => rfl⟩
  · exact .refl p

theorem judgeAdmit_leaves (r : Request) (p : Part) : Leaves d m l u False c p (judgeAdmit r p).2 := by
  unfold judgeAdmit
  split
  · split
    · split
      · exact (admitFan_step _ p).event.leaves
      · exact .refl p
    · split
      · exact .refl p
      · split
        · exact (admitInstrument_step _ p).leaves
        · exact .refl p
  · exact .refl p

theorem judgeIsolate_leaves (r : Request) (p : Part) : Leaves d m l u s c p (judgeIsolate r p).2 := by
  unfold judgeIsolate
  split
  · split
    · exact (isolateFan_step _ p).event.leaves
    · exact .refl p
  · exact .refl p

/-! ### RESTART -/

theorem restartOrders_step (p : Part) : OrderStep p (restartOrders p) := by
  unfold restartOrders
  extract_lets one had o p1 p2
  have emptied : OrderStep p p2 := (purgeOrders_step p1).after (ord_step _ p)
  split
  · exact (testClearing_step p2).order.after emptied
  · exact emptied

theorem restartFans_step (p : Part) : FanStep p (restartFans p) := by
  unfold restartFans
  extract_lets m p1 p2 p3
  have emptied : FanStep p p1 := fm_step _ p rfl rfl rfl (by
    change (p.fm.fans.map restartFan).map (·.e) = _
    rw [List.map_map]
    exact List.map_congr_left fun f _ => restartFan_e f)
  have queries : FanStep p2 p3 := FanStep.foldl _ (fun p n => askQuery_step n p) _ p2
  exact ((fanTail_step p3).after (queries.after (releaseSlots_step p1))).after emptied

theorem judgeRestart_leaves (r : Request) (seq : Byte) (p : Part) :
    Leaves False False l u False c p (judgeRestart r seq p).2 := by
  unfold judgeRestart
  split
  · extract_lets p1 p2
    have measured : Leaves False False l u False c p p1 :=
      (restartMeasurement_step _).leaves.after (disp_leaves _ p)
    have started : EventStep p1 p2 :=
      ((restartFans_step _).event.after (restartOrders_step _).event).after (ctl_event _ p1)
    have emptied : Leaves False False l u False c p2 (restartBuffer (requestsSettled p2)) :=
      (Leaves.ite (.refl _) (setBuffer_leaves _ _)).after (requestsSettled_event p2).leaves
    rw [done_part]
    exact (emptied.after started.leaves).after measured
  · exact .refl p

/-! ### The end of a store write -/

theorem rebuildOrders_step (p : Part) : OrderStep p (rebuildOrders p) := by
  unfold rebuildOrders
  extract_lets tags stands loses gone untagged records backlog held p1 o p2
  have withdrawn : OrderStep p p1 := OrderStep.foldl _ (fun p t => withdraw_step _ _ p) _ p
  have quarantined : OrderStep p2 (held.foldl (fun p r => quarantineTagOf r p) p2) :=
    OrderStep.foldl _ (fun p r => quarantineTagOf_step r p) held p2
  have rebuilt : OrderStep p1 p2 := ord_step _ p1
  exact (((reportEmpty_step _).after (serve_step _)).after quarantined).after (rebuilt.after withdrawn)

theorem judgeFans_event (p : Part) : EventStep p (judgeFans p) := by
  unfold judgeFans
  extract_lets asked m p1 p2 p3
  have made : EventStep p { p with fm := { m with fans := p.fanEntries.map (judgedFan p) } } :=
    FmStep.event ⟨rfl, FlagsKept.refl _⟩
  have dangling : EventStep p p1 := (EventStep.ite (raise_event _ _) (.refl _)).after made
  have queries : EventStep p1 p2 := EventStep.foldl _ (fun p n => (askQuery_step n p).event) asked p1
  have marked : EventStep p2 p3 := EventStep.ite (FmStep.event ⟨rfl, FlagsKept.refl _⟩) (.refl p2)
  exact ((((fanTail_step _).after (releaseSlots_step p3)).event.after marked).after queries).after dangling

theorem judgeInstruments_step (p : Part) : MeasStep p (judgeInstruments p) := by
  unfold judgeInstruments
  extract_lets p1 m p2 p3 p4 p5
  have judged : MeasStep p p1 := MeasStep.ite ((raised _ _).after (meas_step _ p)) (meas_step _ p)
  have handed : MeasStep p2 p3 := MeasStep.foldl _ (fun p n => (takeZoneTemp_step n none p).event.meas') _ p2
  have voted : MeasStep p3 p4 := MeasStep.foldl _ (fun p n => votePoint_step n p) _ p3
  have recomputed : MeasStep p4 p5 := MeasStep.foldl _ (fun p n => (recomputeZone_event n p).meas') _ p4
  exact ((((recomputeVm_step p5).after recomputed).after voted).after handed).after ((meas_step _ p1).after judged)

theorem rebuildFrom_leaves (k : TableKind) (p : Part) : Leaves False m l u False False p (rebuildFrom k p) := by
  cases k with
  | stations =>
    have reach (q : Part) : EventStep q (buildReach q) := FmStep.event ⟨rfl, FlagsKept.refl _⟩
    have peers : Leaves False m l u False False p (rebuildPeers (rebuildStations p)) :=
      ((judgeAndHandOn_event none _).leaves.after (coord_leaves _ _)).after (disp_leaves _ p)
    have orders := (((rebuildOrders_step _).event.after (settled_event _)).leaves).after peers
    exact ((judgeFans_event _).after (reach _)).leaves.after ((judgeInstruments_step _).leaves.after orders)
  | sections => exact (judgeFans_event _).leaves.after (judgeInstruments_step p).leaves
  | fans => exact ((judgeFans_event _).after (rebuildOrders_step p).event).leaves
  | control => exact .refl p

theorem endWrite_leaves (p : Part) : Leaves False False l u False False p (endWrite p) := by
  unfold endWrite
  split
  · exact .refl p
  · extract_lets m1 m2 p1 p2
    have installed : Leaves False False l u False False p p1 :=
      ((settled_event _).leaves.after (rebuildFrom_leaves _ _)).after (mgmt_leaves _ p)
    have acted : EventStep p1 p2 := ((endStoreHold_event _).after (formHealth_event _)).after (raise_event _ p1)
    exact (((queueOwn_step _ _).event.after (settled_event p2)).after acted).leaves.after installed

end

/-! ### The commands -/

/-- Whether a command leaves the Dispatcher. -/
def leavesDisp : Instr → Prop
  | .telegramReceived _ _ | .readStatus _ | .restart _ _ | .storeWriteEnd => False
  | _ => True

/-- Whether a command leaves the Management Agent. -/
def leavesMgmt : Instr → Prop
  | .telegramReceived _ _ | .loadBegin _ | .loadBlock _ | .loadEnd _ | .activate _ | .restart _ _
  | .storeWriteEnd => False
  | _ => True

/-- Whether a command leaves the ports. -/
def leavesPorts : Instr → Prop
  | .telegramReceived _ _ | .readStatus _ | .signalEnergyDetected _ | .signalLost _ | .huntFillCountReached _
  | .qualificationTimerExpiry _ | .holdWindowClose _ _ | .badStart _ | .runaway _ | .outputArbiterChoice _
  | .forwardedTelegramSent _ | .ownTelegramSent _ => False
  | _ => True

/-- Whether a command leaves the counters of what is not taken. -/
def leavesCounts : Instr → Prop
  | .telegramReceived _ _ | .readStatus _ => False
  | _ => True

/-- Whether a command leaves the instruments, the points and Vm. -/
def leavesMeas : Instr → Prop
  | .telegramReceived _ _ | .restart _ _ | .sample _ _ | .staleTimerExpiry _ _ | .pointHoldTimerExpiry _
  | .admitObject _ | .storeWriteEnd => False
  | _ => True

/-- Whether a command leaves the peers. -/
def leavesPeers : Instr → Prop
  | .telegramReceived _ _ | .restart _ _ | .bulletin _ _ | .freshnessTimerExpiry _ | .storeWriteEnd => False
  | _ => True

theorem velocityHoldExpires_event (p : Part) : EventStep p (velocityHoldExpires p) :=
  .ite (ctl_event _ p) (.refl p)

theorem bulletinExpires_event (p : Part) : EventStep p (bulletinExpires p) := .ite (sendBulletin_event p) (.refl p)

/-- What a change leaves under some propositions, it leaves under none. -/
theorem Leaves.none {d m l u s c : Prop} {p q : Part} (h : Leaves d m l u s c p q) :
    Leaves False False False False False False p q :=
  ⟨h.now, h.node, h.straps, False.elim, False.elim, False.elim, False.elim, False.elim, False.elim⟩

/-- Every command but a reset and a telegram leaves the blocks that it does not name. -/
theorem eventOf_leaves (c : Instr) (p : Part) (running : ∀ b, c ≠ .powerOnReset b)
    (internal : ∀ i bytes, c ≠ .telegramReceived i bytes) :
    Leaves (leavesDisp c) (leavesMgmt c) (leavesPorts c) (leavesCounts c) (leavesMeas c) (leavesPeers c) p
      (eventOf c p) := by
  cases c with
  | powerOnReset b => exact absurd rfl (running b)
  | telegramReceived i bytes => exact absurd rfl (internal i bytes)
  | signalEnergyDetected i => exact detectSignal_leaves i p
  | signalLost i => exact loseSignal_leaves i p
  | huntFillCountReached i => exact fillComplete_leaves i p
  | qualificationTimerExpiry i => exact qualify_leaves i p
  | holdWindowClose i n => exact closeWindow_leaves i n p
  | badStart i => exact symbolError_leaves i _ p
  | runaway i => exact symbolError_leaves i _ p
  | outputArbiterChoice i => exact arbitrate_leaves i p
  | forwardedTelegramSent i => exact endForwarded_leaves i p
  | ownTelegramSent i => exact endOwn_leaves i p
  | queueOwnTelegram r => exact (queueOwn_step r p).event.leaves
  | sample a l => exact (takeSample_step a l p).leaves
  | staleTimerExpiry k n => exact (staleExpires_step _ p).leaves
  | pointHoldTimerExpiry n => exact (pointHoldExpires_step n p).leaves
  | zoneRequalifyTimerExpiry => exact requalifyExpires_leaves p
  | zoneAlarmsCleared => exact (clearAlarms_event p).leaves
  | zoneAlarmHandOn z => exact (takeZone_event z p).leaves
  | declare n => exact (judgeDeclare_event n p).leaves
  | update n => exact (judgeUpdate_event n p).leaves
  | hold n => exact (judgeFreeze_event _ _ n p).leaves
  | resume n => exact (judgeFreeze_event _ _ n p).leaves
  | clear n => exact (judgeClear_event n p).leaves
  | cancelAlert n => exact (judgeCancel_event p).leaves
  | noticeBadAction a n => exact (refuseNotice_event _ p).leaves
  | autoDeclareTimerExpiry => exact (autoDeclareExpires_event p).leaves
  | leadWaitTimerExpiry => exact (leadWaitExpires_event p).leaves
  | clearingEndReport => exact (takeClearingEnd_event p).leaves
  | incidentRecordToController h => exact (ctlTakeRecord_event h p).leaves
  | controlPeriodTimerExpiry => exact (periodExpires_event p).leaves
  | velocityHoldTimerExpiry => exact (velocityHoldExpires_event p).leaves
  | leadLossHoldTimerExpiry => exact (leadLossExpires_event p).leaves
  | demandUpdate n => exact (takeDemand_step n p).event.leaves
  | incidentRecordToFanManager h => exact (fansTakeRecord_step h p).event.leaves
  | stopSpacingTimerExpiry => exact (spacingExpires_step p).event.leaves
  | fanReport a l => exact (takeReport_step a l p).event.leaves
  | restTimerExpiry n => exact (restExpires_step n p).event.leaves
  | runUpTimerExpiry n => exact (runUpExpires_step n p).event.leaves
  | runDownTimerExpiry n => exact (runDownExpires_step n p).event.leaves
  | reportSilenceTimerExpiry a => exact (silenceExpires_step a p).event.leaves
  | orderOutcome n k o => exact (takeOutcome_step n k o p).event.leaves
  | fanAnswer a n x o r => exact (takeAnswer_step a n x o r p).event.leaves
  | responseTimerExpiry n => exact (responseExpires_step n p).event.leaves
  | retrySpacingTimerExpiry n => exact (retryExpires_step n p).event.leaves
  | retryWindowTimerExpiry n => exact (windowExpires_step n p).event.leaves
  | quarantineTimerExpiry a n => exact (quarantineExpires_step a n p).event.leaves
  | bulletinTimerExpiry => exact (bulletinExpires_event p).leaves
  | incidentRecordToCoordinator h => exact (coordTakeRecord_event h p).leaves
  | bulletin a b => exact takeBulletin_leaves a b p
  | freshnessTimerExpiry a => exact freshnessExpires_leaves a p
  | faultReport k o => exact (report_event k o p).leaves
  | eventRaised f => exact (raise_event f p).leaves
  | readStatus r => exact answer_leaves 1 r (judgeReadStatus_leaves r p)
  | loadBegin r => exact answer_leaves 2 r (judgeLoadBegin_leaves r p)
  | loadBlock r => exact answer_leaves 3 r (judgeLoadBlock_leaves r p)
  | loadEnd r => exact answer_leaves 4 r (judgeLoadEnd_leaves r p)
  | activate r => exact takeActivate_leaves r p
  | storeWriteEnd => exact endWrite_leaves p
  | ackEvents r => exact answer_leaves 6 r (judgeAckEvents_leaves r p)
  | clearFault r => exact answer_leaves 7 r (judgeClearFault_leaves r p)
  | admitObject r => exact answer_leaves 8 r (judgeAdmit_leaves r p)
  | isolate r => exact answer_leaves 9 r (judgeIsolate_leaves r p)
  | restart r seq =>
    exact answer_leaves 10 r ((judgeRestart_leaves (l := True) (u := True) (c := False) r seq p))
  | mgmtRequestUnknownKind k r => exact answer_leaves k r (.refl p)

/-! ### A telegram received -/

/-- The part time and the addresses are as before. -/
abbrev LeavesAddresses : Part → Part → Prop := Leaves False False False False False False

/-- A command that is neither a reset nor a reception. -/
def Delivers (c : Instr) : Prop := (∀ b, c ≠ .powerOnReset b) ∧ ∀ i bytes, c ≠ .telegramReceived i bytes

theorem Delivers.ite {x : Prop} [Decidable x] {c d : Instr} (left : Delivers c) (right : Delivers d) :
    Delivers (if x then c else d) := by
  split
  · exact left
  · exact right

/-- A telegram is delivered by no reset and by no reception. -/
theorem commandOf_delivers (src seq : Byte) (d : Delivery) : Delivers (Rule.commandOf src seq d) := by
  cases d with
  | notice action n =>
    repeat' refine Delivers.ite ?_ ?_
    all_goals exact ⟨nofun, nofun⟩
  | mgmtRequest kind number args =>
    repeat' refine Delivers.ite ?_ ?_
    all_goals exact ⟨nofun, nofun⟩
  | _ => exact ⟨nofun, nofun⟩

theorem deliver_leaves (src seq : Byte) (d : Delivery) (p : Part) : LeavesAddresses p (deliver src seq d p) := by
  obtain ⟨running, internal⟩ := commandOf_delivers src seq d
  rw [deliver_eq]
  exact (eventOf_leaves _ p running internal).none

theorem countGap_leaves (source skipped : Nat) (p : Part) : LeavesAddresses p (countGap source skipped p) :=
  .ite (.refl p) ((report_event _ _ _).leaves.after (disp_leaves _ p))

theorem acceptFrom_leaves (x : StationRec) (seq : Byte) (d : Delivery) (p : Part) :
    LeavesAddresses p (acceptFrom x seq d p) := by
  unfold acceptFrom
  extract_lets p1 p2 p3
  have known : LeavesAddresses p p1 := disp_leaves _ p
  have counted : LeavesAddresses p1 p3 := disp_leaves _ p1
  exact .ite ((disp_leaves _ p1).after known) ((deliver_leaves _ seq d p3).after (counted.after known))

theorem testStation_leaves (x : StationRec) (seq : Byte) (d : Delivery) (p : Part) :
    LeavesAddresses p (testStation x seq d p) := by
  unfold testStation
  extract_lets again
  have marked : LeavesAddresses p again := disp_leaves _ p
  refine .ite (acceptFrom_leaves x seq d p) ?_
  split
  · exact (disp_leaves _ again).after marked
  · exact (disp_leaves _ again).after marked
  · exact (acceptFrom_leaves x seq d _).after ((countGap_leaves _ _ _).after (disp_leaves _ p))

theorem admitProvisional_leaves (source : Nat) (seq : Byte) (p : Part) :
    LeavesAddresses p (admitProvisional source seq p) := by
  unfold admitProvisional
  dsimp only
  refine .ite (disp_leaves _ p) ?_
  split
  · exact .refl p
  · exact disp_leaves _ p

theorem testProvisional_leaves (source seq : Byte) (d : Delivery) (p : Part) :
    LeavesAddresses p (testProvisional source seq d p) := by
  have accepted (q : Part) : LeavesAddresses q
      (deliver source seq d (countDispatch (fun c => { c with delivered := bump c.delivered }) q)) :=
    (deliver_leaves source seq d _).after (disp_leaves _ q)
  unfold testProvisional
  dsimp only
  split
  · exact (accepted _).after (admitProvisional_leaves _ seq p)
  · split
    · exact disp_leaves _ p
    · exact disp_leaves _ p
    · exact (accepted _).after ((countGap_leaves _ _ _).after (disp_leaves _ p))

theorem dispatch_leaves (source seq : Byte) (d : Delivery) (p : Part) : LeavesAddresses p (dispatch source seq d p) := by
  unfold dispatch
  extract_lets p1 mismatch badSource names
  have taken : LeavesAddresses p p1 := disp_leaves _ p
  have role : LeavesAddresses p mismatch := (disp_leaves _ p1).after taken
  have source_bad : LeavesAddresses p badSource := (disp_leaves _ p1).after taken
  split
  · refine .ite ?_ source_bad
    split
    · exact (testStation_leaves _ seq d p1).after taken
    · exact role
  · split
    · exact .ite ((testProvisional_leaves source seq _ p1).after taken) source_bad
    · exact role

theorem takeTelegram_leaves (k : TelegramKind) (t : Telegram) (p : Part) : LeavesAddresses p (takeTelegram k t p) := by
  unfold takeTelegram
  split
  · exact ⟨rfl, rfl, rfl, False.elim, False.elim, False.elim, False.elim, False.elim, False.elim⟩
  · exact dispatch_leaves _ _ _ p

theorem dispose_leaves (i : PortId) (t : Telegram) (p : Part) : LeavesAddresses p (dispose i t p) := by
  have offered (q : Part) : LeavesAddresses q (offer i t q) := offer_leaves i t q
  have unknown : LeavesAddresses p { p with line := { p.line with unknownKinds := bump p.line.unknownKinds } } :=
    ⟨rfl, rfl, rfl, False.elim, False.elim, False.elim, False.elim, False.elim, False.elim⟩
  unfold dispose
  refine .ite (.refl p) ?_
  split
  · exact .ite ((offered _).after unknown) (offered p)
  · next k _ =>
    have taken : LeavesAddresses p (takeTelegram k t p) := takeTelegram_leaves k t p
    exact .ite (.ite (((offered _).after (settled_event _).leaves).after taken) taken) (offered p)

theorem receive_leaves (i : PortId) (bytes : List Byte) (p : Part) : LeavesAddresses p (receive i bytes p) := by
  unfold receive
  extract_lets failed
  have bad : LeavesAddresses p failed := symbolError_leaves i _ p
  refine .ite (symbolError_leaves i _ p) ?_
  split
  · exact (dispose_leaves i _ _).after (onPort_leaves p i _)
  · exact failCheckUp_leaves i p
  · exact onPort_leaves p i _
  · exact bad
  · exact bad
  · exact .refl p

/-- Every command but a reset leaves the blocks that it does not name. -/
theorem command_leaves {c : Instr} {s t : State} (running : ∀ b, c ≠ .powerOnReset b) (ran : exec c s = .next t) :
    Leaves (leavesDisp c) (leavesMgmt c) (leavesPorts c) (leavesCounts c) (leavesMeas c) (leavesPeers c)
      s.part t.part := by
  rw [exec_eventOf] at ran
  cases ran
  refine (finish_event _).leaves.after ?_
  by_cases internal : ∀ i bytes, c ≠ .telegramReceived i bytes
  · exact eventOf_leaves c s.part running internal
  · obtain ⟨i, bytes, rfl⟩ : ∃ i bytes, c = .telegramReceived i bytes := by
      by_contra none_is
      exact internal fun i bytes is_one => none_is ⟨i, bytes, is_one⟩
    exact receive_leaves i bytes s.part

/-- Settles O52, by the frame of each command and of the end of an event. -/
theorem commandsLeaveBlocks : Obligations.CommandsLeaveBlocks := by
  unfold Obligations.CommandsLeaveBlocks
  intro c s t _ ran running p q takes reads loads restarts port measures hears
  have leaves := command_leaves running ran
  refine ⟨leaves.now, leaves.node, leaves.straps, fun untaken unread running no_end => leaves.disp ?_,
    fun untaken unloaded running no_end => leaves.mgmt ?_, fun untaken unread elsewhere => leaves.ports ?_,
    fun untaken unread => leaves.counts ?_, fun untaken running unmeasured => leaves.meas ?_,
    fun untaken running unheard => leaves.peers ?_⟩
  case refine_1 =>
    unfold leavesDisp
    split
    · exact untaken ⟨_, _, rfl⟩
    · exact unread ⟨_, rfl⟩
    · exact running ⟨_, _, rfl⟩
    · exact no_end rfl
    · exact trivial
  case refine_2 =>
    unfold leavesMgmt
    split
    · exact untaken ⟨_, _, rfl⟩
    · exact unloaded ⟨_, .inl rfl⟩
    · exact unloaded ⟨_, .inr (.inl rfl)⟩
    · exact unloaded ⟨_, .inr (.inr (.inl rfl))⟩
    · exact unloaded ⟨_, .inr (.inr (.inr rfl))⟩
    · exact running ⟨_, _, rfl⟩
    · exact no_end rfl
    · exact trivial
  case refine_3 =>
    unfold leavesPorts
    split
    · exact untaken ⟨_, _, rfl⟩
    · exact unread ⟨_, rfl⟩
    case _ i => exact elsewhere ⟨i, .inl rfl⟩
    case _ i => exact elsewhere ⟨i, by simp⟩
    case _ i => exact elsewhere ⟨i, by simp⟩
    case _ i => exact elsewhere ⟨i, by simp⟩
    case _ i n => exact elsewhere ⟨i, by simp⟩
    case _ i => exact elsewhere ⟨i, by simp⟩
    case _ i => exact elsewhere ⟨i, by simp⟩
    case _ i => exact elsewhere ⟨i, by simp⟩
    case _ i => exact elsewhere ⟨i, by simp⟩
    case _ i => exact elsewhere ⟨i, by simp⟩
    · exact trivial
  case refine_4 =>
    unfold leavesCounts
    split
    · exact untaken ⟨_, _, rfl⟩
    · exact unread ⟨_, rfl⟩
    · exact trivial
  case refine_5 =>
    unfold leavesMeas
    split
    · exact untaken ⟨_, _, rfl⟩
    · exact running ⟨_, _, rfl⟩
    · exact unmeasured (.inl ⟨_, _, rfl⟩)
    · exact unmeasured (.inr (.inl ⟨_, _, rfl⟩))
    · exact unmeasured (.inr (.inr (.inl ⟨_, rfl⟩)))
    · exact unmeasured (.inr (.inr (.inr (.inl ⟨_, rfl⟩))))
    · exact unmeasured (.inr (.inr (.inr (.inr rfl))))
    · exact trivial
  case refine_6 =>
    unfold leavesPeers
    split
    · exact untaken ⟨_, _, rfl⟩
    · exact running ⟨_, _, rfl⟩
    · exact unheard (.inl ⟨_, _, rfl⟩)
    · exact unheard (.inr (.inl ⟨_, rfl⟩))
    · exact unheard (.inr (.inr rfl))
    · exact trivial

end Sys2Proof.Machine
end

section
/-! PROOFS. What stands of a fan through an event (`Stands`), the timers of a fan (R114, R117, R119, R121, R126), and the
outcomes of its orders (R123). -/

namespace Sys2Proof.Machine

/-! ### What stands of a fan -/

/-- Of the fan, at most the marks have changed, and no hand-on changes more. -/
def Stands (n : Nat) (f : FanRec) (q : Part) : Prop :=
  ∃ g, q.fan? n = some g ∧ g = { f with excluded := g.excluded, heat := g.heat } ∧ Still q.fm.queue g

section
variable {n : Nat} {f : FanRec} {p q : Part}

theorem Stands.of_found (found : p.fan? n = some f) (still : Still p.fm.queue f) : Stands n f p :=
  ⟨f, found, rfl, still⟩

theorem Stands.drift (stands : Stands n f p) (h : Drift p q) : Stands n f q := by
  obtain ⟨g, found, same, still⟩ := stands
  obtain ⟨u, found_u, _, kept⟩ := h.fans n g found
  exact ⟨u, found_u, by rw [kept still, same], h.still_of_mark (kept still) still⟩

theorem Stands.finish (stands : Stands n f p) : Stands n f (finish p) := stands.drift (finish_drift p)

theorem still_of_state (state : f.state ≠ .starting ∧ f.state ≠ .stopped) (queue : List Nat) : Still queue f :=
  ⟨state.1, fun stopped => absurd stopped state.2⟩

end

theorem Drift.reach {p q : Part} (h : Drift p q) : q.fm.reach = p.fm.reach := by rw [h.rest]

/-! ### Changes of a fan -/

theorem keepKnown_eq (f : FanRec) : keepKnown f = { f with known := Rule.knownAfter f } := by
  obtain ⟨e, state⟩ := f
  cases state <;> rfl

theorem beginRest_eq (now : PartTime) (seconds : Nat) (f : FanRec) : beginRest now seconds f = { f with
    resting := true, eligibleAt := (beginRest now seconds f).eligibleAt,
    restTimer := (beginRest now seconds f).restTimer } := by
  unfold beginRest
  extract_lets t wins
  split
  · rfl
  · next stays =>
    have resting : f.resting = true := by
      by_contra idle
      refine stays ?_
      unfold wins
      rw [Bool.eq_false_of_not_eq_true idle]
    rw [← resting]

theorem onFan_fan? {n : Nat} {f : FanRec} {p : Part} (found : p.fan? n = some f) {g : FanRec → FanRec}
    (same : ∀ f, (g f).e = f.e) : (onFan n g p).fan? n = some (g f) := by
  rw [fan?_onFan n n same, found]
  simp

/-- A fan that fails (R117). -/
def failed (f : FanRec) : FanRec := enter .failed none (keepKnown f)

theorem failed_e (f : FanRec) : (failed f).e = f.e := keepKnown_e f

theorem failFan_of_other {n : Nat} {f : FanRec} {p : Part} (found : p.fan? n = some f) (other : f.state ≠ .failed) :
    failFan n p = releaseSlots (raise .fanFailed (report .fanFailed (fanObject n) (onFan n failed p))) := by
  unfold failFan
  rw [found]
  exact if_neg (by simpa using other)

/-- A fan that fails is FAILED, with its last known state, and FAN_FAILED is raised (R117). -/
theorem failFan_stands {n : Nat} {f : FanRec} {p : Part} (found : p.fan? n = some f) (other : f.state ≠ .failed) :
    Stands n (failed f) (failFan n p) ∧ (failFan n p).fc.flags &&& 0x0080 = 0x0080 := by
  rw [failFan_of_other found other]
  refine ⟨Stands.drift (p := raise .fanFailed (report .fanFailed (fanObject n) (onFan n failed p))) ?_
      (releaseSlots_course _).toDrift, ?_⟩
  · refine .of_found (f := failed f) ?_ (still_of_state ⟨FanState.noConfusion, FanState.noConfusion⟩ _)
    unfold Part.fan?
    rw [raise_fm, report_fm]
    exact onFan_fan? found failed_e
  · exact (releaseSlots_step _).flags.of_mask (raise_flags_and_flagBit .fanFailed _)

/-- A fan isolated by its report (R118). -/
def isolatedByReport (f : FanRec) : FanRec :=
  if f.state == .isolated then { f with reportIso := true }
  else { enter .isolated none (keepKnown f) with reportIso := true }

theorem isolatedByReport_e (f : FanRec) : (isolatedByReport f).e = f.e := by
  unfold isolatedByReport
  split
  · rfl
  · exact keepKnown_e f

theorem isolatedByReport_state (f : FanRec) :
    (isolatedByReport f).state = .isolated ∧ (isolatedByReport f).reportIso = true := by
  unfold isolatedByReport
  split
  · next is_so => exact ⟨eq_of_beq is_so, rfl⟩
  · exact ⟨rfl, rfl⟩

theorem isolateByReport_stands {n : Nat} {f : FanRec} {p : Part} (found : p.fan? n = some f) :
    Stands n (isolatedByReport f) (isolateByReport n p) := by
  refine Stands.drift (p := onFan n isolatedByReport p) ?_ (releaseSlots_course _).toDrift
  refine .of_found (onFan_fan? found isolatedByReport_e) (still_of_state ?_ _)
  rw [(isolatedByReport_state f).1]
  exact ⟨FanState.noConfusion, FanState.noConfusion⟩

/-! ### The loss of a station (R126) -/

/-- A fan whose station is lost (R126). -/
def lostWith (station : Nat) (f : FanRec) : FanRec :=
  if (f.e.station == station && losable f) = true then loseFan f else f

theorem lostWith_e (station : Nat) (f : FanRec) : (lostWith station f).e = f.e := by
  unfold lostWith
  split
  · exact loseFan_e f
  · rfl

/-- A part with a station made UNREACHABLE, and its fans LOST. -/
def stationLost (station : Nat) (p : Part) : Part := { p with fm := { p.fm with
  reach := p.fm.reach.map fun r => if r.station = station then { r with state := .unreachable, silence := none } else r,
  fans := p.fm.fans.map (lostWith station) } }

theorem loseStation_of_reachable {station : Nat} {p : Part}
    (reachable : ∃ r ∈ p.fm.reach, r.station = station ∧ r.state = .reachable) :
    loseStation station p = releaseSlots (raise .fanLost (report .stationLost ⟨.station, station⟩ (stationLost station p))) := by
  obtain ⟨r, mem, is_it⟩ := reachable
  have some_is : (p.fm.reach.find? fun r => r.station == station && r.state == .reachable).isSome = true :=
    List.find?_isSome.mpr ⟨r, mem, by simpa using is_it⟩
  obtain ⟨x, found⟩ := Option.isSome_iff_exists.mp some_is
  unfold loseStation
  rw [found]
  unfold updWhere stationLost
  simp only [beq_iff_eq]
  rfl

theorem loseStation_fm (station : Nat) (p : Part) :
    (raise .fanLost (report .stationLost ⟨.station, station⟩ (stationLost station p))).fm = (stationLost station p).fm := by
  rw [raise_fm, report_fm]

theorem loseStation_fan? {station n : Nat} {f : FanRec} {p : Part} (found : p.fan? n = some f) :
    (stationLost station p).fan? n = some (lostWith station f) := by
  unfold Part.fan? stationLost at *
  dsimp only
  rw [List.find?_map]
  have comp : ((fun x : FanRec => x.e.num == n) ∘ lostWith station) = fun x => x.e.num == n :=
    funext fun x => by simp [lostWith_e]
  rw [comp, found]
  rfl

/-- What the loss of its station leaves of a fan (R126). -/
theorem loseStation_stands {station n : Nat} {f : FanRec} {p : Part}
    (reachable : ∃ r ∈ p.fm.reach, r.station = station ∧ r.state = .reachable) (found : p.fan? n = some f)
    (own : f.e.station = station) :
    Stands n (lostWith station f) (loseStation station p) := by
  rw [loseStation_of_reachable reachable]
  refine Stands.drift (p := raise .fanLost (report .stationLost ⟨.station, station⟩ (stationLost station p))) ?_
    (releaseSlots_course _).toDrift
  refine .of_found (f := lostWith station f) ?_ (still_of_state ?_ _)
  · unfold Part.fan?
    rw [loseStation_fm]
    exact loseStation_fan? found
  · unfold lostWith
    split
    · exact ⟨FanState.noConfusion, FanState.noConfusion⟩
    · next stays =>
      unfold losable at stays
      cases state : f.state <;> simp_all

theorem loseStation_reach {station : Nat} {p : Part}
    (reachable : ∃ r ∈ p.fm.reach, r.station = station ∧ r.state = .reachable) :
    (loseStation station p).fm.reach = (stationLost station p).fm.reach := by
  rw [loseStation_of_reachable reachable]
  exact (releaseSlots_course _).reach.trans (by rw [loseStation_fm])

/-! ### The obligation: the timers of a fan -/

theorem fanTail_of_elsewhere {p : Part} (elsewhere : p.fm.record.state ≠ .clearing) :
    fanTail p = formThrust (pruneQueue p) := testClearing_of_elsewhere elsewhere

theorem restExpires_eq {n : Nat} {p : Part} (elsewhere : p.fm.record.state ≠ .clearing) :
    restExpires n p = formThrust (pruneQueue (onFan n (fun f => if f.restTimer.isSome then endRest f else f) p)) :=
  fanTail_of_elsewhere elsewhere

theorem runDownExpires_eq (n : Nat) (p : Part) : runDownExpires n p = { p with fm := { p.fm with
    fans := p.fm.fans.map fun f =>
      if f.e.num = n ∧ f.runDown ≠ none ∧ f.state = .stopping then { f with runDown := none, downOver := true } else f } } := by
  refine congrArg (fun l => ({ p with fm := { p.fm with fans := l } } : Part)) (List.map_congr_left fun f _ => ?_)
  by_cases own : f.e.num = n <;> simp [own, Option.isSome_iff_ne_none]

/-- Settles O37, from what an expiry makes of its fan, which stands through the hand-ons of the event. -/
theorem fanTimersExpire : Obligations.FanTimersExpire := by
  unfold Obligations.FanTimersExpire
  refine ⟨fun n s quiet => ⟨?_, fun elsewhere => ?_⟩, fun n s quiet => ⟨fun f found armed starting => ?_, fun idle => ?_⟩,
    fun station s quiet all_reachable stands => ?_⟩
  · exact nextWith_of_left (f := runDownExpires n) (runDownExpires_eq n s.part) quiet
  · refine ⟨_, nextWith_of_left (f := restExpires n) (restExpires_eq elsewhere) quiet, ?_, rfl⟩
    refine List.map_congr_left fun f _ => ?_
    by_cases own : f.e.num = n <;> simp [own, Option.isSome_iff_ne_none, endRest]
  · have fails : runUpExpires n s.part = fanTail (failFan n s.part) := by
      unfold runUpExpires
      rw [show s.part.fan? n = some f from found]
      exact if_pos (by simp [starting, Option.isSome_iff_ne_none.mpr armed])
    obtain ⟨failed_stands, raised⟩ := failFan_stands found (by simp [starting])
    obtain ⟨g, found_g, same, _⟩ := (failed_stands.drift (fanTail_course _).toDrift).finish
    have kept := ((finish_event (fanTail (failFan n s.part))).flags).of_mask ((fanTail_step _).flags.of_mask raised)
    refine ⟨_, g, rfl, ?_, by rw [same]; rfl, ?_, ?_⟩
    · rw [fails]
      exact found_g
    · rw [same]
      change (keepKnown f).known = _
      rw [keepKnown_eq]
      unfold Rule.knownAfter
      simp [starting]
    · rw [fails, kept]
      decide
  · refine nextWith_of_left (f := runUpExpires n) (q := s.part) ?_ quiet
    unfold runUpExpires
    split
    · next f found =>
      refine if_neg ?_
      rcases idle f found with unarmed | elsewhere
      · simp [unarmed]
      · simp [elsewhere]
    · rfl
  · obtain ⟨r, mem, own⟩ := stands
    have reachable : ∃ r ∈ s.part.fm.reach, r.station = station ∧ r.state = .reachable :=
      ⟨r, mem, own, (all_reachable r mem own).1⟩
    have expires : silenceExpires station s.part = fanTail (loseStation station s.part) :=
      if_pos (List.any_eq_true.mpr ⟨r, mem, by simp [own, Option.isSome_iff_ne_none, (all_reachable r mem own).2]⟩)
    have drift : Drift (loseStation station s.part) (finish (fanTail (loseStation station s.part))) :=
      (fanTail_course _).toDrift.trans (finish_drift _)
    refine ⟨_, rfl, ?_, ?_, fun n f found own_f => ?_⟩
    · have raised : (loseStation station s.part).fc.flags &&& 0x0040 = 0x0040 := by
        rw [loseStation_of_reachable reachable]
        exact (releaseSlots_step _).flags.of_mask (raise_flags_and_flagBit .fanLost _)
      have kept := (finish_event (fanTail (loseStation station s.part))).flags.of_mask
        ((fanTail_step _).flags.of_mask raised)
      rw [expires, kept]
      decide
    · rw [expires]
      exact drift.reach.trans (loseStation_reach reachable)
    · obtain ⟨g, found_g, same, _⟩ := (loseStation_stands reachable found own_f).drift drift
      rw [expires]
      refine ⟨g, found_g, by rw [same]; exact lostWith_e station f, ?_⟩
      have loses (state : losable f = true) : lostWith station f = loseFan f := if_pos (by simp [own_f, state])
      have stays (state : losable f = false) : lostWith station f = f := if_neg (by simp [state])
      have isolation : (loseFan f).mgrIso = f.mgrIso := by
        unfold loseFan
        rw [keepKnown_eq]
        rfl
      refine ⟨?_, fun goes => ?_, fun remains => ?_⟩
      · rw [same]
        cases state : losable f
        · change (lostWith station f).mgrIso = _
          rw [stays state]
        · change (lostWith station f).mgrIso = _
          rw [loses state, isolation]
      · have state : losable f = true := by
          unfold losable
          rcases goes with listed | ⟨isolated, unmanaged⟩
          · simp only [List.mem_cons, List.not_mem_nil, or_false] at listed
            rcases listed with state | state | state | state | state <;> rw [state]
          · rw [isolated, unmanaged]
            rfl
        rw [same, loses state]
        refine ⟨rfl, ?_, rfl, rfl, rfl⟩
        change (keepKnown f).known = _
        rw [keepKnown_eq]
      · have state : losable f = false := by
          unfold losable
          rcases remains with listed | ⟨isolated, managed⟩
          · simp only [List.mem_cons, List.not_mem_nil, or_false] at listed
            rcases listed with state | state | state <;> rw [state]
          · rw [isolated, managed]
            rfl
        rw [same, stays state]
        exact ⟨rfl, rfl, rfl⟩

end Sys2Proof.Machine
end

section
/-! PROOFS. The outcomes of an order, handed to the fan they concern (R123). -/

namespace Sys2Proof.Machine

/-- A fan handed the outcome of an order: the outcome of a STOP clears its request (R137). -/
def handedOutcome (order : OrderKind) (f : FanRec) : FanRec :=
  { f with stopReq := if order == .stop then false else f.stopReq }

section
variable {n : Nat} {f : FanRec} {p : Part} (found : p.fan? n = some f) (order : OrderKind)

/-- The part in which the outcome of an order is judged. -/
def outcomeHanded (n : Nat) (order : OrderKind) (p : Part) : Part :=
  if order == .stop then onFan n (fun f => { f with stopReq := false }) p else p

theorem outcomeHanded_fm (n : Nat) (order : OrderKind) (p : Part) :
    outcomeHanded n order p = { p with fm := { p.fm with fans := (outcomeHanded n order p).fm.fans } } := by
  unfold outcomeHanded
  split <;> rfl

include found

theorem takeOutcome_of_found (outcome : OrderOutcome) :
    takeOutcome n order outcome p = fanTail (judgeOutcome f order outcome (outcomeHanded n order p)) := by
  unfold takeOutcome
  rw [found]
  rfl

theorem outcomeHanded_fan? : (outcomeHanded n order p).fan? n = some (handedOutcome order f) := by
  unfold outcomeHanded handedOutcome
  cases order with
  | stop => exact onFan_fan? found (g := fun f => { f with stopReq := false }) fun _ => rfl
  | _ => exact found

/-- What an outcome leaves of its fan, it leaves at the end of the event. -/
theorem finish_outcome {outcome : OrderOutcome} {g : FanRec}
    (stands : Stands n g (judgeOutcome f order outcome (outcomeHanded n order p))) :
    Stands n g (finish (takeOutcome n order outcome p)) := by
  rw [takeOutcome_of_found found]
  exact (stands.drift (fanTail_course _).toDrift).finish

/-- A START accepted arms the run-up timer (R123). -/
theorem judgeOutcome_start (start : isStart order = true) (starting : f.state = .starting) (q : Part) :
    judgeOutcome f order (.accepted none) q =
      onFan n (fun f => { f with accepted := true, runUp := arm q.now (1000 * f.e.runUp) }) q := by
  unfold judgeOutcome startAccepted
  dsimp only
  rw [if_pos start, if_pos (by simp [starting]), fan?_num found]

/-- A STOP accepted takes a RUNNING fan to STOPPING (R123). -/
theorem judgeOutcome_stop (running : f.state = .running) (q : Part) :
    judgeOutcome f .stop (.accepted none) q = onFan n (fun f => beginStopping q.now f.dir f) q := by
  unfold judgeOutcome stopAccepted
  rw [running, fan?_num found]
  rfl

theorem judgeOutcome_refusedFault (motion : order ≠ .query) (q : Part) : judgeOutcome f order .refusedFault q = failFan n q := by
  unfold judgeOutcome
  rw [fan?_num found]
  exact if_pos (by cases order <;> first | rfl | exact absurd rfl motion)

theorem judgeOutcome_refusedLocal (motion : order ≠ .query) (whole : f.state ≠ .failed) (q : Part) :
    judgeOutcome f order .refusedLocal q = isolateByReport n q := by
  unfold judgeOutcome
  rw [fan?_num found]
  refine if_pos (Bool.and_eq_true_iff.mpr ⟨?_, by simpa using whole⟩)
  cases order <;> first | rfl | exact absurd rfl motion

end

theorem isStart_iff (k : OrderKind) : isStart k = true ↔ k = .startFwd ∨ k = .startRev := by
  cases k <;> simp [isStart]

/-- What a fan that begins to stop is (R120, R122, R123). -/
theorem beginStopping_eq (now : PartTime) (dir : Option RunDir) (f : FanRec) :
    (beginStopping now dir f).state = .stopping ∧ (beginStopping now dir f).dir = dir ∧
    (beginStopping now dir f).stopReq = false ∧ (beginStopping now dir f).resting = true ∧
    (beginStopping now dir f).runDown = some (now + BitVec.ofNat 32 (1000 * f.e.runDown)) := by
  unfold beginStopping
  rw [beginRest_eq]
  exact ⟨rfl, rfl, rfl, rfl, rfl⟩

/-- Settles O38, from what an outcome makes of its fan, which stands through the hand-ons of the event. -/
theorem orderOutcomeTaken : Obligations.OrderOutcomeTaken := by
  unfold Obligations.OrderOutcomeTaken
  intro n f s quiet outside located configured leaves order
  have found : s.part.fan? n = some f := located
  have handed := outcomeHanded_fan? found order
  refine ⟨fun start starting => ?_, fun stop running => ?_, fun motion whole => ?_, fun motion whole => ?_, ?_⟩
  · let armed := onFan n (fun f => { f with accepted := true, runUp := arm s.part.now (1000 * f.e.runUp) }) s.part
    have no_stop : outcomeHanded n order s.part = s.part := if_neg (by rcases start with rfl | rfl <;> decide)
    have is_left : takeOutcome n order (.accepted none) s.part = formThrust (pruneQueue armed) := by
      rw [takeOutcome_of_found found, judgeOutcome_start found order ((isStart_iff order).mpr start) starting, no_stop]
      exact fanTail_of_elsewhere outside
    refine ⟨_, { f with accepted := true, runUp := arm s.part.now (1000 * f.e.runUp) },
      nextWith_of_left (f := takeOutcome n order (.accepted none)) is_left quiet, ?_, starting, rfl, rfl⟩
    exact onFan_fan? found (g := fun f => { f with accepted := true, runUp := arm s.part.now (1000 * f.e.runUp) })
      fun _ => rfl
  · subst stop
    have kept : (outcomeHanded n .stop s.part).now = s.part.now := by rw [outcomeHanded_fm]
    obtain ⟨state, dir, clear, resting, timer⟩ := beginStopping_eq s.part.now f.dir (handedOutcome .stop f)
    have stops : Stands n (beginStopping s.part.now f.dir (handedOutcome .stop f))
        (judgeOutcome f .stop (.accepted none) (outcomeHanded n .stop s.part)) := by
      rw [judgeOutcome_stop found running, kept]
      refine .of_found (onFan_fan? handed (g := fun f => beginStopping s.part.now f.dir f) fun f => beginStopping_e _ _ f)
        (still_of_state ?_ _)
      rw [state]
      exact ⟨FanState.noConfusion, FanState.noConfusion⟩
    obtain ⟨g, found_g, same, _⟩ := finish_outcome found .stop stops
    refine ⟨_, g, rfl, found_g, ?_⟩
    rw [same]
    exact ⟨state, dir, clear, resting, timer⟩
  · have fails : Stands n (failed (handedOutcome order f))
        (judgeOutcome f order .refusedFault (outcomeHanded n order s.part)) := by
      rw [judgeOutcome_refusedFault found order motion]
      exact (failFan_stands handed whole).1
    obtain ⟨g, found_g, same, _⟩ := finish_outcome found order fails
    exact ⟨_, g, rfl, found_g, by rw [same]; rfl⟩
  · have isolates : Stands n (isolatedByReport (handedOutcome order f))
        (judgeOutcome f order .refusedLocal (outcomeHanded n order s.part)) := by
      rw [judgeOutcome_refusedLocal found order motion whole]
      exact isolateByReport_stands handed
    obtain ⟨g, found_g, same, _⟩ := finish_outcome found order isolates
    refine ⟨_, g, rfl, found_g, ?_⟩
    rw [same]
    exact isolatedByReport_state _
  · refine ⟨_, rfl, fun r mem own ⟨q, mem_q, own_q, reachable⟩ => ?_⟩
    have kept : (outcomeHanded n order s.part).fm.reach = s.part.fm.reach := by rw [outcomeHanded_fm]
    have drift : Drift (loseStation f.e.station (outcomeHanded n order s.part))
        (finish (takeOutcome n order .failed s.part)) := by
      rw [takeOutcome_of_found found]
      exact (fanTail_course _).toDrift.trans (finish_drift _)
    have reach := drift.reach.trans (loseStation_reach ⟨q, by rw [kept]; exact mem_q, own_q, reachable⟩)
    change r ∈ (finish (takeOutcome n order .failed s.part)).fm.reach at mem
    rw [reach] at mem
    obtain ⟨x, _, rfl⟩ := List.mem_map.mp mem
    split at own
    · next is_it => rw [if_pos is_it]
    · next other => exact absurd own other

end Sys2Proof.Machine
end

section
/-! PROOFS. The QUERYs that an event requests (R153), and ISOLATE and ADMIT (R42, R53, R128, R129, R210). -/

namespace Sys2Proof.Machine

/-! ### A QUERY requested -/

/-- A QUERY of the fan waits among the first 1000 hand-ons, and no other order of it. -/
structure Querying (n : Nat) (p : Part) : Prop where
  waits : ∃ i, i < 1000 ∧ p.handOns[i]? = some (.orderRequest n .query)
  own   : ∀ kind, .orderRequest n kind ∈ p.handOns → kind = .query

section
variable {n : Nat} {f : FanRec} {p q : Part}

theorem Querying.course (query : Querying n p) (stands : Stands n f p) (h : Course p q) : Querying n q := by
  obtain ⟨i, few, waits⟩ := query.waits
  obtain ⟨l, posted, moving⟩ := h.posts
  obtain ⟨g, found, _, still⟩ := stands
  refine ⟨⟨i, few, ?_⟩, fun kind mem => ?_⟩
  · rw [posted, List.getElem?_append_left (List.getElem?_eq_some_iff.mp waits).1]
    exact waits
  · rw [posted] at mem
    exact (List.mem_append.mp mem).elim (query.own kind) fun posts => absurd still (moving n kind posts g found)

/-- A QUERY that waits for a fan that stands is requested of the Order Engine. -/
theorem Querying.finish (query : Querying n p) (stands : Stands n f p) : Rule.queried (finish p) n := by
  obtain ⟨i, few, waits⟩ := query.waits
  obtain ⟨g, found, _, still⟩ := stands
  exact (finish_asked rfl found still query.own few waits).record

theorem askQuery_querying (quiet : p.handOns = []) : Querying n (askQuery n p) := by
  have waiting : (askQuery n p).handOns = [.orderRequest n .query] := congrArg (· ++ _) quiet
  refine ⟨⟨0, by decide, by rw [waiting]; rfl⟩, fun kind mem => ?_⟩
  rw [waiting] at mem
  simpa using mem

end

/-! ### ISOLATE (R128) -/

/-- A fan that the manager isolates (R128). -/
def isolatedByManager (f : FanRec) : FanRec :=
  if f.state == .failed || f.state == .isolated then { f with mgrIso := true }
  else { enter .isolated none (keepKnown f) with mgrIso := true }

theorem isolatedByManager_e (f : FanRec) : (isolatedByManager f).e = f.e := by
  unfold isolatedByManager
  split
  · rfl
  · exact keepKnown_e f

theorem isolatedByManager_state (f : FanRec) : (isolatedByManager f).mgrIso = true ∧
    (isolatedByManager f).state = if f.state = .failed then .failed else .isolated := by
  unfold isolatedByManager
  cases f.state <;> simp [enter]

theorem isolateFan_stands {n : Nat} {f : FanRec} {p : Part} (found : p.fan? n = some f) :
    Stands n (isolatedByManager f) (isolateFan n p) := by
  refine Stands.drift (p := onFan n isolatedByManager p) ?_ ((fanTail_course _).after (releaseSlots_course _)).toDrift
  refine .of_found (onFan_fan? found isolatedByManager_e) (still_of_state ?_ _)
  rw [(isolatedByManager_state f).2]
  split <;> exact ⟨FanState.noConfusion, FanState.noConfusion⟩

/-! ### ADMIT of a fan (R129) -/

/-- A fan that may be admitted: FAILED, or ISOLATED by the manager alone. -/
def Readmitted (f : FanRec) : Prop := f.state = .failed ∨ f.state = .isolated ∧ f.mgrIso = true ∧ f.reportIso = false

section
variable {n : Nat} {f : FanRec} {p : Part} (found : p.fan? n = some f)

/-- A part with a fan's manager isolation cleared. -/
def isolationCleared (n : Nat) (p : Part) : Part := onFan n (fun f => { f with mgrIso := false }) p

include found

theorem admitFan_of_readmitted (readmitted : Readmitted f) : admitFan n p = fanTail (readmit f (isolationCleared n p)) := by
  unfold admitFan
  rw [found]
  dsimp only
  rcases readmitted with failed | ⟨isolated, managed, unreported⟩
  · rw [failed]
    rfl
  · rw [isolated, managed, unreported]
    rfl

theorem admitFan_of_reported (isolated : f.state = .isolated) (managed : f.mgrIso = true) (reported : f.reportIso = true) :
    admitFan n p = fanTail (isolationCleared n p) := by
  unfold admitFan
  rw [found]
  dsimp only
  rw [isolated, managed, reported]
  rfl

theorem admitFan_of_other (whole : f.state ≠ .failed) (free : ¬ (f.state = .isolated ∧ f.mgrIso = true)) :
    admitFan n p = p := by
  unfold admitFan
  rw [found]
  dsimp only
  split
  · next failed => exact absurd failed whole
  · next isolated => exact if_neg fun managed => free ⟨isolated, managed⟩
  · rfl

theorem isolationCleared_fan? : (isolationCleared n p).fan? n = some { f with mgrIso := false } :=
  onFan_fan? found (g := fun f => { f with mgrIso := false }) fun _ => rfl

theorem readmit_of_unreachable (unreachable : ∃ r ∈ p.fm.reach, r.station = f.e.station ∧ r.state = .unreachable) :
    readmit f p = onFan n (enter .lost none) p := by
  obtain ⟨r, mem, is_it⟩ := unreachable
  rw [← fan?_num found]
  exact if_pos (List.any_eq_true.mpr ⟨r, mem, by simpa using is_it⟩)

theorem readmit_of_reachable (reachable : ¬ ∃ r ∈ p.fm.reach, r.station = f.e.station ∧ r.state = .unreachable) :
    readmit f p = askQuery n (onFan n (enter .unknown none) p) := by
  rw [← fan?_num found]
  refine if_neg fun back => reachable ?_
  obtain ⟨r, mem, is_it⟩ := List.any_eq_true.mp back
  exact ⟨r, mem, by simpa using is_it⟩

/-- A fan admitted becomes UNKNOWN, or LOST while its station is UNREACHABLE. -/
theorem admitFan_stands (readmitted : Readmitted f) : Stands n
    { enter (if ∃ r ∈ p.fm.reach, r.station = f.e.station ∧ r.state = .unreachable then .lost else .unknown) none f with
      mgrIso := false } (admitFan n p) := by
  rw [admitFan_of_readmitted found readmitted]
  refine Stands.drift ?_ (fanTail_course _).toDrift
  have cleared := isolationCleared_fan? found
  split
  · next unreachable =>
    rw [show readmit f (isolationCleared n p) = _ from
      readmit_of_unreachable (f := { f with mgrIso := false }) cleared unreachable]
    exact .of_found (onFan_fan? cleared (g := enter .lost none) fun _ => rfl)
      (still_of_state ⟨FanState.noConfusion, FanState.noConfusion⟩ _)
  · next reachable =>
    rw [show readmit f (isolationCleared n p) = _ from
      readmit_of_reachable (f := { f with mgrIso := false }) cleared reachable]
    refine .of_found (p := askQuery n (onFan n (enter .unknown none) (isolationCleared n p))) ?_
      (still_of_state ⟨FanState.noConfusion, FanState.noConfusion⟩ _)
    exact onFan_fan? cleared (g := enter .unknown none) fun _ => rfl

/-- A fan admitted with its station not UNREACHABLE is queried. -/
theorem admitFan_querying (readmitted : Readmitted f) (quiet : p.handOns = [])
    (reachable : ¬ ∃ r ∈ p.fm.reach, r.station = f.e.station ∧ r.state = .unreachable) : Querying n (admitFan n p) := by
  have cleared := isolationCleared_fan? found
  rw [admitFan_of_readmitted found readmitted, show readmit f (isolationCleared n p) = _ from
    readmit_of_reachable (f := { f with mgrIso := false }) cleared reachable]
  have unknown : Stands n (enter .unknown none { f with mgrIso := false })
      (askQuery n (onFan n (enter .unknown none) (isolationCleared n p))) :=
    .of_found (onFan_fan? cleared (g := enter .unknown none) fun _ => rfl)
      (still_of_state ⟨FanState.noConfusion, FanState.noConfusion⟩ _)
  have query : Querying n (askQuery n (onFan n (enter .unknown none) (isolationCleared n p))) :=
    askQuery_querying (p := onFan n (enter .unknown none) (isolationCleared n p)) quiet
  exact query.course unknown (fanTail_course _)

end

/-! ### The instruments, mapped -/

theorem instruments_mapInstruments (g : InstrumentId → Instrument → Instrument) (m : MeasurementUnit) :
    instruments (mapInstruments g m) = (instruments m).map fun x => (x.1, g x.1 x.2) := by
  unfold instruments mapInstruments
  rw [List.map_append, List.map_flatMap, List.map_flatMap, List.flatMap_map, List.flatMap_map]
  rfl

/-! ### A request judged and answered -/

/-- Answering a judged request leaves the fans and the orders as the hand-ons of its event do. -/
theorem finish_answer (kind : Byte) (r : Request) (v : Verdict) (p : Part) :
    (finish (answer kind r (v, p))).fm = (finish p).fm ∧ (finish (answer kind r (v, p))).ord = (finish p).ord ∧
    (finish (answer kind r (v, p))).meas = (finish p).meas := by
  unfold answer reply
  rw [queueOwn_eq]
  unfold finish
  rw [settled_of_quiet _ rfl]
  exact ⟨rfl, rfl, rfl⟩

theorem requestable_of_found {n : Nat} {f : FanRec} {p : Part} (found : p.fan? n = some f)
    (configured : f.state ≠ .unconfigured) : requestable n p = true := by
  unfold requestable
  rw [found]
  simpa using configured

section
variable {n : Byte} {f : FanRec} {p : Part} (src : Byte) (num : BitVec 16) (found : p.fan? n.toNat = some f)
  (configured : f.state ≠ .unconfigured)

include found configured

theorem judgeIsolate_of_found : judgeIsolate ⟨src, num, [n]⟩ p = done (isolateFan n.toNat p) :=
  if_pos (requestable_of_found found configured)

theorem judgeAdmit_of_found : judgeAdmit ⟨src, num, [4, n]⟩ p = done (admitFan n.toNat p) :=
  if_pos (requestable_of_found found configured)

end

/-! ### The obligation -/

theorem admitted_eq (i : Instrument) : admitted i = if i.state = .rejected then
      { i with reversed := false, saturated := false, outlier := 0, polarity := 0, state := .qualifying, qualify := 0,
               stale := none }
    else { i with reversed := false, saturated := false, outlier := 0, polarity := 0 } := by
  unfold admitted
  cases i.state <;> simp

/-- An instrument admitted, and no other instrument, is changed; its zone is formed afresh (R42, R53). -/
theorem admitInstrument_instruments {d : InstrumentId} {i : Instrument} {p : Part} (found : instrument? p d = some i)
    (unvoted : d.cls ≠ .velocity ∨ i.state ≠ .valid) :
    instruments (admitInstrument d p).meas = (instruments p.meas).map fun y =>
      if y.1 = d then (y.1, admitted y.2) else y := by
  have changed : instruments (onInstrument d admitted p).meas = (instruments p.meas).map fun y =>
      if y.1 = d then (y.1, admitted y.2) else y := by
    refine (instruments_mapInstruments _ _).trans (List.map_congr_left fun y _ => ?_)
    split <;> rfl
  have zone (recomputes : refreshPlace d (onInstrument d admitted p) = recomputeZone (placeOf d) (onInstrument d admitted p)) :
      instruments (refreshPlace d (onInstrument d admitted p)).meas = (instruments p.meas).map fun y =>
        if y.1 = d then (y.1, admitted y.2) else y := by
    rw [recomputes, (recomputeZone_event _ _).instruments, changed]
  obtain ⟨cls, num⟩ := d
  unfold admitInstrument
  rw [found]
  cases cls with
  | velocity =>
    have not_valid : i.state ≠ .valid := unvoted.resolve_left fun other => other rfl
    dsimp only
    rw [if_neg (by simpa using not_valid)]
    exact changed
  | opacity => exact zone rfl
  | temperature => exact zone rfl

/-- Settles O50, from what ISOLATE and ADMIT make of their object, which stands through the hand-ons of the event. -/
theorem isolateAndAdmit : Obligations.IsolateAndAdmit := by
  unfold Obligations.IsolateAndAdmit
  intro src n num s quiet
  refine ⟨fun f located configured => ?_, fun c cls i code found unvoted => ?_⟩
  · have found : s.part.fan? n.toNat = some f := located
    have admits := judgeAdmit_of_found src num found configured
    have admitted_stands (readmitted : Readmitted f) := (admitFan_stands found readmitted).finish
    have fans := (finish_answer 8 ⟨src, num, [4, n]⟩ (.ok []) (admitFan n.toNat s.part)).1
    have left (g : FanRec) (has : (finish (admitFan n.toNat s.part)).fan? n.toNat = some g) :
        (finish (answer 8 ⟨src, num, [4, n]⟩ (judgeAdmit ⟨src, num, [4, n]⟩ s.part))).fan? n.toNat = some g := by
      unfold Part.fan? at *
      rw [admits]
      exact (congrArg (fun m : FanManager => m.fans.find? _) fans).trans has
    refine ⟨?_, fun failed => ?_, fun isolated managed => ?_, fun readmitted reachable => ?_, fun whole free => ?_⟩
    · obtain ⟨g, found_g, same, _⟩ := (isolateFan_stands found).finish
      obtain ⟨managed, state⟩ := isolatedByManager_state f
      refine ⟨_, g, rfl, ?_, by rw [same]; exact managed, by rw [same]; exact state⟩
      change (finish (answer 9 ⟨src, num, [n]⟩ (judgeIsolate ⟨src, num, [n]⟩ s.part))).fm.fans.find? _ = _
      rw [judgeIsolate_of_found src num found configured]
      exact (congrArg (fun m : FanManager => m.fans.find? _)
        (finish_answer 9 ⟨src, num, [n]⟩ (.ok []) (isolateFan n.toNat s.part)).1).trans found_g
    · obtain ⟨g, found_g, same, _⟩ := admitted_stands (.inl failed)
      exact ⟨_, g, rfl, left g found_g, by rw [same], by rw [same]; rfl, by rw [same]; rfl⟩
    · cases reported : f.reportIso with
      | true =>
        have cleared : Stands n.toNat { f with mgrIso := false } (admitFan n.toNat s.part) := by
          rw [admitFan_of_reported found isolated managed reported]
          refine Stands.drift (.of_found (isolationCleared_fan? found) (still_of_state ?_ _)) (fanTail_course _).toDrift
          rw [isolated]
          exact ⟨FanState.noConfusion, FanState.noConfusion⟩
        obtain ⟨g, found_g, same, _⟩ := cleared.finish
        exact ⟨_, g, rfl, left g found_g, by rw [same], by rw [same], by rw [same]; exact reported,
          by rw [same]; exact isolated⟩
      | false =>
        obtain ⟨g, found_g, same, _⟩ := admitted_stands (.inr ⟨isolated, managed, reported⟩)
        exact ⟨_, g, rfl, left g found_g, by rw [same], by rw [same]; rfl, by rw [same]; exact reported,
          by rw [same]; rfl⟩
    · have query : Querying n.toNat (admitFan n.toNat s.part) :=
        admitFan_querying found readmitted quiet fun ⟨r, mem, own, lost⟩ => reachable r mem own lost
      obtain ⟨r, mem, is_it⟩ := query.finish (admitFan_stands found readmitted)
      refine ⟨_, rfl, r, ?_, is_it⟩
      change r ∈ (finish (answer 8 ⟨src, num, [4, n]⟩ (judgeAdmit ⟨src, num, [4, n]⟩ s.part))).ord.records
      rw [admits]
      exact (congrArg (r ∈ OrderEngine.records ·)
        (finish_answer 8 ⟨src, num, [4, n]⟩ (.ok []) (admitFan n.toNat s.part)).2.1).mpr mem
    · refine ⟨_, nextWith_answer_done 8 src num [4, n] (judgeAdmit ⟨src, num, [4, n]⟩) s quiet ?_,
        exec_queueOwnTelegram _ _ quiet⟩
      rw [admits, admitFan_of_other found whole free]
  · have class_named : admitClass c.toNat = some cls ∧ (c == 4) = false := by
      rcases code with ⟨rfl, rfl⟩ | ⟨rfl, rfl⟩ | ⟨rfl, rfl⟩ <;> exact ⟨rfl, rfl⟩
    have admits : judgeAdmit ⟨src, num, [c, n]⟩ s.part = done (admitInstrument ⟨cls, n.toNat⟩ s.part) := by
      unfold judgeAdmit
      dsimp only
      rw [class_named.2, class_named.1, if_neg Bool.false_ne_true]
      exact if_pos (by rw [found]; rfl)
    refine ⟨_, rfl, ?_⟩
    change instruments (finish (answer 8 ⟨src, num, [c, n]⟩ (judgeAdmit ⟨src, num, [c, n]⟩ s.part))).meas = _
    rw [admits]
    have instruments_left : instruments (finish (answer 8 ⟨src, num, [c, n]⟩
        (done (admitInstrument ⟨cls, n.toNat⟩ s.part)))).meas = instruments (admitInstrument ⟨cls, n.toNat⟩ s.part).meas :=
      (congrArg instruments (finish_answer 8 _ (.ok []) (admitInstrument ⟨cls, n.toNat⟩ s.part)).2.2).trans
        (finish_event _).instruments
    rw [instruments_left, admitInstrument_instruments found unvoted]
    refine List.map_congr_left fun y _ => ?_
    rw [admitted_eq]

end Sys2Proof.Machine
end

section
/-! PROOFS. A FAN REPORT of two outputs, where fans share a number (R107, R116). -/

namespace Sys2Proof.Machine

/-- A fan of station 1. -/
def sharedEntry (num output : Nat) : FanEntry := ⟨num, 1, output, 0, .forwardAB, true, 0, 0, 0, 1, 1, 1, 1, 1⟩

/-- Two fans of number 5, the one on output 2 UNCONFIGURED, and fan 7 on output 2 behind them. No station is
UNREACHABLE. -/
def sharedNumber : State :=
  { part := { Part.reset with fm := { Part.reset.fm with fans :=
      [freshFan (sharedEntry 5 2) .unconfigured, freshFan (sharedEntry 5 1) .running,
       freshFan (sharedEntry 7 2) .running] } },
    pending := [] }

/-- A fault on output 1, and no fault on output 2. -/
def sharedReport : List ReportOutput := [⟨1, .stopped, .remote, 1⟩, ⟨2, .stopped, .remote, 0⟩]

/-- The fault fails both fans of number 5, and output 2 is then judged for the first of them: fan 7 has no report. -/
theorem sharedReport_misses : ((finish (takeReport 1 sharedReport sharedNumber.part)).fan? 7).map (·.last) = some none := by
  decide

/-- Refutes O36: the statement asks distinct fan numbers only where a station is UNREACHABLE. Where an UNCONFIGURED fan
shares its number with the fan of another output, the report of that output makes it FAILED, and it takes the output
that names fan 7. -/
theorem not_fanReportJudged : ¬ Obligations.FanReportJudged := by
  unfold Obligations.FanReportJudged
  intro judged
  obtain ⟨t, ran, _, _, _, reported⟩ := judged 1 [⟨1, .stopped, .remote, 1⟩] [] ⟨2, .stopped, .remote, 0⟩ sharedNumber
    rfl (.inl fun r mem => nomatch mem)
  obtain ⟨g, found, last, _⟩ := reported (freshFan (sharedEntry 7 2) .running) rfl rfl (by decide)
  cases ran
  have missed := sharedReport_misses
  rw [show (finish (takeReport 1 sharedReport sharedNumber.part)).fan? 7 = some g from found] at missed
  exact nomatch last.symm.trans (Option.some.inj missed)

end Sys2Proof.Machine
end

section
/-! PROOFS. RESTART (R34, R58, R59, R106, R132, R172, R211): the QUERYs that it has requested, the fans, the orders and
the instruments that it leaves. -/

namespace Sys2Proof.Machine

/-- An element of a list whose keys differ is found by its key. -/
theorem find?_of_nodup {α β : Type} [DecidableEq β] {key : α → β} {l : List α} (apart : (l.map key).Nodup) {x : α}
    (mem : x ∈ l) : l.find? (fun y => key y == key x) = some x := by
  obtain ⟨y, found⟩ := Option.isSome_iff_exists.mp
    (List.find?_isSome (p := fun y => key y == key x).mpr ⟨x, mem, beq_self_eq_true _⟩)
  have same : key y = key x := by simpa using List.find?_some found
  rw [found, List.inj_on_of_nodup_map apart (List.mem_of_find?_eq_some found) mem same]

theorem fan?_of_mem {p : Part} (apart : (p.fm.fans.map (·.e.num)).Nodup) {f : FanRec} (mem : f ∈ p.fm.fans) :
    p.fan? f.e.num = some f := find?_of_nodup (key := fun f : FanRec => f.e.num) apart mem

theorem tag?_of_mem {p : Part} (apart : (p.ord.tags.map fun g => (g.station, g.tag)).Nodup) {g : TagRec}
    (mem : g ∈ p.ord.tags) : p.tag? g.station g.tag = some g := by
  have found := find?_of_nodup (key := fun g : TagRec => (g.station, g.tag)) apart mem
  unfold Part.tag?
  rw [← found]
  congr 1
  funext t
  rw [Bool.eq_iff_iff]
  simp

/-! ### QUERYs alone (R172) -/

/-- A QUERY, followed by no other order. -/
def IsQuery (r : OrderRec) : Prop := r.kind = .query ∧ ∀ k, r.successor = some k → k = .query

/-- Every order is a QUERY. -/
def QueriesOnly (p : Part) : Prop := ∀ r ∈ p.ord.records, IsQuery r

/-- The places to come are from `k` on, and so are those of the FAN ORDERs that wait (R12). -/
def OwnSince (k : Nat) (l : LineInterface) : Prop :=
  k ≤ l.nextPlace ∧ ∀ e ∈ l.own, ∀ station tag, e.cls = .fanOrder station tag → k ≤ e.place

/-- What QUERYs requested leave: the Fan Manager and the hand-ons. -/
structure QueryStep (k : Nat) (p q : Part) : Prop where
  fm      : q.fm = p.fm
  handOns : q.handOns = p.handOns
  queries : QueriesOnly p → QueriesOnly q
  own     : OwnSince k p.line → OwnSince k q.line

section
variable {k : Nat} {p q r : Part}

theorem QueryStep.refl (p : Part) : QueryStep k p p := ⟨rfl, rfl, id, id⟩

theorem QueryStep.trans (h : QueryStep k p q) (j : QueryStep k q r) : QueryStep k p r :=
  ⟨j.fm.trans h.fm, j.handOns.trans h.handOns, j.queries ∘ h.queries, j.own ∘ h.own⟩

theorem QueryStep.after (j : QueryStep k q r) (h : QueryStep k p q) : QueryStep k p r := h.trans j

theorem onOrder_query (n : Nat) {g : OrderRec → OrderRec} (keeps : ∀ r, IsQuery r → IsQuery (g r)) (p : Part) : QueryStep k p (onOrder n g p) := by
  refine ⟨rfl, rfl, fun only x mem => ?_, id⟩
  obtain ⟨y, mem_y, rfl⟩ := List.mem_map.mp mem
  split
  · exact keeps y (only y mem_y)
  · exact only y mem_y

theorem OwnSince.queueOwn (since : OwnSince k p.line) (r : OwnRequest) : OwnSince k (queueOwn r p).line := by
  obtain ⟨later, waiting⟩ := since
  unfold Machine.queueOwn
  split_ifs
  · exact ⟨later, waiting⟩
  · exact ⟨later, waiting⟩
  · exact ⟨later, waiting⟩
  · refine ⟨later.trans (Nat.le_succ _), fun e mem station tag is_order => ?_⟩
    rcases List.mem_append.mp mem with held | new
    · exact waiting e (List.mem_filter.mp held).1 station tag is_order
    · rw [List.mem_singleton.mp new]
      exact later

theorem sendOrder_query (r : OrderRec) (tag : Nat) (p : Part) : QueryStep k p (sendOrder r tag p) := by
  have queued : QueryStep k p (queueOwn (.fanOrder r.station tag r.output (carries r)) p) :=
    ⟨by rw [queueOwn_eq], by rw [queueOwn_eq], fun only => by rw [queueOwn_eq]; exact only, fun since => since.queueOwn _⟩
  unfold sendOrder
  extract_lets p1 p2
  have armed : QueryStep k p1 p2 := onOrder_query _ (fun _ is => by exact is) p1
  have counted : QueryStep k p2 (countOrder (fun c => { c with issued := bump c.issued }) p2) := ⟨rfl, rfl, id, id⟩
  exact counted.after (queued.trans armed)

theorem issue_query (r : OrderRec) (tag : Nat) (p : Part) : QueryStep k p (issue r tag p) := by
  have sent : QueryStep k p (sendOrder r tag (takeTag r.station tag p)) :=
    (sendOrder_query r tag _).after ⟨rfl, rfl, id, id⟩
  have waited (q : Part) : QueryStep k q (onOrder r.fan (fun x => { x with state := .sent }) q) :=
    onOrder_query _ (fun _ is => by exact is) q
  unfold issue
  extract_lets q u
  split
  · split
    · exact (waited q).after sent
    · exact (onOrder_query _ (fun _ is => by exact is) _).after ((waited q).after sent)
  · exact sent

theorem serveWith_query (fuel : Nat) {p : Part} (only : QueriesOnly p) : QueryStep k p (serveWith fuel p) := by
  induction fuel generalizing p with
  | zero => exact .refl p
  | succ fuel ih =>
    unfold serveWith
    split
    · split
      · exact .refl p
      · next r t next =>
        extract_lets o u check
        have taken : QueryStep k p u := ⟨rfl, rfl, id, id⟩
        have query : r.kind = .query := (only r (List.mem_of_find?_eq_some (nextToIssue_found next))).1
        have passes : check = true := by simp [check, startCheck, query, isStart]
        rw [if_pos passes]
        have issued := taken.trans (issue_query r t u)
        exact (ih (issued.queries only)).after issued
    · exact .refl p

theorem requestOrder_query (n : Nat) {p : Part} (only : QueriesOnly p) : QueryStep k p (requestOrder n .query p) := by
  unfold requestOrder
  split
  · split
    · exact .refl p
    · next f _ =>
      have joined : QueryStep k p (joinBack n { p with ord := { p.ord with
          records := p.ord.records ++ [waitingRec n f.e.station f.e.output .query] } }) := by
        refine ⟨rfl, rfl, fun only x mem => ?_, id⟩
        rcases List.mem_append.mp mem with held | new
        · exact only x held
        · rw [List.mem_singleton.mp new]
          exact ⟨rfl, nofun⟩
      exact (serveWith_query _ (joined.queries only)).after joined
  · next r found =>
    obtain ⟨query, followed⟩ := only r (List.mem_of_find?_eq_some found)
    have succeeded : QueryStep k p (onOrder n (fun x => { x with successor := some .query }) p) :=
      onOrder_query n (fun _ is => by exact ⟨is.1, fun _ next => (Option.some.inj next).symm⟩) p
    have replaced : QueryStep k p
        (onOrder n (fun x => { x with kind := .query, busySeen := false, reissued := false }) p) :=
      onOrder_query n (fun _ is => by exact ⟨rfl, is.2⟩) p
    have no_start (q : Part) (old : OrderKind) (query : old = .query) : dropStart n old .query q = q :=
      if_neg (by simp [query, isStart])
    dsimp only
    split
    · split
      · exact succeeded
      · next old has =>
        rw [no_start _ old (followed old has)]
        exact succeeded
    · rw [no_start _ _ query]
      exact (serveWith_query _ (replaced.queries only)).after replaced

/-- The requests of a RESTART are QUERYs: they leave the Fan Manager, and make QUERYs alone. -/
theorem settle_queries (fuel : Nat) {p : Part} (only : QueriesOnly p)
    (asks : ∀ n kind, .orderRequest n kind ∈ p.handOns → kind = .query) :
    (settle takeRequestOnly fuel p).fm = p.fm ∧ QueriesOnly (settle takeRequestOnly fuel p) ∧
    (OwnSince k p.line → OwnSince k (settle takeRequestOnly fuel p).line) := by
  induction fuel generalizing p with
  | zero => exact ⟨rfl, only, id⟩
  | succ fuel ih =>
    unfold settle
    split
    · exact ⟨rfl, only, id⟩
    · next h rest waiting =>
      have fewer (n : Nat) (kind : OrderKind) (mem : HandOn.orderRequest n kind ∈ rest) : kind = .query :=
        asks n kind (waiting ▸ List.mem_cons_of_mem h mem)
      cases h with
      | clearingEnd => exact ih only fewer
      | orderRequest n kind =>
        obtain rfl : kind = .query := asks n kind (waiting ▸ List.mem_cons_self ..)
        have taken : QueryStep k { p with handOns := rest } (requestOrder n .query { p with handOns := rest }) :=
          requestOrder_query n only
        obtain ⟨fm, queries, own⟩ := ih (p := requestOrder n .query { p with handOns := rest }) (taken.queries only)
          (by rw [taken.handOns]; exact fewer)
        exact ⟨fm.trans taken.fm, queries, own ∘ taken.own⟩

end

/-! ### The fans at RESTART (R132, R151) -/

theorem restartFan_rule (f : FanRec) : restartFan f = Rule.restarted f := by
  have unknown (g : FanRec) : becomeUnknown g = { g with
      state := .unknown, dir := none, known := Rule.knownAfter g, accepted := false, runUp := none, runDown := none,
      downOver := false, stopReq := false } := by
    unfold becomeUnknown
    rw [keepKnown_eq]
    rfl
  unfold restartFan Rule.restarted Rule.knownAfter
  cases state : f.state <;> simp [state, unknown, enter, Rule.knownAfter]
  case isolated => cases managed : f.mgrIso <;> simp [state, managed]

theorem restarted_state (f : FanRec) : (Rule.restarted f).state ≠ .starting ∧ (Rule.restarted f).state ≠ .stopped := by
  unfold Rule.restarted
  cases state : f.state <;> simp [state]
  case isolated => cases f.mgrIso <;> simp

/-- Slots released with an empty start queue: none is granted. -/
theorem releaseSlots_of_empty {p : Part} (empty : p.fm.queue = []) : releaseSlots p =
    { p with fm := { p.fm with slots := p.fm.slots.map fun s => s.filter (isStarting p) } } := by
  have still (q : Part) (none_waits : q.fm.queue = []) : grantOne q = q := by
    unfold grantOne
    rw [none_waits]
  have pruned (slots : List (Option Nat)) : pruneQueue { p with fm := { p.fm with slots := slots } } =
      { p with fm := { p.fm with slots := slots } } := by
    unfold pruneQueue
    simp [empty]
  unfold releaseSlots
  dsimp only
  rw [pruned]
  split
  · have kept : ({ p with fm := { p.fm with slots := p.fm.slots.map fun s => s.filter (isStarting p) } } : Part).fm.queue
        = [] := empty
    unfold grants
    rw [still _ kept, still _ kept, still _ kept, still _ kept]
  · rfl

theorem askQueries_eq (l : List Nat) (p : Part) : l.foldl (fun p n => askQuery n p) p =
    { p with handOns := p.handOns ++ l.map fun n => .orderRequest n .query } := by
  induction l generalizing p with
  | nil => simp
  | cons n l ih =>
    rw [List.foldl_cons, ih]
    unfold askQuery post
    simp

/-- The fans UNKNOWN after RESTART, whose QUERYs it requests. -/
def queriedAtRestart (p : Part) : List Nat :=
  ((p.fm.fans.map Rule.restarted).filter fun f => f.state == .unknown).map (·.e.num)

/-- The Fan Manager of RESTART before the test for the end of clearing. -/
def fansRestarted (p : Part) : Part := { p with
  fm := { p.fm with
    fans := p.fm.fans.map Rule.restarted, queue := [], slots := p.fm.slots.map fun _ => none,
    reach := p.fm.reach.map fun r => { r with state := .reachable, silence := some (p.now + 5000) },
    stopSpacing := if p.fm.stopSpacing.isSome then arm p.now (1000 * p.control.stopSpacing) else none },
  handOns := p.handOns ++ (queriedAtRestart p).map fun n => .orderRequest n .query }

theorem restartFans_eq (p : Part) : restartFans p = testClearing (formThrust (fansRestarted p)) := by
  unfold restartFans
  extract_lets m p1 p2 p3
  have restarted : p1.fm.fans = p.fm.fans.map Rule.restarted :=
    List.map_congr_left fun f _ => restartFan_rule f
  have none_starts (n : Nat) : isStarting p1 n = false := by
    unfold isStarting
    split
    · next f found =>
      have mem := List.mem_of_find?_eq_some found
      rw [restarted] at mem
      obtain ⟨g, _, rfl⟩ := List.mem_map.mp mem
      simp [(restarted_state g).1]
    · rfl
  have slots : p1.fm.slots.map (fun s => s.filter (isStarting p1)) = p.fm.slots.map fun _ => none := by
    refine List.map_congr_left fun s _ => ?_
    cases s <;> simp [none_starts]
  have released : p2 = { p1 with fm := { p1.fm with slots := p.fm.slots.map fun _ => none } } := by
    rw [← slots]
    exact releaseSlots_of_empty rfl
  have asked : p3 = fansRestarted p := by
    unfold p3
    rw [released, askQueries_eq]
    unfold fansRestarted queriedAtRestart
    rw [← restarted]
    rfl
  have pruned : pruneQueue (fansRestarted p) = fansRestarted p := rfl
  unfold fanTail
  rw [asked, pruned]

/-! ### The test for the end of clearing (R146) -/

theorem testClearing_eq (p : Part) : testClearing p = { p with
    fm := { p.fm with clearingSent := (testClearing p).fm.clearingSent }, handOns := (testClearing p).handOns } := by
  unfold testClearing
  split <;> rfl

theorem testClearing_handOns (p : Part) :
    ∃ l, (testClearing p).handOns = p.handOns ++ l ∧ ∀ n kind, .orderRequest n kind ∉ l := by
  unfold testClearing
  split
  · exact ⟨[.clearingEnd], rfl, fun n kind mem => nomatch List.mem_singleton.mp mem⟩
  · exact ⟨[], (List.append_nil _).symm, fun n kind => List.not_mem_nil⟩

theorem testClearing_sent {p : Part} (sent : p.fm.clearingSent = true) : (testClearing p).fm.clearingSent = true := by
  unfold testClearing
  split
  · rfl
  · exact sent

/-- In CLEARING, with no order and no fan that holds it open, the end has been reported. -/
theorem testClearing_reports {p : Part} (clearing : p.fm.record.state = .clearing) (none_holds : ∀ f ∈ p.fm.fans, ¬ Rule.holdsOpen f)
    (empty : p.ord.records = []) (quiet : p.handOns = []) : (testClearing p).fm.clearingSent = true := by
  have none_open : p.fm.fans.any holdsOpen = false := by
    rw [List.any_eq_false]
    exact fun f mem => mt (holdsOpen_iff f).mp (none_holds f mem)
  have idle : noOrders p = true := by simp [noOrders, empty, quiet]
  cases sent : p.fm.clearingSent with
  | true => exact testClearing_sent sent
  | false =>
    unfold testClearing
    rw [if_pos (by simp [clearing, sent, none_open, idle])]
    rfl

/-! ### The orders at RESTART (R18, R172) -/

/-- A tag at RESTART: BUSY goes to QUARANTINE. -/
def tagRestarted (now : PartTime) (g : TagRec) : TagRec :=
  if g.state == .busy then { g with state := .quarantine, quarantine := arm now 2000 } else g

/-- The orders discarded and the FAN ORDERs purged. -/
def ordersRestarted (p : Part) : Part := { p with
  ord := { p.ord with tags := p.ord.tags.map (tagRestarted p.now), records := [], backlog := [] },
  line := removeOwn isFanOrder p.line }

theorem restartOrders_eq (p : Part) : restartOrders p =
    if p.ord.records = [] then ordersRestarted p else testClearing (ordersRestarted p) := by
  unfold restartOrders
  dsimp only
  by_cases none_held : p.ord.records = []
  · rw [if_pos none_held, if_neg (by simp [none_held])]
    rfl
  · rw [if_neg none_held, if_pos (by simp [none_held])]
    rfl

theorem restartOrders_rest (p : Part) : restartOrders p = { ordersRestarted p with
    fm := { p.fm with clearingSent := (restartOrders p).fm.clearingSent }, handOns := (restartOrders p).handOns } := by
  rw [restartOrders_eq]
  split
  · rfl
  · exact testClearing_eq _

theorem restartOrders_handOns {p : Part} (quiet : p.handOns = []) :
    ∀ n kind, .orderRequest n kind ∉ (restartOrders p).handOns := by
  intro n kind mem
  rw [restartOrders_eq] at mem
  split at mem
  · rw [show (ordersRestarted p).handOns = [] from quiet] at mem
    exact absurd mem List.not_mem_nil
  · obtain ⟨l, posted, none_asks⟩ := testClearing_handOns (ordersRestarted p)
    rw [posted, show (ordersRestarted p).handOns = [] from quiet, List.nil_append] at mem
    exact none_asks n kind mem

theorem restartOrders_handOns_length {p : Part} (quiet : p.handOns = []) : (restartOrders p).handOns.length ≤ 1 := by
  have none_waits : (ordersRestarted p).handOns = [] := quiet
  rw [restartOrders_eq]
  split
  · simp [none_waits]
  · unfold testClearing post
    split <;> simp [none_waits]

theorem ownSince_purged (l : LineInterface) : OwnSince l.nextPlace (removeOwn isFanOrder l) := by
  refine ⟨Nat.le_refl _, fun e mem station tag is_order => ?_⟩
  have kept := (List.mem_filter.mp mem).2
  simp [isFanOrder, is_order] at kept

/-! ### The Measurement Unit at RESTART (R58, R59) -/

theorem recomputeVm_rest (p : Part) : recomputeVm p = { p with meas := (recomputeVm p).meas, fc := (recomputeVm p).fc } := by
  unfold recomputeVm
  dsimp only
  split
  · rw [report_eq]
    rfl
  · rfl

theorem restartInstrument_rule (i : Instrument) : restartInstrument i = Rule.requalified i := by
  unfold restartInstrument Rule.requalified
  cases i.state <;> simp

theorem restartPoint_eq (now : PartTime) (hold : Nat) (q : PointRec) : restartPoint now hold q =
    if q.quality = .unknown then q else { q with quality := .held, holdTimer := arm now (1000 * hold) } := by
  unfold restartPoint usable
  cases q.quality <;> rfl

theorem restartZone_eq (p : Part) (z : ZoneRec) : restartZone p z =
    let configured := p.zoneEntries.any fun e => e.num == z.num
    { z with
      state := if z.state ≠ .alarm ∧ configured = true then .unknown else z.state,
      confirm := if z.state ≠ .alarm ∧ configured = true then 0 else z.confirm,
      holdO := z.opacity.isSome, holdT := z.temperature.isSome } := by
  have configured : (p.zoneEntry z.num).isSome = p.zoneEntries.any fun e => e.num == z.num :=
    Bool.eq_iff_iff.mpr (List.find?_isSome.trans List.any_eq_true.symm)
  unfold restartZone
  rw [configured]
  by_cases unknown : z.state ≠ .alarm ∧ (p.zoneEntries.any fun e => e.num == z.num) = true
  · simp only [if_pos unknown]
    rw [if_pos (by simpa using unknown)]
  · simp only [if_neg unknown]
    rw [if_neg (by simpa using unknown)]

/-- The instruments are those of the points' slots and the zones'. -/
theorem instruments_congr {m n : MeasurementUnit} (points : m.points.map (fun q => (q.num, q.s1, q.s2, q.s3)) =
    n.points.map fun q => (q.num, q.s1, q.s2, q.s3)) (zones : m.zones.map ZoneRec.four = n.zones.map ZoneRec.four) :
    instruments m = instruments n := by
  have by_slots (l : List PointRec) : (l.flatMap fun q => q.slots.map fun s =>
        ((⟨.velocity, velocityNum q.num s.1⟩ : InstrumentId), s.2)) =
      (l.map fun q => (q.num, q.s1, q.s2, q.s3)).flatMap fun x =>
        [(⟨.velocity, velocityNum x.1 1⟩, x.2.1), (⟨.velocity, velocityNum x.1 2⟩, x.2.2.1),
          (⟨.velocity, velocityNum x.1 3⟩, x.2.2.2)] := by
    rw [List.flatMap_map]
    rfl
  have same_zones : instruments { n with zones := m.zones } = instruments n := instruments_zones n _ zones
  rw [← same_zones]
  unfold instruments
  rw [by_slots, by_slots, points]

theorem restartMeasurement_meas (p : Part) : (restartMeasurement p).meas.requalify = arm p.now (3000 * p.sections.staleTime) ∧
    instruments (restartMeasurement p).meas = (instruments p.meas).map (fun x => (x.1, Rule.requalified x.2)) ∧
    (restartMeasurement p).meas.points.map (fun q => (q.num, q.quality, q.voted, q.holdTimer)) = p.meas.points.map (fun q =>
      if q.quality = .unknown then (q.num, q.quality, q.voted, q.holdTimer)
      else (q.num, .held, q.voted, arm p.now (1000 * p.sections.holdTime))) ∧
    (restartMeasurement p).meas.zones.map
        (fun z => (z.num, z.state, z.confirm, z.opacity, z.temperature, z.holdO, z.holdT)) =
      p.meas.zones.map (fun z =>
        let configured := p.zoneEntries.any fun e => e.num == z.num
        (z.num, (if z.state ≠ .alarm ∧ configured = true then .unknown else z.state),
          (if z.state ≠ .alarm ∧ configured = true then 0 else z.confirm), z.opacity, z.temperature,
          z.opacity.isSome, z.temperature.isSome)) ∧
    (restartMeasurement p).meas.quality =
      if p.pointEntries = [] ∨ ∀ q ∈ p.meas.points, q.quality = .unknown then .lost else .degraded := by
  unfold restartMeasurement
  extract_lets m1 m2
  rw [recomputeVm_meas]
  dsimp only
  have zone_four (z : ZoneRec) : (restartZone p z).four = z.four := by
    unfold restartZone
    dsimp only
    split <;> rfl
  have slots (q : PointRec) : (restartPoint p.now p.sections.holdTime q).num = q.num ∧
      (restartPoint p.now p.sections.holdTime q).s1 = q.s1 ∧ (restartPoint p.now p.sections.holdTime q).s2 = q.s2 ∧
      (restartPoint p.now p.sections.holdTime q).s3 = q.s3 := by
    unfold restartPoint
    split <;> exact ⟨rfl, rfl, rfl, rfl⟩
  have points : m2.points = p.meas.points.map fun q =>
      restartPoint p.now p.sections.holdTime (q.mapSlots fun _ i => restartInstrument i) :=
    List.map_map
  refine ⟨rfl, ?_, ?_, ?_, ?_⟩
  · have requalified : instruments m1 = (instruments p.meas).map fun x => (x.1, Rule.requalified x.2) :=
      (instruments_mapInstruments _ _).trans (List.map_congr_left fun x _ => by rw [restartInstrument_rule])
    rw [← requalified]
    refine instruments_congr ?_ ?_
    · change (m1.points.map _).map _ = _
      rw [List.map_map]
      refine List.map_congr_left fun q _ => ?_
      obtain ⟨num, s1, s2, s3⟩ := slots q
      simp only [Function.comp, num, s1, s2, s3]
    · change (m1.zones.map _).map _ = _
      rw [List.map_map]
      exact List.map_congr_left fun z _ => zone_four z
  · rw [points, List.map_map]
    refine List.map_congr_left fun q _ => ?_
    simp only [Function.comp, restartPoint_eq]
    by_cases unknown : q.quality = .unknown <;> simp [PointRec.mapSlots, unknown]
  · change ((p.meas.zones.map _).map _).map _ = _
    rw [List.map_map, List.map_map]
    refine List.map_congr_left fun z _ => ?_
    simp only [Function.comp, restartZone_eq]
  · have quality (q : PointRec) : (restartPoint p.now p.sections.holdTime
        (q.mapSlots fun _ i => restartInstrument i)).quality = if q.quality = .unknown then .unknown else .held := by
      rw [restartPoint_eq]
      by_cases unknown : q.quality = .unknown <;> simp [PointRec.mapSlots, unknown]
    have none_good : (m2.points.filter fun q => q.quality == .good || q.quality == .paired).length = 0 := by
      rw [List.length_eq_zero_iff, List.filter_eq_nil_iff, points]
      intro x mem
      obtain ⟨q, _, rfl⟩ := List.mem_map.mp mem
      rw [quality]
      split <;> decide
    have unknown_iff : (∀ q ∈ m2.points, q.quality = .unknown) ↔ ∀ q ∈ p.meas.points, q.quality = .unknown := by
      rw [points, List.forall_mem_map]
      refine forall₂_congr fun q _ => ?_
      rw [quality]
      by_cases unknown : q.quality = .unknown <;> simp [unknown]
    rw [sectionQuality_eq, none_good, if_neg (by omega)]
    exact if_congr (or_congr List.length_eq_zero_iff unknown_iff) rfl rfl

end Sys2Proof.Machine
end

section
/-! PROOFS. The obligation on RESTART (R34, R58, R59, R106, R132, R151, R172, R211). -/

namespace Sys2Proof.Machine

/-! ### The steps of RESTART -/

/-- RESTART up to its order requests. -/
@[irreducible] def restarted (src seq : Byte) (p : Part) : Part :=
  restartFans (restartOrders (restartController (restartMeasurement (forgetSequences src.toNat seq p))))

/-- The part after RESTART, before its reply. -/
def afterRestart (src seq : Byte) (p : Part) : Part := restartBuffer (requestsSettled (restarted src seq p))

theorem judgeRestart_eq (src seq : Byte) (num : BitVec 16) (p : Part) :
    judgeRestart ⟨src, num, []⟩ seq p = done (afterRestart src seq p) := by
  unfold judgeRestart afterRestart restarted
  rfl

theorem restartBuffer_eq (p : Part) : restartBuffer p = { p with mgmt := { p.mgmt with
    buffer := if p.mgmt.write = none then ⟨.empty, none, 0, 0, none, []⟩ else p.mgmt.buffer } } := by
  unfold restartBuffer locked setBuffer
  cases write : p.mgmt.write <;> simp [LoadBuffer.empty]

section
variable (src seq : Byte) {p : Part} (quiet : p.handOns = [])

/-- The part before the orders and the fans restart. -/
@[irreducible] def measured (src seq : Byte) (p : Part) : Part := restartController (restartMeasurement (forgetSequences src.toNat seq p))

theorem restartMeasurement_rest (q : Part) : restartMeasurement q = { q with
    meas := (restartMeasurement q).meas, fc := (restartMeasurement q).fc } := by
  unfold restartMeasurement
  exact recomputeVm_rest _

theorem measured_rest : measured src seq p = { p with
    disp := (forgetSequences src.toNat seq p).disp, meas := (restartMeasurement (forgetSequences src.toNat seq p)).meas,
    ctl := (restartController p).ctl, fc := (measured src seq p).fc } := by
  unfold measured
  rw [restartMeasurement_rest]
  rfl

/-- What the orders and the fans of RESTART leave. -/
theorem restarted_step : OrderStep (measured src seq p) (requestsSettled (restarted src seq p)) := by
  refine (requestsSettled_step _).after ?_
  unfold restarted measured
  exact (restartFans_step _).order.after (restartOrders_step _)

theorem restarted_rest : requestsSettled (restarted src seq p) = { p with
    disp := (forgetSequences src.toNat seq p).disp, meas := (restartMeasurement (forgetSequences src.toNat seq p)).meas,
    ctl := (restartController p).ctl, fm := (requestsSettled (restarted src seq p)).fm,
    fc := (requestsSettled (restarted src seq p)).fc, ord := (requestsSettled (restarted src seq p)).ord,
    line := (requestsSettled (restarted src seq p)).line, handOns := [] } := by
  refine (restarted_step src seq).rest.trans ?_
  rw [measured_rest]
  rfl

theorem restarted_eq : restarted src seq p =
    testClearing (formThrust (fansRestarted (restartOrders (measured src seq p)))) := by
  unfold restarted measured
  exact restartFans_eq _

theorem ordersOf_measured : (restartOrders (measured src seq p)).fm.fans = p.fm.fans ∧
    (restartOrders (measured src seq p)).fm.slots = p.fm.slots ∧
    (restartOrders (measured src seq p)).fm.reach = p.fm.reach ∧
    (restartOrders (measured src seq p)).now = p.now ∧
    (restartOrders (measured src seq p)).ord = (ordersRestarted p).ord ∧
    (restartOrders (measured src seq p)).line = removeOwn isFanOrder p.line := by
  rw [restartOrders_rest, measured_rest]
  exact ⟨rfl, rfl, rfl, rfl, rfl, rfl⟩

/-- The Fan Manager after RESTART. -/
theorem restarted_fm : (restarted src seq p).fm.fans = p.fm.fans.map Rule.restarted ∧
    (restarted src seq p).fm.queue = [] ∧ (restarted src seq p).fm.slots = (p.fm.slots.map fun _ => none) ∧
    (restarted src seq p).fm.reach =
      p.fm.reach.map fun r => { r with state := .reachable, silence := some (p.now + 5000) } := by
  obtain ⟨fans, slots, reach, now, _⟩ := ordersOf_measured src seq (p := p)
  rw [restarted_eq, testClearing_eq]
  unfold formThrust fansRestarted
  rw [fans, slots, reach, now]
  exact ⟨rfl, rfl, rfl, rfl⟩

theorem restarted_ord : (restarted src seq p).ord = (ordersRestarted p).ord := by
  obtain ⟨_, _, _, _, ord, _⟩ := ordersOf_measured src seq (p := p)
  rw [restarted_eq, testClearing_eq]
  exact ord

theorem restarted_line : (restarted src seq p).line = removeOwn isFanOrder p.line := by
  obtain ⟨_, _, _, _, _, line⟩ := ordersOf_measured src seq (p := p)
  rw [restarted_eq, testClearing_eq]
  exact line

include quiet

theorem measured_quiet : (measured src seq p).handOns = [] := by
  rw [measured_rest]
  exact quiet

/-- The requests that wait at the end of RESTART are the QUERYs of its UNKNOWN fans. -/
theorem restarted_handOns : ∃ pre post, (restarted src seq p).handOns =
      pre ++ ((queriedAtRestart p).map fun n => HandOn.orderRequest n .query) ++ post ∧ pre.length ≤ 1 ∧
    (∀ n kind, .orderRequest n kind ∉ pre) ∧ ∀ n kind, .orderRequest n kind ∉ post := by
  have quiet' := measured_quiet src seq quiet
  obtain ⟨post, posted, none_asks⟩ := testClearing_handOns (formThrust (fansRestarted (restartOrders (measured src seq p))))
  refine ⟨(restartOrders (measured src seq p)).handOns, post, ?_, restartOrders_handOns_length quiet',
    restartOrders_handOns quiet', none_asks⟩
  rw [restarted_eq, posted]
  obtain ⟨same, _⟩ := ordersOf_measured src seq (p := p)
  unfold fansRestarted queriedAtRestart formThrust
  rw [same]

theorem restarted_asks {n : Nat} {kind : OrderKind} (mem : .orderRequest n kind ∈ (restarted src seq p).handOns) :
    kind = .query := by
  obtain ⟨pre, post, waiting, _, none_before, none_after⟩ := restarted_handOns src seq quiet
  rw [waiting] at mem
  rcases List.mem_append.mp mem with mem | mem
  · rcases List.mem_append.mp mem with mem | mem
    · exact absurd mem (none_before n kind)
    · obtain ⟨m, _, is_it⟩ := List.mem_map.mp mem
      exact (HandOn.orderRequest.inj is_it).2.symm
  · exact absurd mem (none_after n kind)

/-- What the QUERYs of RESTART leave. -/
theorem restarted_settled : (requestsSettled (restarted src seq p)).fm = (restarted src seq p).fm ∧
    (∀ r ∈ (requestsSettled (restarted src seq p)).ord.records, r.kind = .query) ∧
    OwnSince p.line.nextPlace (requestsSettled (restarted src seq p)).line := by
  have none_held : QueriesOnly (restarted src seq p) := fun r mem => by
    rw [restarted_ord] at mem
    exact absurd mem List.not_mem_nil
  obtain ⟨fm, queries, own⟩ := settle_queries (k := p.line.nextPlace) settleBound none_held
    fun n kind mem => restarted_asks src seq quiet mem
  refine ⟨fm, fun r mem => (queries r mem).1, own ?_⟩
  rw [restarted_line]
  exact ownSince_purged p.line

/-- An end of clearing that the orders held is reported (R146, R172). -/
theorem restarted_sent (clearing : p.fm.record.state = .clearing) (held : p.ord.records ≠ [])
    (none_holds : ∀ f ∈ p.fm.fans, ¬ Rule.holdsOpen f) : (restarted src seq p).fm.clearingSent = true := by
  have fm : (ordersRestarted (measured src seq p)).fm = p.fm := by
    rw [measured_rest]
    rfl
  have reported : (restartOrders (measured src seq p)).fm.clearingSent = true := by
    have has : (measured src seq p).ord.records ≠ [] := by
      rw [measured_rest]
      exact held
    rw [restartOrders_eq, if_neg has]
    refine testClearing_reports ?_ ?_ rfl (measured_quiet src seq quiet)
    · rw [fm]
      exact clearing
    · rw [fm]
      exact none_holds
  rw [restarted_eq]
  exact testClearing_sent reported

/-- Each fan UNKNOWN after RESTART has its QUERY. -/
theorem restarted_queried (apart : (p.fm.fans.map (·.e.num)).Nodup) (numbered : ∀ f ∈ p.fm.fans, 1 ≤ f.e.num ∧ f.e.num ≤ 48)
    {f : FanRec} (mem : f ∈ p.fm.fans.map Rule.restarted) (unknown : f.state = .unknown) :
    Asked f.e.num .query (requestsSettled (restarted src seq p)) := by
  have entry (g : FanRec) : (Rule.restarted g).e = g.e := by rw [← restartFan_rule, restartFan_e]
  have fans : (restarted src seq p).fm.fans = p.fm.fans.map Rule.restarted := (restarted_fm src seq).1
  have numbers : (p.fm.fans.map Rule.restarted).map (·.e.num) = p.fm.fans.map (·.e.num) := by
    rw [List.map_map]
    exact List.map_congr_left fun g _ => by simp only [Function.comp, entry]
  have found : (restarted src seq p).fan? f.e.num = some f :=
    fan?_of_mem (by rw [fans, numbers]; exact apart) (by rw [fans]; exact mem)
  have listed : f.e.num ∈ queriedAtRestart p :=
    List.mem_map_of_mem (List.mem_filter.mpr ⟨mem, by simp [unknown]⟩)
  have few : (queriedAtRestart p).length ≤ 48 := by
    have sub : (queriedAtRestart p).Sublist (p.fm.fans.map (·.e.num)) := numbers ▸ List.filter_sublist.map _
    have within : queriedAtRestart p ⊆ List.range' 1 48 := fun n mem => by
      obtain ⟨g, mem_g, rfl⟩ := List.mem_map.mp (sub.subset mem)
      have := numbered g mem_g
      rw [List.mem_range'_1]
      omega
    have bounded := (List.subperm_of_subset (sub.nodup apart) within).length_le
    simpa using bounded
  obtain ⟨pre, post, waiting, short, _⟩ := restarted_handOns src seq quiet
  obtain ⟨i, at_i, is_i⟩ := List.getElem_of_mem listed
  have waits : (restarted src seq p).handOns[pre.length + i]? = some (.orderRequest f.e.num .query) := by
    rw [waiting, List.append_assoc, List.getElem?_append_right (Nat.le_add_right _ _), Nat.add_sub_cancel_left,
      List.getElem?_append_left (by simpa using at_i), List.getElem?_map, List.getElem?_eq_getElem at_i, is_i]
    rfl
  exact (takeRequestOnly_taking.settle_asked rfl settleBound found
    (still_of_state (by rw [unknown]; exact ⟨FanState.noConfusion, FanState.noConfusion⟩) _)
    (fun kind mem => restarted_asks src seq quiet mem) (.inr ⟨_, by unfold settleBound; omega, waits⟩)).of_records rfl

omit quiet

/-- A BUSY tag is in QUARANTINE after RESTART, and no other goes there. -/
theorem restarted_tags (apart : (p.ord.tags.map fun g => (g.station, g.tag)).Nodup) {g : TagRec} (mem : g ∈ p.ord.tags) :
    ∃ h ∈ (requestsSettled (restarted src seq p)).ord.tags, h.station = g.station ∧ h.tag = g.tag ∧
      (g.state = .busy → h.state = .quarantine ∧ h.quarantine = arm p.now 2000) ∧
      (g.state = .quarantine → h = g) ∧ (g.state = .free → h.state ≠ .quarantine) := by
  have key (g : TagRec) : (tagRestarted p.now g).station = g.station ∧ (tagRestarted p.now g).tag = g.tag := by
    unfold tagRestarted
    split <;> exact ⟨rfl, rfl⟩
  have tags : (restarted src seq p).ord.tags = p.ord.tags.map (tagRestarted p.now) := by
    rw [restarted_ord]
    rfl
  have keys : ((restarted src seq p).ord.tags.map fun g => (g.station, g.tag)) =
      p.ord.tags.map fun g => (g.station, g.tag) := by
    rw [tags, List.map_map]
    exact List.map_congr_left fun g _ => by simp only [Function.comp, (key g).1, (key g).2]
  have found : (restarted src seq p).tag? g.station g.tag = some (tagRestarted p.now g) := by
    have has := tag?_of_mem (p := restarted src seq p) (by rw [keys]; exact apart)
      (g := tagRestarted p.now g) (by rw [tags]; exact List.mem_map_of_mem mem)
    rwa [(key g).1, (key g).2] at has
  obtain ⟨_, _, _, kept⟩ := takeRequestOnly_taking.settle_counters settleBound (restarted src seq p)
  obtain ⟨h, found_h, stays, out⟩ := kept _ _ _ found
  have its : h.station = g.station ∧ h.tag = g.tag := by
    have is_it := List.find?_some (p := fun t : TagRec => t.station == g.station && t.tag == g.tag) found_h
    simpa using is_it
  refine ⟨h, List.mem_of_find?_eq_some found_h, its.1, its.2, fun busy => ?_, fun quarantined => ?_, fun free => ?_⟩
  · have moved : tagRestarted p.now g = { g with state := .quarantine, quarantine := arm p.now 2000 } :=
      if_pos (by simp [busy])
    rw [stays (by rw [moved]), moved]
    exact ⟨rfl, rfl⟩
  · have same : tagRestarted p.now g = g := if_neg (by simp [quarantined])
    rw [stays (by rw [same]; exact quarantined), same]
  · have same : tagRestarted p.now g = g := if_neg (by simp [free])
    exact out (by rw [same, free]; decide)

end

/-! ### The obligation -/

theorem restartController_ctl (p : Part) : (restartController p).ctl = { p.ctl with
    period := if p.ctl.period = none then none else some (p.now + BitVec.ofNat 32 (1000 * p.control.period)),
    velocityHold := if p.ctl.velocityHold = none then none
      else some (p.now + BitVec.ofNat 32 (1000 * p.control.velocityHold)),
    leadLoss := if p.ctl.leadLoss = none then none
      else some (p.now + BitVec.ofNat 32 (1000 * p.control.leadLossHold)) } := by
  have again (timer : Timer) (n : Nat) : (if timer.isSome then arm p.now (1000 * n) else none) =
      if timer = none then none else some (p.now + BitVec.ofNat 32 (1000 * n)) := by
    cases timer <;> rfl
  unfold restartController
  dsimp only
  rw [again, again, again]

theorem afterRestart_eq (src seq : Byte) (p : Part) : afterRestart src seq p = { requestsSettled (restarted src seq p) with
    mgmt := { p.mgmt with
      buffer := if p.mgmt.write = none then ⟨.empty, none, 0, 0, none, []⟩ else p.mgmt.buffer } } := by
  have mgmt : (requestsSettled (restarted src seq p)).mgmt = p.mgmt := by rw [restarted_rest]
  unfold afterRestart
  rw [restartBuffer_eq, mgmt]

/-- The blocks after RESTART, its reply queued. -/
theorem repliedRestart (src seq : Byte) (r : OwnRequest) {p : Part} (quiet : p.handOns = []) :
    let u := queueOwn r (afterRestart src seq p)
    u.disp = (forgetSequences src.toNat seq p).disp ∧ u.fm = (restarted src seq p).fm ∧
    u.mgmt = { p.mgmt with
      buffer := if p.mgmt.write = none then ⟨.empty, none, 0, 0, none, []⟩ else p.mgmt.buffer } ∧
    u.reg = p.reg ∧ u.meas = (restartMeasurement (forgetSequences src.toNat seq p)).meas ∧
    u.ctl = (restartController p).ctl ∧ u.ord = (requestsSettled (restarted src seq p)).ord ∧ u.coord = p.coord ∧
    OwnSince p.line.nextPlace u.line := by
  obtain ⟨fm, _, own⟩ := restarted_settled src seq quiet
  intro u
  have since : OwnSince p.line.nextPlace u.line := OwnSince.queueOwn (by rw [afterRestart_eq]; exact own) r
  have replied : u = { requestsSettled (restarted src seq p) with
      mgmt := { p.mgmt with
        buffer := if p.mgmt.write = none then ⟨.empty, none, 0, 0, none, []⟩ else p.mgmt.buffer },
      line := u.line } := by
    unfold u
    rw [queueOwn_eq, afterRestart_eq]
  refine ⟨?_, ?_, ?_, ?_, ?_, ?_, ?_, ?_, since⟩
  case refine_2 => rw [replied]; exact fm
  case refine_3 => rw [replied]
  case refine_7 => rw [replied]
  all_goals rw [replied, restarted_rest]

/-- Settles O51, from what each block's step of RESTART leaves and the QUERYs that it has requested. -/
theorem restartActs : Obligations.RestartActs := by
  unfold Obligations.RestartActs
  intro src seq num s quiet
  have ran := nextWith_answer_done 10 src num [] (judgeRestart ⟨src, num, []⟩ seq) s
    (p := afterRestart src seq s.part) (by rw [afterRestart_eq]; rfl) (judgeRestart_eq src seq num s.part)
  obtain ⟨disp, fm, mgmt, reg, meas, ctl, ord, coord, own⟩ :=
    repliedRestart src seq (doneReply 10 src num) (p := s.part) quiet
  obtain ⟨fans, queue, slots, reach⟩ := restarted_fm src seq (p := s.part)
  obtain ⟨_, queries, _⟩ := restarted_settled src seq quiet
  obtain ⟨requalify, instruments_left, points, zones, quality⟩ :=
    restartMeasurement_meas (forgetSequences src.toNat seq s.part)
  refine ⟨_, ran, disp.trans ?_, ?_, ?_, ?_, ?_, mgmt, reg, ?_⟩
  case refine_1 =>
    unfold forgetSequences
    simp only [beq_iff_eq]
  case refine_2 => exact (congrArg FanManager.queue fm).trans queue
  case refine_3 =>
    intro x mem
    have listed : x ∈ s.part.fm.slots.map fun _ => (none : Option Nat) :=
      ((congrArg FanManager.slots fm).trans slots) ▸ mem
    obtain ⟨_, _, empty⟩ := List.mem_map.mp listed
    exact empty.symm
  case refine_4 => exact (congrArg FanManager.fans fm).trans fans
  case refine_5 => exact (congrArg FanManager.reach fm).trans reach
  case refine_6 =>
    intro p u seconds again
    refine ⟨?_, ?_, ?_, ?_, ?_, ?_, fun r mem => queries r (ord ▸ mem), coord, own.2, fun apart g mem => ?_,
      fun apart numbered f mem unknown => ?_, fun clearing held none_holds => ?_⟩
    · exact (congrArg instruments meas).trans instruments_left
    · exact (congrArg (fun m : MeasurementUnit => m.points.map _) meas).trans points
    · exact (congrArg (fun m : MeasurementUnit => m.zones.map _) meas).trans zones
    · refine (congrArg MeasurementUnit.requalify meas).trans (requalify.trans ?_)
      unfold seconds
      rw [← Nat.mul_assoc]
      rfl
    · exact (congrArg MeasurementUnit.quality meas).trans quality
    · exact ctl.trans (restartController_ctl s.part)
    · obtain ⟨h, mem_h, kept⟩ := restarted_tags src seq apart.2.2.1 mem
      exact ⟨h, ord ▸ mem_h, kept⟩
    · have listed : f ∈ s.part.fm.fans.map Rule.restarted := ((congrArg FanManager.fans fm).trans fans) ▸ mem
      obtain ⟨r, mem_r, is_it⟩ := (restarted_queried src seq quiet apart.1 numbered.1 listed unknown).record
      exact ⟨r, ord ▸ mem_r, is_it⟩
    · exact (congrArg FanManager.clearingSent fm).trans (restarted_sent src seq quiet clearing held none_holds)

end Sys2Proof.Machine
end

section
/-! PROOFS. Answers that end an order (R159, R161, R162, R165, R170): what an outcome reports, and what the end of an order
leaves of the counters and the tags. -/

namespace Sys2Proof.Machine

/-! ### What an outcome reports -/

/-- Only FAN_STOPPED_UNASKED, TWO_LEADS, STATION_LOST and FAN_FAILED are counted. -/
def FanCounts (p q : Part) : Prop := ∀ k, k ∉ [7, 8, 14, 15] → q.fc.counts[k]? = p.fc.counts[k]?

section
variable {p q r : Part}

theorem FanCounts.of_fc (same : q.fc = p.fc := by rfl) : FanCounts p q := fun _ _ => by rw [same]

theorem FanCounts.trans (h : FanCounts p q) (j : FanCounts q r) : FanCounts p r := fun k other => (j k other).trans (h k other)

theorem FanCounts.after (j : FanCounts q r) (h : FanCounts p q) : FanCounts p r := h.trans j

theorem FanCounts.ite {c : Prop} [Decidable c] {a b : Part} (ha : FanCounts p a) (hb : FanCounts p b) :
    FanCounts p (if c then a else b) := by
  split
  · exact ha
  · exact hb

theorem Course.fanCounts (h : Course p q) : FanCounts p q :=
  fun k other => h.counts k fun is_it => other (by simp [is_it])

theorem raise_fanCounts (f : EventFlag) (p : Part) : FanCounts p (raise f p) := fun _ _ => rfl

theorem report_fanCounts {kind : FaultKind} (mem : faultCode kind - 1 ∈ [7, 8, 14, 15]) (o : FaultObject) (p : Part) :
    FanCounts p (report kind o p) :=
  fun _ other => report_counts_other (fun is_it => other (by rw [is_it]; exact mem)) o p

theorem releaseSlots_fanCounts (p : Part) : FanCounts p (releaseSlots p) := (releaseSlots_course p).fanCounts

theorem failFan_fanCounts (n : Nat) (p : Part) : FanCounts p (failFan n p) := by
  unfold failFan
  split
  · refine .ite .of_fc ?_
    exact ((releaseSlots_fanCounts _).after (raise_fanCounts _ _)).after
      ((report_fanCounts (by decide) _ _).after .of_fc)
  · exact .of_fc

theorem isolateByReport_fanCounts (n : Nat) (p : Part) : FanCounts p (isolateByReport n p) :=
  (releaseSlots_fanCounts _).after .of_fc

theorem loseStation_fanCounts (station : Nat) (p : Part) : FanCounts p (loseStation station p) := by
  unfold loseStation
  split
  · exact .of_fc
  · exact ((releaseSlots_fanCounts _).after (raise_fanCounts _ _)).after
      ((report_fanCounts (by decide) _ _).after .of_fc)

theorem testUnwanted_fc (n : Nat) (p : Part) : (testUnwanted n p).fc = p.fc := by
  unfold testUnwanted askStop
  repeat' split
  all_goals rfl

theorem enterRunning_fanCounts (n : Nat) (d : RunDir) (p : Part) : FanCounts p (enterRunning n d p) :=
  (FanCounts.of_fc (testUnwanted_fc n _)).after ((releaseSlots_fanCounts _).after .of_fc)

theorem settleFan_fanCounts (n : Nat) (run : RunState) (p : Part) : FanCounts p (settleFan n run p) := by
  cases run with
  | runFwd => exact enterRunning_fanCounts n .fwd p
  | runRev => exact enterRunning_fanCounts n .rev p
  | _ => exact .of_fc

theorem judgeStarting_fanCounts (n : Nat) (dir : Option RunDir) (run : RunState) (p : Part) :
    FanCounts p (judgeStarting n dir run p) := by
  unfold judgeStarting
  split
  · exact .of_fc
  · exact .ite ((FanCounts.of_fc (testUnwanted_fc n _)).after ((releaseSlots_fanCounts _).after .of_fc))
      (failFan_fanCounts n p)

theorem judgeRunning_fanCounts (f : FanRec) (run : RunState) (p : Part) : FanCounts p (judgeRunning f run p) := by
  have unasked (q : Part) : FanCounts q
      (if f.stopReq then q else report .fanStoppedUnasked (fanObject f.e.num) q) :=
    .ite .of_fc (report_fanCounts (by decide) _ q)
  cases run with
  | starting => exact .of_fc
  | runFwd => exact .ite .of_fc (failFan_fanCounts _ p)
  | runRev => exact .ite .of_fc (failFan_fanCounts _ p)
  | stopped => exact (unasked _).after .of_fc
  | stopping => exact (unasked _).after .of_fc

theorem judgeStopping_fanCounts (f : FanRec) (run : RunState) (p : Part) : FanCounts p (judgeStopping f run p) := by
  unfold judgeStopping
  refine .ite ?_ .of_fc
  split
  · exact .of_fc
  · exact failFan_fanCounts _ p

theorem judgeStopped_fanCounts (n : Nat) (run : RunState) (p : Part) : FanCounts p (judgeStopped n run p) := by
  unfold judgeStopped
  split
  · exact .of_fc
  · exact (enterRunning_fanCounts n _ _).after .of_fc

theorem judgeRun_fanCounts (n : Nat) (run : RunState) (p : Part) : FanCounts p (judgeRun n run p) := by
  unfold judgeRun
  split
  · exact .of_fc
  · split
    · exact judgeStarting_fanCounts n _ run p
    · exact judgeRunning_fanCounts _ run p
    · exact judgeStopping_fanCounts _ run p
    · exact judgeStopped_fanCounts n run p
    · exact settleFan_fanCounts n run p
    · exact settleFan_fanCounts n run p
    all_goals exact .of_fc

theorem startAccepted_fanCounts (f : FanRec) (run : Option RunState) (p : Part) : FanCounts p (startAccepted f run p) := by
  unfold startAccepted
  refine .ite ?_ .of_fc
  dsimp only
  split
  · exact (judgeRun_fanCounts _ _ _).after .of_fc
  · exact .of_fc

theorem stopAccepted_fanCounts (f : FanRec) (p : Part) : FanCounts p (stopAccepted f p) := by
  unfold stopAccepted
  split <;> exact .of_fc

theorem judgeOutcome_fanCounts (f : FanRec) (order : OrderKind) (outcome : OrderOutcome) (p : Part) :
    FanCounts p (judgeOutcome f order outcome p) := by
  cases outcome with
  | accepted run => exact .ite (startAccepted_fanCounts f run p) (.ite (stopAccepted_fanCounts f p) .of_fc)
  | refusedLocal => exact .ite (isolateByReport_fanCounts _ p) .of_fc
  | refusedFault => exact .ite (failFan_fanCounts _ p) .of_fc
  | failed => exact loseStation_fanCounts _ p
  | state run => exact .ite .of_fc (.ite .of_fc ((judgeRun_fanCounts _ run _).after .of_fc))
  | withdrawn =>
    have asked (q : Part) : FanCounts q (askQuery f.e.num q) := .of_fc
    exact .ite ((asked _).after ((releaseSlots_fanCounts _).after .of_fc)) .of_fc

theorem takeOutcome_fanCounts (n : Nat) (order : OrderKind) (outcome : OrderOutcome) (p : Part) :
    FanCounts p (takeOutcome n order outcome p) := by
  unfold takeOutcome
  split
  · exact .of_fc
  · next f _ =>
    have handed : FanCounts p (if order == .stop then onFan n (fun f => { f with stopReq := false }) p else p) :=
      .ite .of_fc .of_fc
    exact ((fanTail_course _).fanCounts.after (judgeOutcome_fanCounts f order outcome _)).after handed

end

/-! ### The end of an order -/

/-- What the end of an order leaves: of the counters of orders, all but those issued and withdrawn; the tags, no other
going to QUARANTINE; of the counters of faults, those not of fans; and the flags raised. -/
structure OrderLeft (p q : Part) : Prop where
  counters  : q.ord.counters = { p.ord.counters with
    issued := q.ord.counters.issued, withdrawn := q.ord.counters.withdrawn }
  tags      : TagsKept p q
  counts    : FanCounts p q
  flags     : FlagsKept p.fc.flags q.fc.flags

theorem OrderLeft.trans {p q r : Part} (h : OrderLeft p q) (k : OrderLeft q r) : OrderLeft p r :=
  ⟨by rw [k.counters, h.counters], h.tags.trans k.tags, h.counts.trans k.counts, h.flags.trans k.flags⟩

theorem finishRec_left (r : OrderRec) (outcome : OrderOutcome) (p : Part) : OrderLeft p (finishRec r outcome p) := by
  have ord : (takeOutcome r.fan r.kind outcome p).ord = p.ord := takeOutcome_ord _ _ _ p
  have flags := (finishRec_step r outcome p).flags
  have counters : (finishRec r outcome p).ord.counters = p.ord.counters ∧ (finishRec r outcome p).ord.tags = p.ord.tags ∧
      (finishRec r outcome p).fc = (takeOutcome r.fan r.kind outcome p).fc := by
    unfold finishRec
    extract_lets q m u
    have kept : u.ord.counters = p.ord.counters ∧ u.ord.tags = p.ord.tags := by
      change q.ord.counters = _ ∧ q.ord.tags = _
      rw [show q.ord = p.ord from ord]
      exact ⟨rfl, rfl⟩
    split
    · exact ⟨kept.1, kept.2, rfl⟩
    · exact ⟨kept.1, kept.2, rfl⟩
  obtain ⟨counters, tags, fc⟩ := counters
  refine ⟨by rw [counters], .of_tags tags, fun k other => ?_, flags⟩
  rw [fc]
  exact takeOutcome_fanCounts _ _ _ p k other

theorem finish_left (p : Part) : OrderLeft p (finish p) := by
  obtain ⟨counters, _, counts, tags⟩ := finish_counters p
  exact ⟨counters, tags, fun k other => counts k fun is_it => other (by simp [is_it]), (finish_event p).flags⟩

/-- An event that ends with an order's end. -/
theorem finish_endRec (r : OrderRec) (outcome : OrderOutcome) (p : Part) : OrderLeft p (finish (endRec r outcome p)) := by
  have served : Course (finishRec r outcome p) (endRec r outcome p) := (reportEmpty_course _).after (serve_course _)
  have flags := ((reportEmpty_step _).after (serve_step (finishRec r outcome p))).flags
  exact ((finishRec_left r outcome p).trans ⟨served.counters, served.tags, served.fanCounts, flags⟩).trans (finish_left _)

/-! ### Answers that end an order -/

/-- A part with an order's response timer cancelled. -/
def answered (r : OrderRec) (p : Part) : Part := onOrder r.fan (fun x => { x with response := none }) p

theorem freeTagOf_fc (r : OrderRec) (p : Part) : (freeTagOf r p).fc = p.fc := by
  unfold freeTagOf tagToFree
  repeat' split
  all_goals rfl

/-- An order counted as its tag is freed. -/
def endCounted (c : OrderCounters) (r : OrderRec) (p : Part) : Part := ordersCounted c (freeTagOf r (answered r p))

theorem endCounted_left (c : OrderCounters) (r : OrderRec) (p : Part) :
    (endCounted c r p).ord.counters = c ∧ (endCounted c r p).fc = p.fc := ⟨rfl, freeTagOf_fc r _⟩

section
variable {r : OrderRec} {p : Part} {run : RunState}

theorem answerMatched_accepted : answerMatched r .accepted run p =
    endRec r (.accepted none)
      (if r.busySeen then report .orderRetried (fanObject r.fan)
          (endCounted { p.ord.counters with accepted := bump p.ord.counters.accepted } r p)
        else endCounted { p.ord.counters with accepted := bump p.ord.counters.accepted } r p) := by
  have counted : countOrder (fun c => { c with accepted := bump c.accepted }) (freeTagOf r (answered r p)) =
      endCounted { p.ord.counters with accepted := bump p.ord.counters.accepted } r p := by
    unfold countOrder endCounted ordersCounted
    rw [freeTagOf_counters]
    rfl
  rw [← counted]
  rfl

theorem answerRefused_eq (outcome : OrderOutcome) : answerRefused r outcome (answered r p) =
    endRec r outcome (raise .orderFailed (report .orderFailed (fanObject r.fan)
      (endCounted { p.ord.counters with refused := bump p.ord.counters.refused } r p))) := by
  have counted : countOrder (fun c => { c with refused := bump c.refused }) (freeTagOf r (answered r p)) =
      endCounted { p.ord.counters with refused := bump p.ord.counters.refused } r p := by
    unfold countOrder endCounted ordersCounted
    rw [freeTagOf_counters]
    rfl
  rw [← counted]
  rfl

/-- What the answer to a recovery query says of its order (R165). -/
def TookEffect (k : OrderKind) (run : RunState) : Prop :=
  k = .startFwd ∧ (run = .runFwd ∨ run = .starting) ∨ k = .startRev ∧ (run = .runRev ∨ run = .starting) ∨
  k = .stop ∧ (run = .stopped ∨ run = .stopping)

/-- The answer shows the contrary run. -/
def RunsContrary (k : OrderKind) (run : RunState) : Prop := k = .startFwd ∧ run = .runRev ∨ k = .startRev ∧ run = .runFwd

theorem recovery_of_effect {k : OrderKind} (effect : TookEffect k run) : recovery k run = .tookEffect := by
  rcases effect with ⟨rfl, rfl | rfl⟩ | ⟨rfl, rfl | rfl⟩ | ⟨rfl, rfl | rfl⟩ <;> rfl

theorem recovery_of_contrary {k : OrderKind} (contrary : RunsContrary k run) : recovery k run = .contrary := by
  rcases contrary with ⟨rfl, rfl⟩ | ⟨rfl, rfl⟩ <;> rfl

theorem recovery_of_neither {k : OrderKind} (no_effect : ¬ TookEffect k run) (not_contrary : ¬ RunsContrary k run) :
    recovery k run = .noEffect := by
  unfold recovery
  split
  case h_3 => exact absurd (.inl ⟨rfl, rfl⟩) not_contrary
  case h_6 => exact absurd (.inr ⟨rfl, rfl⟩) not_contrary
  case h_9 => rfl
  all_goals exact absurd (by simp [TookEffect]) no_effect

theorem answerMatched_recovery (querying : r.state = .querying) :
    answerMatched r .state run p = answerRecovery r run (answered r p) :=
  if_pos (by simp [querying])

/-- A recovery query's order marked as sent again. -/
def reissueMarked (r : OrderRec) (p : Part) : Part := onOrder r.fan (fun x => { x with reissued := true }) (answered r p)

theorem answerRecovery_of_effect (effect : TookEffect r.kind run) : answerRecovery r run (answered r p) =
    endRec r (.accepted (if isStart r.kind then some run else none)) (report .orderRecovered (fanObject r.fan)
      (endCounted { p.ord.counters with
        accepted := bump p.ord.counters.accepted, recovered := bump p.ord.counters.recovered } r p)) := by
  have counted : countOrder (fun c => { c with accepted := bump c.accepted, recovered := bump c.recovered })
        (freeTagOf r (answered r p)) = endCounted { p.ord.counters with
          accepted := bump p.ord.counters.accepted, recovered := bump p.ord.counters.recovered } r p := by
    unfold countOrder endCounted ordersCounted
    rw [freeTagOf_counters]
    rfl
  unfold answerRecovery
  rw [recovery_of_effect effect, ← counted]

theorem endCounted_same : endCounted p.ord.counters r p = freeTagOf r (answered r p) := by
  unfold endCounted ordersCounted
  rw [show p.ord.counters = (freeTagOf r (answered r p)).ord.counters from (freeTagOf_counters r (answered r p)).symm]

theorem answerRecovery_of_contrary (contrary : RunsContrary r.kind run) : answerRecovery r run (answered r p) =
    endRec r (.state run) (endCounted p.ord.counters r p) := by
  unfold answerRecovery
  rw [recovery_of_contrary contrary, endCounted_same]

theorem answerRecovery_of_neither (no_effect : ¬ TookEffect r.kind run) (not_contrary : ¬ RunsContrary r.kind run) :
    answerRecovery r run (answered r p) = if r.reissued = false ∧ r.windowOpen = true then
        reissue { r with reissued := true } (reissueMarked r p)
      else failRec r (freeTagOf r (answered r p)) := by
  unfold answerRecovery
  rw [recovery_of_neither no_effect not_contrary]
  simp only [Bool.and_eq_true, Bool.not_eq_true']
  rfl

theorem answerMatched_state (sent : r.state = .sent) :
    answerMatched r .state run p = endRec r (.state run) (endCounted p.ord.counters r p) := by
  rw [endCounted_same]
  exact if_neg (by simp [sent])

theorem failRec_eq (r : OrderRec) (p : Part) : failRec r p = endRec r .failed
    (if isMotion r.kind then raise .orderFailed (report .orderFailed (fanObject r.fan)
        (ordersCounted { p.ord.counters with failed := bump p.ord.counters.failed } p))
      else ordersCounted { p.ord.counters with failed := bump p.ord.counters.failed } p) := rfl

end

/-- An order that has failed, at the end of the event: counted, and reported where it is a START or STOP. -/
theorem finish_failRec (r : OrderRec) (p : Part) :
    (finish (failRec r p)).ord.counters.failed = bump p.ord.counters.failed ∧
    (finish (failRec r p)).ord.counters.accepted = p.ord.counters.accepted ∧
    (finish (failRec r p)).ord.counters.refused = p.ord.counters.refused ∧ TagsKept p (finish (failRec r p)) ∧
    (isMotion r.kind = true → (finish (failRec r p)).fc.flags &&& 0x0020 = 0x0020 ∧
      (finish (failRec r p)).fc.counts[13]? = (p.fc.counts[13]?).map bump) ∧
    (isMotion r.kind = false → (finish (failRec r p)).fc.counts[13]? = p.fc.counts[13]?) := by
  rw [failRec_eq]
  cases motion : isMotion r.kind with
  | true =>
    rw [if_pos rfl]
    obtain ⟨counters, tags, counts, flags⟩ := finish_endRec r .failed (raise .orderFailed
      (report .orderFailed (fanObject r.fan) (ordersCounted { p.ord.counters with failed := bump p.ord.counters.failed } p)))
    rw [raise_ord, report_ord] at counters
    refine ⟨by rw [counters]; rfl, by rw [counters]; rfl, by rw [counters]; rfl, TagsKept.trans (.of_tags ?_) tags,
      fun _ => ⟨flags.of_mask (raise_flags_and_flagBit .orderFailed _), ?_⟩, nofun⟩
    · rw [raise_ord, report_ord]
      rfl
    · rw [counts 13 (by decide)]
      exact report_counts_same .orderFailed _ _
  | false =>
    rw [if_neg Bool.false_ne_true]
    obtain ⟨counters, tags, counts, flags⟩ := finish_endRec r .failed
      (ordersCounted { p.ord.counters with failed := bump p.ord.counters.failed } p)
    exact ⟨by rw [counters]; rfl, by rw [counters]; rfl, by rw [counters]; rfl, TagsKept.trans (.of_tags rfl) tags, nofun,
      fun _ => counts 13 (by decide)⟩

theorem isMotion_of_ne {k : OrderKind} (motion : k ≠ .query) : isMotion k = true := by
  cases k <;> first | rfl | exact absurd rfl motion

/-- Settles O40, from what the end of an order leaves of the counters. -/
theorem answerEndsOrder : Obligations.AnswerEndsOrder := by
  unfold Obligations.AnswerEndsOrder
  refine ⟨fun station tag run g r s quiet found busy holder sent => ?_,
    fun station tag run g r s quiet found busy holder querying motion => ?_⟩
  · have waits : r.state ≠ .retryWait := by simp [sent]
    have matched {o : AnswerOutcome} (fit : fits r o = true) : takeAnswer station tag r.output o run s.part =
        answerMatched r o run s.part := takeAnswer_of_matched found busy holder waits fit
    intro c
    refine ⟨fun motion => ?_, fun motion o refused => ?_, fun query => ?_⟩
    · refine ⟨{ s with part := finish (takeAnswer station tag r.output .accepted run s.part) }, rfl, ?_⟩
      rw [matched (by rw [fits_iff]; simp [sent, motion]), answerMatched_accepted]
      cases seen : r.busySeen with
      | true =>
        rw [if_pos rfl]
        obtain ⟨counters, _, counts, _⟩ := finish_endRec r (.accepted none) (report .orderRetried (fanObject r.fan)
          (endCounted { s.part.ord.counters with accepted := bump s.part.ord.counters.accepted } r s.part))
        rw [report_ord] at counters
        dsimp only
        refine ⟨by rw [counters]; rfl, by rw [counters]; rfl, by rw [counters]; rfl, fun _ => ?_⟩
        rw [counts 5 (by decide), ← (endCounted_left _ r s.part).2]
        exact report_counts_same .orderRetried _ _
      | false =>
        rw [if_neg Bool.false_ne_true]
        obtain ⟨counters, _⟩ := finish_endRec r (.accepted none)
          (endCounted { s.part.ord.counters with accepted := bump s.part.ord.counters.accepted } r s.part)
        dsimp only
        exact ⟨by rw [counters]; rfl, by rw [counters]; rfl, by rw [counters]; rfl, nofun⟩
    · have refuses : ∃ outcome, answerMatched r o run s.part = answerRefused r outcome (answered r s.part) := by
        rcases refused with rfl | rfl
        · exact ⟨.refusedLocal, rfl⟩
        · exact ⟨.refusedFault, rfl⟩
      obtain ⟨outcome, refuses⟩ := refuses
      refine ⟨{ s with part := finish (takeAnswer station tag r.output o run s.part) }, rfl, ?_⟩
      rw [matched (by rw [fits_iff]; rcases refused with rfl | rfl <;> simp [sent, motion]), refuses, answerRefused_eq]
      obtain ⟨counters, _, _, flags⟩ := finish_endRec r outcome (raise .orderFailed (report .orderFailed (fanObject r.fan)
        (endCounted { s.part.ord.counters with refused := bump s.part.ord.counters.refused } r s.part)))
      rw [raise_ord, report_ord] at counters
      dsimp only
      have raised := flags.of_mask (raise_flags_and_flagBit .orderFailed _)
      exact ⟨by rw [counters]; rfl, by rw [counters]; rfl, fun clear => absurd (raised.symm.trans clear) (by decide)⟩
    · refine ⟨{ s with part := finish (takeAnswer station tag r.output .state run s.part) }, rfl, ?_⟩
      rw [matched (by rw [fits_iff]; simp [query]), answerMatched_state sent]
      obtain ⟨counters, _⟩ := finish_endRec r (.state run) (endCounted s.part.ord.counters r s.part)
      dsimp only
      exact ⟨by rw [counters]; rfl, by rw [counters]; rfl, by rw [counters]; rfl⟩
  · intro p c effect contrary again answered_by
    have held : r.station = station ∧ r.tag = some tag := by
      have is_it := List.find?_some (p := fun r : OrderRec => r.station == station && r.tag == some tag) holder
      simpa using is_it
    have matched : takeAnswer station tag r.output .state run p = answerRecovery r run (answered r p) :=
      (takeAnswer_of_matched found busy holder (by simp [querying]) (by rw [fits_iff]; simp [querying])).trans
        (answerMatched_recovery querying)
    have leaves {good : State → Prop} (holds : good { s with part := finish (answerRecovery r run (answered r p)) }) :
        answered_by good := by
      rw [← matched] at holds
      exact ⟨_, rfl, holds⟩
    have judged (no_effect : ¬ effect) (not_contrary : ¬ contrary) := answerRecovery_of_neither (p := p) no_effect not_contrary
    have marked : startCheck { r with reissued := true } (reissueMarked r p) = startCheck r p := startCheck_congr rfl rfl rfl
    refine ⟨fun took => leaves ?_, fun runs => leaves ?_, fun no_effect not_contrary once may => leaves ?_,
      fun no_effect not_contrary once may_not => leaves ?_, fun no_effect not_contrary no_more => leaves ?_⟩
    · rw [answerRecovery_of_effect took]
      obtain ⟨counters, _, counts, _⟩ := finish_endRec r (.accepted (if isStart r.kind then some run else none))
        (report .orderRecovered (fanObject r.fan) (endCounted { c with
          accepted := bump c.accepted, recovered := bump c.recovered } r p))
      rw [report_ord] at counters
      dsimp only
      refine ⟨by rw [counters]; rfl, by rw [counters]; rfl, by rw [counters]; rfl, by rw [counters]; rfl, ?_⟩
      rw [counts 6 (by decide), ← (endCounted_left _ r p).2]
      exact report_counts_same .orderRecovered _ _
    · rw [answerRecovery_of_contrary runs]
      obtain ⟨counters, _⟩ := finish_endRec r (.state run) (endCounted c r p)
      dsimp only
      exact ⟨by rw [counters]; rfl, by rw [counters]; rfl, by rw [counters]; rfl, by rw [counters]; rfl⟩
    · have passes : startCheck { r with reissued := true } (reissueMarked r p) = true := marked.trans ((startCheck_iff r p).mpr may)
      have carried : carries { r with reissued := true, state := .sent } = r.kind := by simp [carries]
      have sent : answerRecovery r run (answered r p) = queueOwn (.fanOrder station tag r.output r.kind) { p with ord := { p.ord with
          records := p.ord.records.map fun x => if x.fan = r.fan then
              { x with state := .sent, reissued := true, tag := some tag,
                       response := some (p.now + BitVec.ofNat 32 (responseTime p)) }
            else x,
          counters := { c with issued := bump c.issued } } } := by
        rw [judged no_effect not_contrary, if_pos once, reissue_of_passed (r := { r with reissued := true }) held.2 passes,
          sendOrder_eq, carried, held.1]
        unfold reissueMarked answered
        rw [onOrder_onOrder r.fan (fun x => { x with response := none }) _ _ fun _ => rfl,
          onOrder_onOrder r.fan (fun x => { x with response := none, reissued := true }) _ _ fun _ => rfl,
          onOrder_onOrder r.fan (fun x => { x with response := none, reissued := true, state := .sent }) _ _ fun _ => rfl,
          countOrder_onOrder, onOrder_eq]
        rfl
      rw [sent, exec_queueOwnTelegram _ _ (by exact quiet)]
      unfold nextPart finish
      rw [settled_of_quiet _ (by rw [queueOwn_eq]; exact quiet)]
      rfl
    · have fails : ¬ startCheck { r with reissued := true } (reissueMarked r p) = true :=
        marked ▸ mt (startCheck_iff r p).mp may_not
      have start : isStart r.kind = true := startCheck_isStart (r := r) (p := p) (by rw [← marked]; simpa using fails)
      rw [judged no_effect not_contrary, if_pos once, reissue_of_failed (r := { r with reissued := true }) held.2 fails]
      exact finish_withdrawn (r := { r with reissued := true }) (p := reissueMarked r p) start
    · rw [judged no_effect not_contrary, if_neg no_more]
      obtain ⟨failed, accepted, refused, _, raised, _⟩ := finish_failRec r (freeTagOf r (answered r p))
      rw [freeTagOf_counters] at failed accepted refused
      refine ⟨failed, accepted, refused, ?_⟩
      dsimp only
      rw [(raised (isMotion_of_ne motion)).1]
      decide

end Sys2Proof.Machine
end

section
/-! PROOFS. The response timer of an order (R163, R164, R166, R167): the tag in QUARANTINE, the order issued again, and the
order that has failed. -/

namespace Sys2Proof.Machine

/-! ### A tag quarantined (R167) -/

section
variable {station tag : Nat} {g : TagRec} {r : OrderRec} {p : Part}
  (found : p.tag? r.station tag = some g) (busy : g.state = .busy) (tagged : r.tag = some tag)

/-- A part with the tag of an order in QUARANTINE. -/
def quarantined (r : OrderRec) (tag : Nat) (p : Part) : Part :=
  withdraw r.station tag (setTag r.station tag .quarantine (arm p.now 2000) p)

include found busy

theorem quarantineTagOf_of_busy (tagged : r.tag = some tag) : quarantineTagOf r p = quarantined r tag p := by
  have is_busy : tagBusy r.station tag p = true := by
    unfold tagBusy
    rw [found]
    exact beq_iff_eq.mpr busy
  unfold quarantineTagOf tagToQuarantine
  rw [tagged]
  exact if_pos is_busy

omit busy in
theorem quarantined_tag? : (quarantined r tag p).tag? r.station tag =
    some { g with state := .quarantine, quarantine := some (p.now + 2000) } :=
  find?_updFirst_self (g := fun t : TagRec => { t with state := .quarantine, quarantine := arm p.now 2000 })
    (fun _ => rfl) found

/-- A BUSY tag in QUARANTINE is neither freed nor a pool slot more. -/
theorem quarantined_pool : poolUsed (quarantined r tag p).ord.tags = poolUsed p.ord.tags ∧
    ∀ a, freeTag a (quarantined r tag p).ord.tags = freeTag a p.ord.tags := by
  obtain ⟨is_it, pre, post, split, others⟩ := List.find?_eq_some_iff_append.mp found
  have tags : (quarantined r tag p).ord.tags =
      pre ++ { g with state := .quarantine, quarantine := arm p.now 2000 } :: post := by
    change updFirst _ _ p.ord.tags = _
    rw [split]
    exact updFirst_of_split (fun y mem => Bool.not_eq_true' _ ▸ others y mem) is_it
  rw [tags, split]
  refine ⟨?_, fun a => ?_⟩
  · unfold poolUsed
    simp [busy]
  · unfold freeTag
    simp [busy, List.find?_append]

end

/-! ### One order served (R155) -/

/-- The tag on which an order of a station is issued: the lowest FREE one, if the pool has a slot. -/
def issuedOn (p : Part) (station : Nat) : Option Nat :=
  if poolUsed p.ord.tags < 16 then freeTag station p.ord.tags else none

/-- A part with its backlog empty. -/
def backlogCleared (p : Part) : Part := { p with ord := { p.ord with backlog := [] } }

section
variable {n : Nat} {r : OrderRec} {p : Part}

theorem serveWith_of_cleared (fuel : Nat) (empty : p.ord.backlog = []) : serveWith fuel p = p := by
  cases fuel with
  | zero => rfl
  | succ fuel =>
    unfold serveWith
    rw [empty]
    split
    · rfl
    · rfl

theorem issue_backlog (r : OrderRec) (t : Nat) (p : Part) : (issue r t p).ord.backlog = p.ord.backlog ∧
    (issue r t p).ord.counters = { p.ord.counters with issued := bump p.ord.counters.issued } := by
  have sent : (sendOrder r t (takeTag r.station t p)).ord.backlog = p.ord.backlog ∧
      (sendOrder r t (takeTag r.station t p)).ord.counters =
        { p.ord.counters with issued := bump p.ord.counters.issued } := by
    rw [sendOrder_eq, queueOwn_eq]
    exact ⟨rfl, rfl⟩
  unfold issue
  extract_lets q u
  split
  · split
    · exact sent
    · exact sent
  · exact sent

theorem order?_onOrder_self {g : OrderRec → OrderRec} (same : ∀ r, (g r).fan = r.fan) (has : p.order? n = some r) :
    (onOrder n g p).order? n = some (g r) := by
  rw [order?_onOrder n n same, has]
  simp

/-- An order issued. -/
theorem issue_order? (found : p.order? r.fan = some r) (t : Nat) : ∃ x, (issue r t p).order? r.fan = some x ∧
    x.kind = r.kind ∧ x.tag = some t ∧ x.response ≠ none ∧
    x.state = (if r.state = .waiting then .sent else r.state) ∧ x.reissued = r.reissued ∧
    x.queryTimeouts = r.queryTimeouts := by
  let armed (x : OrderRec) : OrderRec := { x with tag := some t, response := arm p.now (responseTime p) }
  have is_armed : (armed r).response ≠ none := Option.some_ne_none _
  have sent : (sendOrder r t (takeTag r.station t p)).order? r.fan = some (armed r) := by
    rw [sendOrder_eq, queueOwn_eq]
    exact order?_onOrder_self (g := armed) (fun _ => rfl) (p := takeTag r.station t p) found
  have waited := order?_onOrder_self (g := fun x => { x with state := .sent }) (fun _ => rfl) sent
  unfold issue
  extract_lets q u
  by_cases waiting : r.state = .waiting
  · rw [if_pos (by simp [waiting]), if_pos waiting]
    split
    · exact ⟨_, waited, rfl, rfl, by exact is_armed, rfl, rfl, rfl⟩
    · exact ⟨_, order?_onOrder_self (g := fun x => { x with
        windowOpen := true, window := arm u.now (windowTime u), issuedBefore := true }) (fun _ => rfl) waited, rfl, rfl,
        by exact is_armed, rfl, rfl, rfl⟩
  · rw [if_neg (by simpa using waiting), if_neg waiting]
    exact ⟨_, sent, rfl, rfl, by exact is_armed, rfl, rfl, rfl⟩

variable (found : p.order? n = some r) (alone : p.ord.backlog = [n]) (passes : r.state = .querying ∨ r.kind = .query)

include found alone passes

theorem serve_of_alone : (issuedOn p r.station = none → serve p = p) ∧
    ∀ t, issuedOn p r.station = some t → serve p = issue r t (backlogCleared p) := by
  have fan : r.fan = n := order?_fan found
  have check (q : Part) : (r.state == .querying || startCheck r q) = true := by
    rcases passes with querying | query
    · simp [querying]
    · simp [startCheck, query, isStart]
  have served : serve p = serveWith (1 + 1) p := by
    unfold serve
    rw [alone]
    rfl
  have next : nextToIssue p [n] = (freeTag r.station p.ord.tags).map fun t => (r, t) := by
    unfold nextToIssue
    rw [found]
    dsimp only
    cases freeTag r.station p.ord.tags <;> rfl
  rw [served]
  unfold serveWith issuedOn
  rw [alone, next]
  split
  · refine ⟨fun no_tag => ?_, fun t is_tag => ?_⟩
    · rw [no_tag]
      rfl
    · rw [is_tag]
      have left : ([n].filter fun m => m != r.fan) = [] := by simp [fan]
      dsimp only [Option.map]
      rw [check, if_pos rfl, left]
      exact serveWith_of_cleared 1 (issue_backlog r t (backlogCleared p)).1
  · exact ⟨fun _ => rfl, nofun⟩

/-- An order that is alone in the backlog, at the end of the event (R155, R156). -/
theorem finish_alone (quiet : p.handOns = []) (no_tag : r.tag = none) (unarmed : r.response = none) :
    (∃ x, (finish (serve p)).order? n = some x ∧ x.kind = r.kind ∧ x.tag = issuedOn p r.station ∧
      (x.response = none ↔ issuedOn p r.station = none) ∧
      x.state = (if issuedOn p r.station ≠ none ∧ r.state = .waiting then .sent else r.state) ∧ x.reissued = r.reissued ∧
      x.queryTimeouts = r.queryTimeouts) ∧
    (finish (serve p)).ord.backlog = (if issuedOn p r.station = none then [n] else []) ∧
    (finish (serve p)).ord.counters.issued =
      (if issuedOn p r.station = none then p.ord.counters.issued else bump p.ord.counters.issued) := by
  obtain ⟨stays, issues⟩ := serve_of_alone found alone passes
  have fan : r.fan = n := order?_fan found
  have ends {q : Part} (none_waits : q.handOns = []) : (finish q).ord = q.ord := by
    unfold finish
    rw [settled_of_quiet q none_waits]
    rfl
  cases on : issuedOn p r.station with
  | none =>
    rw [stays on, if_pos rfl, if_pos rfl, ends quiet]
    refine ⟨⟨r, ?_, rfl, no_tag, by simp [unarmed], by simp, rfl, rfl⟩, alone, rfl⟩
    unfold Part.order?
    rw [ends quiet]
    exact found
  | some t =>
    have cleared : (backlogCleared p).order? r.fan = some r := by rw [fan]; exact found
    obtain ⟨x, found_x, kind, tag, armed, state, reissued, timeouts⟩ := issue_order? cleared t
    have none_waits : (issue r t (backlogCleared p)).handOns = [] := (issue_query (k := 0) r t _).handOns.trans quiet
    rw [issues t on, if_neg (Option.some_ne_none _), if_neg (Option.some_ne_none _), ends none_waits]
    refine ⟨⟨x, ?_, kind, tag, by simp [armed], by simpa using state, reissued, timeouts⟩, (issue_backlog r t _).1,
      congrArg OrderCounters.issued (issue_backlog r t _).2⟩
    unfold Part.order?
    rw [ends none_waits, ← fan]
    exact found_x

end

/-! ### No request waits -/

/-- No order request waits. -/
def NoRequests (p : Part) : Prop := ∀ n kind, .orderRequest n kind ∉ p.handOns

theorem takeClearingEnd_handOns (p : Part) : (takeClearingEnd p).handOns = p.handOns := by
  have handed (new : IncidentRecord) (q : Part) (elsewhere : new.state ≠ .control) (open_ : new.state ≠ .clearing) :
      (putRecord new q).handOns = q.handOns := by
    rw [putRecord_eq]
    have stored : (recordStored new q).handOns = q.handOns := by rw [recordStored_rest]
    have same : (handedOn q.reg.record new).record.state = new.state := markControlled_state _ _
    split
    · refine deliverRecord_induction (P := (·.handOns = q.handOns)) stored (fun u kept => ?_) (fun u kept => ?_)
        fun u kept => ?_
      · rw [fansTakeRecord_handOns (by rw [same]; exact elsewhere) (by rw [same]; exact open_)]
        exact kept
      · rw [ctlMeetsRecord_aside _ u (by rw [same]; exact elsewhere)]
        exact kept
      · rw [coordTakeRecord_rest]
        exact kept
    · exact stored
  unfold takeClearingEnd
  split
  · exact handed _ _ (by simp [IncidentRecord.empty]) (by simp [IncidentRecord.empty])
  · rfl

/-- With no order request waiting, the orders stand as they are. -/
theorem settle_ord_of_none (fuel : Nat) {p : Part} (none_asks : NoRequests p) : (settle takeHandOn fuel p).ord = p.ord := by
  induction fuel generalizing p with
  | zero => rfl
  | succ fuel ih =>
    unfold settle
    split
    · rfl
    · next h rest waiting =>
      have fewer : ∀ n kind, .orderRequest n kind ∉ rest := fun n kind mem =>
        none_asks n kind (waiting ▸ List.mem_cons_of_mem h mem)
      cases h with
      | orderRequest n kind => exact absurd (waiting ▸ List.mem_cons_self ..) (none_asks n kind)
      | clearingEnd =>
        refine (ih (p := takeClearingEnd { p with handOns := rest }) ?_).trans (takeClearingEnd_ord _)
        intro n kind
        rw [takeClearingEnd_handOns]
        exact fewer n kind

theorem NoRequests.of_same {p q : Part} (none_asks : NoRequests p) (same : q.handOns = p.handOns) : NoRequests q := by
  intro n kind
  rw [same]
  exact none_asks n kind

theorem testClearing_noRequests {p : Part} (none_asks : NoRequests p) : NoRequests (testClearing p) := by
  intro n kind mem
  obtain ⟨l, posted, asks_none⟩ := testClearing_handOns p
  rw [posted] at mem
  exact (List.mem_append.mp mem).elim (none_asks n kind) (asks_none n kind)

/-- Outside CONTROL a slot freed is offered to no fan (R143). -/
theorem releaseSlots_handOns {p : Part} (outside : p.fm.record.state ≠ .control) :
    (releaseSlots p).handOns = p.handOns := by
  unfold releaseSlots
  extract_lets slots freed m q
  have elsewhere : inControl q = false := beq_eq_false_iff_ne.mpr outside
  rw [elsewhere, Bool.and_false, if_neg Bool.false_ne_true]
  rfl

/-- Outside CONTROL an order that has failed asks nothing of the fans (R123, R126). -/
theorem takeOutcome_failed_noRequests {n : Nat} {kind : OrderKind} {p : Part} (outside : p.fm.record.state ≠ .control)
    (none_asks : NoRequests p) : NoRequests (takeOutcome n kind .failed p) := by
  have lost (station : Nat) (q : Part) (elsewhere : q.fm.record.state ≠ .control) :
      (loseStation station q).handOns = q.handOns := by
    unfold loseStation
    split
    · rfl
    · rw [releaseSlots_handOns (by rw [raise_fm, report_fm]; exact elsewhere), raise_handOns, report_handOns]
  unfold takeOutcome
  split
  · exact none_asks
  · next f _ =>
    refine testClearing_noRequests (none_asks.of_same ?_)
    refine (lost _ _ ?_).trans ?_
    · split <;> exact outside
    · split <;> rfl

/-- Outside CONTROL an order that has failed, with no other to be issued and none to follow, leaves its fan no order. -/
theorem finish_failRec_none {r : OrderRec} {p : Part} (quiet : p.handOns = []) (empty : p.ord.backlog = [])
    (last : r.successor = none) (outside : p.fm.record.state ≠ .control) :
    ∀ x ∈ (finish (failRec r p)).ord.records, x.fan ≠ r.fan := by
  rw [failRec_eq]
  have same (q : Part) (is_q : q = if isMotion r.kind then raise .orderFailed (report .orderFailed (fanObject r.fan)
        (ordersCounted { p.ord.counters with failed := bump p.ord.counters.failed } p))
      else ordersCounted { p.ord.counters with failed := bump p.ord.counters.failed } p) :
      q.handOns = p.handOns ∧ q.ord.backlog = p.ord.backlog ∧ q.fm = p.fm := by
    rw [is_q]
    split
    · rw [raise_handOns, report_handOns, raise_ord, report_ord, raise_fm, report_fm]
      exact ⟨rfl, rfl, rfl⟩
    · exact ⟨rfl, rfl, rfl⟩
  generalize is_q : (if isMotion r.kind then raise .orderFailed (report .orderFailed (fanObject r.fan)
        (ordersCounted { p.ord.counters with failed := bump p.ord.counters.failed } p))
      else ordersCounted { p.ord.counters with failed := bump p.ord.counters.failed } p) = q
  obtain ⟨handOns, backlog, fm⟩ := same q is_q.symm
  have ord : (takeOutcome r.fan r.kind .failed q).ord = q.ord := takeOutcome_ord _ _ _ q
  have removed : (finishRec r .failed q).handOns = (takeOutcome r.fan r.kind .failed q).handOns ∧
      (finishRec r .failed q).ord.backlog = [] ∧ ∀ x ∈ (finishRec r .failed q).ord.records, x.fan ≠ r.fan := by
    unfold finishRec
    rw [last]
    dsimp only
    rw [ord, backlog, empty]
    exact ⟨rfl, rfl, fun x mem => by simpa using (List.mem_filter.mp mem).2⟩
  obtain ⟨waiting, idle, none_stands⟩ := removed
  have asks_none : NoRequests (finishRec r .failed q) :=
    NoRequests.of_same (takeOutcome_failed_noRequests (by rw [fm]; exact outside)
      fun n kind => by rw [handOns, quiet]; exact List.not_mem_nil) waiting
  have reported : NoRequests (endRec r .failed q) ∧ (endRec r .failed q).ord = (finishRec r .failed q).ord := by
    unfold endRec
    rw [serve_of_empty idle]
    refine ⟨?_, reportEmpty_ord _⟩
    unfold reportEmpty
    split
    · exact testClearing_noRequests asks_none
    · exact asks_none
  have ends : (finish (endRec r .failed q)).ord = (finishRec r .failed q).ord :=
    (settle_ord_of_none settleBound reported.1).trans reported.2
  rw [ends]
  exact none_stands

/-! ### The expiry -/

/-- A part with an order whose response timer has expired, its tag in QUARANTINE, to be issued again alone. -/
def again (g : OrderRec → OrderRec) (r : OrderRec) (tag : Nat) (p : Part) : Part :=
  { onOrder r.fan g (quarantined r tag p) with
    ord := { (onOrder r.fan g (quarantined r tag p)).ord with backlog := [r.fan] } }

/-- An order issued again at the end of the event, on the tag that was FREE before. -/
theorem finish_again {n tag : Nat} {g : TagRec} {r : OrderRec} {p : Part} (quiet : p.handOns = []) (held : p.order? n = some r)
    (found : p.tag? r.station tag = some g) (busy : g.state = .busy) {change : OrderRec → OrderRec}
    (kept : ∀ x, (change x).fan = x.fan ∧ (change x).station = x.station ∧ (change x).kind = x.kind)
    (cleared : ∀ x, (change x).tag = none ∧ (change x).response = none)
    (passes : (change r).state = .querying ∨ (change r).kind = .query) :
    let left := finish (serve (again change r tag p))
    (∃ x, left.order? n = some x ∧ x.kind = r.kind ∧ x.tag = issuedOn p r.station ∧
      (x.response = none ↔ issuedOn p r.station = none) ∧
      x.state = (if issuedOn p r.station ≠ none ∧ (change r).state = .waiting then .sent else (change r).state) ∧
      x.reissued = (change r).reissued ∧ x.queryTimeouts = (change r).queryTimeouts) ∧
    left.ord.backlog = (if issuedOn p r.station = none then [n] else []) ∧
    left.ord.counters.issued = (if issuedOn p r.station = none then p.ord.counters.issued else bump p.ord.counters.issued) := by
  have fan : r.fan = n := order?_fan held
  have standing : (again change r tag p).order? n = some (change r) := by
    rw [← fan] at held ⊢
    exact order?_onOrder_self (fun x => (kept x).1) (p := quarantined r tag p) held
  have alone : (again change r tag p).ord.backlog = [n] := congrArg (fun m => [m]) fan
  have same : issuedOn (again change r tag p) (change r).station = issuedOn p r.station := by
    obtain ⟨pool, free⟩ := quarantined_pool found busy
    unfold issuedOn
    rw [(kept r).2.1]
    exact congrArg₂ (fun u t => if u < 16 then t else none) pool (free r.station)
  have ended := finish_alone standing alone passes quiet (cleared r).1 (cleared r).2
  rw [same, (kept r).2.2] at ended
  exact ended

/-- A tag in QUARANTINE stays there. -/
theorem TagsKept.quarantined {p q : Part} (kept : TagsKept p q) {a k : Nat} {g : TagRec} (found : p.tag? a k = some g)
    (state : g.state = .quarantine) : q.tag? a k = some g := by
  obtain ⟨h, found_h, stays, _⟩ := kept a k g found
  rw [found_h, stays state]

section
variable {n tag : Nat} {g : TagRec} {r : OrderRec} {p : Part} (held : p.order? n = some r) (armed : r.response ≠ none)
  (tagged : r.tag = some tag) (found : p.tag? r.station tag = some g) (busy : g.state = .busy)

include held armed

theorem responseExpires_of_armed : responseExpires n p = match r.state with
    | .sent => if r.kind == .query then queryTimeout r p else motionTimeout r p
    | .querying => recoveryTimeout r p
    | _ => p := by
  unfold responseExpires
  rw [held]
  exact if_neg (by simpa [Option.isNone_iff_eq_none] using armed)

include tagged found busy

theorem responseExpires_of_failed (fails : r.state = .sent ∧ r.kind = .query ∧ r.reissued = true ∨
    r.state = .querying ∧ 1 ≤ r.queryTimeouts) : responseExpires n p = failRec r (quarantined r tag p) := by
  have quarantine := quarantineTagOf_of_busy found busy tagged
  rw [responseExpires_of_armed held armed]
  rcases fails with ⟨sent, query, twice⟩ | ⟨querying, twice⟩
  · rw [sent]
    dsimp only
    rw [if_pos (by simp [query])]
    unfold queryTimeout
    rw [quarantine]
    exact if_pos twice
  · rw [querying]
    dsimp only
    unfold recoveryTimeout
    rw [quarantine]
    exact if_pos twice

variable (empty : p.ord.backlog = [])

include empty

/-- A QUERY returns to WAITING (R163). -/
theorem responseExpires_of_query (sent : r.state = .sent) (query : r.kind = .query) (once : r.reissued = false) :
    responseExpires n p = serve (again (fun x => { x with state := .waiting, tag := none, response := none, reissued := true })
      r tag p) := by
  rw [responseExpires_of_armed held armed, sent]
  dsimp only
  rw [if_pos (by simp [query])]
  unfold queryTimeout
  rw [quarantineTagOf_of_busy found busy tagged]
  refine (if_neg (by simp [once])).trans (congrArg serve ?_)
  unfold joinBack again
  rw [show (onOrder r.fan _ (quarantined r tag p)).ord.backlog = p.ord.backlog from rfl, empty]
  rfl

/-- A START or STOP enters QUERYING (R164). -/
theorem responseExpires_of_motion (sent : r.state = .sent) (motion : r.kind ≠ .query) :
    responseExpires n p = serve (again (fun x => { x with state := .querying, tag := none, response := none, queryTimeouts := 0 })
      r tag p) := by
  rw [responseExpires_of_armed held armed, sent]
  dsimp only
  rw [if_neg (by simpa using motion)]
  unfold motionTimeout
  rw [quarantineTagOf_of_busy found busy tagged]
  refine congrArg serve ?_
  unfold joinFront again
  rw [show (onOrder r.fan _ (quarantined r tag p)).ord.backlog = p.ord.backlog from rfl, empty]

/-- A recovery query is sent once more (R166). -/
theorem responseExpires_of_recovery (querying : r.state = .querying) (first : r.queryTimeouts = 0) :
    responseExpires n p = serve (again (fun x => { x with tag := none, response := none, queryTimeouts := x.queryTimeouts + 1 })
      r tag p) := by
  rw [responseExpires_of_armed held armed, querying]
  dsimp only
  unfold recoveryTimeout
  rw [quarantineTagOf_of_busy found busy tagged]
  refine (if_neg (by simp [first])).trans (congrArg serve ?_)
  unfold joinFront again
  rw [show (onOrder r.fan _ (quarantined r tag p)).ord.backlog = p.ord.backlog from rfl, empty]

end

/-- The tags after an expiry are those after the quarantine, served further. -/
theorem responseExpires_tags {n tag : Nat} {g : TagRec} {r : OrderRec} {p : Part} (held : p.order? n = some r)
    (armed : r.response ≠ none) (waits : r.state = .sent ∨ r.state = .querying) (tagged : r.tag = some tag)
    (found : p.tag? r.station tag = some g) (busy : g.state = .busy) :
    TagsKept (quarantined r tag p) (finish (responseExpires n p)) := by
  have quarantine := quarantineTagOf_of_busy found busy tagged
  have fails : TagsKept (quarantined r tag p) (finish (failRec r (quarantined r tag p))) :=
    (finish_failRec r _).2.2.2.1
  have served (q : Part) (same : q.ord.tags = (quarantined r tag p).ord.tags) :
      TagsKept (quarantined r tag p) (finish (serve q)) :=
    (TagsKept.of_tags same).trans ((serve_course q).tags.trans (finish_left _).tags)
  rw [responseExpires_of_armed held armed]
  rcases waits with sent | querying
  · rw [sent]
    dsimp only
    unfold queryTimeout motionTimeout
    rw [quarantine]
    split
    · dsimp only
      split
      · exact fails
      · exact served _ rfl
    · exact served _ rfl
  · rw [querying]
    dsimp only
    unfold recoveryTimeout
    rw [quarantine]
    dsimp only
    split
    · exact fails
    · exact served _ rfl

/-- Settles O41, by the cases of the expiry, from the issue of an order that is alone in the backlog and the end of one
that has failed. -/
theorem responseTimeout : Obligations.ResponseTimeout := by
  unfold Obligations.ResponseTimeout
  intro n tag g r s quiet located
  have held : s.part.order? n = some r := located
  refine ⟨fun unarmed => ?_, fun armed waits tagged found busy => ?_⟩
  · refine nextWith_of_left (f := responseExpires n) ?_ quiet
    unfold responseExpires
    rw [held]
    exact if_pos (by simp [unarmed])
  · have fan : r.fan = n := order?_fan held
    intro o on
    refine ⟨{ s with part := finish (responseExpires n s.part) }, rfl, ?_⟩
    intro stands fails
    have failing (failed : r.state = .sent ∧ r.kind = .query ∧ r.reissued = true ∨
        r.state = .querying ∧ 1 ≤ r.queryTimeouts) : fails := by
      have left := responseExpires_of_failed held armed tagged found busy failed
      obtain ⟨counted, _, _, _, motion, query⟩ := finish_failRec r (quarantined r tag s.part)
      rw [← left] at counted motion query
      refine ⟨counted, fun is_motion => ?_, fun is_query => query (by rw [is_query]; rfl), fun empty last outside x mem => ?_⟩
      · obtain ⟨raised, reported⟩ := motion (isMotion_of_ne is_motion)
        exact ⟨fun clear => absurd (raised.symm.trans clear) (by decide), reported⟩
      · rw [← fan]
        refine finish_failRec_none (p := quarantined r tag s.part) quiet empty last outside x ?_
        rw [← left]
        exact mem
    refine ⟨⟨_, (responseExpires_tags held armed waits tagged found busy).quarantined (quarantined_tag? found) rfl, rfl, rfl⟩,
      fun sent query once empty => ?_, fun sent query twice => failing (.inl ⟨sent, query, twice⟩),
      fun sent motion empty => ?_, fun querying first empty => ?_,
      fun querying twice => failing (.inr ⟨querying, twice⟩)⟩
    · obtain ⟨⟨x, found_x, kind, tag_x, timer, state, reissued, timeouts⟩, backlog, issued⟩ :=
        finish_again quiet held found busy (change := fun x => { x with
          state := .waiting, tag := none, response := none, reissued := true }) (fun _ => ⟨rfl, rfl, rfl⟩)
          (fun _ => ⟨rfl, rfl⟩) (.inr query)
      dsimp only
      rw [responseExpires_of_query held armed tagged found busy empty sent query once]
      refine ⟨⟨x, found_x, kind, tag_x, timer, ?_, reissued⟩, backlog, issued⟩
      rw [state]
      change _ = if issuedOn s.part r.station = none then _ else _
      by_cases none_free : issuedOn s.part r.station = none <;> simp [none_free]
    · obtain ⟨⟨x, found_x, kind, tag_x, timer, state, reissued, timeouts⟩, backlog, issued⟩ :=
        finish_again quiet held found busy (change := fun x => { x with
          state := .querying, tag := none, response := none, queryTimeouts := 0 }) (fun _ => ⟨rfl, rfl, rfl⟩)
          (fun _ => ⟨rfl, rfl⟩) (.inl rfl)
      dsimp only
      rw [responseExpires_of_motion held armed tagged found busy empty sent motion]
      exact ⟨⟨x, found_x, kind, tag_x, timer, by simpa using state, timeouts⟩, backlog, issued⟩
    · obtain ⟨⟨x, found_x, kind, tag_x, timer, state, reissued, timeouts⟩, backlog, issued⟩ :=
        finish_again quiet held found busy (change := fun x => { x with
          tag := none, response := none, queryTimeouts := x.queryTimeouts + 1 }) (fun _ => ⟨rfl, rfl, rfl⟩)
          (fun _ => ⟨rfl, rfl⟩) (.inl querying)
      dsimp only
      rw [responseExpires_of_recovery held armed tagged found busy empty querying first]
      exact ⟨⟨x, found_x, kind, tag_x, timer, by simpa [querying] using state, by rw [timeouts]; simp [first]⟩, backlog,
        issued⟩

end Sys2Proof.Machine
end

section
/-! PROOFS. Requests refused (R42, R198, R200, R210): the length of their arguments, codes not listed, objects that are
not there. -/

namespace Sys2Proof.Machine

/-- The MGMT REPLY of a request that is refused. -/
def refusalReply (kind src : Byte) (num : BitVec 16) (reason : Byte) : OwnRequest :=
  .mgmtReply src (beBytes 2 num.toNat ++ [kind, 1, reason])

/-- A request has its refusal queued, and changes nothing else. -/
def Refused (s : State) (c : Instr) (r : OwnRequest) : Prop :=
  ∃ t, exec c s = .next t ∧ exec (.queueOwnTelegram r) s = .next t

section
variable {s : State} {c : Instr} {kind src : Byte} {num : BitVec 16} {args : List Byte} {judge : Part → Judged}
  {reason : ReplyReason} (quiet : Quiescent s)
  (is_answer : exec c s = nextWith (fun p => answer kind ⟨src, num, args⟩ (judge p)) s)

include quiet is_answer

theorem refused_of_refusal (judged : judge s.part = refusal reason s.part) :
    Refused s c (refusalReply kind src num (BitVec.ofNat 8 (reasonCode reason))) :=
  ⟨_, is_answer.trans (nextWith_answer_refusal kind _ judge s quiet judged), exec_queueOwnTelegram _ _ quiet⟩

/-- A refusal with the health formed first is that refusal. -/
theorem refused_of_formed (judged : judge s.part = refusal reason (formHealth s.part)) :
    Refused s c (refusalReply kind src num (BitVec.ofNat 8 (reasonCode reason))) := by
  refine ⟨_, is_answer.trans (nextWith_answer_refusal kind _ judge s (by exact quiet) judged), ?_⟩
  rw [exec_queueOwnTelegram _ _ quiet]
  unfold nextPart reply
  rw [formHealth_queueOwn_formHealth]
  rfl

end

/-! ### Lengths -/

section
variable {src : Byte} {num : BitVec 16} {args : List Byte} {reason : ReplyReason} {p : Part}

theorem judgeReadStatus_length (wrong : args.length ≠ 3) : judgeReadStatus ⟨src, num, args⟩ p = refusal .length p := by
  match args, wrong with
  | [], _ | [_], _ | [_, _], _ | _ :: _ :: _ :: _ :: _, _ => rfl
  | [_, _, _], wrong => exact absurd rfl wrong

theorem judgeLoadBegin_length (wrong : args.length ≠ 3) : judgeLoadBegin ⟨src, num, args⟩ p = refusal .length p := by
  match args, wrong with
  | [], _ | [_], _ | [_, _], _ | _ :: _ :: _ :: _ :: _, _ => rfl
  | [_, _, _], wrong => exact absurd rfl wrong

theorem judgeLoadBlock_length (wrong : args.length < 3 ∨ 226 < args.length) :
    judgeLoadBlock ⟨src, num, args⟩ p = refusal .length p := by
  match args, wrong with
  | [], _ | [_], _ | [_, _], _ => rfl
  | _ :: _ :: d :: ds, wrong =>
    refine if_pos ?_
    simp only [List.length_cons] at wrong ⊢
    omega

theorem judgeLoadEnd_length (wrong : args.length ≠ 2) : judgeLoadEnd ⟨src, num, args⟩ p = refusal .length p := by
  match args, wrong with
  | [], _ | [_], _ | _ :: _ :: _ :: _, _ => rfl
  | [_, _], wrong => exact absurd rfl wrong

theorem judgeAckEvents_length (wrong : args.length ≠ 2) : judgeAckEvents ⟨src, num, args⟩ p = refusal .length p := by
  match args, wrong with
  | [], _ | [_], _ | _ :: _ :: _ :: _, _ => rfl
  | [_, _], wrong => exact absurd rfl wrong

theorem judgeAdmit_length (wrong : args.length ≠ 2) : judgeAdmit ⟨src, num, args⟩ p = refusal .length p := by
  match args, wrong with
  | [], _ | [_], _ | _ :: _ :: _ :: _, _ => rfl
  | [_, _], wrong => exact absurd rfl wrong

theorem judgeIsolate_length (wrong : args.length ≠ 1) : judgeIsolate ⟨src, num, args⟩ p = refusal .length p := by
  match args, wrong with
  | [], _ | _ :: _ :: _, _ => rfl
  | [_], wrong => exact absurd rfl wrong

theorem takeActivate_length (wrong : args.length ≠ 1) :
    takeActivate ⟨src, num, args⟩ p = answer 5 ⟨src, num, args⟩ (refusal .length p) := by
  match args, wrong with
  | [], _ | _ :: _ :: _, _ => rfl
  | [_], wrong => exact absurd rfl wrong

theorem judgeClearFault_length (wrong : args.length ≠ 0) : judgeClearFault ⟨src, num, args⟩ p = refusal .length p := by
  match args, wrong with
  | _ :: _, _ => rfl
  | [], wrong => exact absurd rfl wrong

theorem judgeRestart_length (seq : Byte) (wrong : args.length ≠ 0) :
    judgeRestart ⟨src, num, args⟩ seq p = refusal .length p := by
  match args, wrong with
  | _ :: _, _ => rfl
  | [], wrong => exact absurd rfl wrong

/-! ### Codes not listed -/

theorem judgeReadStatus_unlisted {selector object option : Byte}
    (bad : selector = 0 ∨ 9 < selector.toNat ∨ 1 < option.toNat ∨ (option = 1 ∧ selector ≠ 9)) :
    judgeReadStatus ⟨src, num, [selector, object, option]⟩ p = refusal .badRequest p := by
  refine if_pos ?_
  simp only [Bool.or_eq_true, Bool.not_eq_true', decide_eq_true_eq, beq_iff_eq, Bool.or_eq_false_iff,
    Bool.and_eq_false_iff, beq_eq_false_iff_ne]
  rcases bad with rfl | high | high | ⟨rfl, other⟩
  · exact .inl (.inl rfl)
  · exact .inl (.inr high)
  · refine .inr ⟨?_, .inl ?_⟩ <;> rintro rfl <;> exact absurd high (by decide)
  · exact .inr ⟨by decide, .inr fun nine => other (BitVec.eq_of_toNat_eq nine)⟩

theorem tableOfCode_unlisted {k : Byte} (bad : k = 0 ∨ 4 < k.toNat) : tableOfCode k.toNat = none := by
  unfold tableOfCode
  split
  case h_5 => rfl
  all_goals next is_k =>
    rcases bad with rfl | high
    · exact absurd is_k (by decide)
    · omega

theorem admitClass_unlisted {c : Byte} (bad : c = 0 ∨ 4 < c.toNat) : admitClass c.toNat = none ∧ c ≠ 4 := by
  constructor
  · unfold admitClass
    split
    case h_4 => rfl
    all_goals next is_c =>
      rcases bad with rfl | high
      · exact absurd is_c (by decide)
      · omega
  · rintro rfl
    exact absurd bad (by decide)

/-! ### Objects that are not there -/

theorem requestable_none {n : Nat} (missing : ∀ f, p.fan? n = some f → f.state = .unconfigured) : requestable n p = false := by
  unfold requestable
  cases found : p.fan? n with
  | none => rfl
  | some f => simp [missing f found]

theorem instrument?_none {d : InstrumentId} (absent : ∀ x ∈ instruments p.meas, x.1 = d → x.2.state = .absent) :
    instrument? p d = none := by
  unfold instrument?
  rw [Option.map_eq_none_iff, List.find?_eq_none]
  intro x mem
  simpa using absent x mem

theorem judgeReadStatus_listed {selector object option : Byte} {reason : ReplyReason}
    (listed : selector ≠ 0 ∧ selector.toNat ≤ 9) (plain : option = 0 ∨ option = 1 ∧ selector = 9)
    (fails : statusItems selector.toNat object.toNat (formHealth p) = .error reason) :
    judgeReadStatus ⟨src, num, [selector, object, option]⟩ p = refusal reason (formHealth p) := by
  unfold judgeReadStatus
  dsimp only
  rw [if_neg, fails]
  obtain ⟨nonzero, low⟩ := listed
  have positive : selector.toNat ≠ 0 := fun zero => nonzero (BitVec.eq_of_toNat_eq zero)
  rcases plain with rfl | ⟨rfl, rfl⟩
  · simp [positive, low]
  · decide

theorem statusItems_missing {selector n : Nat} (missing :
    ((selector = 1 ∨ selector = 2 ∨ selector = 8) ∧ n ≠ 0 ∧ reason = .badRequest) ∨ reason = .noSuchObject ∧
      (selector = 3 ∧ p.point? n = none ∨ selector = 4 ∧ p.zone? n = none ∨
        selector = 5 ∧ n ≠ 0 ∧ p.fan? n = none ∨ selector = 6 ∧ n ≠ 0 ∧ peerAt n p.coord.peers = none ∨
        selector = 7 ∧ 48 < n ∨ selector = 9 ∧ p.disp.stations.length < n)) :
    statusItems selector n p = .error reason := by
  unfold statusItems
  rcases missing with ⟨rfl | rfl | rfl, nonzero, rfl⟩ | ⟨rfl, ⟨rfl, none⟩ | ⟨rfl, none⟩ | ⟨rfl, nonzero, none⟩ |
    ⟨rfl, nonzero, none⟩ | ⟨rfl, high⟩ | ⟨rfl, high⟩⟩
  case inl.inl | inl.inr.inl | inl.inr.inr => exact if_neg (by simpa using nonzero)
  · simp only [none, Option.map_none]
  · simp only [none, Option.map_none]
  · simp [nonzero, none]
  · simp [nonzero, none]
  · have nonzero : n ≠ 0 := by omega
    simp [nonzero, high]
  · have nonzero : n ≠ 0 := by omega
    have beyond : p.disp.stations[n - 1]? = none := List.getElem?_eq_none (by omega)
    simp [nonzero, beyond]

end

/-! ### The obligation -/

section
variable {src : Byte} {num : BitVec 16} {args : List Byte} {s : State}

/-- A request that ACTIVATE refuses whatever the part. -/
theorem refused_activate {reason : ReplyReason} (quiet : Quiescent s)
    (refuses : ∀ p, takeActivate ⟨src, num, args⟩ p = answer 5 ⟨src, num, args⟩ (refusal reason p)) :
    Refused s (.activate ⟨src, num, args⟩) (refusalReply 5 src num (BitVec.ofNat 8 (reasonCode reason))) := by
  refine refused_of_refusal (judge := refusal reason) (args := args) quiet ?_ rfl
  rw [exec_eventOf]
  exact congrArg (nextWith · s) (funext refuses)

theorem refused_readStatus {selector object option : Byte} {reason : ReplyReason} (quiet : Quiescent s)
    (plain : option = 0 ∨ option = 1 ∧ selector = 9) (listed : selector ≠ 0 ∧ selector.toNat ≤ 9)
    (fails : statusItems selector.toNat object.toNat (formHealth s.part) = .error reason) :
    Refused s (.readStatus ⟨src, num, [selector, object, option]⟩)
      (refusalReply 1 src num (BitVec.ofNat 8 (reasonCode reason))) :=
  refused_of_formed quiet (exec_eventOf _ _) (judgeReadStatus_listed listed plain fails)

end

/-- Settles O46, by what each request judges of its arguments: their length, their codes, the object they name. -/
theorem requestsRefused : Obligations.RequestsRefused := by
  intro src num args s quiet q refused noFan
  have by_judge : ∀ {c : Instr} {kind : Byte} {judge : Part → Judged} (reason : ReplyReason),
      (exec c s = nextWith (fun p => answer kind q (judge p)) s) → judge s.part = refusal reason s.part →
      refused c kind (BitVec.ofNat 8 (reasonCode reason)) := fun _ is_answer => refused_of_refusal quiet is_answer
  refine ⟨fun kind => by_judge (judge := refusal .badRequest) .badRequest (exec_eventOf _ _) rfl, fun wrong => ⟨?_, ?_⟩, fun wrong => ?_,
    fun wrong => ⟨?_, ?_, ?_⟩, fun wrong => ⟨?_, ?_⟩, fun wrong => ⟨?_, fun seq => ?_⟩, ?_, ?_, ?_, ?_, ?_, ?_, ?_, ?_⟩
  · exact by_judge .length (exec_eventOf _ _) (judgeReadStatus_length wrong)
  · exact by_judge .length (exec_eventOf _ _) (judgeLoadBegin_length wrong)
  · exact by_judge .length (exec_eventOf _ _) (judgeLoadBlock_length wrong)
  · exact by_judge .length (exec_eventOf _ _) (judgeLoadEnd_length wrong)
  · exact by_judge .length (exec_eventOf _ _) (judgeAckEvents_length wrong)
  · exact by_judge .length (exec_eventOf _ _) (judgeAdmit_length wrong)
  · exact refused_activate (reason := .length) quiet fun p => takeActivate_length wrong
  · exact by_judge .length (exec_eventOf _ _) (judgeIsolate_length wrong)
  · exact by_judge .length (exec_eventOf _ _) (judgeClearFault_length wrong)
  · exact by_judge .length (exec_eventOf _ _) (judgeRestart_length seq wrong)
  · rintro selector object option rfl bad
    exact by_judge .badRequest (exec_eventOf _ _) (judgeReadStatus_unlisted bad)
  · rintro k x y rfl bad
    refine by_judge .badRequest (exec_eventOf _ _) ?_
    simp only [q, judgeLoadBegin, tableOfCode_unlisted bad]
  · rintro k rfl bad
    refine refused_activate (reason := .badRequest) quiet fun p => ?_
    simp only [takeActivate, tableOfCode_unlisted bad]
  · rintro c n rfl bad
    obtain ⟨none, other⟩ := admitClass_unlisted bad
    refine by_judge .badRequest (exec_eventOf _ _) ?_
    simp only [q, judgeAdmit, none]
    exact if_neg fun four => other (beq_iff_eq.1 four)
  · rintro n rfl missing
    refine by_judge .noSuchObject (exec_eventOf _ _) ?_
    simp [q, judgeIsolate, requestable_none missing]
  · rintro n rfl missing
    refine by_judge .noSuchObject (exec_eventOf _ _) ?_
    simp [q, judgeAdmit, requestable_none missing]
  · rintro c n cls rfl of_class absent
    have none := instrument?_none absent
    refine by_judge .noSuchObject (exec_eventOf _ _) ?_
    rcases of_class with ⟨rfl, rfl⟩ | ⟨rfl, rfl⟩ | ⟨rfl, rfl⟩ <;> simp [q, judgeAdmit, admitClass, none]
  · rintro selector object option rfl plain n
    have nonzero : object ≠ 0 → object.toNat ≠ 0 := fun other zero => other (BitVec.eq_of_toNat_eq zero)
    have unlisted : ∀ {α : Type} {l : List α} {key : α → Nat}, (∀ y ∈ l, key y ≠ n) →
        l.find? (fun y => key y == n) = none := fun none => List.find?_eq_none.2 fun y mem => by simpa using none y mem
    refine ⟨fun is_s other => ?_, fun is_s none => ?_, fun is_s none => ?_, fun is_s other none => ?_,
      fun is_s other none => ?_, fun is_s high => ?_, fun is_s high => ?_⟩
    · refine refused_readStatus (reason := .badRequest) quiet plain ?_ (statusItems_missing (.inl ⟨?_, nonzero other, rfl⟩)) <;>
        rcases is_s with rfl | rfl | rfl <;> decide
    all_goals subst is_s
    · exact refused_readStatus (reason := .noSuchObject) quiet plain (by decide) (statusItems_missing (.inr ⟨rfl, .inl ⟨rfl, unlisted none⟩⟩))
    · exact refused_readStatus (reason := .noSuchObject) quiet plain (by decide)
        (statusItems_missing (.inr ⟨rfl, .inr (.inl ⟨rfl, unlisted none⟩)⟩))
    · exact refused_readStatus (reason := .noSuchObject) quiet plain (by decide)
        (statusItems_missing (.inr ⟨rfl, .inr (.inr (.inl ⟨rfl, nonzero other, unlisted none⟩))⟩))
    · exact refused_readStatus (reason := .noSuchObject) quiet plain (by decide)
        (statusItems_missing (.inr ⟨rfl, .inr (.inr (.inr (.inl ⟨rfl, nonzero other, unlisted none⟩)))⟩))
    · exact refused_readStatus (reason := .noSuchObject) quiet plain (by decide)
        (statusItems_missing (.inr ⟨rfl, .inr (.inr (.inr (.inr (.inl ⟨rfl, high⟩))))⟩))
    · exact refused_readStatus (reason := .noSuchObject) quiet plain (by decide)
        (statusItems_missing (.inr ⟨rfl, .inr (.inr (.inr (.inr (.inr ⟨rfl, high⟩))))⟩))

end Sys2Proof.Machine
end

section
/-! PROOFS. What the tables say (R36, R107, R109), and what the reload at power-on reset leaves of the store (R195, R207). -/

namespace Sys2Proof.Machine

/-! ### Stations, sources, entries -/

theorem hasRole_iff {p : Part} {address : Nat} {role : StationRole} :
    p.hasRole address role = true ↔ ∃ r ∈ p.disp.stations, r.address = address ∧ r.role = role := by
  unfold Part.hasRole Part.stationWith
  simp only [List.find?_isSome, Bool.and_eq_true, beq_iff_eq]

theorem fromSensor_rule (p : Part) (source : Option Source) :
    fromSensor p source = Rule.fromSensor p.disp.stations source := by
  cases source with
  | none => rfl
  | some x =>
    unfold fromSensor Rule.fromSensor Part.hasRole Part.stationWith
    exact List.isSome_find?

theorem zoneEntry_eq (p : Part) (n : Nat) :
    p.zoneEntry n = p.mgmt.sections.bind fun x => x.zones.find? fun z => z.num == n := by
  unfold Part.zoneEntry Part.zoneEntries
  cases p.mgmt.sections <;> rfl

theorem configuredFan_iff {p : Part} {e : FanEntry} : configuredFan p e = true ↔ Rule.configured p e := by
  unfold configuredFan Rule.configured
  rw [Bool.and_eq_true, hasRole_iff, zoneEntry_eq, Option.isSome_bind]
  simp only [Option.any_eq_true, List.find?_isSome, beq_iff_eq]

/-- The `k`-th of two or three pairs, counted modulo their number. -/
theorem slotSource_rule (p : Part) (id : InstrumentId) : slotSource p id = Rule.slotSource p.mgmt.sections id := by
  obtain ⟨cls, num⟩ := id
  have pair (a b : Option Source) : (if (num - 1) % 2 == 0 then a else b) = [a, b].getD ((num - 1) % 2) none := by
    rcases Nat.mod_two_eq_zero_or_one (num - 1) with is_k | is_k <;> rw [is_k] <;> rfl
  have triple (a b c : Option Source) :
      (if (num - 1) % 3 == 0 then a else if (num - 1) % 3 == 1 then b else c) = [a, b, c].getD ((num - 1) % 3) none := by
    have low : (num - 1) % 3 < 3 := Nat.mod_lt _ (by decide)
    interval_cases (num - 1) % 3 <;> rfl
  unfold slotSource Rule.slotSource
  cases cls
  case velocity =>
    unfold Part.pointEntries placeOf
    cases p.mgmt.sections with
    | none => rfl
    | some x =>
      dsimp only [Option.bind_some]
      cases x.points.find? fun e => e.num == (num - 1) / 3 + 1 with
      | none => rfl
      | some e => exact triple e.s1 e.s2 e.s3
  all_goals
    dsimp only [placeOf]
    rw [zoneEntry_eq]
    cases p.mgmt.sections with
    | none => rfl
    | some x =>
      dsimp only [Option.bind_some]
      cases x.zones.find? fun e => e.num == (num - 1) / 2 + 1 with
      | none => rfl
      | some e => exact pair _ _

theorem judgeInstrument_rule (p : Part) (id : InstrumentId) (i : Instrument) :
    judgeInstrument p id i = Rule.judged p.disp.stations (Rule.slotSource p.mgmt.sections id) i := by
  unfold judgeInstrument Rule.judged
  dsimp only
  rw [slotSource_rule, fromSensor_rule]
  by_cases sensor : Rule.fromSensor p.disp.stations (Rule.slotSource p.mgmt.sections id) = false
  · rw [if_pos sensor, if_pos (by rw [sensor]; rfl)]
    rfl
  · rw [if_neg sensor, if_neg (by simpa using sensor)]
    refine if_congr ?_ rfl rfl
    simp only [Bool.or_eq_true, beq_iff_eq, bne_iff_ne]

/-! ### The reload of one kind -/

/-- What R207 asks of a slot, its checksum recomputed. -/
def Passes (x : StoreSlot) : Prop := x.state = .valid ∧ (x.image.map BitVec.toNat).sum % 65536 = x.checksum.toNat

theorem passes_iff {x : StoreSlot} : (x.state == .valid && imageSum x.image == x.checksum) = true ↔ Passes x := by
  unfold Passes imageSum
  rw [Bool.and_eq_true, beq_iff_eq, beq_iff_eq, sumOf_eq, ← BitVec.toNat_inj, BitVec.toNat_ofNat]

theorem reloaded_eq_some_iff {k : TableKind} {node : Nat} {x : StoreSlot} {t : Table} :
    reloaded k node x = some t ↔ Passes x ∧ parseTable k x.image = some t ∧ notOwn node t = true := by
  unfold reloaded
  by_cases passes : Passes x
  · rw [if_pos (passes_iff.2 passes), Option.filter_eq_some_iff]
    exact (and_iff_right passes).symm
  · rw [if_neg (passes_iff.not.2 passes)]
    exact ⟨nofun, fun ⟨valid, _⟩ => absurd valid passes⟩

/-- Of the other kinds than STATION, a slot that passes and spells a table is reloaded. -/
theorem reloaded_of_passes {k : TableKind} {node : Nat} {x : StoreSlot} (other : k ≠ .stations) (passes : Passes x) :
    reloaded k node x = parseTable k x.image := by
  cases parsed : parseTable k x.image with
  | none =>
    refine Option.eq_none_iff_forall_ne_some.2 fun t is_t => ?_
    obtain ⟨_, spelt, _⟩ := reloaded_eq_some_iff.1 is_t
    exact nomatch parsed.symm.trans spelt
  | some t =>
    have own := parseTable_kind parsed
    refine reloaded_eq_some_iff.2 ⟨passes, parsed, ?_⟩
    cases t
    case stations => exact absurd own.symm other
    all_goals rfl

theorem notOwn_stations {node : Nat} {x : StationTable} :
    notOwn node (.stations x) = true ↔ ∀ e ∈ x.entries, e.address ≠ node := by
  simp [notOwn]

/-- What the reload leaves of a slot: itself where it passes, INVALID where it does not. -/
def keptSlot (k : TableKind) (node : Nat) (x : StoreSlot) : StoreSlot :=
  if (reloaded k node x).isSome then x else { x with state := .invalid }

theorem keptSlot_of_some {k : TableKind} {node : Nat} {x : StoreSlot} {t : Table} (passes : reloaded k node x = some t) :
    keptSlot k node x = x := by
  unfold keptSlot
  rw [passes]
  rfl

theorem keptSlot_of_none {k : TableKind} {node : Nat} {x : StoreSlot} (fails : reloaded k node x = none) :
    keptSlot k node x = { x with state := .invalid } := by
  unfold keptSlot
  rw [fails]
  rfl

theorem keptSlot_state (k : TableKind) (node : Nat) (x : StoreSlot) :
    (keptSlot k node x).state = if (reloaded k node x).isSome then .valid else .invalid := by
  cases is_t : reloaded k node x with
  | none => rw [keptSlot_of_none is_t]; rfl
  | some t => rw [keptSlot_of_some is_t]; exact (reloaded_eq_some_iff.1 is_t).1.1

/-- The store when one kind has been reloaded. -/
def reloadSlot (k : TableKind) (node : Nat) (m : ManagementAgent) : ManagementAgent :=
  match reloaded k node (slotOf m k) with
  | some t => installTable t m
  | none => clearTable k (setSlot k { slotOf m k with state := .invalid } m)

theorem slotOf_reloadSlot (k j : TableKind) (node : Nat) (m : ManagementAgent) :
    slotOf (reloadSlot k node m) j = if k = j then keptSlot k node (slotOf m j) else slotOf m j := by
  unfold reloadSlot
  split
  · next t is_t =>
    rw [slotOf_installTable]
    split
    · next same => subst same; exact (keptSlot_of_some is_t).symm
    · rfl
  · next is_none =>
    rw [slotOf_clearTable, slotOf_setSlot]
    split
    · next same => subst same; exact (keptSlot_of_none is_none).symm
    · rfl

theorem activeTable_reloadSlot (k j : TableKind) (node : Nat) (m : ManagementAgent) :
    activeTable j (reloadSlot k node m) = if k = j then reloaded k node (slotOf m j) else activeTable j m := by
  unfold reloadSlot
  split
  · next t is_t =>
    obtain ⟨_, parsed, _⟩ := reloaded_eq_some_iff.1 is_t
    rw [activeTable_installTable, parseTable_kind parsed]
    split
    · next same => subst same; exact is_t.symm
    · rfl
  · next is_none =>
    rw [activeTable_clearTable, activeTable_setSlot]
    split
    · next same => subst same; exact is_none.symm
    · rfl

theorem reloadSlot_rest (k : TableKind) (node : Nat) (m : ManagementAgent) :
    (reloadSlot k node m).write = m.write ∧ (reloadSlot k node m).buffer = m.buffer := by
  unfold reloadSlot
  split
  · exact installTable_rest _ _
  · exact withdrawn_rest _ _ _

/-! ### The reports of the reload -/

/-- The counters of Fault Capture when TABLE_INVALID, and nothing else, has been counted `n` times. -/
def countsAt (n : Nat) : List Counter := (List.range 17).map fun k => if k = 16 then BitVec.ofNat 16 n else 0

/-- The flags that `n` reports of hard faults have raised. -/
def flagsAt : Nat → BitVec 16
  | 0 => 0
  | 1 => 2
  | _ => 3

/-- Fault Capture after `n` reports of TABLE_INVALID at reset. -/
structure Reported (n : Nat) (c : FaultCapture) : Prop where
  counts   : c.counts = countsAt n
  flags    : c.flags = flagsAt n
  empty    : c.record = none ↔ n = 0
  captured : ∀ r, c.record = some r → r.kind = .tableInvalid ∧ r.cls = .hard ∧ r.object.cls = .table ∧ r.incidentId = 0 ∧
    r.time = 0 ∧ (r.secondHard = true ↔ 2 ≤ n)

theorem reported_cleared : Reported 0 FaultCapture.cleared := ⟨by decide, rfl, ⟨fun _ => rfl, fun _ => rfl⟩, nofun⟩

theorem bumpCount_countsAt : ∀ n < 4, bumpCount 17 (countsAt n) = countsAt (n + 1) := by decide

/-- What a report makes of the fault capture when it captures or marks a fault (R189). -/
theorem report_fc_of_judged {k : FaultKind} {o : FaultObject} {p : Part} {held : Option FaultRecord} {f : EventFlag}
    (judged : judgeReport p.fc.record ⟨faultClass k, k, o, p.reg.record.id, p.now, false⟩ = (held, some f)) :
    (report k o p).fc = { p.fc with counts := bumpCount (faultCode k) p.fc.counts, record := held,
                                    flags := p.fc.flags ||| flagBit f } := by
  unfold report
  dsimp only
  rw [judged]
  rfl

theorem judgeReport_second {h new : FaultRecord} (hard : h.cls = .hard) (harder : new.cls = .hard) :
    judgeReport (some h) new = (some { h with secondHard := true }, some .secondFault) := by
  unfold judgeReport
  rw [harder]
  dsimp only
  rw [hard]

/-- One more report of TABLE_INVALID, at the part time 0 and with no incident. -/
theorem Reported.report {n : Nat} {p : Part} (h : Reported n p.fc) (few : n < 4) (time : p.now = 0)
    (idle : p.reg.record.id = 0) (num : Nat) : Reported (n + 1) (report .tableInvalid ⟨.table, num⟩ p).fc := by
  have counts : bumpCount 17 p.fc.counts = countsAt (n + 1) := by
    rw [h.counts]
    exact bumpCount_countsAt n few
  cases held : p.fc.record with
  | none =>
    obtain rfl : n = 0 := h.empty.1 held
    rw [report_fc_of_judged (by rw [held]; rfl)]
    refine ⟨counts, ?_, ⟨nofun, nofun⟩, ?_⟩
    · change p.fc.flags ||| 2 = 2
      rw [h.flags]
      rfl
    · rintro _ ⟨⟩
      exact ⟨rfl, rfl, rfl, idle, time, ⟨nofun, fun two => absurd two (by decide)⟩⟩
  | some r =>
    obtain ⟨kind, hard, object, id, now, second⟩ := h.captured r held
    have some_held : n ≠ 0 := fun zero => nomatch held.symm.trans (h.empty.2 zero)
    rw [report_fc_of_judged (by rw [held]; exact judgeReport_second hard rfl)]
    refine ⟨counts, ?_, ⟨nofun, nofun⟩, ?_⟩
    · change p.fc.flags ||| 1 = flagsAt (n + 1)
      rw [h.flags]
      obtain rfl | rfl | rfl : n = 1 ∨ n = 2 ∨ n = 3 := by omega
      all_goals decide
    · rintro _ ⟨⟩
      exact ⟨kind, hard, object, id, now, ⟨fun _ => by omega, fun _ => rfl⟩⟩

end Sys2Proof.Machine
end

section
/-! PROOFS. Power-on reset (R16, R33, R48, R57, R84, R105, R131, R150, R171, R186, R195, R207, R212). -/

namespace Sys2Proof.Machine

/-! ### The reload of the four kinds -/

/-- 1 for a kind whose slot is not reloaded, 0 for the others. -/
def lostAt (k : TableKind) (node : Nat) (m : ManagementAgent) : Nat :=
  if (reloaded k node (slotOf m k)).isSome then 0 else 1

/-- The store when the four kinds have been reloaded. -/
def reloadedStore (node : Nat) (m : ManagementAgent) : ManagementAgent :=
  reloadSlot .control node (reloadSlot .fans node (reloadSlot .sections node (reloadSlot .stations node m)))

/-- The number of kinds that are not reloaded. -/
def lostCount (node : Nat) (m : ManagementAgent) : Nat :=
  lostAt .stations node m + lostAt .sections node m + lostAt .fans node m + lostAt .control node m

theorem slotOf_reloadedStore (k : TableKind) (node : Nat) (m : ManagementAgent) :
    slotOf (reloadedStore node m) k = keptSlot k node (slotOf m k) := by
  unfold reloadedStore
  cases k <;> simp only [slotOf_reloadSlot, reduceCtorEq, if_true, if_false]

theorem activeTable_reloadedStore (k : TableKind) (node : Nat) (m : ManagementAgent) :
    activeTable k (reloadedStore node m) = reloaded k node (slotOf m k) := by
  unfold reloadedStore
  cases k <;> simp only [activeTable_reloadSlot, slotOf_reloadSlot, reduceCtorEq, if_true, if_false]

theorem reloadedStore_rest (node : Nat) (m : ManagementAgent) :
    (reloadedStore node m).write = m.write ∧ (reloadedStore node m).buffer = m.buffer := by
  unfold reloadedStore
  simp only [reloadSlot_rest, and_self]

/-- The reload has come so far: the store is `m`, and `n` kinds have been reported; the rest is as at its start. -/
structure Reloading (start : Part) (n : Nat) (m : ManagementAgent) (p : Part) : Prop where
  rest     : p = { start with mgmt := m, fc := p.fc }
  reported : Reported n p.fc

theorem Reloading.step {start p : Part} {n : Nat} {m : ManagementAgent} (h : Reloading start n m p) (k : TableKind)
    (few : n < 4) (time : start.now = 0) (idle : start.reg.record.id = 0) :
    Reloading start (n + lostAt k start.node m) (reloadSlot k start.node m) (reloadKind k p) := by
  obtain ⟨rest, reported⟩ := h
  generalize p.fc = c at rest reported
  subst rest
  unfold reloadKind
  dsimp only
  cases is_t : reloaded k start.node (slotOf m k) with
  | some t =>
    have none_lost : lostAt k start.node m = 0 := by rw [lostAt, is_t]; rfl
    have installed : reloadSlot k start.node m = installTable t m := by rw [reloadSlot, is_t]
    rw [none_lost, installed, show reloaded k (Part.node { start with mgmt := m, fc := c }) (slotOf m k) = some t from is_t]
    exact ⟨rfl, reported⟩
  | none =>
    have one_lost : lostAt k start.node m = 1 := by rw [lostAt, is_t]; rfl
    have withdrawn : reloadSlot k start.node m = clearTable k (setSlot k { slotOf m k with state := .invalid } m) := by
      rw [reloadSlot, is_t]
    rw [one_lost, withdrawn, show reloaded k (Part.node { start with mgmt := m, fc := c }) (slotOf m k) = none from is_t]
    exact ⟨report_eq _ _ _, Reported.report (p := { start with mgmt := _, fc := c }) reported few time idle _⟩

theorem reloadTables_reloading {start : Part} (time : start.now = 0) (idle : start.reg.record.id = 0)
    (clear : start.fc = .cleared) :
    Reloading start (lostCount start.node start.mgmt) (reloadedStore start.node start.mgmt) (reloadTables start) := by
  have at_start : Reloading start 0 start.mgmt start := ⟨rfl, clear ▸ reported_cleared⟩
  have low (k : TableKind) (m : ManagementAgent) : lostAt k start.node m ≤ 1 := by
    unfold lostAt
    split <;> decide
  have one := at_start.step .stations (by decide) time idle
  have first := low .stations start.mgmt
  have two := one.step .sections (by omega) time idle
  have second := low .sections (reloadSlot .stations start.node start.mgmt)
  have three := two.step .fans (by omega) time idle
  have third := low .fans (reloadSlot .sections start.node (reloadSlot .stations start.node start.mgmt))
  have four := three.step .control (by omega) time idle
  simp only [lostAt, slotOf_reloadSlot, reduceCtorEq, if_false, Nat.zero_add] at four
  exact four

/-! ### The blocks build their state from the tables -/

/-- The flag of a dangling reference. -/
def danglingFlag (dangles : Bool) : BitVec 16 := if dangles then 4 else 0

theorem raise_dangling (dangles : Bool) (p : Part) :
    (if dangles then raise .tableEvent p else p) =
      { p with fc := { p.fc with flags := p.fc.flags ||| danglingFlag dangles } } := by
  cases dangles
  · change p = { p with fc := { p.fc with flags := p.fc.flags ||| 0#16 } }
    rw [BitVec.or_zero]
  · rfl

/-- Whether some instrument names a source that is no SENSOR station (R36). -/
def instrumentDangles (p : Part) (m : MeasurementUnit) : Bool :=
  (instruments m).any fun x => x.2.source.isSome && !fromSensor p x.2.source

/-- Whether some fan is UNCONFIGURED (R109). -/
def fanDangles (fans : List FanRec) : Bool := fans.any fun f => f.state == .unconfigured

/-- The part when the reset has cleared the blocks and built the station records. -/
def clearedPart (straps : Byte) (p : Part) (m : ManagementAgent) : Part :=
  { p with
    line := resetLine straps p.line, reg := .reset, ctl := .reset, fc := .cleared, now := 0, handOns := [],
    meas := .reset, fm := .reset, ord := .reset, mgmt := m,
    disp := { Dispatcher.reset with stations := (Part.stationEntries { p with mgmt := m }).map newStation } }

/-- The fan records that the reset makes of the FAN table. -/
def resetFanRecords (q : Part) : List FanRec :=
  q.fanEntries.map fun e => freshFan e (if configuredFan q e then .unknown else .unconfigured)

/-- The part that the reset leaves, by the store and the fault capture that it leaves. -/
def resetPart (straps : Byte) (p : Part) (m : ManagementAgent) (c : FaultCapture) : Part :=
  let q := clearedPart straps p m
  { q with
    meas := mapInstruments (judgeInstrument q) .reset,
    fm := { FanManager.reset with
      reach := (q.disp.stations.filter fun r => r.role == .fanStation).map fun r => ⟨r.address, .reachable, arm 0 5000, none⟩
      fans := resetFanRecords q },
    ord := { OrderEngine.reset with tags := (fanStations q).flatMap fun r => freshTags r.address r.tagCount },
    coord := { SectionCoordinator.reset (after 0 (bulletinTime q)) with peers := buildPeers q.disp.stations [] },
    fc := c }

theorem powerOn_eq (straps : Byte) (p : Part) :
    let m := reloadedStore straps.toNat { p.mgmt with buffer := .empty, write := none }
    let q := clearedPart straps p m
    ∃ c, Reported (lostCount straps.toNat p.mgmt) c ∧ powerOn straps p = resetPart straps p m
      { c with flags := c.flags ||| danglingFlag (instrumentDangles q (mapInstruments (judgeInstrument q) .reset)) |||
                 danglingFlag (fanDangles (resetFanRecords q)) } := by
  intro m q
  let start : Part := { p with
    line := resetLine straps p.line, reg := .reset, ctl := .reset, fc := .cleared, now := 0, handOns := [],
    meas := .reset, fm := .reset, ord := .reset, disp := .reset,
    mgmt := { p.mgmt with buffer := .empty, write := none } }
  have reloading : Reloading start _ m (reloadTables start) := reloadTables_reloading rfl rfl rfl
  refine ⟨(reloadTables start).fc, reloading.reported, ?_⟩
  change resetCoord (resetOrders (resetFans (resetMeasurement (resetStations (reloadTables start))))) = _
  rw [reloading.rest]
  generalize (reloadTables start).fc = c
  unfold resetFans resetMeasurement raiseDangling judgeAll
  dsimp only
  rw [raise_dangling, raise_dangling]
  rfl

/-! ### What the reset leaves of the instruments and the fans -/

theorem reset_instrument {q : Part} {x : InstrumentId × Instrument}
    (mem : x ∈ instruments (mapInstruments (judgeInstrument q) .reset)) :
    x.2 = ⟨Rule.slotSource q.mgmt.sections x.1,
      if Rule.fromSensor q.disp.stations (Rule.slotSource q.mgmt.sections x.1) then .qualifying else .absent,
      0, 0, false, false, 0, 0, none⟩ := by
  rw [instruments_mapInstruments] at mem
  obtain ⟨y, listed, rfl⟩ := List.mem_map.1 mem
  have blank : y.2 = .blank := (by decide : ∀ z ∈ instruments .reset, z.2 = Instrument.blank) y listed
  dsimp only
  rw [blank, judgeInstrument_rule]
  unfold Rule.judged
  cases sensor : Rule.fromSensor q.disp.stations (Rule.slotSource q.mgmt.sections y.1) <;> rfl

theorem instrumentDangles_iff {q : Part} :
    instrumentDangles q (mapInstruments (judgeInstrument q) .reset) = true ↔
      ∃ x ∈ instruments (mapInstruments (judgeInstrument q) .reset), x.2.source ≠ none ∧ x.2.state = .absent := by
  unfold instrumentDangles
  rw [List.any_eq_true]
  refine exists_congr fun x => and_congr_right fun mem => ?_
  rw [reset_instrument mem, fromSensor_rule, Bool.and_eq_true, Option.isSome_iff_ne_none]
  cases Rule.fromSensor q.disp.stations (Rule.slotSource q.mgmt.sections x.1) <;> simp

theorem fanDangles_iff {fans : List FanRec} : fanDangles fans = true ↔ ∃ f ∈ fans, f.state = .unconfigured := by
  simp [fanDangles]

theorem resetFanRecords_of_none {q : Part} (absent : q.mgmt.fans = none) : resetFanRecords q = [] := by
  unfold resetFanRecords
  rw [fanEntries_none absent]
  rfl

theorem resetFanRecords_of_some {q : Part} {x : FanTable} (active : q.mgmt.fans = some x) :
    (∀ e ∈ x.entries, ∃ f ∈ resetFanRecords q, f.e = e) ∧ ∀ f ∈ resetFanRecords q, f.e ∈ x.entries := by
  have same := fanEntries_perm active
  refine ⟨fun e mem => ⟨_, List.mem_map_of_mem (same.mem_iff.2 mem), rfl⟩, fun f mem => ?_⟩
  obtain ⟨e, listed, rfl⟩ := List.mem_map.1 mem
  exact same.mem_iff.1 listed

theorem resetFanRecord {q : Part} {f : FanRec} (mem : f ∈ resetFanRecords q) :
    ∃ state, f = ⟨f.e, state, none, none, false, false, false, false, false, none, none, false, none, none, false, false,
        none⟩ ∧ (Rule.configured q f.e → state = .unknown) ∧ (¬ Rule.configured q f.e → state = .unconfigured) := by
  obtain ⟨e, _, rfl⟩ := List.mem_map.1 mem
  exact ⟨_, rfl, fun fits => if_pos (configuredFan_iff.2 fits), fun unfit => if_neg (configuredFan_iff.not.2 unfit)⟩

theorem freshTags_eq (station n : Nat) : freshTags station n = (List.range n).map fun k => ⟨station, k, .free, none⟩ := by
  unfold freshTags
  rw [countUp_eq, List.range_eq_range']

theorem buildPeers_rule (stations : List StationRec) (old : List PeerRec) :
    buildPeers stations old = Rule.peersOf stations old := by
  refine List.map_congr_left fun r _ => ?_
  unfold peerAt
  cases old.find? fun q => q.address == r.address <;> rfl

/-! ### The store, kind by kind -/

/-- The slot and the active table of one kind after the reload of a slot. -/
structure KindReloaded {T : Type} (wrap : T → Table) (k : TableKind) (node : Nat) (x slot : StoreSlot) (active : Option T) :
    Prop where
  slot   : slot = keptSlot k node x
  active : active.map wrap = reloaded k node x

namespace KindReloaded

variable {T : Type} {wrap : T → Table} {k : TableKind} {node : Nat} {x slot : StoreSlot} {active : Option T}

theorem state (h : KindReloaded wrap k node x slot active) : slot.state = .valid ∨ slot.state = .invalid := by
  rw [h.slot, keptSlot_state]
  split
  · exact .inl rfl
  · exact .inr rfl

theorem active_none (h : KindReloaded wrap k node x slot active) (fails : reloaded k node x = none) : active = none :=
  Option.map_eq_none_iff.1 (h.active.trans fails)

theorem of_invalid (h : KindReloaded wrap k node x slot active) (invalid : slot.state = .invalid) : active = none := by
  rw [h.slot, keptSlot_state] at invalid
  refine h.active_none (Option.not_isSome_iff_eq_none.1 fun passes => ?_)
  rw [if_pos passes] at invalid
  exact nomatch invalid

theorem of_some (h : KindReloaded wrap k node x slot active) {t : T} (injective : wrap.Injective)
    (passes : reloaded k node x = some (wrap t)) : active = some t ∧ slot = x := by
  refine ⟨?_, h.slot.trans (keptSlot_of_some passes)⟩
  exact Option.map_injective injective (h.active.trans passes)

theorem of_none (h : KindReloaded wrap k node x slot active) (fails : reloaded k node x = none) :
    active = none ∧ slot = { x with state := .invalid } :=
  ⟨h.active_none fails, h.slot.trans (keptSlot_of_none fails)⟩

theorem of_unspelt (h : KindReloaded wrap k node x slot active)
    (fails : ¬ (Passes x ∧ parseTable k x.image ≠ none)) : active = none ∧ slot = { x with state := .invalid } := by
  refine h.of_none (Option.eq_none_iff_forall_ne_some.2 fun t is_t => fails ?_)
  obtain ⟨passes, parsed, _⟩ := reloaded_eq_some_iff.1 is_t
  exact ⟨passes, fun none => nomatch parsed.symm.trans none⟩

theorem of_other_some (h : KindReloaded wrap k node x slot active) {t : T} (injective : wrap.Injective)
    (other : k ≠ .stations) (passes : Passes x) (parsed : parseTable k x.image = some (wrap t)) :
    active = some t ∧ slot = x :=
  h.of_some injective ((reloaded_of_passes other passes).trans parsed)

end KindReloaded

/-- Slots that are INVALID after the reload. -/
def invalidSlots (m : ManagementAgent) : List StoreSlot :=
  [m.slotStation, m.slotSection, m.slotFan, m.slotControl].filter fun x => x.state == .invalid

theorem invalidSlots_length (node : Nat) (m : ManagementAgent) :
    (invalidSlots (reloadedStore node m)).length = lostCount node m := by
  have each (k : TableKind) :
      (if (slotOf (reloadedStore node m) k).state == .invalid then 1 else 0) = lostAt k node m := by
    rw [slotOf_reloadedStore, keptSlot_state, lostAt]
    cases (reloaded k node (slotOf m k)).isSome <;> rfl
  unfold lostCount invalidSlots
  rw [← each .stations, ← each .sections, ← each .fans, ← each .control, ← List.countP_eq_length_filter]
  simp only [List.countP_cons, List.countP_nil, slotOf, Nat.zero_add]
  ac_rfl

theorem lostCount_le (node : Nat) (m : ManagementAgent) : lostCount node m ≤ 4 := by
  have low (k : TableKind) : lostAt k node m ≤ 1 := by
    unfold lostAt
    split <;> decide
  have := low .stations
  have := low .sections
  have := low .fans
  have := low .control
  unfold lostCount
  omega

/-- The flags that the reset leaves. -/
theorem reset_flags : ∀ n ≤ 4, ∀ d e : Bool, let flags := flagsAt n ||| danglingFlag d ||| danglingFlag e
    flags &&& ~~~0x0007 = 0 ∧ (flags &&& 0x0004 ≠ 0 ↔ e = true ∨ d = true) ∧ (flags &&& 0x0002 ≠ 0 ↔ 1 ≤ n) ∧
      (flags &&& 0x0001 ≠ 0 ↔ 2 ≤ n) := by
  decide

end Sys2Proof.Machine
end

section
/-! PROOFS. What power-on reset leaves (O54). -/

namespace Sys2Proof.Machine

theorem resetPort_signal (signal : Bool) : (resetPort signal).signal = signal := by
  cases signal <;> rfl

theorem resetPort_state (signal : Bool) : (resetPort signal).state = if (resetPort signal).signal then .hunt else .down := by
  cases signal <;> rfl

/-- What the reset of a port sets whether or not its link carries signal. -/
theorem resetPort_rest (signal : Bool) : let q := resetPort signal
    q.fillCount = 0 ∧ q.qualTimer = none ∧ q.window = none ∧ q.checkRun = 0 ∧ q.forward = [] ∧ q.runCount = 0 ∧
      q.sending = none ∧ q.counters = ⟨0, 0, 0, 0, 0, 0, 0, 0, 0, 0⟩ := by
  cases signal <;> decide

theorem stationEntries_of_some {p : Part} {x : StationTable} (active : p.mgmt.stations = some x) :
    p.stationEntries = x.entries := by
  unfold Part.stationEntries
  rw [active]

theorem stationEntries_of_none {p : Part} (absent : p.mgmt.stations = none) : p.stationEntries = [] := by
  unfold Part.stationEntries
  rw [absent]

/-- The records of points and zones at reset, whatever is judged of their instruments. -/
theorem reset_points {g : InstrumentId → Instrument → Instrument} :
    ∀ q ∈ (mapInstruments g .reset).points, q.quality = .unknown ∧ q.voted = none ∧ q.holdTimer = none := by
  simp [mapInstruments, MeasurementUnit.reset, PointRec.mapSlots, PointRec.blank]

theorem reset_zones {g : InstrumentId → Instrument → Instrument} :
    ∀ z ∈ (mapInstruments g .reset).zones, z.state = .unknown ∧ z.opacity = none ∧ z.temperature = none ∧
      z.confirm = 0 ∧ z.holdO = false ∧ z.holdT = false := by
  simp [mapInstruments, MeasurementUnit.reset, ZoneRec.blank]

/-- Settles O54, by the part that the reset leaves: the cleared blocks, the store reloaded kind by kind, and the
records that the blocks build of the tables. -/
theorem powerOnReset : Obligations.PowerOnReset := by
  intro straps s
  obtain ⟨c, reported, is_reset⟩ := powerOn_eq straps s.part
  let m0 : ManagementAgent := { s.part.mgmt with buffer := .empty, write := none }
  obtain ⟨write, buffer⟩ := reloadedStore_rest straps.toNat m0
  have slots (k : TableKind) : slotOf (reloadedStore straps.toNat m0) k = keptSlot k straps.toNat (slotOf m0 k) :=
    slotOf_reloadedStore k _ _
  have tables (k : TableKind) : activeTable k (reloadedStore straps.toNat m0) = reloaded k straps.toNat (slotOf m0 k) :=
    activeTable_reloadedStore k _ _
  have stations : KindReloaded Table.stations .stations straps.toNat s.part.mgmt.slotStation _ _ :=
    ⟨slots .stations, tables .stations⟩
  have sections : KindReloaded Table.sections .sections straps.toNat s.part.mgmt.slotSection _ _ :=
    ⟨slots .sections, tables .sections⟩
  have fans : KindReloaded Table.fans .fans straps.toNat s.part.mgmt.slotFan _ _ := ⟨slots .fans, tables .fans⟩
  have control : KindReloaded Table.control .control straps.toNat s.part.mgmt.slotControl _ _ :=
    ⟨slots .control, tables .control⟩
  have lost : (invalidSlots (reloadedStore straps.toNat m0)).length = lostCount straps.toNat s.part.mgmt :=
    invalidSlots_length straps.toNat m0
  rw [← lost] at reported
  have few : (invalidSlots (reloadedStore straps.toNat m0)).length ≤ 4 := lost ▸ lostCount_le _ _
  generalize reloadedStore straps.toNat m0 = m at *
  refine ⟨{ s with part := formHealth (powerOn straps s.part) }, ?_, ?_⟩
  · exact nextWith_of_quiet _ _ (by rw [is_reset]; rfl)
  rw [is_reset]
  intro p port
  have records_of_entries : p.disp.stations = (Part.stationEntries p).map newStation := rfl
  have peers_built : p.coord.peers = Rule.peersOf p.disp.stations [] := buildPeers_rule p.disp.stations []
  have tags_built : p.ord.tags = (p.disp.stations.filter fun r => r.role == .fanStation).flatMap fun r =>
      (List.range r.tagCount).map fun k => ⟨r.address, k, .free, none⟩ :=
    congrArg (fun h => List.flatMap h _) (funext fun r => freshTags_eq r.address r.tagCount)
  have of_flags := reset_flags _ few
    (instrumentDangles (clearedPart straps s.part m) (mapInstruments (judgeInstrument (clearedPart straps s.part m)) .reset))
    (fanDangles (resetFanRecords (clearedPart straps s.part m)))
  rw [← reported.flags] at of_flags
  obtain ⟨flags, table_event, captured, second⟩ := of_flags
  refine ⟨rfl, ⟨resetPort_state _, resetPort_rest _⟩, ⟨resetPort_state _, resetPort_rest _⟩, resetPort_signal _,
    resetPort_signal _, rfl, rfl, rfl, rfl, rfl, rfl, rfl, rfl, rfl, ?stationsAbsent, ?stationsFresh, ⟨rfl, rfl⟩,
    reset_points, reset_zones, fun x => reset_instrument, rfl, rfl, rfl, rfl, rfl, rfl, rfl, rfl, rfl, rfl, rfl, rfl, rfl,
    rfl, rfl, rfl, rfl, rfl, rfl, rfl, rfl, resetFanRecords_of_none, fun x => resetFanRecords_of_some,
    fun f => resetFanRecord, rfl, rfl, rfl, rfl, rfl, rfl, rfl, rfl, rfl, rfl, rfl, rfl, rfl, rfl, rfl, ?tagsFree, rfl,
    ?peersSilent, rfl, rfl, rfl, rfl, rfl, rfl, rfl, buffer, write, ?slotStates, stations.of_invalid, sections.of_invalid,
    fans.of_invalid, control.of_invalid, ⟨?stationPasses, ?sectionPasses, ?fanPasses, ?controlPasses, ?stationFails,
    sections.of_unspelt, fans.of_unspelt, control.of_unspelt⟩, ?stationRecords, peers_built, tags_built, ?timer,
    ⟨reported.counts, flags, ?dangling, captured, second, ?noFault, ?secondHard⟩, ?fault, rfl, rfl⟩
  case stationsAbsent => exact fun absent => congrArg (List.map newStation) (stationEntries_of_none absent)
  case stationsFresh =>
    intro r mem
    obtain ⟨e, _, rfl⟩ := List.mem_map.1 mem
    exact ⟨rfl, rfl, rfl, rfl, rfl⟩
  case tagsFree =>
    intro g mem
    rw [tags_built] at mem
    obtain ⟨r, _, of_r⟩ := List.mem_flatMap.1 mem
    obtain ⟨k, _, rfl⟩ := List.mem_map.1 of_r
    rfl
  case peersSilent =>
    intro q mem
    rw [peers_built] at mem
    obtain ⟨r, _, rfl⟩ := List.mem_map.1 mem
    exact ⟨rfl, rfl, rfl⟩
  case slotStates =>
    intro k
    cases k
    · exact stations.state
    · exact sections.state
    · exact fans.state
    · exact control.state
  case stationPasses =>
    exact fun x passes parsed others => stations.of_some (fun _ _ => Table.stations.inj)
      (reloaded_eq_some_iff.2 ⟨passes, parsed, notOwn_stations.2 others⟩)
  case sectionPasses => exact fun x => sections.of_other_some (fun _ _ => Table.sections.inj) (by decide)
  case fanPasses => exact fun x => fans.of_other_some (fun _ _ => Table.fans.inj) (by decide)
  case controlPasses => exact fun x => control.of_other_some (fun _ _ => Table.control.inj) (by decide)
  case stationFails =>
    refine fun fails => stations.of_none (Option.eq_none_iff_forall_ne_some.2 fun t is_t => fails ?_)
    obtain ⟨passes, parsed, others⟩ := reloaded_eq_some_iff.1 is_t
    obtain ⟨x, rfl⟩ : ∃ x, t = .stations x := by
      have own := parseTable_kind parsed
      cases t
      case stations x => exact ⟨x, rfl⟩
      all_goals exact nomatch own
    exact ⟨passes, x, parsed, notOwn_stations.1 others⟩
  case stationRecords => exact fun x active => congrArg (List.map newStation) (stationEntries_of_some active)
  case timer => exact congrArg some (BitVec.zero_add _)
  case dangling => exact table_event.trans (or_congr fanDangles_iff instrumentDangles_iff)
  case noFault => exact reported.empty.trans List.length_eq_zero_iff
  case secondHard =>
    intro r held
    obtain ⟨_, _, _, _, _, second⟩ := reported.captured r held
    exact second
  case fault =>
    cases held : c.record with
    | none => exact .inl held
    | some r =>
      obtain ⟨kind, hard, object, id, time, _⟩ := reported.captured r held
      exact .inr ⟨r, held, kind, hard, object, id, time⟩

end Sys2Proof.Machine
end

section
/-! PROOFS. The items of READ_STATUS (R200): the model's items are those that the rules name. -/

namespace Sys2Proof.Machine

/-! ### Values -/

@[simp] theorem pair_uItem (n w v : Nat) : (uItem n w v).pair = Rule.unsigned n w v := rfl

@[simp] theorem pair_optItem (n w : Nat) (v : Option Nat) : (optItem n w v).pair = Rule.maybe n w v := by
  cases v <;> rfl

theorem beSigned_eq (w : Nat) (v : Int) : beSigned w v = beBytes w (BitVec.ofInt (8 * w) v).toNat := by
  unfold beSigned
  rw [BitVec.toNat_ofInt, pow_mul]
  rfl

@[simp] theorem pair_sItem (n w : Nat) (v : Int) : (sItem n w v).pair = Rule.signed n w v :=
  congrArg (Prod.mk n) (beSigned_eq w v)

@[simp] theorem pair_optSigned (n : Nat) (v : Option Int) : (optSigned n v).pair = Rule.maybeSigned n v := by
  cases v with
  | none => rfl
  | some x => exact pair_sItem n 2 x

@[simp] theorem pair_stampItem (n : Nat) (t : Option PartTime) :
    (stampItem n t).pair = Rule.maybe n 4 (t.map BitVec.toNat) := pair_optItem n 4 _

@[simp] theorem pair_shareItem (n : Nat) (e : ShareEntry) : (shareItem n e).pair = Rule.shareEntry n e := rfl

@[simp] theorem pair_mk (n : Nat) (v : List Byte) : Item.pair ⟨n, v⟩ = (n, v) := rfl

@[simp] theorem value_optItem (n w : Nat) (v : Option Nat) : (optItem n w v).value = (Rule.maybe n w v).2 :=
  congrArg Prod.snd (pair_optItem n w v)

@[simp] theorem value_stampItem (n : Nat) (t : Option PartTime) :
    (stampItem n t).value = (Rule.maybe n 4 (t.map BitVec.toNat)).2 := value_optItem n 4 _

theorem beBytes_mark (b : Bool) : beBytes 1 (mark b) = (Rule.marked 0 b).2 := congrArg Prod.snd (markItem_rule 0 b)

@[simp] theorem pair_counterItems (n : Nat) (l : List Counter) :
    (counterItems n l).map Item.pair = Rule.counters n l := by
  induction l generalizing n with
  | nil => rfl
  | cons c l ih => exact congrArg ((n, beBytes 2 c.toNat) :: ·) (ih (n + 1))

/-! ### Named values, by their places in their lists -/

@[simp] theorem stateCode_idx (v : IncidentState) : stateCode v = Rule.incidentStates.idxOf v := by cases v <;> rfl
@[simp] theorem roleCode_idx (v : IncidentRole) : roleCode v = Rule.roles.idxOf v := by cases v <;> rfl
@[simp] theorem outcomeCode_idx (v : NoticeOutcome) : outcomeCode v = Rule.outcomes.idxOf v := by cases v <;> rfl
@[simp] theorem modeCode_idx (v : ControllerMode) : modeCode v = Rule.modes.idxOf v := by cases v <;> rfl
@[simp] theorem conditionCode_idx (v : VelocityCondition) : conditionCode v = Rule.conditions.idxOf v := by
  cases v <;> rfl
@[simp] theorem qualityCode_idx (v : VelocityQuality) : qualityCode v = Rule.qualities.idxOf v := by cases v <;> rfl
@[simp] theorem healthCode_idx (v : Health) : healthCode v = Rule.healths.idxOf v := by cases v <;> rfl
@[simp] theorem tableCode_idx : tableCode = fun v => 1 + Rule.tableKinds.idxOf v := by funext v; cases v <;> rfl
@[simp] theorem orderCode_idx : orderCode = fun v => 1 + Rule.orderKinds.idxOf v := by funext v; cases v <;> rfl
@[simp] theorem orderPos_idx (v : OrderState) : orderPos v = Rule.orderStates.idxOf v := by cases v <;> rfl
@[simp] theorem fanPos_idx (v : FanState) : fanPos v = Rule.fanStates.idxOf v := by cases v <;> rfl
@[simp] theorem instrumentPos_idx (v : InstrumentState) : instrumentPos v = Rule.instrumentStates.idxOf v := by
  cases v <;> rfl

theorem directionCode_some (d : Direction) : directionCode (some d) = 1 + [Direction.ab, .ba].idxOf d := by
  cases d <;> rfl

theorem directionCode_idx (d : Option Direction) : directionCode d = [none, some .ab, some .ba].idxOf d := by
  rcases d with _ | _ | _ <;> rfl

theorem sourcePos_idx : sourcePos = fun v => [DirectionSource.explicit, .train, .default, .adopted].idxOf v := by
  funext v
  cases v <;> rfl

theorem pointPos_idx (v : PointQuality) :
    pointPos v = [PointQuality.good, .paired, .disputed, .single, .held, .unknown].idxOf v := by cases v <;> rfl

theorem zonePos_idx (v : ZoneState) : zonePos v = [ZoneState.normal, .pending, .alarm, .unknown].idxOf v := by
  cases v <;> rfl

theorem orientationPos_idx (v : Orientation) : orientationPos v = [Orientation.forwardAB, .forwardBA].idxOf v := by
  cases v <;> rfl

theorem runDirPos_idx : runDirPos = fun v => [RunDir.fwd, .rev].idxOf v := by
  funext v
  cases v <;> rfl

theorem reachPos_idx (v : Reachability) : reachPos v = [Reachability.reachable, .unreachable].idxOf v := by
  cases v <;> rfl

theorem runCode_idx (v : RunState) : runCode v = [RunState.stopped, .starting, .runFwd, .runRev, .stopping].idxOf v := by
  cases v <;> rfl

theorem tagPos_idx (v : TagState) : tagPos v = [TagState.free, .busy, .quarantine].idxOf v := by cases v <;> rfl

theorem classPos_idx (v : FaultClass) : classPos v = [FaultClass.soft, .hard].idxOf v := by cases v <;> rfl

theorem faultCode_idx (v : FaultKind) :
    faultCode v = 1 + [FaultKind.checkError, .forwardOverflow, .sequenceGap, .instrumentStale, .pointDisputed, .orderRetried,
      .orderRecovered, .fanStoppedUnasked, .twoLeads, .portLost, .instrumentRejected, .pointLost, .velocityLost, .orderFailed,
      .stationLost, .fanFailed, .tableInvalid].idxOf v := by
  cases v <;> rfl

theorem objectCode_idx (v : ObjectClass) :
    objectCode v = [ObjectClass.none, .port, .station, .velocityInstrument, .opacityInstrument, .temperatureInstrument,
      .point, .fan, .table].idxOf v := by
  cases v <;> rfl

theorem bufferPos_idx (v : BufferState) :
    bufferPos v = [BufferState.empty, .loading, .broken, .verified, .rejected].idxOf v := by
  cases v <;> rfl

theorem slotPos_idx (v : SlotState) : slotPos v = [SlotState.valid, .invalid, .writing].idxOf v := by cases v <;> rfl

theorem stationRolePos_idx (v : StationRole) :
    stationRolePos v = [StationRole.sensor, .fanStation, .controlCentre, .peer, .manager].idxOf v := by
  cases v <;> rfl

theorem pair_runDirItem (n : Nat) {stopping : Bool} {P : Prop} [Decidable P] (same : stopping = true ↔ P)
    (d : Option RunDir) : (runDirItem n stopping d).pair = Rule.runDirection n P d := by
  cases d with
  | some d => exact congrArg (Rule.unsigned n 1) (congrFun runDirPos_idx d)
  | none =>
    unfold runDirItem Rule.runDirection
    by_cases is : P
    · rw [if_pos is, if_pos (same.2 is)]
      rfl
    · rw [if_neg is, if_neg (mt same.1 is)]
      rfl

theorem knownStopping_iff (k : Option LastKnown) : knownStopping k = true ↔ k.map (·.kind) = some .stopping := by
  cases k <;> simp [knownStopping]

/-! ### The selectors -/

theorem incidentItems_pair (p : Part) : (incidentItems p).map Item.pair = Rule.incidentItems p := by
  unfold incidentItems Rule.incidentItems Rule.maybeNamed Rule.named
  rcases entry : p.reg.entry with _ | _ | _ | _ <;>
    simp [directionCode_some, sourcePos_idx, entryPos, entry, Function.comp_def]

theorem sectionItems_pair (p : Part) : (sectionItems p).map Item.pair = Rule.sectionItems p := by
  unfold sectionItems Rule.sectionItems Rule.named Part.pointEntries
  cases sections : p.mgmt.sections <;> simp [Function.comp_def]

theorem pointItems_pair (q : PointRec) : (pointItems q).map Item.pair = Rule.pointItems q := by
  unfold pointItems Rule.pointItems velocityItems Rule.named
  simp [pointPos_idx]

theorem zoneItems_pair (z : ZoneRec) : (zoneItems z).map Item.pair = Rule.zoneItems z := by
  unfold zoneItems Rule.zoneItems zoneSlotItems Rule.named
  simp [zonePos_idx]

theorem fanItems_pair (p : Part) (f : FanRec) : (fanItems p f).map Item.pair = Rule.fanItems p f := by
  unfold fanItems Rule.fanItems Rule.maybeNamed Rule.named reachOf
  simp [useful_rule, orientationPos_idx, runDirPos_idx, reachPos_idx, runCode_idx, Function.comp_def,
    pair_runDirItem 22 beq_iff_eq, pair_runDirItem 24 (knownStopping_iff _)]
  constructor
  · rcases f.known with _ | ⟨_ | _ | _ | _, _⟩ <;> rfl
  · rcases f.last with _ | ⟨_, _ | _ | _, _, _⟩ <;> rfl

theorem allocationItems_pair (p : Part) : (allocationItems p).map Item.pair = Rule.allocationItems p := by
  unfold allocationItems Rule.allocationItems
  dsimp only
  rw [List.map_append, List.map_append]
  congr 1
  · congr 1
    · simp [Function.comp_def]
    · unfold gateItems
      cases p.mgmt.control with
      | none => rfl
      | some t =>
        rw [List.map_map]
        refine List.map_congr_left fun s _ => ?_
        cases s <;> rfl
  · simp [Rule.named, Rule.unsigned, reachPos_idx]

theorem peersItems_pair (p : Part) : (peersItems p).map Item.pair = Rule.peersItems p := by
  unfold peersItems Rule.peersItems peerAge Rule.age
  cases lead : p.coord.leadView <;> simp [lead, beBytes_mark, Function.comp_def]

theorem peerItems_pair (p : Part) (q : PeerRec) : (peerItems p q).map Item.pair = Rule.peerItems p q := by
  unfold peerItems Rule.peerItems Rule.maybeNamed peerAge Rule.age
  cases held : q.held <;> simp [directionCode_idx, Function.comp_def]

theorem poolUsed_eq (tags : List TagRec) :
    poolUsed tags = (tags.filter fun g => g.state == .busy || g.state == .quarantine).length := by
  unfold poolUsed
  congr 2
  funext g
  cases g.state <;> rfl

theorem recordEntry_rule (r : OrderRec) :
    (recordEntry r).pair = (20, beBytes 1 r.fan ++ beBytes 1 (1 + Rule.orderKinds.idxOf r.kind) ++
      beBytes 1 (Rule.orderStates.idxOf r.state) ++ beBytes 1 (r.tag.getD 0xFF)) := by
  unfold recordEntry
  rw [pair_mk, orderCode_idx, orderPos_idx]
  cases r.tag <;> rfl

theorem tagEntry_rule (p : Part) (g : TagRec) :
    tagEntry p.now g = beBytes 1 g.station ++ [Config.tagByte g.tag ([TagState.free, .busy, .quarantine].idxOf g.state)] ++
      (Rule.timeLeft p 0 g.quarantine).2 := by
  unfold tagEntry
  rw [tagPos_idx, ← timeItem_rule]
  rfl

theorem ordersItems_pair (p : Part) : (ordersItems p).map Item.pair = Rule.ordersItems p := by
  unfold ordersItems Rule.ordersItems
  rw [List.map_append, recordFieldItems_rule]
  simp [poolUsed_eq, recordEntry_rule, tagEntry_rule, fanStations, tagsOf, List.map_flatMap, Function.comp_def]

theorem faultItems_pair (p : Part) : (faultItems p).map Item.pair = Rule.faultItems p := by
  unfold faultItems Rule.faultItems Rule.named
  cases held : p.fc.record <;>
    simp [held, classPos_idx, faultCode_idx, objectCode_idx, bufferPos_idx, slotPos_idx]

theorem counterList_pair (p : Part) : (counterList p).map Item.pair = Rule.counterItems p := by
  unfold counterList Rule.counterItems portCounterList
  simp only [List.map_append, pair_counterItems]

theorem stationItems_pair (r : StationRec) : (stationItems r).map Item.pair = Rule.recordItems r := by
  unfold stationItems Rule.recordItems Rule.named
  simp [stationRolePos_idx]

end Sys2Proof.Machine
end

section
/-! PROOFS. READ_STATUS (R200, R22): which items a request names, which of them the reply carries, clear after read. -/

namespace Sys2Proof.Machine

/-! ### The items that a selector and an object number name -/

/-- Where the rules name items, the model's reply carries them. -/
theorem statusItems_of_rule {p : Part} {selector object : Nat} {items : List Rule.Item}
    (named : Rule.statusItems p selector object = some items) :
    ∃ l, statusItems selector object p = .ok l ∧ l.map Item.pair = items := by
  have found : ∀ {α : Type} {x : Option α} {f : α → List Item} {g : α → List Rule.Item},
      (∀ y, (f y).map Item.pair = g y) → x.map g = some items → ∃ y, x = some y ∧ (f y).map Item.pair = items := by
    intro α x f g same mapped
    obtain ⟨y, is_y, rfl⟩ := Option.map_eq_some_iff.1 mapped
    exact ⟨y, is_y, same y⟩
  unfold Rule.statusItems at named
  split at named
  · exact ⟨_, rfl, (incidentItems_pair p).trans (Option.some.inj named)⟩
  · exact ⟨_, rfl, (sectionItems_pair p).trans (Option.some.inj named)⟩
  · obtain ⟨q, is_q, same⟩ := found pointItems_pair named
    refine ⟨_, ?_, same⟩
    simp only [statusItems, Part.point?, is_q, Option.map_some]
  · obtain ⟨z, is_z, same⟩ := found zoneItems_pair named
    refine ⟨_, ?_, same⟩
    simp only [statusItems, Part.zone?, is_z, Option.map_some]
  · exact ⟨_, rfl, (allocationItems_pair p).trans (Option.some.inj named)⟩
  · next some_fan =>
    have nonzero : object ≠ 0 := some_fan
    obtain ⟨f, is_f, same⟩ := found (fanItems_pair p) named
    refine ⟨_, ?_, same⟩
    simp [statusItems, Part.fan?, is_f, nonzero]
  · exact ⟨_, rfl, (peersItems_pair p).trans (Option.some.inj named)⟩
  · next some_peer =>
    have nonzero : object ≠ 0 := some_peer
    obtain ⟨q, is_q, same⟩ := found (peerItems_pair p) named
    refine ⟨_, ?_, same⟩
    simp [statusItems, peerAt, is_q, nonzero]
  · exact ⟨_, rfl, (ordersItems_pair p).trans (Option.some.inj named)⟩
  · next some_fan =>
    have nonzero : object ≠ 0 := some_fan
    by_cases low : object ≤ 48
    · rw [if_pos low] at named
      cases is_r : p.ord.records.find? fun r => r.fan == object with
      | none =>
        rw [is_r] at named
        refine ⟨[], ?_, Option.some.inj named⟩
        simp [statusItems, Part.order?, is_r, nonzero, low]
      | some r =>
        rw [is_r] at named
        refine ⟨orderItems p r, ?_, (orderItems_rule p r).trans (Option.some.inj named)⟩
        simp [statusItems, Part.order?, is_r, nonzero, low]
    · rw [if_neg low] at named
      exact nomatch named
  · exact ⟨_, rfl, (faultItems_pair p).trans (Option.some.inj named)⟩
  · exact ⟨_, rfl, (counterList_pair p).trans (Option.some.inj named)⟩
  · next some_record =>
    have nonzero : object ≠ 0 := some_record
    obtain ⟨r, is_r, same⟩ := found stationItems_pair named
    refine ⟨_, ?_, same⟩
    simp [statusItems, is_r, nonzero]
  · exact nomatch named

/-- But for selector FAULT the items do not show the health. -/
theorem Rule.statusItems_formHealth (p : Part) {selector : Nat} (object : Nat)
    (formed : selector = 8 → formHealth p = p) :
    Rule.statusItems (formHealth p) selector object = Rule.statusItems p selector object := by
  by_cases fault : selector = 8
  · rw [formed fault]
  · unfold Rule.statusItems
    split
    case h_11 => exact absurd rfl fault
    all_goals rfl

/-! ### The items that fit -/

theorem itemBytes_pair (l : List Item) : l.flatMap itemBytes = Rule.itemBytes (l.map Item.pair) := by
  unfold Rule.itemBytes
  rw [List.flatMap_map]
  rfl

theorem statusData_of_fit {l : List Item} (fit : (Rule.itemBytes (l.map Item.pair)).length ≤ 235) :
    statusData l = Rule.itemBytes (l.map Item.pair) := by
  unfold statusData
  dsimp only
  rw [itemBytes_pair, if_pos fit]

theorem fitItems_split {next : Item} {left : List Item} : ∀ (kept : List Item) (room : Nat),
    (kept.flatMap itemBytes).length + 3 ≤ room →
    room < (kept.flatMap itemBytes).length + (itemBytes next).length + 3 →
    fitItems room (kept ++ next :: left) = kept.flatMap itemBytes ++ [255, 1, leftOutValue (left.length + 1)]
  | [], room, _, beyond => by
    rw [List.flatMap_nil, List.length_nil] at beyond
    exact if_neg (by omega)
  | i :: kept, room, fits, beyond => by
    rw [List.flatMap_cons, List.length_append] at fits beyond
    have rest := fitItems_split (next := next) (left := left) kept (room - (itemBytes i).length) (by omega) (by omega)
    rw [List.cons_append, List.flatMap_cons, List.append_assoc, ← rest]
    exact if_pos (by omega)

theorem statusData_of_split {l : List Item} {kept left : List Rule.Item} {next : Rule.Item}
    (beyond : 235 < (Rule.itemBytes (l.map Item.pair)).length) (split : l.map Item.pair = kept ++ next :: left)
    (fits : (Rule.itemBytes kept).length + 3 ≤ 235) (next_over : 235 < (Rule.itemBytes (kept ++ [next])).length + 3)
    (few : left.length < 255) :
    statusData l = Rule.itemBytes kept ++ [255, 1, BitVec.ofNat 8 (left.length + 1)] := by
  obtain ⟨l1, l2, rfl, rfl, tail⟩ := List.map_eq_append_iff.1 split
  obtain ⟨i, l3, rfl, rfl, rfl⟩ := List.map_eq_cons_iff.1 tail
  rw [List.length_map] at few
  rw [← List.map_singleton, ← List.map_append, ← itemBytes_pair, List.flatMap_append, List.flatMap_singleton,
    List.length_append] at next_over
  rw [← itemBytes_pair] at fits beyond
  unfold statusData
  dsimp only
  rw [if_neg (by omega), fitItems_split l1 235 fits next_over, itemBytes_pair, List.length_map]
  exact congrArg (fun v => _ ++ [255, 1, v]) (if_pos (by omega))

/-! ### Clear after read -/

/-- The health and its causes do not depend on the counters (R193). -/
theorem clearAfterRead_formHealth (object : Nat) (p : Part) :
    ∃ health causes, clearAfterRead object (formHealth p) =
      { Rule.cleared object p with fc := { (Rule.cleared object p).fc with health := health, causes := causes } } := by
  refine ⟨(formHealth p).fc.health, (formHealth p).fc.causes, ?_⟩
  unfold clearAfterRead Rule.cleared
  by_cases part_wide : object = 0
  · rw [if_pos part_wide, if_pos (beq_iff_eq.2 part_wide)]
    rfl
  · rw [if_neg part_wide, if_neg (by simpa using part_wide)]
    have same_stations : (formHealth p).disp = p.disp := rfl
    rw [same_stations]
    cases p.disp.stations[object - 1]? with
    | none => rfl
    | some r =>
      dsimp only [clearStation, updWhere]
      simp only [beq_iff_eq]
      rfl

theorem formHealth_queueOwn_withHealth (r : OwnRequest) (p : Part) (health : Health) (causes : Byte) :
    formHealth (queueOwn r { p with fc := { p.fc with health := health, causes := causes } }) =
      formHealth (queueOwn r p) := by
  rw [queueOwn_withFc, queueOwn_eq r p]
  rfl

theorem cleared_handOns (object : Nat) (p : Part) : (Rule.cleared object p).handOns = p.handOns := by
  unfold Rule.cleared
  dsimp only
  split
  · rfl
  · split <;> rfl

/-! ### The reply -/

section
variable {src : Byte} {num : BitVec 16} {s : State}

theorem answer_ok {kind : Byte} {args data : List Byte} {p : Part} (quiet : p.handOns = []) :
    answer kind ⟨src, num, args⟩ (.ok data, p) =
      queueOwn (.mgmtReply src (beBytes 2 num.toNat ++ [kind, 0, 0] ++ data)) p := by
  unfold answer reply replyPayload
  rw [settled_of_quiet p quiet]
  simp

/-- A request that is done with data, leaving a part whose health is to be formed, has its reply queued there. -/
theorem answered_with_data {c : Instr} {kind : Byte} {args data : List Byte} {judge : Part → Judged} {p : Part}
    {health : Health} {causes : Byte} (quiet : p.handOns = [])
    (is_answer : exec c s = nextWith (fun q => answer kind ⟨src, num, args⟩ (judge q)) s)
    (judged : judge s.part = (.ok data, { p with fc := { p.fc with health := health, causes := causes } })) :
    ∃ t, exec c s = .next t ∧
      exec (.queueOwnTelegram (.mgmtReply src (beBytes 2 num.toNat ++ [kind, 0, 0] ++ data))) { s with part := p } =
        .next t := by
  have answered : answer kind ⟨src, num, args⟩ (judge s.part) =
      queueOwn (.mgmtReply src (beBytes 2 num.toNat ++ [kind, 0, 0] ++ data))
        { p with fc := { p.fc with health := health, causes := causes } } := by
    rw [judged]
    exact answer_ok quiet
  have none_waits : (answer kind ⟨src, num, args⟩ (judge s.part)).handOns = [] := by
    rw [answered, (queueOwn_ofLine _ _).handOns]
    exact quiet
  refine ⟨_, is_answer.trans (nextWith_of_quiet _ s none_waits), ?_⟩
  rw [exec_queueOwnTelegram _ { s with part := p } quiet, answered]
  exact congrArg (fun q => Host.Outcome.next { s with part := q }) (formHealth_queueOwn_withHealth _ p health causes).symm

theorem judgeReadStatus_ok {selector object option : Byte} {p : Part} {l : List Item}
    (listed : selector ≠ 0 ∧ selector.toNat ≤ 9) (plain : option = 0 ∨ option = 1 ∧ selector = 9)
    (named : statusItems selector.toNat object.toNat (formHealth p) = .ok l) :
    judgeReadStatus ⟨src, num, [selector, object, option]⟩ p =
      (.ok (statusData l), if option == 1 then clearAfterRead object.toNat (formHealth p) else formHealth p) := by
  obtain ⟨nonzero, low⟩ := listed
  have positive : selector.toNat ≠ 0 := fun zero => nonzero (BitVec.eq_of_toNat_eq zero)
  unfold judgeReadStatus
  dsimp only
  rw [if_neg, named]
  rcases plain with rfl | ⟨rfl, rfl⟩
  · simp [positive, low]
  · decide

/-- A request without clear after read, its items found. -/
theorem readStatus_replied {selector object : Byte} {l : List Item} (quiet : Quiescent s)
    (listed : selector ≠ 0 ∧ selector.toNat ≤ 9)
    (named : statusItems selector.toNat object.toNat (formHealth s.part) = .ok l) :
    ∃ t, exec (.readStatus ⟨src, num, [selector, object, 0]⟩) s = .next t ∧
      exec (.queueOwnTelegram (.mgmtReply src (beBytes 2 num.toNat ++ [1, 0, 0] ++ statusData l))) s = .next t :=
  answered_with_data (p := s.part) quiet (exec_eventOf _ _) (judgeReadStatus_ok listed (.inl rfl) named)

/-- Every request has a reply queued, and changes nothing else. -/
theorem readStatus_answered (selector object : Byte) (quiet : Quiescent s) :
    ∃ payload t, exec (.readStatus ⟨src, num, [selector, object, 0]⟩) s = .next t ∧
      exec (.queueOwnTelegram (.mgmtReply src payload)) s = .next t := by
  by_cases listed : selector ≠ 0 ∧ selector.toNat ≤ 9
  · cases named : statusItems selector.toNat object.toNat (formHealth s.part) with
    | error reason => exact ⟨_, refused_readStatus quiet (.inl rfl) listed named⟩
    | ok l => exact ⟨_, readStatus_replied quiet listed named⟩
  · refine ⟨_, refused_of_refusal quiet (exec_eventOf _ _) (judgeReadStatus_unlisted ?_)⟩
    rcases not_and_or.1 listed with zero | high
    · exact .inl (not_not.1 zero)
    · exact .inr (.inl (not_le.1 high))

/-- COUNTERS with clear after read: the reply of COUNTERS without it, queued when the counters are 0. -/
theorem readCounters_cleared {object : Byte} {l : List Item} (quiet : Quiescent s)
    (named : statusItems 9 object.toNat (formHealth s.part) = .ok l) :
    ∃ t, exec (.readStatus ⟨src, num, [9, object, 1]⟩) s = .next t ∧
      exec (.queueOwnTelegram (.mgmtReply src (beBytes 2 num.toNat ++ [1, 0, 0] ++ statusData l)))
        { s with part := Rule.cleared object.toNat s.part } = .next t := by
  obtain ⟨health, causes, clears⟩ := clearAfterRead_formHealth object.toNat s.part
  refine answered_with_data (p := Rule.cleared object.toNat s.part) (args := [9, object, 1]) (health := health)
    (causes := causes) ((cleared_handOns _ _).trans quiet) (exec_eventOf _ _) ?_
  rw [← clears]
  exact judgeReadStatus_ok (by decide) (.inr ⟨rfl, rfl⟩) named

end

theorem statusItems_counters {p : Part} {object : Nat} (listed : object ≤ p.disp.stations.length) :
    ∃ l, statusItems 9 object p = .ok l := by
  unfold statusItems
  by_cases part_wide : object = 0
  · exact ⟨_, if_pos (beq_iff_eq.2 part_wide)⟩
  · have inside : object - 1 < p.disp.stations.length := by omega
    refine ⟨stationItems p.disp.stations[object - 1], ?_⟩
    simp [part_wide, List.getElem?_eq_getElem inside]

theorem statusItems_listed {p : Part} {selector object : Nat} {l : List Item}
    (named : statusItems selector object p = .ok l) : selector ≠ 0 ∧ selector ≤ 9 := by
  unfold statusItems at named
  split at named
  case h_10 => exact nomatch named
  all_goals decide

/-- A request whose items the rules name has a reply of the data that the model makes of them. -/
theorem readStatus_named {src : Byte} {num : BitVec 16} {s : State} {selector object : Byte} {items : List Rule.Item}
    (quiet : Quiescent s) (named : Rule.statusItems s.part selector.toNat object.toNat = some items)
    (formed : selector = 8 → HealthFormed s) :
    ∃ l, l.map Item.pair = items ∧ ∃ t, exec (.readStatus ⟨src, num, [selector, object, 0]⟩) s = .next t ∧
      exec (.queueOwnTelegram (.mgmtReply src (beBytes 2 num.toNat ++ [1, 0, 0] ++ statusData l))) s = .next t := by
  rw [← Rule.statusItems_formHealth s.part object.toNat fun fault => formed (BitVec.eq_of_toNat_eq fault)] at named
  obtain ⟨l, is_l, same⟩ := statusItems_of_rule named
  obtain ⟨nonzero, low⟩ := statusItems_listed is_l
  have listed : selector ≠ 0 ∧ selector.toNat ≤ 9 := ⟨fun zero => nonzero (congrArg BitVec.toNat zero), low⟩
  exact ⟨l, same, readStatus_replied quiet listed is_l⟩

/-- A value of two bytes, all ones where it is absent. -/
def twoBytes (v : Option Nat) : List Byte := match v with | some x => beBytes 2 x | none => [0xFF, 0xFF]

/-- The byte of a direction of the incident. -/
def directionByte (d : Option Direction) : Byte := match d with | some .ab => 1 | some .ba => 2 | none => 0xFF

/-- The byte of a direction source. -/
def sourceByte (v : Option DirectionSource) : Byte := match v with
  | some .explicit => 0 | some .train => 1 | some .default => 2 | some .adopted => 3 | none => 0xFF

/-- The byte of a heat class. -/
def heatByte (v : Option Nat) : Byte := match v with | some c => BitVec.ofNat 8 c | none => 0xFF

/-- The bytes of selector INCIDENT, no timer armed and no entry pending. -/
theorem incident_bytes {p : Part} (no_declare : p.reg.autoDeclare = none) (no_wait : p.reg.leadWait = none)
    (no_entry : p.reg.entry = none) :
    let r := p.reg.record
    Rule.itemBytes (Rule.incidentItems p) =
      [1, 1, BitVec.ofNat 8 (stateCode r.state)] ++ [2, 2] ++ beBytes 2 r.id ++
        [3, 2] ++ twoBytes r.fire ++ [4, 2] ++ twoBytes r.head ++ [5, 2] ++ twoBytes r.tail ++
        [6, 1, directionByte r.dir] ++ [7, 1, sourceByte r.dirSource] ++ [8, 1, heatByte r.heat] ++
        [9, 1, BitVec.ofNat 8 (roleCode r.role)] ++ [10, 1, if r.controlled then 1 else 0] ++
        [11, 1, BitVec.ofNat 8 p.reg.detection.length] ++
        (p.reg.detection.flatMap fun z => [12, 1, BitVec.ofNat 8 z]) ++
        [13, 1, BitVec.ofNat 8 (outcomeCode p.reg.outcome)] ++ [14, 2] ++ beBytes 2 p.reg.lastCleared ++
        [15, 4, 0, 0, 0, 0] ++ [16, 4, 0, 0, 0, 0] ++ [17, 1, if p.reg.storeHold then 1 else 0] ++ [18, 1, 0] := by
  intro r
  have two_bytes (n : Nat) (v : Option Nat) : Rule.maybe n 2 v = (n, twoBytes v) := by cases v <;> rfl
  have length_two (v : Option Nat) : (twoBytes v).length = 2 := by cases v <;> rfl
  have direction : Rule.maybe 6 1 (r.dir.map fun d => 1 + [Direction.ab, .ba].idxOf d) = (6, [directionByte r.dir]) := by
    rcases r.dir with _ | _ | _ <;> rfl
  have source : Rule.maybeNamed 7 [DirectionSource.explicit, .train, .default, .adopted] r.dirSource =
      (7, [sourceByte r.dirSource]) := by rcases r.dirSource with _ | _ | _ | _ | _ <;> rfl
  have heat : Rule.maybe 8 1 r.heat = (8, [heatByte r.heat]) := by cases r.heat <;> rfl
  have none_left (n : Nat) : Rule.timeLeft p n none = (n, [0, 0, 0, 0]) :=
    congrArg (Prod.mk n) (by decide : beBytes 4 0 = [0, 0, 0, 0])
  have byte (n v : Nat) : Rule.unsigned n 1 v = (n, [BitVec.ofNat 8 v]) := rfl
  have pair (n v : Nat) : Rule.unsigned n 2 v = (n, beBytes 2 v) := rfl
  unfold Rule.incidentItems Rule.named
  dsimp only
  rw [no_declare, no_wait, no_entry, two_bytes, two_bytes, two_bytes, direction, source, heat]
  simp [Rule.itemBytes, byte, pair, none_left, Rule.marked, length_beBytes, List.flatMap_map, length_two, r]

theorem incident_length (p : Part) : (Rule.itemBytes (Rule.incidentItems p)).length = 62 + 3 * p.reg.detection.length := by
  have length_maybe (n w : Nat) (v : Option Nat) : (Rule.maybe n w v).2.length = w := by
    cases v
    · exact List.length_replicate
    · exact length_beBytes w _
  unfold Rule.incidentItems Rule.named Rule.maybeNamed
  simp [Rule.itemBytes, length_maybe, Rule.unsigned, Rule.marked, Rule.timeLeft, length_beBytes, Function.comp_def]
  omega

/-! ### The obligation -/

/-- Settles O47, by the items that the rules name, the rule by which they fit, and the counters that are cleared. -/
theorem readStatus : Obligations.ReadStatus := by
  intro src num s quiet
  refine ⟨fun selector object => readStatus_answered selector object quiet, ?cleared, ?items, ?incident⟩
  case cleared =>
    intro object listed
    obtain ⟨l, named⟩ := statusItems_counters (p := formHealth s.part) listed
    obtain ⟨t, replied, queued⟩ := readStatus_replied (src := src) (num := num) quiet (selector := 9) (by decide) named
    obtain ⟨u, cleared, after⟩ := readCounters_cleared (src := src) (num := num) quiet named
    exact ⟨_, t, u, replied, queued, cleared, after⟩
  case items =>
    intro selector object items named formed replied
    obtain ⟨l, rfl, t, next, queued⟩ := readStatus_named (src := src) (num := num) quiet named formed
    refine ⟨fun fit => ?_, fun beyond kept next_item left split fits next_beyond few => ?_⟩
    · rw [statusData_of_fit fit] at queued
      exact ⟨t, next, queued⟩
    · rw [statusData_of_split beyond split fits next_beyond few] at queued
      exact ⟨t, next, queued⟩
  case incident =>
    intro g r two bytes source few no_declare no_wait no_entry
    have named : Rule.statusItems s.part (1 : Byte).toNat (0 : Byte).toNat = some (Rule.incidentItems s.part) := rfl
    obtain ⟨l, same, t, next, queued⟩ := readStatus_named (src := src) (num := num) quiet named nofun
    have fit : (Rule.itemBytes (l.map Item.pair)).length ≤ 235 := by
      have detected : s.part.reg.detection.length ≤ 16 := few
      rw [same, incident_length]
      omega
    rw [statusData_of_fit fit, same, incident_bytes no_declare no_wait no_entry] at queued
    refine ⟨t, next, (congrArg (fun x => exec (.queueOwnTelegram (.mgmtReply src x)) s) ?_).trans queued⟩
    simp only [List.append_assoc] <;> rfl

end Sys2Proof.Machine
end

section
/-! PROOFS. What the end of an event does to the Register, the zones, the marks of the fans and the fault counters
(R54, R82, R146, R153). -/

namespace Sys2Proof.Machine

/-! ### The marks of the fans -/

/-- What no order changes of a fan: its entry, its marks, its isolations and its last report. -/
def marksOf (f : FanRec) : FanEntry × Bool × Bool × Bool × Bool × Option LastReport :=
  (f.e, f.excluded, f.heat, f.reportIso, f.mgrIso, f.last)

/-- The fans have the marks that they had. -/
def MarksKept (p q : Part) : Prop := q.fm.fans.map marksOf = p.fm.fans.map marksOf

section
variable {p q r : Part}

theorem MarksKept.refl (p : Part) : MarksKept p p := rfl

theorem MarksKept.trans (h : MarksKept p q) (k : MarksKept q r) : MarksKept p r := Eq.trans k h

theorem MarksKept.after (k : MarksKept q r) (h : MarksKept p q) : MarksKept p r := h.trans k

theorem MarksKept.of_fans (same : q.fm.fans = p.fm.fans) : MarksKept p q := congrArg (List.map marksOf) same

theorem MarksKept.ite {c : Prop} [Decidable c] {a b : Part} (ha : MarksKept p a) (hb : MarksKept p b) :
    MarksKept p (if c then a else b) := by
  split
  · exact ha
  · exact hb

theorem MarksKept.foldl {α : Type} (g : Part → α → Part) (step : ∀ p a, MarksKept p (g p a)) (l : List α) :
    ∀ p, MarksKept p (l.foldl g p) := by
  induction l with
  | nil => exact .refl
  | cons a l ih => exact fun p => (ih _).after (step p a)

theorem onFan_marks (n : Nat) {g : FanRec → FanRec} (same : ∀ f, marksOf (g f) = marksOf f) (p : Part) :
    MarksKept p (onFan n g p) := by
  unfold MarksKept onFan updWhere
  rw [List.map_map]
  refine List.map_congr_left fun f _ => ?_
  rw [Function.comp_apply]
  split
  · exact same f
  · rfl

theorem find?_marks {fans fans' : List FanRec} (kept : fans'.map marksOf = fans.map marksOf) (n : Nat) :
    (fans'.find? fun f => f.e.num == n).map marksOf = (fans.find? fun f => f.e.num == n).map marksOf := by
  have by_marks (l : List FanRec) : (l.find? fun f => f.e.num == n).map marksOf =
      (l.map marksOf).find? fun m => m.1.num == n := by
    rw [List.find?_map]
    rfl
  rw [by_marks, by_marks, kept]

/-- A fan is found with the marks that it had. -/
theorem MarksKept.fan? (h : MarksKept p q) {n : Nat} {f g : FanRec} (found : p.fan? n = some f)
    (found_g : q.fan? n = some g) : marksOf g = marksOf f := by
  have same := find?_marks h n
  unfold Part.fan? at *
  rw [found, found_g] at same
  exact Option.some.inj same

theorem MarksKept.fan?_isSome (h : MarksKept p q) {n : Nat} {f : FanRec} (found : p.fan? n = some f) :
    ∃ g, q.fan? n = some g ∧ marksOf g = marksOf f := by
  have same := find?_marks h n
  unfold Part.fan? at *
  rw [found] at same
  exact Option.map_eq_some_iff.1 same

end

theorem enter_marks (s : FanState) (d : Option RunDir) (f : FanRec) : marksOf (enter s d f) = marksOf f := rfl

theorem keepKnown_marks (f : FanRec) : marksOf (keepKnown f) = marksOf f := by
  unfold keepKnown
  split <;> rfl

theorem pruneQueue_marks (p : Part) : MarksKept p (pruneQueue p) := .of_fans rfl

theorem formThrust_marks (p : Part) : MarksKept p (formThrust p) := .of_fans rfl

theorem testClearing_marks (p : Part) : MarksKept p (testClearing p) := .ite (.of_fans rfl) (.refl p)

theorem fanTail_marks (p : Part) : MarksKept p (fanTail p) :=
  ((testClearing_marks _).after (formThrust_marks _)).after (pruneQueue_marks p)

theorem askStop_marks (n : Nat) (p : Part) : MarksKept p (askStop n p) := by
  unfold askStop
  split
  · exact .ite (onFan_marks n (g := fun f => { f with stopReq := true }) (fun _ => rfl) p) (.refl p)
  · exact .refl p

theorem testUnwanted_marks (n : Nat) (p : Part) : MarksKept p (testUnwanted n p) := by
  unfold testUnwanted
  split
  · exact .ite (askStop_marks n p) (.refl p)
  · exact .refl p

theorem grantOne_marks (p : Part) : MarksKept p (grantOne p) := by
  unfold grantOne
  split
  · exact .refl p
  split
  · exact .refl p
  split
  · exact .refl p
  · next d _ => exact .ite (onFan_marks _ (enter_marks .starting (some d)) p) (.refl p)

theorem releaseSlots_marks (p : Part) : MarksKept p (releaseSlots p) := by
  unfold releaseSlots
  extract_lets slots freed m q
  have pruned : MarksKept p q := .of_fans rfl
  have granted : MarksKept q (grants q) :=
    (((grantOne_marks _).after (grantOne_marks _)).after (grantOne_marks _)).after (grantOne_marks q)
  exact .ite (granted.after pruned) pruned

/-- An order withdrawn gives up a fan that is STARTING, and changes no mark. -/
theorem takeOutcome_withdrawn_marks (n : Nat) (kind : OrderKind) (p : Part) :
    MarksKept p (takeOutcome n kind .withdrawn p) := by
  have unknown (f : FanRec) : marksOf (becomeUnknown f) = marksOf f := keepKnown_marks f
  unfold takeOutcome
  split
  · exact .refl p
  · next f _ =>
    extract_lets q
    have asked : MarksKept p q := .ite (onFan_marks n (g := fun f => { f with stopReq := false }) (fun _ => rfl) p) (.refl p)
    refine (fanTail_marks _).after (MarksKept.after (.ite ?_ (.refl q)) asked)
    exact MarksKept.after (.of_fans rfl) ((releaseSlots_marks _).after (onFan_marks f.e.num unknown q))

/-! ### Order requests -/

theorem freeTagOf_marks (r : OrderRec) (p : Part) : MarksKept p (freeTagOf r p) :=
  .of_fans (congrArg FanManager.fans (freeTagOf_fm r p))

theorem withdrawRec_marks (r : OrderRec) (p : Part) : MarksKept p (withdrawRec r p) := by
  have finished (p : Part) : MarksKept p (finishRec r .withdrawn p) := by
    unfold finishRec
    extract_lets q m u
    have removed : MarksKept p u := (takeOutcome_withdrawn_marks r.fan r.kind p).trans (.of_fans rfl)
    split
    · exact removed
    · exact removed.trans (.of_fans rfl)
  unfold withdrawRec
  refine MarksKept.after (.ite (testClearing_marks _) (.refl _)) ((finished _).after ?_)
  exact MarksKept.trans (.of_fans rfl) (freeTagOf_marks r _)

theorem issue_marks (r : OrderRec) (tag : Nat) (p : Part) : MarksKept p (issue r tag p) := by
  have sent (p : Part) : MarksKept p (sendOrder r tag p) := .of_fans (congrArg FanManager.fans (sendOrder_fm r tag p))
  unfold issue
  extract_lets q u
  have issued : MarksKept p q := (sent _).after (.of_fans rfl)
  repeat' split
  · exact issued.trans (.of_fans rfl)
  · exact issued.trans (.of_fans rfl)
  · exact issued

theorem serveWith_marks (fuel : Nat) (p : Part) : MarksKept p (serveWith fuel p) := by
  induction fuel generalizing p with
  | zero => exact .refl p
  | succ fuel ih =>
    unfold serveWith
    split
    · split
      · exact .refl p
      · refine (ih _).after (.ite ((issue_marks _ _ _).after (.of_fans rfl)) ((withdrawRec_marks _ _).after (.of_fans rfl)))
    · exact .refl p

theorem dropStart_marks (n : Nat) (old new : OrderKind) (p : Part) : MarksKept p (dropStart n old new p) :=
  .ite ((takeOutcome_withdrawn_marks n old _).after (.of_fans rfl)) (.refl p)

theorem requestOrder_marks (n : Nat) (kind : OrderKind) (p : Part) : MarksKept p (requestOrder n kind p) := by
  unfold requestOrder
  split
  · split
    · exact .refl p
    · exact (serveWith_marks _ _).after (.of_fans rfl)
  · dsimp only
    split
    · split
      · exact .of_fans rfl
      · exact (dropStart_marks _ _ _ _).after (.of_fans rfl)
    · exact ((serveWith_marks _ _).after (dropStart_marks _ _ _ _)).after (.of_fans rfl)

/-! ### The end of an event -/

theorem clearAlarm_rule (z : ZoneRec) : clearAlarm z = Rule.alarmCleared z := by
  unfold clearAlarm Rule.alarmCleared
  by_cases alarm : z.state = .alarm
  · rw [if_pos alarm, if_pos (by simpa using alarm)]
    simp only [Bool.and_eq_true, Option.isNone_iff_eq_none]
  · rw [if_neg alarm, if_neg (by simpa using alarm)]

/-- Either the clearing has not ended: Register, Measurement Unit and the marks of the fans are as they were; or it has,
and the zone alarms are cleared (R54, R82, R146). -/
def EndsOrKeeps (p q : Part) : Prop :=
  (RegMeasKept p q ∧ MarksKept p q) ∨
    (p.reg.record.state = .clearing ∧ q.reg.record.state = .quiet ∧ q.meas = (clearAlarms p).meas)

theorem settle_endsOrKeeps (n : Nat) (p : Part) : EndsOrKeeps p (settle takeHandOn n p) := by
  induction n generalizing p with
  | zero => exact .inl ⟨.refl p, .refl p⟩
  | succ n ih =>
    unfold settle
    split
    · exact .inl ⟨.refl p, .refl p⟩
    · next h rest _ =>
      have after_kept {q : Part} (kept : RegMeasKept p q) (marks : MarksKept p q) :
          EndsOrKeeps p (settle takeHandOn n q) := by
        rcases ih q with ⟨kept', marks'⟩ | ⟨clearing, quiet, cleared⟩
        · exact .inl ⟨kept.trans kept', marks.trans marks'⟩
        · refine .inr ⟨kept.reg ▸ clearing, quiet, ?_⟩
          rw [cleared, clearAlarms_meas, clearAlarms_meas, kept.meas]
      cases h with
      | orderRequest m kind =>
        exact after_kept ((requestOrder_step m kind { p with handOns := rest }).regMeasKept.after ⟨rfl, rfl⟩)
          (requestOrder_marks m kind { p with handOns := rest })
      | clearingEnd =>
        by_cases clearing : p.reg.record.state = .clearing
        · let q : Part := { p with handOns := rest, reg := { p.reg with lastCleared := p.reg.record.id } }
          have left : q.reg.record.state ≠ .quiet := by
            rw [show q.reg.record.state = .clearing from clearing]
            exact IncidentState.noConfusion
          have taken : takeHandOn .clearingEnd { p with handOns := rest } = enterQuiet q :=
            if_pos (by simpa using clearing)
          have entered := enterQuiet_regMeasKept left
          have quiet : (enterQuiet q).reg.record.state = .quiet := by rw [entered.reg]; rfl
          have stays := settle_regMeasKept n (enterQuiet q) (by rw [quiet]; exact IncidentState.noConfusion)
          rw [taken]
          refine .inr ⟨clearing, by rw [stays.reg]; exact quiet, ?_⟩
          rw [stays.meas, entered.meas]
          rfl
        · have ignored : takeHandOn .clearingEnd { p with handOns := rest } = { p with handOns := rest } :=
            if_neg (by simpa using clearing)
          rw [ignored]
          exact after_kept (q := { p with handOns := rest }) ⟨rfl, rfl⟩ (.of_fans rfl)

theorem finish_endsOrKeeps (p : Part) : EndsOrKeeps p (finish p) := by
  rcases settle_endsOrKeeps settleBound p with ⟨kept, marks⟩ | ended
  · exact .inl ⟨kept.trans ⟨rfl, rfl⟩, marks.trans (.of_fans rfl)⟩
  · exact .inr ended

/-- Of the fault counters, the end of an event counts only TWO_LEADS. -/
theorem finish_counts (p : Part) {k : Nat} (other : k ≠ 8) : (finish p).fc.counts[k]? = p.fc.counts[k]? := by
  have settles (n : Nat) (p : Part) : (settle takeHandOn n p).fc.counts[k]? = p.fc.counts[k]? := by
    induction n generalizing p with
    | zero => rfl
    | succ n ih =>
      unfold settle
      split
      · rfl
      · exact (ih _).trans ((takeHandOn_course _ _).counts k other)
  exact settles settleBound p

theorem finish_zoneTemps (p : Part) : (finish p).fm.zoneTemps = p.fm.zoneTemps := by rw [(finish_drift p).rest]

end Sys2Proof.Machine
end

section
/-! PROOFS. The zones (R51 to R55, R60): their values, a temperature handed to the Fan Manager, a recompute. -/

namespace Sys2Proof.Machine

/-! ### Readings and zone values -/

theorem qualifyStep_eq (i : Instrument) : qualifyStep i =
    (if i.state = .valid ∨ (i.state = .qualifying ∧ 2 ≤ i.qualify) then .valid else .qualifying,
      if i.state = .valid then i.qualify
      else if i.state = .qualifying then (if 2 ≤ i.qualify then 0 else i.qualify + 1) else 1) := by
  unfold qualifyStep
  cases i.state <;> simp
  split <;> rfl

/-- A reading applied to an instrument is what R38 to R41 say. -/
theorem applyReading_rule (now : PartTime) (stale : Nat) (cls : InstrumentClass) (r : Reading) (i : Instrument) :
    applyReading now stale cls r i = Rule.applied now stale cls r i := by
  have range : (rangeOf cls).1 ≤ (rangeOf cls).2 := by cases cls <;> decide
  obtain ⟨channel, quantity, status, value⟩ := r
  unfold applyReading Rule.applied
  dsimp only
  rw [clamp_eq range]
  cases status
  case fault => simp [arm, after]
  case ok => cases cls <;> simp [qualifyStep_eq, rangeOf, arm, after] <;> rfl
  · cases cls <;> simp [qualifyStep_eq, rangeOf, overValue, arm, after]

theorem largest_rule (i j : Instrument) :
    largest i j = (([i, j].filter fun i => i.state == .valid).map (·.last)).max? := by
  unfold largest isValid
  cases first : i.state == .valid <;> cases second : j.state == .valid <;> simp [first, second]

theorem formValues_rule (z : ZoneRec) : formValues z = Rule.zoneValues z := by
  unfold formValues Rule.zoneValues
  rw [largest_rule, largest_rule]

theorem alarmCondition_iff (e : ZoneEntry) (z : ZoneRec) : alarmCondition e z = true ↔
    (∃ v ∈ z.opacity, (e.opacity : Int) ≤ v) ∨ ∃ v ∈ z.temperature, (e.temperature : Int) ≤ v := by
  unfold alarmCondition
  rw [Bool.or_eq_true]
  cases z.opacity <;> cases z.temperature <;> simp

theorem evaluated_rule (e : ZoneEntry) (z : ZoneRec) : evaluated e z = Rule.zoneEvaluated e z := by
  unfold evaluated Rule.zoneEvaluated
  rw [formValues_rule]
  dsimp only
  simp only [beq_iff_eq, Bool.and_eq_true, Option.isNone_iff_eq_none, alarmCondition_iff]

theorem recomputed_rule (z : ZoneRec) : recomputed z = Rule.zoneRecomputed z := by
  unfold recomputed Rule.zoneRecomputed
  rw [formValues_rule]
  dsimp only
  simp only [bne_iff_ne, Bool.and_eq_true, Option.isNone_iff_eq_none, and_assoc]

theorem recomputed_num (z : ZoneRec) : (recomputed z).num = z.num := congrArg Prod.fst (recomputed_four z)

theorem evaluated_num (e : ZoneEntry) (z : ZoneRec) : (evaluated e z).num = z.num := congrArg Prod.fst (evaluated_four e z)

/-! ### A temperature handed to the Fan Manager -/

/-- Of a part, only the Fan Manager and what it hands on differ. -/
def FansOnly (p q : Part) : Prop := q = { p with fm := q.fm, handOns := q.handOns }

section
variable {p q r : Part}

theorem FansOnly.refl (p : Part) : FansOnly p p := rfl

theorem FansOnly.trans (h : FansOnly p q) (k : FansOnly q r) : FansOnly p r := by
  unfold FansOnly at *
  rw [k, h]

theorem FansOnly.ite {c : Prop} [Decidable c] {a b : Part} (ha : FansOnly p a) (hb : FansOnly p b) :
    FansOnly p (if c then a else b) := by
  split
  · exact ha
  · exact hb

theorem FansOnly.foldl {α : Type} (g : Part → α → Part) (step : ∀ p a, FansOnly p (g p a)) (l : List α) :
    ∀ p, FansOnly p (l.foldl g p) := by
  induction l with
  | nil => exact .refl
  | cons a l ih => exact fun p => (step p a).trans (ih _)

end

theorem testUnwanted_fansOnly (n : Nat) (p : Part) : FansOnly p (testUnwanted n p) := by
  unfold testUnwanted askStop
  split
  · refine .ite ?_ (.refl p)
    split
    · exact .ite rfl (.refl p)
    · exact .refl p
  · exact .refl p

theorem testNewHeat_fansOnly (before : List FanRec) (p : Part) : FansOnly p (testNewHeat before p) :=
  FansOnly.foldl _ (fun p n => testUnwanted_fansOnly n p) _ p

theorem fanTail_fansOnly (p : Part) : FansOnly p (fanTail p) := by
  have tested (q : Part) : FansOnly q (testClearing q) := .ite rfl (.refl q)
  exact FansOnly.trans (q := formThrust (pruneQueue p)) rfl (tested _)

theorem takeZoneTemp_fansOnly (zone : Nat) (value : Option Int) (p : Part) : FansOnly p (takeZoneTemp zone value p) := by
  unfold takeZoneTemp
  extract_lets before m q
  have stored : FansOnly p q := rfl
  have judged : FansOnly q (judgeHeat (fun f => f.e.zone == zone) q) := rfl
  exact .ite stored ((stored.trans judged).trans ((testNewHeat_fansOnly _ _).trans (fanTail_fansOnly _)))

/-- The zone temperatures with that of one zone replaced (R113). -/
def tempsWith (zone : Nat) (value : Option Int) (l : List ZoneTemp) : List ZoneTemp :=
  l.map fun y => if y.zone = zone then { y with value := value } else y

theorem takeZoneTemp_zoneTemps (zone : Nat) (value : Option Int) (p : Part) :
    (takeZoneTemp zone value p).fm.zoneTemps = tempsWith zone value p.fm.zoneTemps := by
  have tested (before : List FanRec) (q : Part) : (testNewHeat before q).fm.zoneTemps = q.fm.zoneTemps :=
    (FanStep.foldl _ (fun p n => testUnwanted_step n p) _ q).zoneTemps
  unfold takeZoneTemp
  extract_lets before m q
  have stored : q.fm.zoneTemps = tempsWith zone value p.fm.zoneTemps :=
    List.map_congr_left fun y _ => if_congr beq_iff_eq rfl rfl
  split
  · exact stored
  · rw [(fanTail_step _).zoneTemps, tested]
    exact stored

/-! ### A zone recomputed -/

/-- What a recompute makes of the zones (R53). -/
def zonesRecomputed (n : Nat) (l : List ZoneRec) : List ZoneRec := updWhere (fun z => z.num == n) recomputed l

theorem zone?_onZone {n : Nat} {g : ZoneRec → ZoneRec} {z : ZoneRec} {p : Part} (same : ∀ z, (g z).num = z.num)
    (found : p.zone? n = some z) : (onZone n g p).zone? n = some (g z) := by
  unfold Part.zone? onZone at *
  dsimp only
  rw [find?_updWhere (fun y => by rw [same]), found]
  exact congrArg some (if_pos (List.find?_some found))

/-- Of a part, only the zones, the Fan Manager and what it hands on differ. -/
def ZonesOnly (p q : Part) : Prop :=
  q = { p with meas := { p.meas with zones := q.meas.zones }, fm := q.fm, handOns := q.handOns }

theorem handTemp_fansOnly (n : Nat) (p : Part) : FansOnly p (handTemp n p) := by
  unfold handTemp
  split
  · exact takeZoneTemp_fansOnly _ _ p
  · exact .refl p

theorem handTemp_zoneTemps {n : Nat} {z : ZoneRec} {p : Part} (found : p.zone? n = some z) :
    (handTemp n p).fm.zoneTemps = tempsWith n z.temperature p.fm.zoneTemps := by
  unfold handTemp
  rw [found]
  exact takeZoneTemp_zoneTemps n z.temperature p

section
variable {n : Nat} {p : Part}

theorem recomputeZone_of_absent (absent : p.zoneEntry n = none) : recomputeZone n p = p := if_neg (by rw [absent]; decide)

theorem recomputeZone_of_entry (configured : (p.zoneEntry n).isSome = true) :
    recomputeZone n p = handTemp n (onZone n recomputed p) := if_pos configured

theorem recomputeZone_zonesOnly : ZonesOnly p (recomputeZone n p) := by
  unfold recomputeZone
  split
  · have handed := handTemp_fansOnly n (onZone n recomputed p)
    rw [show handTemp n (onZone n recomputed p) = _ from handed]
    rfl
  · rfl

theorem recomputeZone_zones (configured : (p.zoneEntry n).isSome = true) :
    (recomputeZone n p).meas.zones = zonesRecomputed n p.meas.zones := by
  rw [recomputeZone_of_entry configured, show handTemp n (onZone n recomputed p) = _ from handTemp_fansOnly n _]
  rfl

theorem recomputeZone_zoneTemps {z : ZoneRec} (configured : (p.zoneEntry n).isSome = true)
    (found : p.zone? n = some z) :
    (recomputeZone n p).fm.zoneTemps = tempsWith n (recomputed z).temperature p.fm.zoneTemps := by
  rw [recomputeZone_of_entry configured, handTemp_zoneTemps (zone?_onZone recomputed_num found)]
  rfl

end

/-! ### The zones when the event is over -/

theorem alarmCleared_num (z : ZoneRec) : (Rule.alarmCleared z).num = z.num := by
  unfold Rule.alarmCleared
  split <;> rfl

/-- The event ends the clearing (R82, R146). -/
def Ends (p q : Part) : Prop := p.reg.record.state = .clearing ∧ q.reg.record.state = .quiet

theorem finish_zones (p : Part) : (Ends p (finish p) → (finish p).meas.zones = p.meas.zones.map Rule.alarmCleared) ∧
    (¬ Ends p (finish p) → (finish p).meas = p.meas ∧ (finish p).reg = p.reg ∧ MarksKept p (finish p)) := by
  rcases finish_endsOrKeeps p with ⟨kept, marks⟩ | ⟨clearing, quiet, cleared⟩
  · refine ⟨fun ⟨clearing, quiet⟩ => ?_, fun _ => ⟨kept.meas, kept.reg, marks⟩⟩
    rw [kept.reg, clearing] at quiet
    exact IncidentState.noConfusion quiet
  · refine ⟨fun _ => ?_, fun stays => absurd ⟨clearing, quiet⟩ stays⟩
    rw [cleared]
    exact List.map_congr_left fun z _ => clearAlarm_rule z

theorem zone?_finish {n : Nat} {z : ZoneRec} {p : Part} [Decidable (Ends p (finish p))] (found : p.zone? n = some z) :
    (finish p).zone? n = some (if Ends p (finish p) then Rule.alarmCleared z else z) := by
  obtain ⟨ended, stays⟩ := finish_zones p
  unfold Part.zone? at *
  split
  · next ends =>
    rw [ended ends, List.find?_map, show (fun z : ZoneRec => z.num == n) ∘ Rule.alarmCleared = fun z => z.num == n from
      funext fun z => congrArg (· == n) (alarmCleared_num z), found]
    rfl
  · next keeps => rw [(stays keeps).1, found]

end Sys2Proof.Machine
end

section
/-! PROOFS. Stale timers and the zone requalify timer (R41, R53, R55, R60). -/

namespace Sys2Proof.Machine

/-! ### One instrument changed -/

theorem onInstrument_instruments (d : InstrumentId) (g : Instrument → Instrument) (p : Part) :
    instruments (onInstrument d g p).meas = (instruments p.meas).map fun y => if y.1 = d then (y.1, g y.2) else y := by
  refine (instruments_mapInstruments _ _).trans (List.map_congr_left fun y _ => ?_)
  split <;> rfl

theorem instrument?_mem {d : InstrumentId} {i : Instrument} {p : Part} (found : instrument? p d = some i) :
    (d, i) ∈ instruments p.meas ∧ i.state ≠ .absent := by
  obtain ⟨⟨d', i'⟩, is_x, rfl⟩ := Option.map_eq_some_iff.1 found
  have named := List.find?_some is_x
  simp only [Bool.and_eq_true, decide_eq_true_eq, bne_iff_ne] at named
  obtain ⟨rfl, present⟩ := named
  exact ⟨List.mem_of_find?_eq_some is_x, present⟩

/-! ### The vote of a point that has not three VALID instruments -/

theorem onPoint_instruments {n : Nat} {g : PointRec → PointRec}
    (same : ∀ q, ((g q).num, (g q).s1, (g q).s2, (g q).s3) = (q.num, q.s1, q.s2, q.s3)) (p : Part) :
    instruments (onPoint n g p).meas = instruments p.meas :=
  instruments_congr (updWhere_map _ _ _ same _) rfl

section
variable {n : Nat} {q : PointRec} {p : Part} (found : p.point? n = some q)
  (few : ∃ s ∈ q.slots, s.2.state ≠ .valid)

include found few

/-- Such a vote leaves the instruments, and counts at most that the point is disputed or lost (R44, R45). -/
theorem voteOnly_of_few : instruments (voteOnly n p).meas = instruments p.meas ∧
    ∀ k, k ≠ 4 → k ≠ 11 → (voteOnly n p).fc.counts[k]? = p.fc.counts[k]? := by
  have not_three : (((q.slots.filter fun s => isValid s.2).map fun s => corrected s.2).length == 3) = false := by
    obtain ⟨s, mem, other⟩ := few
    have fewer : (q.slots.filter fun s => isValid s.2).length < q.slots.length :=
      List.length_filter_lt_length_iff_exists.2 ⟨s, mem, by simpa [isValid] using other⟩
    rw [List.length_map, beq_eq_false_iff_ne]
    exact Nat.ne_of_lt fewer
  have voted (a : PointQuality) (b : Option Int) (c : Timer) :
      instruments (onPoint n (fun x => { x with quality := a, voted := b, holdTimer := c }) p).meas = instruments p.meas :=
    onPoint_instruments (g := fun x => { x with quality := a, voted := b, holdTimer := c }) (fun _ => rfl) p
  unfold voteOnly
  rw [found]
  dsimp only
  rw [not_three]
  simp only [Bool.false_eq_true, if_false]
  constructor
  · split
    · unfold losePoint
      rw [raise_meas, report_meas]
      exact voted _ _ _
    · split
      · rw [report_meas]
        exact voted _ _ _
      · exact voted _ _ _
  · intro k not_disputed not_lost
    split
    · unfold losePoint
      rw [raise_fc]
      exact report_counts_other not_lost _ _
    · split
      · exact report_counts_other not_disputed _ _
      · rfl

end

/-! ### The place of an instrument formed afresh -/

/-- A velocity instrument is in a slot of its place (R35). -/
theorem velocityNum_placeOf {m : MeasurementUnit} {d : InstrumentId} {i : Instrument} (mem : (d, i) ∈ instruments m)
    (velocity : d.cls = .velocity) : ∃ k, (k = 1 ∨ k = 2 ∨ k = 3) ∧ d.num = velocityNum (placeOf d) k := by
  have positive : 1 ≤ d.num := by
    unfold instruments at mem
    rcases List.mem_append.1 mem with of_point | of_zone
    · obtain ⟨q, _, mem⟩ := List.mem_flatMap.1 of_point
      obtain ⟨s, slot, same⟩ := List.mem_map.1 mem
      obtain ⟨rfl, rfl⟩ := Prod.mk.inj same
      change 1 ≤ velocityNum q.num s.1
      unfold velocityNum
      simp only [PointRec.slots, List.mem_cons, List.not_mem_nil, or_false] at slot
      rcases slot with rfl | rfl | rfl <;> dsimp only <;> omega
    · obtain ⟨z, _, mem⟩ := List.mem_flatMap.1 of_zone
      simp only [List.mem_cons, List.not_mem_nil, or_false, Prod.mk.injEq] at mem
      rcases mem with ⟨rfl, _⟩ | ⟨rfl, _⟩ | ⟨rfl, _⟩ | ⟨rfl, _⟩ <;> exact nomatch velocity
  have place : placeOf d = (d.num - 1) / 3 + 1 := by unfold placeOf; rw [velocity]
  refine ⟨(d.num - 1) % 3 + 1, by omega, ?_⟩
  unfold velocityNum
  omega

theorem mem_instruments_of_slot {m : MeasurementUnit} {q : PointRec} {s : Nat × Instrument} (mem : q ∈ m.points)
    (slot : s ∈ q.slots) : (⟨.velocity, velocityNum q.num s.1⟩, s.2) ∈ instruments m :=
  List.mem_append_left _ (List.mem_flatMap.2 ⟨q, mem, List.mem_map.2 ⟨s, slot, rfl⟩⟩)

/-- An instrument that is not VALID has its place voted or recomputed without a change of any instrument, and INSTRUMENT_STALE
is not counted by it. -/
theorem refreshPlace_of_not_valid {d : InstrumentId} {i : Instrument} {p : Part} (mem : (d, i) ∈ instruments p.meas)
    (not_valid : ∀ j, (d, j) ∈ instruments p.meas → j.state ≠ .valid) :
    instruments (refreshPlace d p).meas = instruments p.meas ∧ (refreshPlace d p).fc.counts[3]? = p.fc.counts[3]? := by
  have zone (n : Nat) : instruments (recomputeZone n p).meas = instruments p.meas ∧
      (recomputeZone n p).fc.counts[3]? = p.fc.counts[3]? := by
    refine ⟨(recomputeZone_event n p).instruments, ?_⟩
    rw [show recomputeZone n p = _ from recomputeZone_zonesOnly]
  unfold refreshPlace
  cases velocity : d.cls with
  | opacity => exact zone _
  | temperature => exact zone _
  | velocity =>
    have voted : instruments (votePoint (placeOf d) p).meas = instruments p.meas ∧
        (votePoint (placeOf d) p).fc.counts[3]? = p.fc.counts[3]? := by
      unfold votePoint
      split
      · cases found : p.point? (placeOf d) with
        | none =>
          unfold voteOnly
          rw [found]
          exact ⟨rfl, rfl⟩
        | some q =>
          obtain ⟨k, is_k, num⟩ := velocityNum_placeOf mem velocity
          have own : q.num = placeOf d := beq_iff_eq.1 (List.find?_some (p := fun y : PointRec => y.num == placeOf d) found)
          have few : ∃ s ∈ q.slots, s.2.state ≠ .valid := by
            have slot : ∃ s ∈ q.slots, s.1 = k := by
              rcases is_k with rfl | rfl | rfl <;> simp [PointRec.slots]
            obtain ⟨s, in_q, rfl⟩ := slot
            refine ⟨s, in_q, not_valid s.2 ?_⟩
            have listed := mem_instruments_of_slot (List.mem_of_find?_eq_some found) in_q
            rwa [own, ← num, ← velocity] at listed
          obtain ⟨same, counts⟩ := voteOnly_of_few found few
          exact ⟨same, counts 3 (by decide) (by decide)⟩
      · exact ⟨rfl, rfl⟩
    refine ⟨?_, ((recomputeVm_fc (by decide) _).2).trans voted.2⟩
    rw [recomputeVm_meas]
    exact voted.1

/-! ### The stale timer of an instrument -/

theorem onInstrument_onInstrument (d : InstrumentId) (g h : Instrument → Instrument) (p : Part) :
    onInstrument d h (onInstrument d g p) = onInstrument d (fun i => h (g i)) p := by
  have twice (j : InstrumentId) (i : Instrument) :
      (if j = d then h (if j = d then g i else i) else if j = d then g i else i) = if j = d then h (g i) else i := by
    split <;> rfl
  unfold onInstrument mapInstruments
  simp only [List.map_map, Function.comp_def, PointRec.mapSlots, twice]

/-- An instrument whose stale timer has expired (R41). -/
def goneStale (i : Instrument) : Instrument := { i with stale := none, state := .stale }

/-- An instrument whose stale timer has expired while it was QUALIFYING (R41). -/
def goneStaleQualifying (i : Instrument) : Instrument := { i with stale := none, state := .stale, qualify := 0 }

section
variable {d : InstrumentId} {i : Instrument} {p : Part} (found : instrument? p d = some i)

include found

theorem staleExpires_of_unarmed (unarmed : i.stale = none) : staleExpires d p = p := by
  unfold staleExpires
  rw [found]
  exact if_pos (by rw [unarmed]; rfl)

variable (armed : i.stale ≠ none)

include armed

theorem staleExpires_of_valid (valid : i.state = .valid) : staleExpires d p =
    refreshPlace d (report .instrumentStale (instrumentFault d) (onInstrument d goneStale p)) := by
  unfold staleExpires
  rw [found]
  dsimp only
  rw [if_neg (by simpa using armed), valid]
  dsimp only
  rw [onInstrument_onInstrument]
  rfl

theorem staleExpires_of_qualifying (qualifying : i.state = .qualifying) (counted : 1 ≤ i.qualify) :
    staleExpires d p = onInstrument d goneStaleQualifying p := by
  unfold staleExpires
  rw [found]
  dsimp only
  rw [if_neg (by simpa using armed), qualifying]
  dsimp only
  rw [if_pos counted, onInstrument_onInstrument]
  rfl

theorem staleExpires_of_fault (fault : i.state = .stationFault) : staleExpires d p = onInstrument d goneStale p := by
  unfold staleExpires
  rw [found]
  dsimp only
  rw [if_neg (by simpa using armed), fault]
  dsimp only
  rw [onInstrument_onInstrument]
  rfl

/-- A VALID instrument gone stale: no other instrument changes, and INSTRUMENT_STALE is counted. -/
theorem staleExpires_instruments_of_valid (valid : i.state = .valid) :
    instruments (staleExpires d p).meas = ((instruments p.meas).map fun y => if y.1 = d then (y.1, goneStale y.2) else y) ∧
      (staleExpires d p).fc.counts[3]? = (p.fc.counts[3]?).map bump := by
  rw [staleExpires_of_valid found armed valid]
  have gone : instruments (report .instrumentStale (instrumentFault d) (onInstrument d goneStale p)).meas =
      (instruments p.meas).map fun y => if y.1 = d then (y.1, goneStale y.2) else y := by
    rw [report_meas]
    exact onInstrument_instruments d goneStale p
  have mem : (d, goneStale i) ∈ instruments (report .instrumentStale (instrumentFault d) (onInstrument d goneStale p)).meas := by
    rw [gone]
    exact List.mem_map.2 ⟨(d, i), (instrument?_mem found).1, if_pos rfl⟩
  obtain ⟨same, counts⟩ := refreshPlace_of_not_valid mem fun j listed => by
    rw [gone] at listed
    obtain ⟨y, _, is_j⟩ := List.mem_map.1 listed
    by_cases own : y.1 = d
    · rw [if_pos own] at is_j
      rw [← (Prod.mk.inj is_j).2]
      exact InstrumentState.noConfusion
    · rw [if_neg own] at is_j
      exact absurd (congrArg Prod.fst is_j) own
  exact ⟨same.trans gone, counts.trans (report_counts_same .instrumentStale _ _)⟩

end

/-! ### Zones with their instruments changed -/

/-- A zone with its instruments changed by `g`, which is told each one's name. -/
def mapZone (g : InstrumentId → Instrument → Instrument) (z : ZoneRec) : ZoneRec :=
  { z with o1 := g ⟨.opacity, zoneNum z.num 1⟩ z.o1, o2 := g ⟨.opacity, zoneNum z.num 2⟩ z.o2,
           t1 := g ⟨.temperature, zoneNum z.num 1⟩ z.t1, t2 := g ⟨.temperature, zoneNum z.num 2⟩ z.t2 }

theorem zones_mapInstruments (g : InstrumentId → Instrument → Instrument) (m : MeasurementUnit) :
    (mapInstruments g m).zones = m.zones.map (mapZone g) := rfl

theorem zone?_onInstrument {d : InstrumentId} {g : Instrument → Instrument} {n : Nat} {z : ZoneRec} {p : Part}
    (found : p.zone? n = some z) :
    (onInstrument d g p).zone? n = some (mapZone (fun j i => if j = d then g i else i) z) := by
  unfold Part.zone? at *
  rw [onInstrument_meas, zones_mapInstruments, List.find?_map]
  exact congrArg (Option.map _) found

theorem zoneEntry_isSome (p : Part) (n : Nat) : (p.zoneEntry n).isSome = p.zoneEntries.any fun e => e.num == n :=
  List.isSome_find?

/-- A zone found when the event is over, the clearing ended by it or not. -/
theorem zone?_finish_of_reg {n : Nat} {z : ZoneRec} {p : Part} {g : IncidentRegister} (same : p.reg = g)
    [decides : Decidable (g.record.state = .clearing ∧ (finish p).reg.record.state = .quiet)] (found : p.zone? n = some z) :
    (finish p).zone? n = some
      (if g.record.state = .clearing ∧ (finish p).reg.record.state = .quiet then Rule.alarmCleared z else z) := by
  subst same
  exact @zone?_finish n z p decides found

/-- A VALID instrument of a zone gone stale: the zone recomputed, the Register as it was (R53, R55). -/
theorem staleExpires_zone {d : InstrumentId} {i : Instrument} {z : ZoneRec} {p : Part} (found : instrument? p d = some i)
    (armed : i.stale ≠ none) (valid : i.state = .valid) (other : d.cls ≠ .velocity)
    (configured : (p.zoneEntry (placeOf d)).isSome = true) (located : p.zone? (placeOf d) = some z) :
    let z' := recomputed (mapZone (fun j i => if j = d then goneStale i else i) z)
    (staleExpires d p).reg = p.reg ∧ (staleExpires d p).zone? (placeOf d) = some z' ∧
      (staleExpires d p).fm.zoneTemps = tempsWith (placeOf d) z'.temperature p.fm.zoneTemps := by
  intro z'
  let q : Part := report .instrumentStale (instrumentFault d) (onInstrument d goneStale p)
  have gone : staleExpires d p = recomputeZone (placeOf d) q := by
    rw [staleExpires_of_valid found armed valid]
    unfold refreshPlace
    cases velocity : d.cls
    case velocity => exact absurd velocity other
    all_goals rfl
  have entry : (q.zoneEntry (placeOf d)).isSome = true := by
    unfold Part.zoneEntry Part.zoneEntries at *
    rwa [show q.mgmt = p.mgmt from report_mgmt _ _ _]
  have located_q : q.zone? (placeOf d) = some (mapZone (fun j i => if j = d then goneStale i else i) z) := by
    have mapped := zone?_onInstrument (d := d) (g := goneStale) located
    unfold Part.zone? at *
    rwa [show q.meas = (onInstrument d goneStale p).meas from report_meas _ _ _]
  rw [gone]
  refine ⟨?_, ?_, ?_⟩
  · rw [show recomputeZone (placeOf d) q = _ from recomputeZone_zonesOnly]
    exact report_reg _ _ _
  · have recomputed_q := zone?_onZone recomputed_num located_q
    unfold Part.zone? at *
    rw [recomputeZone_zones entry]
    exact recomputed_q
  · rw [recomputeZone_zoneTemps entry located_q]
    exact congrArg (fun m : FanManager => tempsWith _ _ m.zoneTemps) (report_fm _ _ _)

/-! ### The zone requalify timer (R60) -/

/-- A zone with no quantity under restart hold. -/
def unheld (z : ZoneRec) : ZoneRec := { z with holdO := false, holdT := false }

/-- The zones when those of a list that are configured have been recomputed. -/
def zonesRefreshed (p : Part) (ns : List Nat) (l : List ZoneRec) : List ZoneRec :=
  l.map fun z => if z.num ∈ ns ∧ (p.zoneEntry z.num).isSome then recomputed z else z

/-- The zone temperatures when the zones of a list have been recomputed and handed on (R55). -/
def tempsRefreshed (p : Part) (ns : List Nat) (l : List ZoneTemp) : List ZoneTemp :=
  l.map fun y => match p.zone? y.zone with
    | some z => if y.zone ∈ ns ∧ (p.zoneEntry y.zone).isSome then { y with value := (recomputed z).temperature } else y
    | none => y

theorem zone?_recomputeZone_of_other {n m : Nat} {p : Part} (other : m ≠ n) :
    (recomputeZone n p).zone? m = p.zone? m := by
  by_cases configured : (p.zoneEntry n).isSome = true
  · unfold Part.zone?
    rw [recomputeZone_zones configured]
    unfold zonesRecomputed
    rw [find?_updWhere fun z => by rw [recomputed_num]]
    cases found : p.meas.zones.find? fun z => z.num == m with
    | none => rfl
    | some z =>
      have own : z.num = m := beq_iff_eq.1 (List.find?_some (p := fun z : ZoneRec => z.num == m) found)
      refine congrArg some (if_neg ?_)
      simpa [own] using other
  · rw [recomputeZone_of_absent (Option.not_isSome_iff_eq_none.1 configured)]

theorem zoneEntry_recomputeZone (n m : Nat) (p : Part) : (recomputeZone n p).zoneEntry m = p.zoneEntry m := by
  rw [zoneEntry_eq, zoneEntry_eq, show recomputeZone n p = _ from recomputeZone_zonesOnly]

theorem recomputeZones_zones (ns : List Nat) (apart : ns.Nodup) (p : Part) :
    (ns.foldl (fun p n => recomputeZone n p) p).meas.zones = zonesRefreshed p ns p.meas.zones := by
  induction ns generalizing p with
  | nil => exact (List.map_id' _).symm.trans (List.map_congr_left fun z _ => by simp)
  | cons n ns ih =>
    obtain ⟨fresh, apart⟩ := List.nodup_cons.1 apart
    rw [List.foldl_cons, ih apart]
    unfold zonesRefreshed
    simp only [zoneEntry_recomputeZone]
    by_cases configured : (p.zoneEntry n).isSome = true
    · rw [recomputeZone_zones configured, zonesRecomputed, updWhere, List.map_map]
      refine List.map_congr_left fun z _ => ?_
      by_cases own : z.num = n
      · subst own
        simp [recomputed_num, fresh, configured]
      · simp [own]
    · rw [recomputeZone_of_absent (Option.not_isSome_iff_eq_none.1 configured)]
      refine List.map_congr_left fun z _ => ?_
      by_cases own : z.num = n
      · subst own
        simp [configured]
      · simp [own]

theorem recomputeZones_zoneTemps (ns : List Nat) (apart : ns.Nodup) (p : Part) :
    (ns.foldl (fun p n => recomputeZone n p) p).fm.zoneTemps = tempsRefreshed p ns p.fm.zoneTemps := by
  induction ns generalizing p with
  | nil =>
    refine (List.map_id' _).symm.trans (List.map_congr_left fun y _ => ?_)
    split <;> simp
  | cons n ns ih =>
    obtain ⟨fresh, apart⟩ := List.nodup_cons.1 apart
    rw [List.foldl_cons, ih apart]
    have handed : (recomputeZone n p).fm.zoneTemps = p.fm.zoneTemps.map fun y => match p.zone? n with
        | some z => if y.zone = n ∧ (p.zoneEntry n).isSome then { y with value := (recomputed z).temperature } else y
        | none => y := by
      by_cases configured : (p.zoneEntry n).isSome = true
      · cases found : p.zone? n with
        | some z =>
          rw [recomputeZone_zoneTemps configured found]
          exact List.map_congr_left fun y _ => if_congr (and_iff_left configured).symm rfl rfl
        | none =>
          have missing : (onZone n recomputed p).zone? n = none := by
            unfold Part.zone? onZone at *
            rw [find?_updWhere fun z => by rw [recomputed_num], found]
            rfl
          rw [recomputeZone_of_entry configured, handTemp, missing]
          exact (List.map_id' _).symm
      · rw [recomputeZone_of_absent (Option.not_isSome_iff_eq_none.1 configured)]
        refine (List.map_id' _).symm.trans (List.map_congr_left fun y _ => ?_)
        split
        · exact (if_neg fun h => configured h.2).symm
        · rfl
    unfold tempsRefreshed
    rw [handed, List.map_map]
    refine List.map_congr_left fun y _ => ?_
    simp only [Function.comp_apply, zoneEntry_recomputeZone]
    by_cases own : y.zone = n
    · subst own
      have stays (x : ZoneTemp) (same : x.zone = y.zone) : (match (recomputeZone y.zone p).zone? x.zone with
          | some z => if x.zone ∈ ns ∧ (p.zoneEntry x.zone).isSome then { x with value := (recomputed z).temperature } else x
          | none => x) = x := by
        split
        · exact if_neg fun h => fresh (same ▸ h.1)
        · rfl
      cases p.zone? y.zone with
      | none => exact stays y rfl
      | some z =>
        refine (stays _ ?_).trans ?_
        · dsimp only
          split <;> rfl
        · dsimp only
          exact if_congr (by simp) rfl rfl
    · have kept : (match p.zone? n with
          | some z => if y.zone = n ∧ (p.zoneEntry n).isSome then { y with value := (recomputed z).temperature } else y
          | none => y) = y := by
        split
        · exact if_neg fun h => own h.1
        · rfl
      rw [kept, zone?_recomputeZone_of_other own]
      simp [own]

end Sys2Proof.Machine
end

section
/-! PROOFS. What the stale timers and the zone requalify timer leave (O19). -/

namespace Sys2Proof.Machine

theorem numbered_of_sixteen {α : Type} {key : α → Nat} {l : List α} (listed : l.map key = sixteen) :
    (l.map key).Nodup := by
  rw [listed]
  decide

/-- The part when the requalify timer has cleared every restart hold (R60). -/
def holdsCleared (p : Part) : Part :=
  { p with meas := { p.meas with requalify := none, zones := p.meas.zones.map unheld } }

/-- The numbers of the zones that had a restart hold. -/
def heldNumbers (p : Part) : List Nat := (p.meas.zones.filter fun z => z.holdO || z.holdT).map (·.num)

theorem requalifyExpires_of_unarmed {p : Part} (unarmed : p.meas.requalify = none) : requalifyExpires p = p :=
  if_pos (by rw [unarmed]; rfl)

theorem requalifyExpires_of_armed {p : Part} (armed : p.meas.requalify ≠ none) :
    requalifyExpires p = (heldNumbers p).foldl (fun p n => recomputeZone n p) (holdsCleared p) :=
  if_neg (by simpa using armed)

theorem recomputeZones_zonesOnly (ns : List Nat) : ∀ p, ZonesOnly p (ns.foldl (fun p n => recomputeZone n p) p) := by
  induction ns with
  | nil => exact fun p => rfl
  | cons n ns ih =>
    intro p
    unfold ZonesOnly at *
    rw [List.foldl_cons, ih, show recomputeZone n p = _ from recomputeZone_zonesOnly]

theorem recomputed_holds (z : ZoneRec) : (recomputed z).holdO = z.holdO ∧ (recomputed z).holdT = z.holdT := by
  unfold recomputed
  extract_lets z'
  split <;> exact ⟨rfl, rfl⟩

theorem alarmCleared_holds (z : ZoneRec) :
    (Rule.alarmCleared z).holdO = z.holdO ∧ (Rule.alarmCleared z).holdT = z.holdT := by
  unfold Rule.alarmCleared
  split <;> exact ⟨rfl, rfl⟩

/-- No zone has a restart hold. -/
def NoneHeld (l : List ZoneRec) : Prop := ∀ z ∈ l, z.holdO = false ∧ z.holdT = false

theorem NoneHeld.map {l : List ZoneRec} {g : ZoneRec → ZoneRec} (h : NoneHeld l)
    (same : ∀ z, (g z).holdO = z.holdO ∧ (g z).holdT = z.holdT) : NoneHeld (l.map g) := by
  intro y mem
  obtain ⟨z, listed, rfl⟩ := List.mem_map.1 mem
  rw [(same z).1, (same z).2]
  exact h z listed

theorem recomputeZones_noneHeld (ns : List Nat) : ∀ p, NoneHeld p.meas.zones →
    NoneHeld (ns.foldl (fun p n => recomputeZone n p) p).meas.zones := by
  induction ns with
  | nil => exact fun p h => h
  | cons n ns ih =>
    refine fun p h => ih _ ?_
    by_cases configured : (p.zoneEntry n).isSome = true
    · rw [recomputeZone_zones configured]
      refine h.map fun z => ?_
      split
      · exact recomputed_holds z
      · exact ⟨rfl, rfl⟩
    · change NoneHeld (recomputeZone n p).meas.zones
      rwa [recomputeZone_of_absent (Option.not_isSome_iff_eq_none.1 configured)]

theorem finish_noneHeld {p : Part} (h : NoneHeld p.meas.zones) : NoneHeld (finish p).meas.zones := by
  obtain ⟨ended, stays⟩ := finish_zones p
  by_cases ends : Ends p (finish p)
  · rw [ended ends]
    exact h.map alarmCleared_holds
  · rwa [(stays ends).1]

/-- With the zones numbered, a zone's number is among those of a filtered part of the list exactly when the zone is. -/
theorem mem_heldNumbers {p : Part} (apart : (p.meas.zones.map (·.num)).Nodup) {z : ZoneRec} (mem : z ∈ p.meas.zones) :
    z.num ∈ heldNumbers p ↔ (z.holdO || z.holdT) = true := by
  refine ⟨fun held => ?_, fun held => List.mem_map.2 ⟨z, List.mem_filter.2 ⟨mem, held⟩, rfl⟩⟩
  obtain ⟨y, filtered, same⟩ := List.mem_map.1 held
  obtain ⟨listed, hold⟩ := List.mem_filter.1 filtered
  rwa [List.inj_on_of_nodup_map apart listed mem same] at hold

theorem heldNumbers_nodup {p : Part} (apart : (p.meas.zones.map (·.num)).Nodup) : (heldNumbers p).Nodup :=
  apart.sublist (List.filter_sublist.map _)

/-- What the expiry makes of a zone: one that had a hold is recomputed without it, if it is configured. -/
def freed (p : Part) (z : ZoneRec) : ZoneRec :=
  if (z.holdO || z.holdT) = true ∧ (p.zoneEntry z.num).isSome = true then recomputed (unheld z) else unheld z

section
variable {p : Part} (armed : p.meas.requalify ≠ none) (apart : (p.meas.zones.map (·.num)).Nodup)

include armed apart

theorem requalifyExpires_zones : (requalifyExpires p).meas.zones = p.meas.zones.map (freed p) := by
  rw [requalifyExpires_of_armed armed, recomputeZones_zones _ (heldNumbers_nodup apart)]
  unfold zonesRefreshed
  rw [show (holdsCleared p).meas.zones = p.meas.zones.map unheld from rfl, List.map_map]
  exact List.map_congr_left fun z mem => if_congr (and_congr (mem_heldNumbers apart mem) Iff.rfl) rfl rfl

theorem requalifyExpires_zoneTemps : (requalifyExpires p).fm.zoneTemps = p.fm.zoneTemps.map fun y =>
    match p.zone? y.zone with
    | some z => if (z.holdO || z.holdT) = true ∧ (p.zoneEntry z.num).isSome = true then
        { y with value := (freed p z).temperature } else y
    | none => y := by
  rw [requalifyExpires_of_armed armed, recomputeZones_zoneTemps _ (heldNumbers_nodup apart)]
  refine List.map_congr_left fun y _ => ?_
  have mapped : (holdsCleared p).zone? y.zone = (p.zone? y.zone).map unheld := by
    unfold Part.zone?
    rw [show (holdsCleared p).meas.zones = p.meas.zones.map unheld from rfl, List.find?_map]
    rfl
  rw [mapped]
  cases found : p.zone? y.zone with
  | none => rfl
  | some z =>
    have own : z.num = y.zone := beq_iff_eq.1 (List.find?_some (p := fun z : ZoneRec => z.num == y.zone) found)
    dsimp only [Option.map_some]
    have listed := mem_heldNumbers apart (List.mem_of_find?_eq_some found)
    rw [← own]
    by_cases held : (z.holdO || z.holdT) = true ∧ (p.zoneEntry z.num).isSome = true
    · rw [if_pos held]
      unfold freed
      rw [if_pos held]
      exact if_pos ⟨listed.2 held.1, held.2⟩
    · rw [if_neg held]
      exact if_neg fun h => held ⟨listed.1 h.1, h.2⟩

end

theorem requalifyExpires_instruments (p : Part) : instruments (requalifyExpires p).meas = instruments p.meas := by
  by_cases armed : p.meas.requalify = none
  · rw [requalifyExpires_of_unarmed armed]
  · rw [requalifyExpires_of_armed armed]
    refine (EventStep.foldl _ (fun p n => recomputeZone_event n p) (heldNumbers p) (holdsCleared p)).instruments.trans ?_
    exact instruments_zones p.meas (p.meas.zones.map unheld) (by rw [List.map_map]; rfl)

/-- Settles O19, from the instrument that its timer finds, its place formed afresh, and the zones that had a hold. -/
theorem staleAndRequalifyExpire : Obligations.StaleAndRequalifyExpire := by
  refine ⟨fun d i s quiet found => ⟨fun unarmed => ?_, fun armed acts => ?_, fun armed valid other numbered => ?_⟩,
    fun s quiet => ⟨fun unarmed => ?_, ?_⟩⟩
  · exact nextWith_of_left (staleExpires_of_unarmed found unarmed) quiet
  · refine ⟨_, rfl, ?_, fun valid => ?_⟩
    · refine (finish_event _).instruments.trans ?_
      change instruments (staleExpires d s.part).meas = _
      rcases acts with valid | ⟨qualifying, counted⟩ | fault
      · rw [(staleExpires_instruments_of_valid found armed valid).1, valid]
        rfl
      · rw [staleExpires_of_qualifying found armed qualifying counted, onInstrument_instruments, qualifying]
        rfl
      · rw [staleExpires_of_fault found armed fault, onInstrument_instruments, fault]
        rfl
    · exact (finish_counts _ (by decide)).trans (staleExpires_instruments_of_valid found armed valid).2
  · intro n z configured located after z'
    have place : placeOf d = n := by
      unfold placeOf
      cases velocity : d.cls
      case velocity => exact absurd velocity other
      all_goals rfl
    have own : z.num = n := beq_iff_eq.1 (List.find?_some (p := fun y : ZoneRec => y.num == n) located)
    have same : recomputed (mapZone (fun j i => if j = d then goneStale i else i) z) = z' := by
      have each (cls : InstrumentClass) (slot : Nat) (j : Instrument) :
          (if (⟨cls, zoneNum n slot⟩ : InstrumentId) = d then goneStale j else j) = after cls slot j :=
        if_congr eq_comm rfl rfl
      rw [recomputed_rule, mapZone, own, each, each, each, each, ← own]
    obtain ⟨reg, zone, temps⟩ := staleExpires_zone found armed valid other
      (by rw [place, zoneEntry_isSome]; exact configured) (by rw [place]; exact located)
    rw [place, same] at zone temps
    exact ⟨_, rfl, zone?_finish_of_reg reg zone, (finish_zoneTemps _).trans temps⟩
  · exact nextWith_of_left (requalifyExpires_of_unarmed unarmed) quiet
  · have event : EventStep (requalifyExpires s.part) (finish (requalifyExpires s.part)) := finish_event _
    have zones_only : requalifyExpires s.part = { s.part with
        meas := { s.part.meas with requalify := none, zones := (requalifyExpires s.part).meas.zones }
        fm := (requalifyExpires s.part).fm, handOns := (requalifyExpires s.part).handOns } := by
      by_cases armed : s.part.meas.requalify = none
      · rw [requalifyExpires_of_unarmed armed, ← armed]
      · rw [requalifyExpires_of_armed armed]
        exact recomputeZones_zonesOnly (heldNumbers s.part) (holdsCleared s.part)
    have reg : (requalifyExpires s.part).reg = s.part.reg := by rw [zones_only]
    refine ⟨_, rfl, ?_, fun armed => ?_, ?_, ?_, ?_⟩
    · change (finish (requalifyExpires s.part)).meas.requalify = none
      rw [event.meas, zones_only]
    · refine finish_noneHeld (p := requalifyExpires s.part) ?_
      rw [requalifyExpires_of_armed armed]
      refine recomputeZones_noneHeld _ _ fun z mem => ?_
      obtain ⟨y, _, rfl⟩ := List.mem_map.1 mem
      exact ⟨rfl, rfl⟩
    · change (finish (requalifyExpires s.part)).meas.points = _
      rw [event.meas, zones_only]
    · exact event.instruments.trans (requalifyExpires_instruments s.part)
    · intro armed numbered ended held freed'
      have apart := numbered_of_sixteen (key := ZoneRec.num) numbered.2
      have condition (z : ZoneRec) : ((z.holdO || z.holdT) = true ∧ (s.part.zoneEntry z.num).isSome = true) ↔ held z = true := by
        rw [zoneEntry_isSome]
        exact (Bool.and_eq_true _ _).symm ▸ Iff.rfl
      have same (z : ZoneRec) : freed s.part z = freed' z := by
        unfold freed
        rw [recomputed_rule]
        exact if_congr (condition z) rfl rfl
      constructor
      · obtain ⟨ends, stays⟩ := finish_zones (requalifyExpires s.part)
        have zones := requalifyExpires_zones armed apart
        rw [show freed s.part = freed' from funext same] at zones
        have same_end : Ends (requalifyExpires s.part) (finish (requalifyExpires s.part)) ↔ ended := by
          unfold Ends
          rw [reg]
        by_cases done : Ends (requalifyExpires s.part) (finish (requalifyExpires s.part))
        · refine (ends done).trans ?_
          rw [zones, List.map_map]
          exact List.map_congr_left fun z _ => (if_pos (same_end.1 done)).symm
        · refine (congrArg MeasurementUnit.zones (stays done).1).trans (zones.trans ?_)
          exact List.map_congr_left fun z _ => (if_neg (mt same_end.2 done)).symm
      · refine (finish_zoneTemps _).trans ((requalifyExpires_zoneTemps armed apart).trans ?_)
        refine List.map_congr_left fun y _ => ?_
        rw [Part.zone?]
        cases s.part.meas.zones.find? fun z => z.num == y.zone with
        | none => rfl
        | some z =>
          dsimp only
          rw [same]
          exact if_congr (condition z) rfl rfl

end Sys2Proof.Machine
end

section
/-! PROOFS. Readings applied, and the evaluation of a zone (R37 to R41, R51, R52, R55, R69, R113). -/

namespace Sys2Proof.Machine

/-! ### One reading -/

/-- Whether an instrument with its name is the one for a reading: it has the reading's source and is not ABSENT (R37). -/
def namedBy (source : Nat) (r : Reading) (x : InstrumentId × Instrument) : Bool :=
  x.2.source == some ⟨source, r.channel⟩ && x.2.state != .absent

section
variable {source : Nat} {r : Reading} {x : InstrumentId × Instrument} {p : Part} {t : Touched}

theorem takeReading_of_unmatched (unmatched : (instruments p.meas).find? (namedBy source r) = none) :
    takeReading source (p, t) r = ({ p with meas := { p.meas with unmatched := bump p.meas.unmatched } }, t) := by
  unfold namedBy at unmatched
  unfold takeReading
  dsimp only
  rw [unmatched]

variable (named : (instruments p.meas).find? (namedBy source r) = some x)

include named

theorem takeReading_of_mismatch (other : r.quantity ≠ x.1.cls) : takeReading source (p, t) r =
    ({ p with meas := { p.meas with mismatches := bump p.meas.mismatches } }, t) := by
  unfold namedBy at named
  unfold takeReading
  dsimp only
  rw [named]
  exact if_pos (bne_iff_ne.2 other)

variable (same : r.quantity = x.1.cls)

include same

theorem takeReading_of_rejected (rejected : x.2.state = .rejected) : takeReading source (p, t) r =
    ({ p with meas := { p.meas with ignored := bump p.meas.ignored } }, t) := by
  unfold namedBy at named
  unfold takeReading
  dsimp only
  rw [named]
  dsimp only
  rw [if_neg (by simp [same]), if_pos (by simp [rejected])]

variable (live : x.2.state ≠ .rejected)

include live

/-- A reading applied to a velocity instrument has its point voted. -/
theorem takeReading_of_velocity (velocity : x.1.cls = .velocity) : takeReading source (p, t) r =
    (onInstrument x.1 (applyReading p.now p.sections.staleTime x.1.cls r) p,
      { t with points := placeOf x.1 :: t.points }) := by
  unfold namedBy at named
  unfold takeReading
  dsimp only
  rw [named]
  dsimp only
  rw [if_neg (by simp [same]), if_neg (by simp [live]), velocity]

/-- A reading applied to another instrument releases the restart hold of its quantity, where the instrument is VALID, and
has its zone evaluated. -/
theorem takeReading_of_zone (other : x.1.cls ≠ .velocity) : takeReading source (p, t) r =
    (onZone (placeOf x.1) releaseHolds (onInstrument x.1 (applyReading p.now p.sections.staleTime x.1.cls r) p),
      { t with zones := placeOf x.1 :: t.zones }) := by
  unfold namedBy at named
  unfold takeReading
  dsimp only
  rw [named]
  dsimp only
  rw [if_neg (by simp [same]), if_neg (by simp [live])]
  cases velocity : x.1.cls
  case velocity => exact absurd velocity other
  all_goals rfl

end

/-! ### The sample after its readings -/

theorem takeSample_of_untouched {source : Nat} {readings : List Reading} {p q : Part}
    (read : readings.foldl (takeReading source) (p, ⟨[], []⟩) = (q, ⟨[], []⟩)) : takeSample source readings p = q := by
  unfold takeSample
  rw [read]
  rfl

theorem takeSample_of_one_zone {source n : Nat} {readings : List Reading} {p q : Part} (listed : n ∈ sixteen)
    (read : readings.foldl (takeReading source) (p, ⟨[], []⟩) = (q, ⟨[], [n]⟩)) :
    takeSample source readings p = evaluateZone n q := by
  have only : ∀ n ∈ sixteen, sixteen.filter (List.contains [n]) = [n] := by decide
  unfold takeSample
  rw [read]
  dsimp only
  rw [only n listed]
  rfl

/-- With no point to vote, a sample leaves the instruments as its readings do. -/
theorem takeSample_instruments {source : Nat} {readings : List Reading} {p : Part}
    (no_points : (readings.foldl (takeReading source) (p, ⟨[], []⟩)).2.points = []) :
    instruments (takeSample source readings p).meas =
      instruments (readings.foldl (takeReading source) (p, ⟨[], []⟩)).1.meas := by
  unfold takeSample
  generalize readings.foldl (takeReading source) (p, ⟨[], []⟩) = acc at no_points ⊢
  obtain ⟨q, t⟩ := acc
  dsimp only at no_points ⊢
  rw [no_points]
  exact (EventStep.foldl _ (fun p n => evaluateZone_event n p) _ q).instruments

/-! ### The instruments after the readings -/

/-- The instruments after a reading (R37). -/
def readingApplied (now : PartTime) (stale source : Nat) (l : List (InstrumentId × Instrument)) (r : Reading) :
    List (InstrumentId × Instrument) :=
  match l.find? (namedBy source r) with
  | some x => if r.quantity = x.1.cls ∧ x.2.state ≠ .rejected then
      l.map fun y => if y.1 = x.1 then (y.1, Rule.applied now stale x.1.cls r y.2) else y
    else l
  | none => l

theorem releaseHolds_four (z : ZoneRec) : (releaseHolds z).four = z.four := rfl

theorem takeReading_instruments (source : Nat) (r : Reading) (p : Part) (t : Touched) :
    instruments (takeReading source (p, t) r).1.meas =
      readingApplied p.now p.sections.staleTime source (instruments p.meas) r := by
  have read (x : InstrumentId × Instrument) : applyReading p.now p.sections.staleTime x.1.cls r =
      Rule.applied p.now p.sections.staleTime x.1.cls r := funext fun i => applyReading_rule _ _ _ _ i
  unfold readingApplied
  cases named : (instruments p.meas).find? (namedBy source r) with
  | none =>
    rw [takeReading_of_unmatched named]
    rfl
  | some x =>
    dsimp only
    by_cases same : r.quantity = x.1.cls
    · by_cases rejected : x.2.state = .rejected
      · rw [takeReading_of_rejected named same rejected, if_neg fun h => h.2 rejected]
        rfl
      · rw [if_pos ⟨same, rejected⟩]
        by_cases velocity : x.1.cls = .velocity
        · rw [takeReading_of_velocity named same rejected velocity, onInstrument_instruments, read]
        · rw [takeReading_of_zone named same rejected velocity, (onZone_event _ _ _ releaseHolds_four).instruments,
            onInstrument_instruments, read]
    · rw [takeReading_of_mismatch named same, if_neg fun h => same h.1]
      rfl

/-- A reading that is none of velocity has no point voted. -/
theorem takeReading_points {source : Nat} {r : Reading} {p : Part} {t : Touched} (other : r.quantity ≠ .velocity) :
    (takeReading source (p, t) r).2.points = t.points := by
  cases named : (instruments p.meas).find? (namedBy source r) with
  | none => rw [takeReading_of_unmatched named]
  | some x =>
    by_cases same : r.quantity = x.1.cls
    · by_cases rejected : x.2.state = .rejected
      · rw [takeReading_of_rejected named same rejected]
      · rw [takeReading_of_zone named same rejected (same ▸ other)]
    · rw [takeReading_of_mismatch named same]

theorem takeReadings_instruments (source : Nat) (readings : List Reading) (acc : Part × Touched) :
    instruments (readings.foldl (takeReading source) acc).1.meas =
      readings.foldl (readingApplied acc.1.now acc.1.sections.staleTime source) (instruments acc.1.meas) := by
  induction readings generalizing acc with
  | nil => rfl
  | cons r readings ih =>
    obtain ⟨p, t⟩ := acc
    have step := takeReading_step source (p, t) r
    have sections : (takeReading source (p, t) r).1.sections = p.sections := congrArg (fun m : ManagementAgent =>
      ({ p with mgmt := m } : Part).sections) step.mgmt
    rw [List.foldl_cons, List.foldl_cons, ih, step.now, sections, takeReading_instruments]

theorem takeReadings_points {source : Nat} {readings : List Reading} (other : ∀ r ∈ readings, r.quantity ≠ .velocity)
    (acc : Part × Touched) : (readings.foldl (takeReading source) acc).2.points = acc.2.points := by
  induction readings generalizing acc with
  | nil => rfl
  | cons r readings ih =>
    obtain ⟨first, rest⟩ := List.forall_mem_cons.1 other
    rw [List.foldl_cons, ih rest]
    exact takeReading_points first

end Sys2Proof.Machine
end

section
/-! PROOFS. What a reading of a zone's instrument brings about (O17). -/

namespace Sys2Proof.Machine

/-! ### The zone handed to the Incident Register (R69) -/

/-- The part as a zone handed on to the Register in QUIET has raised the alert. -/
def alerted (zone : Nat) (p : Part) : Part :=
  putRecord (.empty .alert) { zoneListed zone p with reg := { (zoneListed zone p).reg with autoDeclare := alertTimer p } }

theorem alerted_reg (zone : Nat) (p : Part) : (alerted zone p).reg =
    { p.reg with record := .empty .alert, detection := p.reg.detection ++ [zone], autoDeclare := alertTimer p } := by
  unfold alerted
  rw [(putRecord_regMeas _ _).1]
  rfl

theorem takeZone_cases (zone : Nat) (p : Part) : takeZone zone p = p ∨ takeZone zone p = zoneListed zone p ∨
    (p.reg.record.state = .quiet ∧ takeZone zone p = alerted zone p) := by
  by_cases listed : zone ∈ p.reg.detection
  · exact .inl (takeZone_of_listed (.inl listed))
  · by_cases full : 16 ≤ p.reg.detection.length
    · exact .inl (takeZone_of_listed (.inr full))
    · have room := Nat.lt_of_not_le full
      by_cases quiet : p.reg.record.state = .quiet
      · exact .inr (.inr ⟨quiet, takeZone_of_quiet listed room quiet⟩)
      · exact .inr (.inl (takeZone_of_not_quiet listed room quiet))

theorem takeZone_meas (zone : Nat) (p : Part) : (takeZone zone p).meas = p.meas := by
  rcases takeZone_cases zone p with same | same | ⟨_, same⟩
  · rw [same]
  · rw [same]
    rfl
  · rw [same, alerted, (putRecord_regMeas _ _).2]
    exact if_neg fun h => IncidentState.noConfusion h.1

theorem takeZone_zoneTemps (zone : Nat) (p : Part) : (takeZone zone p).fm.zoneTemps = p.fm.zoneTemps := by
  rcases takeZone_cases zone p with same | same | ⟨_, same⟩
  · rw [same]
  · rw [same]
    rfl
  · rw [same]
    unfold alerted
    rw [(putRecord_course (.empty .alert) _ IncidentState.noConfusion IncidentState.noConfusion).rest]
    rfl

/-- An alert is no clearing, and it is raised in QUIET only. -/
theorem takeZone_clearing (zone : Nat) (p : Part) :
    (takeZone zone p).reg.record.state = .clearing ↔ p.reg.record.state = .clearing := by
  rcases takeZone_cases zone p with same | same | ⟨quiet, same⟩
  · rw [same]
  · rw [same]
    rfl
  · rw [same, alerted_reg, quiet]
    exact ⟨nofun, nofun⟩

/-- A zone that leaves the record as it is leaves the Fan Manager so. -/
theorem takeZone_fm {zone : Nat} {p : Part} (same_record : (takeZone zone p).reg.record = p.reg.record) :
    (takeZone zone p).fm = p.fm := by
  rcases takeZone_cases zone p with same | same | ⟨quiet, same⟩
  · rw [same]
  · rw [same]
    rfl
  · rw [same, alerted_reg] at same_record
    rw [← same_record] at quiet
    exact IncidentState.noConfusion quiet

theorem takeZone_detection {zone : Nat} {p : Part} (fresh : zone ∉ p.reg.detection) (room : p.reg.detection.length < 16) :
    (takeZone zone p).reg.detection = p.reg.detection ++ [zone] ∧
      (p.reg.record.state = .quiet → (takeZone zone p).reg.record.state = .alert) := by
  by_cases quiet : p.reg.record.state = .quiet
  · rw [takeZone_of_quiet fresh room quiet]
    change (alerted zone p).reg.detection = _ ∧ (_ → (alerted zone p).reg.record.state = _)
    rw [alerted_reg]
    exact ⟨rfl, fun _ => rfl⟩
  · rw [takeZone_of_not_quiet fresh room quiet]
    exact ⟨rfl, fun h => absurd h quiet⟩

/-! ### The zone evaluated (R51, R52) -/

/-- Whether the evaluation brings a zone into ALARM. -/
def EntersAlarm (e : ZoneEntry) (z : ZoneRec) : Prop := z.state ≠ .alarm ∧ (evaluated e z).state = .alarm

/-- The part as the zone is evaluated and, where it has entered ALARM, handed to the Register. -/
def zoneJudged (n : Nat) (e : ZoneEntry) (z : ZoneRec) (p : Part) : Part :=
  if (z.state != .alarm && (evaluated e z).state == .alarm) = true then
    takeZone n (raise .zoneAlarm (onZone n (evaluated e) p))
  else onZone n (evaluated e) p

section
variable {n : Nat} {e : ZoneEntry} {z : ZoneRec} {p : Part}

theorem entersAlarm_iff : (z.state != .alarm && (evaluated e z).state == .alarm) = true ↔ EntersAlarm e z := by
  unfold EntersAlarm
  rw [Bool.and_eq_true, bne_iff_ne, beq_iff_eq]

theorem zoneJudged_of_entered (entered : EntersAlarm e z) :
    zoneJudged n e z p = takeZone n (raise .zoneAlarm (onZone n (evaluated e) p)) := if_pos (entersAlarm_iff.2 entered)

theorem zoneJudged_of_not (not_entered : ¬ EntersAlarm e z) : zoneJudged n e z p = onZone n (evaluated e) p :=
  if_neg (mt entersAlarm_iff.1 not_entered)

theorem zoneJudged_meas : (zoneJudged n e z p).meas = (onZone n (evaluated e) p).meas := by
  unfold zoneJudged
  split
  · rw [takeZone_meas, raise_meas]
  · rfl

theorem zoneJudged_zoneTemps : (zoneJudged n e z p).fm.zoneTemps = p.fm.zoneTemps := by
  unfold zoneJudged
  split
  · rw [takeZone_zoneTemps, raise_fm]
    rfl
  · rfl

theorem zoneJudged_clearing : (zoneJudged n e z p).reg.record.state = .clearing ↔ p.reg.record.state = .clearing := by
  unfold zoneJudged
  split
  · rw [takeZone_clearing, raise_reg]
    rfl
  · rfl

theorem zoneJudged_fm (same : (zoneJudged n e z p).reg.record = p.reg.record) : (zoneJudged n e z p).fm = p.fm := by
  unfold zoneJudged at *
  split
  · next enters =>
    rw [if_pos enters] at same
    rw [takeZone_fm (by rw [same, raise_reg]; rfl), raise_fm]
    rfl
  · rfl

theorem zoneJudged_flags (entered : EntersAlarm e z) : (zoneJudged n e z p).fc.flags &&& 0x0400 = 0x0400 := by
  rw [zoneJudged_of_entered entered]
  exact (takeZone_event _ _).flags.of_mask (raise_flags_and_flagBit .zoneAlarm _)

theorem zoneJudged_detection (entered : EntersAlarm e z) (fresh : n ∉ p.reg.detection)
    (room : p.reg.detection.length < 16) : (zoneJudged n e z p).reg.detection = p.reg.detection ++ [n] ∧
      (p.reg.record.state = .quiet → (zoneJudged n e z p).reg.record.state = .alert) := by
  have same : (raise .zoneAlarm (onZone n (evaluated e) p)).reg = p.reg := raise_reg _ _
  have joined := takeZone_detection (zone := n) (p := raise .zoneAlarm (onZone n (evaluated e) p))
    (by rw [same]; exact fresh) (by rw [same]; exact room)
  rw [same] at joined
  rw [zoneJudged_of_entered entered]
  exact joined

variable (found : p.zone? n = some z)

include found

theorem zone?_zoneJudged : (zoneJudged n e z p).zone? n = some (evaluated e z) := by
  have judged := zone?_onZone (evaluated_num e) found
  unfold Part.zone? at *
  rwa [zoneJudged_meas]

variable (entry : p.zoneEntry n = some e)

include entry

theorem evaluateZone_of_found : evaluateZone n p = handTemp n (zoneJudged n e z p) := by
  unfold evaluateZone
  rw [entry, found]
  rfl

/-- What the evaluation leaves: the zone, its temperature handed on, and the Register as the alarm leaves it. -/
theorem evaluateZone_zone : (evaluateZone n p).zone? n = some (evaluated e z) ∧
    (evaluateZone n p).reg = (zoneJudged n e z p).reg ∧ (evaluateZone n p).fc = (zoneJudged n e z p).fc ∧
    (evaluateZone n p).fm.zoneTemps = tempsWith n (evaluated e z).temperature p.fm.zoneTemps := by
  have judged := zone?_zoneJudged (e := e) found
  have handed : handTemp n (zoneJudged n e z p) = _ := handTemp_fansOnly n _
  rw [evaluateZone_of_found found entry]
  refine ⟨?_, ?_, ?_, ?_⟩
  · rw [handed]
    exact judged
  · rw [handed]
  · rw [handed]
  · rw [handTemp_zoneTemps judged, zoneJudged_zoneTemps]

end

/-! ### The heat-exposed marks (R113) -/

theorem target_of_held {r : IncidentRecord} (held : r.id ≠ 0) : target r = r.dir := if_neg (by simpa using held)

theorem isExposed_rule {r : IncidentRecord} (held : r.id ≠ 0) (temp : Option Int) (e : FanEntry) :
    isExposed r temp e = Rule.exposed r temp e := by
  unfold isExposed Rule.exposed isDownstream
  rw [if_neg (by simpa using held), target_of_held held] <;> rfl

theorem zoneTempOf_tempsWith {n : Nat} {v : Option Int} {m : FanManager} (listed : n ∈ m.zoneTemps.map (·.zone)) :
    zoneTempOf { m with zoneTemps := tempsWith n v m.zoneTemps } n = v := by
  have same (l : List ZoneTemp) : tempsWith n v l = updWhere (fun y => y.zone == n) (fun y => { y with value := v }) l :=
    List.map_congr_left fun y _ => if_congr beq_iff_eq.symm rfl rfl
  obtain ⟨y, found⟩ : ∃ y, m.zoneTemps.find? (fun y => y.zone == n) = some y := by
    rw [← Option.isSome_iff_exists, List.isSome_find?]
    obtain ⟨y, mem, own⟩ := List.mem_map.1 listed
    exact List.any_eq_true.2 ⟨y, mem, beq_iff_eq.2 own⟩
  have own : (y.zone == n) = true := List.find?_some (p := fun y : ZoneTemp => y.zone == n) found
  have located : (tempsWith n v m.zoneTemps).find? (fun y => y.zone == n) = some { y with value := v } := by
    rw [same, find?_updWhere (k := fun y : ZoneTemp => y.zone == n) (g := fun y : ZoneTemp => { y with value := v })
      (fun _ => rfl), found]
    exact congrArg some (if_pos own)
  unfold zoneTempOf
  rw [located]

theorem testNewHeat_marks (before : List FanRec) (p : Part) : MarksKept p (testNewHeat before p) :=
  MarksKept.foldl _ (fun p n => testUnwanted_marks n p) _ p

/-- A temperature handed on marks the fans of its zone found heat-exposed. -/
theorem takeZoneTemp_heat {zone m : Nat} {value : Option Int} {p : Part} {f : FanRec}
    (listed : zone ∈ p.fm.zoneTemps.map (·.zone)) (held : p.fm.record.id ≠ 0) (found : p.fan? m = some f) :
    ∃ f', (takeZoneTemp zone value p).fan? m = some f' ∧
      f'.heat = (f.heat || (f.e.zone == zone && Rule.exposed p.fm.record value f.e)) := by
  let q : Part := { p with fm := { p.fm with zoneTemps := p.fm.zoneTemps.map fun z =>
    if z.zone == zone then { z with value := value } else z } }
  let marked : Part := judgeHeat (fun f => f.e.zone == zone) q
  have taken : takeZoneTemp zone value p = fanTail (testNewHeat p.fm.fans marked) := if_neg (by simpa using held)
  have temps : q.fm = { p.fm with zoneTemps := tempsWith zone value p.fm.zoneTemps } := by
    unfold q tempsWith
    simp only [beq_iff_eq]
  have temp : zoneTempOf q.fm zone = value := temps ▸ zoneTempOf_tempsWith listed
  have marked_f : marked.fan? m = some (if (f.e.zone == zone) = true then
      { f with heat := f.heat || isExposed q.fm.record (zoneTempOf q.fm f.e.zone) f.e } else f) := by
    have old : q.fm.fans.find? (fun f => f.e.num == m) = some f := found
    unfold marked judgeHeat Part.fan?
    dsimp only
    rw [find?_updWhere (k := fun f : FanRec => f.e.num == m) (g := fun f : FanRec =>
      { f with heat := f.heat || isExposed q.fm.record (zoneTempOf q.fm f.e.zone) f.e }) (fun _ => rfl), old]
    rfl
  have kept : MarksKept marked (fanTail (testNewHeat p.fm.fans marked)) := (fanTail_marks _).after (testNewHeat_marks _ _)
  obtain ⟨f', found', marks⟩ := kept.fan?_isSome marked_f
  have heat : f'.heat = _ := congrArg (fun m : FanEntry × Bool × Bool × Bool × Bool × Option LastReport => m.2.2.1) marks
  rw [taken]
  refine ⟨f', found', heat.trans ?_⟩
  by_cases own : f.e.zone = zone
  · rw [if_pos (beq_iff_eq.2 own), own, temp, isExposed_rule (show q.fm.record.id ≠ 0 from held)]
    simp
    rfl
  · rw [if_neg (by simpa using own)]
    simp [marksOf, own]

end Sys2Proof.Machine
end

section
/-! PROOFS. Readings applied to the instruments (O17). -/

namespace Sys2Proof.Machine

/-- The part as a reading has been applied to a zone's instrument, the zone not yet evaluated. -/
def zoneRead (x : InstrumentId × Instrument) (r : Reading) (p : Part) : Part :=
  onZone (placeOf x.1) releaseHolds (onInstrument x.1 (applyReading p.now p.sections.staleTime x.1.cls r) p)

/-- The zone of it, its instrument read and the restart hold of its quantity released where one is VALID (R60). -/
def readZone (x : InstrumentId × Instrument) (r : Reading) (p : Part) (z : ZoneRec) : ZoneRec :=
  releaseHolds (mapZone (fun j i => if j = x.1 then applyReading p.now p.sections.staleTime x.1.cls r i else i) z)

section
variable {source : Nat} {r : Reading} {x : InstrumentId × Instrument} {p : Part}

theorem takeSample_single {q : Part} (read : takeReading source (p, ⟨[], []⟩) r = (q, ⟨[], []⟩)) :
    takeSample source [r] p = q := takeSample_of_untouched read

variable {e : ZoneEntry} {z : ZoneRec}

theorem zone?_zoneRead (located : p.zone? (placeOf x.1) = some z) :
    (zoneRead x r p).zone? (placeOf x.1) = some (readZone x r p z) :=
  zone?_onZone (fun _ => rfl) (zone?_onInstrument located)

theorem takeSample_of_zone (named : (instruments p.meas).find? (namedBy source r) = some x)
    (same : r.quantity = x.1.cls) (live : x.2.state ≠ .rejected) (other : x.1.cls ≠ .velocity)
    (listed : placeOf x.1 ∈ sixteen) :
    takeSample source [r] p = evaluateZone (placeOf x.1) (zoneRead x r p) :=
  takeSample_of_one_zone listed (takeReading_of_zone named same live other)

end

/-- When the event is over, the part after the evaluation: the Register as the alarm has left it, or the clearing ended. -/
theorem finish_evaluated {n : Nat} {e : ZoneEntry} {z : ZoneRec} {p : Part} (found : p.zone? n = some z)
    (entry : p.zoneEntry n = some e) :
    (Ends (evaluateZone n p) (finish (evaluateZone n p)) ↔
      p.reg.record.state = .clearing ∧ (finish (evaluateZone n p)).reg.record.state = .quiet) ∧
    (¬ Ends (evaluateZone n p) (finish (evaluateZone n p)) →
      (finish (evaluateZone n p)).reg = (zoneJudged n e z p).reg ∧
        MarksKept (evaluateZone n p) (finish (evaluateZone n p))) := by
  obtain ⟨_, reg, _, _⟩ := evaluateZone_zone found entry
  refine ⟨?_, fun stays => ?_⟩
  · unfold Ends
    rw [reg, zoneJudged_clearing]
  · obtain ⟨_, kept_reg, marks⟩ := (finish_zones (evaluateZone n p)).2 stays
    exact ⟨kept_reg.trans reg, marks⟩

/-- The marks of the fans when the event is over and the record as before (R113). -/
theorem finish_evaluated_heat {n m : Nat} {e : ZoneEntry} {z : ZoneRec} {p : Part} {f : FanRec}
    (found : p.zone? n = some z) (entry : p.zoneEntry n = some e) (listed : n ∈ p.fm.zoneTemps.map (·.zone))
    (held : p.fm.record.id ≠ 0) (same : (finish (evaluateZone n p)).reg.record = p.reg.record)
    (located : p.fan? m = some f) :
    ∃ f', (finish (evaluateZone n p)).fan? m = some f' ∧
      f'.heat = (f.heat || (f.e.zone == n && Rule.exposed p.fm.record (evaluated e z).temperature f.e)) := by
  obtain ⟨ends_iff, stays⟩ := finish_evaluated found entry
  have keeps : ¬ Ends (evaluateZone n p) (finish (evaluateZone n p)) := fun ends => by
    obtain ⟨clearing, quiet⟩ := ends_iff.1 ends
    rw [same, clearing] at quiet
    exact IncidentState.noConfusion quiet
  obtain ⟨reg, marks⟩ := stays keeps
  have fm : (zoneJudged n e z p).fm = p.fm := zoneJudged_fm (by rw [← reg, same])
  have judged := zone?_zoneJudged (e := e) found
  have handed : evaluateZone n p = takeZoneTemp n (evaluated e z).temperature (zoneJudged n e z p) := by
    rw [evaluateZone_of_found found entry]
    unfold handTemp
    rw [judged]
  have located_judged : (zoneJudged n e z p).fan? m = some f := by
    unfold Part.fan? at *
    rwa [fm]
  obtain ⟨g, found_g, heat⟩ := takeZoneTemp_heat (value := (evaluated e z).temperature) (by rw [fm]; exact listed)
    (by rw [fm]; exact held) located_judged
  rw [← handed] at found_g
  obtain ⟨f', found', same_marks⟩ := marks.fan?_isSome found_g
  have heat' : f'.heat = g.heat :=
    congrArg (fun m : FanEntry × Bool × Bool × Bool × Bool × Option LastReport => m.2.2.1) same_marks
  rw [fm] at heat
  exact ⟨f', found', heat'.trans heat⟩

/-- A single reading that is not applied is counted, and has no other effect. -/
theorem exec_sample_of_untouched {source : Nat} {r : Reading} {s : State} {q : Part} (quiet : Quiescent s)
    (same_handOns : q.handOns = s.part.handOns)
    (read : takeReading source (s.part, ⟨[], []⟩) r = (q, ⟨[], []⟩)) :
    exec (.sample source [r]) s = nextPart s q :=
  (show exec (.sample source [r]) s = nextWith (takeSample source [r]) s from rfl).trans
    (nextWith_of_left (takeSample_single read) (same_handOns.trans quiet))

/-- Settles O17, from what a reading does and the evaluation of the zone that it touches. -/
theorem readingApplied_holds : Obligations.ReadingApplied := by
  refine ⟨fun source r s quiet => ?single, fun source readings s quiet other => ?several,
    fun source r x e z s quiet numbered named other same live => ?zone⟩
  case single =>
    intro m named becomes
    exact ⟨fun unmatched => exec_sample_of_untouched quiet rfl (takeReading_of_unmatched unmatched),
      fun x is_x => ⟨fun other => exec_sample_of_untouched quiet rfl (takeReading_of_mismatch is_x other),
        fun same rejected => exec_sample_of_untouched quiet rfl (takeReading_of_rejected is_x same rejected)⟩⟩
  case several =>
    refine ⟨_, rfl, (finish_event _).instruments.trans ?_⟩
    refine (takeSample_instruments (takeReadings_points other _)).trans ?_
    exact takeReadings_instruments source readings (s.part, ⟨[], []⟩)
  case zone =>
    intro n entry located after valid o1 o2 t1 t2 z' entered g
    have place : placeOf x.1 = n := by
      unfold placeOf
      cases velocity : x.1.cls
      case velocity => exact absurd velocity other
      all_goals rfl
    have own : z.num = n := beq_iff_eq.1 (List.find?_some (p := fun y : ZoneRec => y.num == n) located)
    have listed : n ∈ sixteen := by
      rw [← numbered.2, ← own]
      exact List.mem_map_of_mem (List.mem_of_find?_eq_some located)
    let q : Part := zoneRead x r s.part
    have found : q.zone? n = some (readZone x r s.part z) := by
      rw [← place] at located ⊢
      exact zone?_zoneRead located
    have is_event : exec (.sample source [r]) s = .next { s with part := finish (evaluateZone n q) } := by
      have taken := takeSample_of_zone named same live other (by rw [place]; exact listed)
      rw [place] at taken
      change nextWith (takeSample source [r]) s = _
      unfold nextWith
      rw [taken]
    have each (cls : InstrumentClass) (slot : Nat) (i : Instrument) :
        (if (⟨cls, zoneNum z.num slot⟩ : InstrumentId) = x.1 then
          applyReading s.part.now s.part.sections.staleTime x.1.cls r i else i) = after cls slot i := by
      by_cases is_x : x.1 = ⟨cls, zoneNum z.num slot⟩
      · rw [if_pos is_x.symm, applyReading_rule]
        unfold after
        rw [own] at is_x
        rw [if_pos (show x.1 = ⟨cls, 2 * (n - 1) + slot⟩ from is_x), is_x]
      · rw [if_neg fun h => is_x h.symm]
        rw [own] at is_x
        exact (if_neg is_x).symm
    have evaluated_z : evaluated e (readZone x r s.part z) = z' := by
      rw [evaluated_rule]
      unfold readZone mapZone
      dsimp only
      rw [each, each, each, each]
      rfl
    have enters_iff : EntersAlarm e (readZone x r s.part z) ↔ entered := by
      unfold EntersAlarm
      rw [evaluated_z]
      rfl
    have entry_q : q.zoneEntry n = some e := entry
    obtain ⟨zone, reg, fc, temps⟩ := evaluateZone_zone found entry_q
    obtain ⟨ends_iff, stays⟩ := finish_evaluated found entry_q
    rw [evaluated_z] at zone temps
    refine ⟨_, is_event, ?_⟩
    intro ended
    have same_end : Ends (evaluateZone n q) (finish (evaluateZone n q)) ↔ ended := ends_iff
    refine ⟨?_, fun enters => ⟨?_, fun keeps fresh room => ?_⟩, fun no_entry keeps => ?_, ?_, ?_⟩
    · by_cases ends : Ends (evaluateZone n q) (finish (evaluateZone n q))
      · rw [if_pos (same_end.1 ends)]
        have finished := @zone?_finish n z' (evaluateZone n q) (.isTrue ends) zone
        exact finished.trans (congrArg some (if_pos ends))
      · rw [if_neg (mt same_end.2 ends)]
        have finished := @zone?_finish n z' (evaluateZone n q) (.isFalse ends) zone
        exact finished.trans (congrArg some (if_neg ends))
    · have raised : (evaluateZone n q).fc.flags &&& 0x0400 = 0x0400 := by
        rw [fc]
        exact zoneJudged_flags (enters_iff.2 enters)
      have still : (finish (evaluateZone n q)).fc.flags &&& 0x0400 = 0x0400 := (finish_event _).flags.of_mask raised
      change (finish (evaluateZone n q)).fc.flags &&& 0x0400 ≠ 0
      rw [still]
      decide
    · obtain ⟨kept, _⟩ := stays (mt same_end.1 keeps)
      change (finish (evaluateZone n q)).reg.detection = _ ∧ (_ → (finish (evaluateZone n q)).reg.record.state = _)
      rw [kept]
      exact zoneJudged_detection (p := q) (enters_iff.2 enters) fresh room
    · refine ((stays (mt same_end.1 keeps)).1).trans ?_
      rw [zoneJudged_of_not (mt enters_iff.1 no_entry)]
      rfl
    · exact (finish_zoneTemps _).trans temps
    · intro temps_listed held same_record m f located_f
      have has_temp : n ∈ q.fm.zoneTemps.map (·.zone) := by
        rw [show q.fm.zoneTemps.map (·.zone) = sixteen from temps_listed]
        exact listed
      have heat := finish_evaluated_heat found entry_q has_temp held same_record located_f
      rw [evaluated_z] at heat
      exact heat

end Sys2Proof.Machine
end

section
/-! PROOFS. What a sample does elsewhere than at a point (R37, R43 to R47). -/

namespace Sys2Proof.Machine

/-! ### A counter that only rises -/

/-- A fault counter is no lower than it was. -/
def CountRises (k : Nat) (p q : Part) : Prop :=
  ∀ c, p.fc.counts[k]? = some c → ∃ d, q.fc.counts[k]? = some d ∧ c.toNat ≤ d.toNat

section
variable {k : Nat} {p q r : Part}

theorem CountRises.of_same (same : q.fc.counts[k]? = p.fc.counts[k]?) : CountRises k p q :=
  fun c found => ⟨c, same.trans found, Nat.le_refl _⟩

theorem CountRises.trans (h : CountRises k p q) (j : CountRises k q r) : CountRises k p r := by
  intro c found
  obtain ⟨d, found_d, le⟩ := h c found
  obtain ⟨e, found_e, le'⟩ := j d found_d
  exact ⟨e, found_e, Nat.le_trans le le'⟩

theorem report_countRises (kind : FaultKind) (o : FaultObject) (p : Part) : CountRises k p (report kind o p) := by
  by_cases own : k = faultCode kind - 1
  · subst own
    intro c found
    refine ⟨bump c, ?_, le_bump c⟩
    rw [report_counts_same, found]
    rfl
  · exact .of_same (report_counts_other own o p)

theorem raise_countRises (f : EventFlag) (p : Part) : CountRises k p (raise f p) := .of_same (by rw [raise_fc])

end

theorem bump_toNat (c : Counter) : (bump c).toNat = min (c.toNat + 1) 65535 := by
  have small := c.isLt
  unfold bump satAdd
  split
  · rw [BitVec.toNat_ofNat]
    omega
  · change 65535 = _
    omega

theorem bump_mono {c d : Counter} (le : c.toNat ≤ d.toNat) : (bump c).toNat ≤ (bump d).toNat := by
  rw [bump_toNat, bump_toNat]
  omega

/-! ### A point left as it is -/

/-- The Measurement Unit acts elsewhere than at a point, and INSTRUMENT_REJECTED is counted no lower. -/
structure OffPoint (n : Nat) (p q : Part) : Prop extends MeasStep p q where
  point : q.point? n = p.point? n
  rejects : CountRises 10 p q

section
variable {n : Nat} {p q r : Part}

theorem OffPoint.refl (p : Part) : OffPoint n p p := ⟨.refl p, rfl, .of_same rfl⟩

theorem OffPoint.trans (h : OffPoint n p q) (k : OffPoint n q r) : OffPoint n p r :=
  ⟨h.toMeasStep.trans k.toMeasStep, k.point.trans h.point, h.rejects.trans k.rejects⟩

theorem OffPoint.after (k : OffPoint n q r) (h : OffPoint n p q) : OffPoint n p r := h.trans k

theorem OffPoint.ite {c : Prop} [Decidable c] {a b : Part} (ha : OffPoint n p a) (hb : OffPoint n p b) :
    OffPoint n p (if c then a else b) := by
  split
  · exact ha
  · exact hb

theorem OffPoint.foldl {α : Type} (g : Part → α → Part) (l : List α) (step : ∀ a ∈ l, ∀ p, OffPoint n p (g p a)) :
    ∀ p, OffPoint n p (l.foldl g p) := by
  induction l with
  | nil => exact .refl
  | cons a l ih =>
    obtain ⟨first, rest⟩ := List.forall_mem_cons.1 step
    exact fun p => (first p).trans (ih rest _)

theorem OffPoint.of_meas {m : MeasurementUnit} (same : m.points.find? (fun y => y.num == n) = p.point? n) :
    OffPoint n p { p with meas := m } := ⟨meas_step m p, same, .of_same rfl⟩

theorem raise_offPoint (f : EventFlag) (p : Part) : OffPoint n p (raise f p) :=
  ⟨raised f p, by unfold Part.point?; rw [raise_meas], raise_countRises f p⟩

theorem report_offPoint (kind : FaultKind) (o : FaultObject) (p : Part) : OffPoint n p (report kind o p) :=
  ⟨reported kind o p, by unfold Part.point?; rw [report_meas], report_countRises kind o p⟩

/-- A point with its instruments changed by `g`, which is told each one's name. -/
def mapPoint (g : InstrumentId → Instrument → Instrument) (q : PointRec) : PointRec :=
  q.mapSlots fun k i => g ⟨.velocity, velocityNum q.num k⟩ i

theorem point?_onInstrument (d : InstrumentId) (g : Instrument → Instrument) (n : Nat) (p : Part) :
    (onInstrument d g p).point? n = (p.point? n).map (mapPoint fun j i => if j = d then g i else i) := by
  unfold Part.point? onInstrument mapInstruments
  dsimp only
  rw [List.find?_map]
  rfl

/-- An instrument that is none of a point's. -/
def NotOf (n : Nat) (d : InstrumentId) : Prop :=
  ∀ k, k = 1 ∨ k = 2 ∨ k = 3 → (⟨.velocity, velocityNum n k⟩ : InstrumentId) ≠ d

theorem mapPoint_of_notOf {d : InstrumentId} {q : PointRec} (other : NotOf q.num d) (g : Instrument → Instrument) :
    mapPoint (fun j i => if j = d then g i else i) q = q := by
  unfold mapPoint PointRec.mapSlots
  dsimp only
  rw [if_neg (other 1 (by simp)), if_neg (other 2 (by simp)), if_neg (other 3 (by simp))]

theorem point?_num {q : PointRec} (found : p.point? n = some q) : q.num = n :=
  beq_iff_eq.1 (List.find?_some (p := fun y : PointRec => y.num == n) found)

theorem onInstrument_offPoint {d : InstrumentId} (other : NotOf n d) (g : Instrument → Instrument) (p : Part) :
    OffPoint n p (onInstrument d g p) := by
  refine .of_meas ((point?_onInstrument d g n p).trans ?_)
  cases found : p.point? n with
  | none => rfl
  | some q => exact congrArg some (mapPoint_of_notOf (by rw [point?_num found]; exact other) g)

theorem onPoint_offPoint {m : Nat} (other : m ≠ n) {g : PointRec → PointRec} (same : ∀ q, (g q).num = q.num)
    (p : Part) : OffPoint n p (onPoint m g p) := by
  refine .of_meas ?_
  dsimp only
  rw [find?_updWhere (k := fun y : PointRec => y.num == n) fun q => by rw [same]]
  change (p.point? n).map _ = _
  cases found : p.point? n with
  | none => rfl
  | some q =>
    have own := point?_num found
    exact congrArg some (if_neg (by rw [own]; simpa using Ne.symm other))

theorem rejectInstrument_offPoint {d : InstrumentId} (other : NotOf n d) (p : Part) :
    OffPoint n p (rejectInstrument d p) :=
  ((raise_offPoint _ _).after (report_offPoint _ _ _)).after
    (onInstrument_offPoint other (fun i => { i with state := .rejected, stale := none }) p)

theorem losePoint_offPoint {m : Nat} (other : m ≠ n) (p : Part) : OffPoint n p (losePoint m p) :=
  ((raise_offPoint _ _).after (report_offPoint _ _ _)).after (onPoint_offPoint other
    (g := fun q => { q with quality := .unknown, voted := none, holdTimer := none }) (fun _ => rfl) p)

/-- The instruments of one point are none of another's. -/
theorem notOf_of_other {m k : Nat} (other : m ≠ n) (is_m : 1 ≤ m) (is_n : 1 ≤ n) (slot : k = 1 ∨ k = 2 ∨ k = 3) :
    NotOf n ⟨.velocity, velocityNum m k⟩ := by
  intro j slot' same
  have nums : velocityNum n j = velocityNum m k := congrArg InstrumentId.num same
  unfold velocityNum at nums
  omega

theorem mem_slots {q : PointRec} {s : Nat × Instrument} (mem : s ∈ q.slots) : s.1 = 1 ∨ s.1 = 2 ∨ s.1 = 3 := by
  simp only [PointRec.slots, List.mem_cons, List.not_mem_nil, or_false] at mem
  rcases mem with rfl | rfl | rfl
  · exact .inl rfl
  · exact .inr (.inl rfl)
  · exact .inr (.inr rfl)

theorem voteChecks_offPoint {m : Nat} (other : m ≠ n) (is_m : 1 ≤ m) (is_n : 1 ≤ n) (before : PointRec) (p : Part) :
    OffPoint n p (voteChecks m before p) := by
  unfold voteChecks
  extract_lets t a b c judged p1 later p2
  have checked : OffPoint n p p1 :=
    onPoint_offPoint other (g := PointRec.mapSlots (checkStreaks t.tolerance (median a b c) judged)) (fun _ => rfl) p
  have rejected : OffPoint n p1 p2 := OffPoint.foldl _ _ (fun s mem p =>
    rejectInstrument_offPoint (notOf_of_other other is_m is_n (mem_slots (List.mem_filter.1 mem).1)) p) p1
  exact ((OffPoint.ite (raise_offPoint _ p2) (.refl p2)).after rejected).after checked

theorem votePoint_offPoint {m : Nat} (other : m ≠ n) (is_m : 1 ≤ m) (is_n : 1 ≤ n) (p : Part) :
    OffPoint n p (votePoint m p) := by
  refine OffPoint.ite ?_ (.refl p)
  unfold voteOnly
  split
  · exact .refl p
  · next q _ =>
    extract_lets values r hold p1 p2
    have voted : OffPoint n p p1 := onPoint_offPoint other
      (g := fun q => { q with quality := r.1, voted := r.2, holdTimer := hold }) (fun _ => rfl) p
    have told : OffPoint n p1 p2 := .ite (report_offPoint _ _ p1) (.refl p1)
    exact .ite (losePoint_offPoint other p)
      (((OffPoint.ite (voteChecks_offPoint other is_m is_n q p2) (.refl p2)).after told).after voted)

theorem recomputeVm_offPoint (p : Part) : OffPoint n p (recomputeVm p) := by
  refine ⟨recomputeVm_step p, ?_, .of_same (recomputeVm_fc (by decide) p).2⟩
  unfold Part.point?
  rw [recomputeVm_meas]

theorem OffPoint.of_event (h : EventStep p q) (counts : q.fc.counts[10]? = p.fc.counts[10]?) : OffPoint n p q := by
  refine ⟨h.meas', ?_, .of_same counts⟩
  unfold Part.point?
  rw [h.meas]

theorem takeZone_counts {k : Nat} (other : k ≠ 8) (zone : Nat) (p : Part) :
    (takeZone zone p).fc.counts[k]? = p.fc.counts[k]? := by
  rcases takeZone_cases zone p with same | same | ⟨_, same⟩
  · rw [same]
  · rw [same]
    rfl
  · rw [same]
    exact (putRecord_course (.empty .alert) _ IncidentState.noConfusion IncidentState.noConfusion).counts k other

theorem evaluateZone_counts {k : Nat} (other : k ≠ 8) (m : Nat) (p : Part) :
    (evaluateZone m p).fc.counts[k]? = p.fc.counts[k]? := by
  unfold evaluateZone
  split
  · next e z _ _ =>
    dsimp only
    rw [show handTemp m _ = _ from handTemp_fansOnly m _]
    dsimp only
    split
    · rw [takeZone_counts other, raise_fc]
      rfl
    · rfl
  · rfl

theorem evaluateZone_offPoint (m : Nat) (p : Part) : OffPoint n p (evaluateZone m p) :=
  .of_event (evaluateZone_event m p) (evaluateZone_counts (by decide) m p)

theorem finish_offPoint (p : Part) : OffPoint n p (finish p) := .of_event (finish_event p) (finish_counts p (by decide))

end

end Sys2Proof.Machine
end

section
/-! PROOFS. The vote of a point (R43 to R47). -/

namespace Sys2Proof.Machine

/-! ### The voted value (R44) -/

theorem voteResult_rule (tolerance : Nat) (q : PointRec) (l : List Int) :
    voteResult tolerance q l = Rule.voted tolerance q.quality q.voted l := by
  match l with
  | [] => cases h : q.quality <;> simp [voteResult, Rule.voted, usable, h]
  | [a] => rfl
  | [a, b] =>
    unfold voteResult Rule.voted
    dsimp only
    by_cases near : (a - b).natAbs ≤ tolerance
    · rw [if_pos near, if_pos near]
      rfl
    · rw [if_neg near, if_neg near]
      unfold chooseValue
      cases q.voted with
      | none =>
        dsimp only
        rw [← ite_not]
        simp only [Nat.not_lt]
      | some v =>
        dsimp only
        rw [← ite_not]
        simp only [Nat.not_lt]
  | [a, b, c] => rfl
  | a :: b :: c :: d :: l => cases h : q.quality <;> simp [voteResult, Rule.voted, usable, h]

/-! ### The checks of a three-instrument vote (R46, R47) -/

/-- The three values are large enough for the polarity check. -/
def PolarityJudged (threshold : Nat) (a b c : Int) : Prop := threshold ≤ a.natAbs ∧ threshold ≤ b.natAbs ∧ threshold ≤ c.natAbs

/-- A value is opposed to the other two. -/
def Opposed (v x y : Int) : Prop := (0 < v ∧ x < 0 ∧ y < 0) ∨ (v < 0 ∧ 0 < x ∧ 0 < y)

theorem opposes_iff {v x y : Int} : opposes v x y = true ↔ Opposed v x y := by
  simp [opposes, Opposed, and_assoc]

theorem opposedSlot_none {threshold : Nat} {a b c : Int} :
    opposedSlot threshold a b c = none ↔ ¬ PolarityJudged threshold a b c := by
  simp [opposedSlot, PolarityJudged, and_assoc]

/-- The opposed slot is that of the value opposed to the other two: at most one is. -/
theorem opposedSlot_some {threshold : Nat} {a b c : Int} :
    (opposedSlot threshold a b c = some 1 ↔ PolarityJudged threshold a b c ∧ Opposed a b c) ∧
    (opposedSlot threshold a b c = some 2 ↔ PolarityJudged threshold a b c ∧ Opposed b a c) ∧
    (opposedSlot threshold a b c = some 3 ↔ PolarityJudged threshold a b c ∧ Opposed c a b) := by
  by_cases judged : PolarityJudged threshold a b c
  · have is_judged : (threshold ≤ a.natAbs && threshold ≤ b.natAbs && threshold ≤ c.natAbs) = true := by
      simpa [PolarityJudged, and_assoc] using judged
    unfold opposedSlot
    rw [if_pos is_judged]
    simp only [judged, true_and, Option.some.injEq]
    by_cases first : Opposed a b c
    · have not_second : ¬ Opposed b a c := by unfold Opposed at *; omega
      have not_third : ¬ Opposed c a b := by unfold Opposed at *; omega
      simp [opposes_iff, first, not_second, not_third]
    · by_cases second : Opposed b a c
      · have not_third : ¬ Opposed c a b := by unfold Opposed at *; omega
        simp [opposes_iff, first, second, not_third]
      · by_cases third : Opposed c a b <;> simp [opposes_iff, first, second, third]
  · rw [opposedSlot_none.2 judged]
    simp [judged]

/-- An instrument made REJECTED (R42). -/
def rejected (i : Instrument) : Instrument := { i with state := .rejected, stale := none }

/-- An instrument after its checks, made REJECTED by an outlier streak of 8. -/
def checkedSlot (tolerance : Nat) (mid : Int) (judged : Option Nat) (slot : Nat) (i : Instrument) : Instrument :=
  let w := checkStreaks tolerance mid judged slot i
  if 8 ≤ w.outlier then rejected w else w

/-- The checks of one instrument are those of R46 and R47, whatever finding the polarity check gave its slot. -/
theorem checkedSlot_rule {tolerance threshold slot : Nat} {mid : Int} {finding : Option Nat} {i j k : Instrument}
    (is_mid : mid = median (corrected i) (corrected j) (corrected k))
    (no_finding : finding = none ↔ ¬ PolarityJudged threshold (corrected i) (corrected j) (corrected k))
    (own : finding = some slot ↔ PolarityJudged threshold (corrected i) (corrected j) (corrected k) ∧
      Opposed (corrected i) (corrected j) (corrected k)) :
    checkedSlot tolerance mid finding slot i = Rule.checked tolerance threshold i j k := by
  subst is_mid
  have value (x : Instrument) : (if x.reversed = true then -x.last else x.last) = corrected x := rfl
  unfold checkedSlot checkStreaks Rule.checked
  simp only [value]
  by_cases judged : PolarityJudged threshold (corrected i) (corrected j) (corrected k)
  · by_cases opposed : Opposed (corrected i) (corrected j) (corrected k)
    · rw [own.2 ⟨judged, opposed⟩]
      unfold PolarityJudged at judged
      unfold Opposed at opposed
      simp only [judged, opposed, and_self, true_and, if_true, beq_self_eq_true, Bool.true_and, decide_eq_true_eq]
      by_cases toggled : 3 ≤ i.polarity + 1
      · simp [toggled]
      · simp only [toggled, if_false]
        rfl
    · obtain ⟨found, is_found⟩ := Option.ne_none_iff_exists'.1 fun h => no_finding.1 h judged
      have not_own : (found == slot) = false := beq_eq_false_iff_ne.2 fun same => opposed (own.1 (same ▸ is_found)).2
      have no_slot : (some found == some slot) = false := not_own
      rw [is_found]
      unfold PolarityJudged at judged
      unfold Opposed at opposed
      simp only [no_slot, not_own, judged, opposed, and_self, and_false, false_and, Bool.false_and,
        Bool.false_eq_true, if_false, if_true]
      rfl
  · rw [no_finding.2 judged]
    unfold PolarityJudged at judged
    simp only [judged, false_and, show (none == some slot) = false from rfl, Bool.false_and, Bool.false_eq_true,
      if_false]
    rfl

/-- A point after the checks of a vote in which its instruments had these values. -/
def checkedPoint (t : SectionTable) (before q : PointRec) : PointRec :=
  let a := corrected before.s1
  let b := corrected before.s2
  let c := corrected before.s3
  q.mapSlots (checkedSlot t.tolerance (median a b c) (opposedSlot t.polarity a b c))

theorem checkedPoint_rule (t : SectionTable) (q : PointRec) :
    (checkedPoint t q q).s1 = Rule.checked t.tolerance t.polarity q.s1 q.s2 q.s3 ∧
    (checkedPoint t q q).s2 = Rule.checked t.tolerance t.polarity q.s2 q.s1 q.s3 ∧
    (checkedPoint t q q).s3 = Rule.checked t.tolerance t.polarity q.s3 q.s1 q.s2 := by
  obtain ⟨first, second, third⟩ := opposedSlot_some (threshold := t.polarity) (a := corrected q.s1)
    (b := corrected q.s2) (c := corrected q.s3)
  have none_found := opposedSlot_none (threshold := t.polarity) (a := corrected q.s1) (b := corrected q.s2)
    (c := corrected q.s3)
  have judged_second : PolarityJudged t.polarity (corrected q.s1) (corrected q.s2) (corrected q.s3) ↔
      PolarityJudged t.polarity (corrected q.s2) (corrected q.s1) (corrected q.s3) := and_left_comm
  have judged_third : PolarityJudged t.polarity (corrected q.s1) (corrected q.s2) (corrected q.s3) ↔
      PolarityJudged t.polarity (corrected q.s3) (corrected q.s1) (corrected q.s2) :=
    and_assoc.symm.trans and_comm
  refine ⟨checkedSlot_rule rfl none_found first, checkedSlot_rule ?_ ?_ ?_, checkedSlot_rule ?_ ?_ ?_⟩
  · unfold median
    omega
  · rw [none_found, judged_second]
  · rw [second, judged_second]
  · unfold median
    omega
  · rw [none_found, judged_third]
  · rw [third, judged_third]

/-! ### The rejections (R42, R46) -/

/-- Of a point, the instruments of some slots made REJECTED. -/
def rejectSlots (slots : List Nat) (q : PointRec) : PointRec := q.mapSlots fun k i => if k ∈ slots then rejected i else i

section
variable {n : Nat} {q : PointRec} {p : Part}

theorem point?_rejectInstrument (slot : Nat) (found : p.point? n = some q) :
    (rejectInstrument ⟨.velocity, velocityNum n slot⟩ p).point? n = some (rejectSlots [slot] q) := by
  have mapped := point?_onInstrument ⟨.velocity, velocityNum n slot⟩ rejected n p
  have own (k : Nat) : (⟨.velocity, velocityNum q.num k⟩ : InstrumentId) = ⟨.velocity, velocityNum n slot⟩ ↔ k ∈ [slot] := by
    rw [point?_num found, List.mem_singleton, InstrumentId.mk.injEq, and_iff_right rfl]
    unfold velocityNum
    omega
  have same : mapPoint (fun j i => if j = ⟨.velocity, velocityNum n slot⟩ then rejected i else i) q = rejectSlots [slot] q := by
    unfold mapPoint rejectSlots
    simp only [own]
  unfold rejectInstrument Part.point?
  rw [raise_meas, report_meas]
  change (onInstrument ⟨.velocity, velocityNum n slot⟩ rejected p).point? n = _
  rw [mapped, found, ← same]
  rfl

theorem rejectSlots_rejectSlots (slot : Nat) (slots : List Nat) (q : PointRec) :
    rejectSlots slots (rejectSlots [slot] q) = rejectSlots (slot :: slots) q := by
  have twice (k : Nat) (i : Instrument) : (if k ∈ slots then rejected (if k ∈ [slot] then rejected i else i)
      else if k ∈ [slot] then rejected i else i) = if k ∈ slot :: slots then rejected i else i := by
    by_cases first : k = slot <;> by_cases rest : k ∈ slots <;> simp [first, rest, rejected]
  unfold rejectSlots PointRec.mapSlots
  simp only [twice]

/-- The instruments of the point in some slots rejected, one after the other. -/
def rejectEach (n : Nat) (l : List (Nat × Instrument)) (p : Part) : Part :=
  l.foldl (fun p s => rejectInstrument ⟨.velocity, velocityNum n s.1⟩ p) p

theorem point?_rejectEach (l : List (Nat × Instrument)) (found : p.point? n = some q) :
    (rejectEach n l p).point? n = some (rejectSlots (l.map Prod.fst) q) := by
  unfold rejectEach
  induction l generalizing p q with
  | nil =>
    rw [List.foldl_nil, found]
    rfl
  | cons s l ih =>
    rw [List.foldl_cons, ih (point?_rejectInstrument s.1 found), rejectSlots_rejectSlots]
    rfl

theorem rejectInstrument_counts {k : Nat} (d : InstrumentId) (p : Part) : CountRises k p (rejectInstrument d p) :=
  ((CountRises.of_same (k := k) (q := onInstrument d (fun i => { i with state := .rejected, stale := none }) p) rfl).trans
    (report_countRises _ _ _)).trans (raise_countRises _ _)

theorem rejectEach_counts {k : Nat} (l : List (Nat × Instrument)) (p : Part) : CountRises k p (rejectEach n l p) := by
  unfold rejectEach
  induction l generalizing p with
  | nil => exact .of_same rfl
  | cons s l ih => exact (rejectInstrument_counts _ p).trans (ih _)

theorem rejectEach_step (l : List (Nat × Instrument)) (p : Part) : MeasStep p (rejectEach n l p) :=
  MeasStep.foldl _ (fun p _ => rejectInstrument_step _ p) l p

/-- INSTRUMENT_OUT is raised and INSTRUMENT_REJECTED counted. -/
def RejectionTold (p q : Part) : Prop :=
  q.fc.flags &&& 0x2000 = 0x2000 ∧
    ∀ c, p.fc.counts[10]? = some c → ∃ d, q.fc.counts[10]? = some d ∧ (bump c).toNat ≤ d.toNat

theorem rejectInstrument_told (d : InstrumentId) (p : Part) : RejectionTold p (rejectInstrument d p) := by
  refine ⟨raise_flags_and_flagBit .instrumentOut _, fun c found => ⟨bump c, ?_, Nat.le_refl _⟩⟩
  unfold rejectInstrument
  rw [raise_fc]
  refine (report_counts_same .instrumentRejected _ _).trans ?_
  rw [onInstrument_fc]
  exact congrArg (Option.map bump) found

theorem RejectionTold.trans {q r : Part} (h : RejectionTold p q) (flags : FlagsKept q.fc.flags r.fc.flags)
    (rises : CountRises 10 q r) : RejectionTold p r := by
  refine ⟨flags.of_mask h.1, fun c found => ?_⟩
  obtain ⟨d, found_d, le⟩ := h.2 c found
  obtain ⟨e, found_e, le'⟩ := rises d found_d
  exact ⟨e, found_e, Nat.le_trans le le'⟩

theorem RejectionTold.of_rises {q r : Part} (rises : CountRises 10 p q) (h : RejectionTold q r) : RejectionTold p r := by
  refine ⟨h.1, fun c found => ?_⟩
  obtain ⟨d, found_d, le⟩ := rises c found
  obtain ⟨e, found_e, le'⟩ := h.2 d found_d
  exact ⟨e, found_e, Nat.le_trans (bump_mono le) le'⟩

theorem rejectEach_told {l : List (Nat × Instrument)} (some_rejected : l ≠ []) (p : Part) :
    RejectionTold p (rejectEach n l p) := by
  cases l with
  | nil => exact absurd rfl some_rejected
  | cons s l =>
    exact (rejectInstrument_told _ p).trans (rejectEach_step l _).flags (rejectEach_counts (n := n) l _)

end

end Sys2Proof.Machine
end

section
/-! PROOFS. What a vote leaves of its point (R43 to R47). -/

namespace Sys2Proof.Machine

/-! ### The checks and the rejections together -/

/-- A point after the streaks of the checks, no instrument rejected yet. -/
def streakedPoint (t : SectionTable) (before q : PointRec) : PointRec :=
  let a := corrected before.s1
  let b := corrected before.s2
  let c := corrected before.s3
  q.mapSlots (checkStreaks t.tolerance (median a b c) (opposedSlot t.polarity a b c))

/-- The slots of a point whose outlier streak has reached 8. -/
def outlierSlots (q : PointRec) : List (Nat × Instrument) := q.slots.filter fun s => 8 ≤ s.2.outlier

theorem mem_outlierSlots (q : PointRec) : (1 ∈ (outlierSlots q).map Prod.fst ↔ 8 ≤ q.s1.outlier) ∧
    (2 ∈ (outlierSlots q).map Prod.fst ↔ 8 ≤ q.s2.outlier) ∧ (3 ∈ (outlierSlots q).map Prod.fst ↔ 8 ≤ q.s3.outlier) := by
  simp [outlierSlots, PointRec.slots]

theorem rejectSlots_streakedPoint (t : SectionTable) (before q : PointRec) :
    rejectSlots ((outlierSlots (streakedPoint t before q)).map Prod.fst) (streakedPoint t before q) =
      checkedPoint t before q := by
  obtain ⟨first, second, third⟩ := mem_outlierSlots (streakedPoint t before q)
  unfold rejectSlots PointRec.mapSlots
  simp only [first, second, third]
  rfl

theorem checkStreaks_state (tolerance : Nat) (mid : Int) (judged : Option Nat) (slot : Nat) (i : Instrument) :
    (checkStreaks tolerance mid judged slot i).state = i.state := by
  unfold checkStreaks
  extract_lets
  split <;> rfl

theorem checkedSlot_reversed (tolerance : Nat) (mid : Int) (judged : Option Nat) (slot : Nat) (i : Instrument) :
    (checkedSlot tolerance mid judged slot i).reversed = (checkStreaks tolerance mid judged slot i).reversed := by
  unfold checkedSlot
  extract_lets w
  split <;> rfl

theorem outlier_of_rejected {tolerance slot : Nat} {mid : Int} {judged : Option Nat} {i : Instrument}
    (rejected : (checkedSlot tolerance mid judged slot i).state = .rejected) (valid : i.state = .valid) :
    8 ≤ (checkStreaks tolerance mid judged slot i).outlier := by
  by_contra short
  have kept : checkedSlot tolerance mid judged slot i = checkStreaks tolerance mid judged slot i := if_neg short
  rw [kept, checkStreaks_state, valid] at rejected
  exact InstrumentState.noConfusion rejected

/-- The three instruments of a point are VALID. -/
def AllValid (q : PointRec) : Prop := q.s1.state = .valid ∧ q.s2.state = .valid ∧ q.s3.state = .valid

/-- An instrument of a point is opposed or not as it was not before. -/
def PolarityToggled (before u : PointRec) : Prop :=
  u.s1.reversed ≠ before.s1.reversed ∨ u.s2.reversed ≠ before.s2.reversed ∨ u.s3.reversed ≠ before.s3.reversed

/-- An instrument of a point is REJECTED. -/
def SomeRejected (u : PointRec) : Prop := u.s1.state = .rejected ∨ u.s2.state = .rejected ∨ u.s3.state = .rejected

section
variable {n : Nat} {q before : PointRec} {p : Part}

/-- The part as the streaks of the checks are taken. -/
def streaked (n : Nat) (before : PointRec) (p : Part) : Part :=
  onPoint n (streakedPoint p.sections before) p

theorem point?_onPoint {g : PointRec → PointRec} (same : ∀ q, (g q).num = q.num) (found : p.point? n = some q) :
    (onPoint n g p).point? n = some (g q) := by
  unfold Part.point? onPoint at *
  dsimp only
  rw [find?_updWhere (fun y => by rw [same]), found]
  exact congrArg some (if_pos (List.find?_some found))

theorem point?_streaked (found : p.point? n = some q) :
    (streaked n before p).point? n = some (streakedPoint p.sections before q) :=
  point?_onPoint (g := streakedPoint p.sections before) (fun _ => rfl) found

theorem voteChecks_eq (found : p.point? n = some q) : voteChecks n before p =
    (let u := streakedPoint p.sections before q
     let r := rejectEach n (outlierSlots u) (streaked n before p)
     if u.s1.reversed != before.s1.reversed || u.s2.reversed != before.s2.reversed ||
       u.s3.reversed != before.s3.reversed then raise .polarity r else r) := by
  have located := point?_streaked (before := before) found
  unfold streaked streakedPoint at located
  unfold voteChecks
  dsimp only
  rw [located]
  rfl

theorem voteChecks_point (found : p.point? n = some q) :
    (voteChecks n before p).point? n = some (checkedPoint p.sections before q) := by
  have rejected := point?_rejectEach (outlierSlots (streakedPoint p.sections before q))
    (point?_streaked (before := before) found)
  rw [rejectSlots_streakedPoint] at rejected
  rw [voteChecks_eq found]
  dsimp only
  split
  · unfold Part.point? at *
    rwa [raise_meas]
  · exact rejected

theorem voteChecks_polarity (found : p.point? n = some q) (toggled : PolarityToggled before (checkedPoint p.sections before q)) :
    (voteChecks n before p).fc.flags &&& 0x4000 = 0x4000 := by
  have differs : PolarityToggled before (streakedPoint p.sections before q) := by
    unfold PolarityToggled at *
    rwa [show (checkedPoint p.sections before q).s1.reversed = (streakedPoint p.sections before q).s1.reversed from
        checkedSlot_reversed _ _ _ _ _,
      show (checkedPoint p.sections before q).s2.reversed = (streakedPoint p.sections before q).s2.reversed from
        checkedSlot_reversed _ _ _ _ _,
      show (checkedPoint p.sections before q).s3.reversed = (streakedPoint p.sections before q).s3.reversed from
        checkedSlot_reversed _ _ _ _ _] at toggled
  rw [voteChecks_eq found]
  dsimp only
  rw [if_pos (by simpa [PolarityToggled, or_assoc] using differs)]
  exact raise_flags_and_flagBit .polarity _

theorem voteChecks_rejections (found : p.point? n = some q) (valid : AllValid q)
    (rejects : SomeRejected (checkedPoint p.sections before q)) : RejectionTold p (voteChecks n before p) := by
  obtain ⟨valid1, valid2, valid3⟩ := valid
  obtain ⟨first, second, third⟩ := mem_outlierSlots (streakedPoint p.sections before q)
  have some_out : outlierSlots (streakedPoint p.sections before q) ≠ [] := by
    intro none_out
    rw [none_out] at first second third
    rcases rejects with r | r | r
    · exact nomatch first.2 (outlier_of_rejected r valid1)
    · exact nomatch second.2 (outlier_of_rejected r valid2)
    · exact nomatch third.2 (outlier_of_rejected r valid3)
  have told := (rejectEach_told (n := n) some_out (streaked n before p)).of_rises (.of_same rfl : CountRises 10 p _)
  rw [voteChecks_eq found]
  dsimp only
  split
  · exact told.trans (raise_flagsKept _ _) (raise_countRises _ _)
  · exact told

/-! ### The vote -/

/-- The corrected values of the VALID instruments of a point, in slot order. -/
def validValues (q : PointRec) : List Int := ([q.s1, q.s2, q.s3].filter isValid).map corrected

theorem validValues_eq (q : PointRec) :
    ((q.slots.filter fun s => isValid s.2).map fun s => corrected s.2) = validValues q := by
  unfold validValues
  rw [show [q.s1, q.s2, q.s3] = q.slots.map Prod.snd from rfl, List.filter_map, List.map_map]
  rfl

theorem validValues_length (q : PointRec) : (validValues q).length = 3 ↔ AllValid q := by
  unfold validValues AllValid
  rw [List.length_map, show 3 = [q.s1, q.s2, q.s3].length from rfl, List.length_filter_eq_length_iff]
  simp [isValid]

/-- The vote of a point that is not lost by it (R44, R46, R47). -/
theorem voteOnly_point (found : p.point? n = some q)
    (stays : ¬ (validValues q = [] ∧ q.quality = .held ∧ ranOut p.now q.holdTimer = true)) :
    ∃ u, (voteOnly n p).point? n = some u ∧
      (u.quality, u.voted) = Rule.voted p.sections.tolerance q.quality q.voted (validValues q) ∧
      (¬ AllValid q → u.s1 = q.s1 ∧ u.s2 = q.s2 ∧ u.s3 = q.s3) ∧
      (AllValid q → u.s1 = (checkedPoint p.sections q q).s1 ∧ u.s2 = (checkedPoint p.sections q q).s2 ∧
        u.s3 = (checkedPoint p.sections q q).s3 ∧
        (PolarityToggled q u → (voteOnly n p).fc.flags &&& 0x4000 = 0x4000) ∧
        (SomeRejected u → RejectionTold p (voteOnly n p))) := by
  let r := voteResult p.sections.tolerance q (validValues q)
  let v : PointRec := { q with quality := r.1, voted := r.2, holdTimer := holdAfter p.now p.sections.holdTime q r.1 }
  let p1 : Part := onPoint n (fun q' => { q' with
    quality := r.1, voted := r.2, holdTimer := holdAfter p.now p.sections.holdTime q r.1 }) p
  let p2 : Part := if r.1 == .disputed && q.quality != .disputed then report .pointDisputed ⟨.point, n⟩ p1 else p1
  have voted : voteOnly n p = if (validValues q).length == 3 then voteChecks n q p2 else p2 := by
    unfold voteOnly
    rw [found]
    dsimp only
    rw [validValues_eq, if_neg (by simpa [and_assoc] using stays)]
  have result : r = Rule.voted p.sections.tolerance q.quality q.voted (validValues q) := voteResult_rule _ _ _
  have found1 : p1.point? n = some v := point?_onPoint (g := fun q' => { q' with
    quality := r.1, voted := r.2, holdTimer := holdAfter p.now p.sections.holdTime q r.1 }) (fun _ => rfl) found
  have found2 : p2.point? n = some v := by
    unfold p2
    split
    · unfold Part.point? at *
      rwa [report_meas]
    · exact found1
  have step : MeasStep p p2 := MeasStep.ite ((reported _ _ p1).after (meas_step _ p)) (meas_step _ p)
  have rises : CountRises 10 p p2 := by
    have same : CountRises 10 p p1 := .of_same rfl
    unfold p2
    split
    · exact same.trans (report_countRises _ _ _)
    · exact same
  have sections : p2.sections = p.sections :=
    congrArg (fun m : ManagementAgent => ({ p with mgmt := m } : Part).sections) step.mgmt
  by_cases valid : AllValid q
  · have checks : voteOnly n p = voteChecks n q p2 := by
      rw [voted, if_pos (beq_iff_eq.2 ((validValues_length q).2 valid))]
    have checked : (voteChecks n q p2).point? n = some (checkedPoint p.sections q v) := by
      rw [← sections]
      exact voteChecks_point found2
    rw [checks]
    refine ⟨_, checked, result, fun h => absurd valid h, fun _ => ⟨rfl, rfl, rfl, fun toggled => ?_, fun rejects => ?_⟩⟩
    · exact voteChecks_polarity found2 (by rw [sections]; exact toggled)
    · exact (voteChecks_rejections (before := q) found2 valid (by rw [sections]; exact rejects)).of_rises rises
  · have no_checks : voteOnly n p = p2 := by
      rw [voted, if_neg (by simpa using mt (validValues_length q).1 valid)]
    rw [no_checks]
    exact ⟨v, found2, result, fun _ => ⟨rfl, rfl, rfl⟩, fun h => absurd h valid⟩

end

end Sys2Proof.Machine
end

section
/-! PROOFS. A point voted after a reading of one of its instruments (O18). -/

namespace Sys2Proof.Machine

/-! ### The names of the instruments (R35) -/

theorem instruments_names (m : MeasurementUnit) : (instruments m).map Prod.fst =
    ((m.points.map (·.num)).flatMap fun n => [1, 2, 3].map fun k => (⟨.velocity, velocityNum n k⟩ : InstrumentId)) ++
    (m.zones.map (·.num)).flatMap fun n => [⟨.opacity, zoneNum n 1⟩, ⟨.opacity, zoneNum n 2⟩,
      ⟨.temperature, zoneNum n 1⟩, ⟨.temperature, zoneNum n 2⟩] := by
  unfold instruments
  rw [List.map_append, List.map_flatMap, List.map_flatMap, List.flatMap_map, List.flatMap_map]
  rfl

/-- The points and zones being numbered 1 to 16, no two instruments have one name. -/
theorem instruments_named_once {s : State} (numbered : InstrumentsNumbered s) :
    ((instruments s.part.meas).map Prod.fst).Nodup := by
  rw [instruments_names, numbered.1, numbered.2]
  decide

/-! ### What no reading changes -/

/-- What no reading changes of an instrument: its name, its source, and whether it is ABSENT. -/
def sourceKey (x : InstrumentId × Instrument) : InstrumentId × Option Source × Bool :=
  (x.1, x.2.source, x.2.state != .absent)

/-- The instruments have the sources that they had. -/
def SourcesKept (m m' : MeasurementUnit) : Prop := (instruments m').map sourceKey = (instruments m).map sourceKey

section
variable {m m' : MeasurementUnit} {source : Nat}

theorem SourcesKept.names (h : SourcesKept m m') : (instruments m').map Prod.fst = (instruments m).map Prod.fst := by
  have by_key (m : MeasurementUnit) : (instruments m).map Prod.fst = ((instruments m).map sourceKey).map Prod.fst := by
    rw [List.map_map]
    rfl
  rw [by_key, by_key, h]

/-- A reading names the instrument that it named before. -/
theorem SourcesKept.named (h : SourcesKept m m') (r : Reading) :
    ((instruments m').find? (namedBy source r)).map sourceKey = ((instruments m).find? (namedBy source r)).map sourceKey := by
  have by_key (m : MeasurementUnit) : ((instruments m).find? (namedBy source r)).map sourceKey =
      ((instruments m).map sourceKey).find? fun k => k.2.1 == some ⟨source, r.channel⟩ && k.2.2 := by
    rw [List.find?_map]
    rfl
  rw [by_key, by_key, h]

theorem applied_source (now : PartTime) (stale : Nat) (cls : InstrumentClass) (r : Reading) (i : Instrument) :
    (Rule.applied now stale cls r i).source = i.source := rfl

theorem applied_present (now : PartTime) (stale : Nat) (cls : InstrumentClass) (r : Reading) (i : Instrument) :
    (Rule.applied now stale cls r i).state ≠ .absent := by
  unfold Rule.applied
  dsimp only
  split
  · exact InstrumentState.noConfusion
  · split <;> exact InstrumentState.noConfusion

theorem readingApplied_sources {l : List (InstrumentId × Instrument)} (once : (l.map Prod.fst).Nodup) (now : PartTime)
    (stale : Nat) (r : Reading) : (readingApplied now stale source l r).map sourceKey = l.map sourceKey := by
  unfold readingApplied
  split
  · next x named =>
    split
    · rw [List.map_map]
      refine List.map_congr_left fun y mem => ?_
      rw [Function.comp_apply]
      by_cases own : y.1 = x.1
      · obtain rfl : y = x := List.inj_on_of_nodup_map once mem (List.mem_of_find?_eq_some named) own
        have present : (y.2.state != .absent) = true := (Bool.and_eq_true_iff.1 (List.find?_some (p := namedBy source r) named)).2
        rw [if_pos rfl]
        unfold sourceKey
        rw [applied_source, present, bne_iff_ne.2 (applied_present now stale y.1.cls r y.2)]
      · rw [if_neg own]
    · rfl
  · rfl

theorem takeReading_sources {r : Reading} {p : Part} {t : Touched} (once : ((instruments p.meas).map Prod.fst).Nodup) :
    SourcesKept p.meas (takeReading source (p, t) r).1.meas := by
  unfold SourcesKept
  rw [takeReading_instruments]
  exact readingApplied_sources once _ _ r

end

/-! ### The readings of other instruments -/

/-- A reading that names an instrument of a point, it being one of velocity or not. -/
def NamesPoint (n source : Nat) (m : MeasurementUnit) (r : Reading) : Prop :=
  ∃ y, (instruments m).find? (namedBy source r) = some y ∧ y.1.cls = .velocity ∧ placeOf y.1 = n

theorem NamesPoint.of_sources {n source : Nat} {m m' : MeasurementUnit} {r : Reading} (same : SourcesKept m m')
    (names : NamesPoint n source m' r) : NamesPoint n source m r := by
  obtain ⟨y, named, velocity, place⟩ := names
  have key := same.named (source := source) r
  rw [named] at key
  obtain ⟨x, named_x, key_x⟩ := Option.map_eq_some_iff.1 key.symm
  have name : x.1 = y.1 := congrArg (fun k : InstrumentId × Option Source × Bool => k.1) key_x
  exact ⟨x, named_x, name ▸ velocity, name ▸ place⟩

theorem notOf_of_place {n : Nat} {d : InstrumentId} (is_n : 1 ≤ n) (other : ¬ (d.cls = .velocity ∧ placeOf d = n)) :
    NotOf n d := by
  intro k slot same
  subst same
  refine other ⟨rfl, ?_⟩
  unfold placeOf velocityNum
  dsimp only
  omega

/-- A point left as it is, and the sources of the instruments too. -/
structure ReadOff (n : Nat) (p q : Part) : Prop extends OffPoint n p q where
  sources : SourcesKept p.meas q.meas

section
variable {n source : Nat}

theorem takeReading_offPoint {r : Reading} {p : Part} {t : Touched} (is_n : 1 ≤ n)
    (other : ¬ NamesPoint n source p.meas r) : OffPoint n p (takeReading source (p, t) r).1 := by
  cases named : (instruments p.meas).find? (namedBy source r) with
  | none =>
    rw [takeReading_of_unmatched named]
    exact .of_meas rfl
  | some x =>
    have not_of : NotOf n x.1 := notOf_of_place is_n fun h => other ⟨x, named, h.1, h.2⟩
    by_cases same : r.quantity = x.1.cls
    · by_cases rejected : x.2.state = .rejected
      · rw [takeReading_of_rejected named same rejected]
        exact .of_meas rfl
      · have read : OffPoint n p (onInstrument x.1 (applyReading p.now p.sections.staleTime x.1.cls r) p) :=
          onInstrument_offPoint not_of _ p
        by_cases velocity : x.1.cls = .velocity
        · rw [takeReading_of_velocity named same rejected velocity]
          exact read
        · rw [takeReading_of_zone named same rejected velocity]
          exact read.trans (.of_meas rfl)
    · rw [takeReading_of_mismatch named same]
      exact .of_meas rfl

theorem takeReading_touched {r : Reading} {p : Part} {t : Touched} (touched : n ∈ t.points) :
    n ∈ (takeReading source (p, t) r).2.points := by
  cases named : (instruments p.meas).find? (namedBy source r) with
  | none => rwa [takeReading_of_unmatched named]
  | some x =>
    by_cases same : r.quantity = x.1.cls
    · by_cases rejected : x.2.state = .rejected
      · rwa [takeReading_of_rejected named same rejected]
      · by_cases velocity : x.1.cls = .velocity
        · rw [takeReading_of_velocity named same rejected velocity]
          exact List.mem_cons_of_mem _ touched
        · rwa [takeReading_of_zone named same rejected velocity]
    · rwa [takeReading_of_mismatch named same]

theorem takeReadings_readOff {readings : List Reading} {acc : Part × Touched} (is_n : 1 ≤ n)
    (once : ((instruments acc.1.meas).map Prod.fst).Nodup) (others : ∀ o ∈ readings, ¬ NamesPoint n source acc.1.meas o) :
    ReadOff n acc.1 (readings.foldl (takeReading source) acc).1 ∧
      (n ∈ acc.2.points → n ∈ (readings.foldl (takeReading source) acc).2.points) := by
  induction readings generalizing acc with
  | nil => exact ⟨⟨.refl _, rfl⟩, id⟩
  | cons r readings ih =>
    obtain ⟨p, t⟩ := acc
    obtain ⟨first, rest⟩ := List.forall_mem_cons.1 others
    have off : OffPoint n p (takeReading source (p, t) r).1 := takeReading_offPoint is_n first
    have sources : SourcesKept p.meas (takeReading source (p, t) r).1.meas := takeReading_sources once
    obtain ⟨off', touched⟩ := ih (acc := takeReading source (p, t) r) (by rw [sources.names]; exact once)
      fun o mem names => rest o mem (names.of_sources sources)
    rw [List.foldl_cons]
    exact ⟨⟨off.trans off'.toOffPoint, off'.sources.trans sources⟩, fun here => touched (takeReading_touched here)⟩

end

/-! ### The sample -/

/-- What a sample does once its readings are taken. -/
def sampleJudged (acc : Part × Touched) : Part :=
  let p := (sixteen.filter acc.2.points.contains).foldl (fun p n => votePoint n p) acc.1
  let p := if acc.2.points.isEmpty then p else recomputeVm p
  (sixteen.filter acc.2.zones.contains).foldl (fun p n => evaluateZone n p) p

theorem takeSample_eq (source : Nat) (readings : List Reading) (p : Part) :
    takeSample source readings p = sampleJudged (readings.foldl (takeReading source) (p, ⟨[], []⟩)) := rfl

theorem one_le_of_sixteen {m : Nat} (listed : m ∈ sixteen) : 1 ≤ m := by
  have all : ∀ m ∈ sixteen, 1 ≤ m := by decide
  exact all m listed

theorem votes_offPoint {n : Nat} (is_n : 1 ≤ n) {l : List Nat} (in_range : ∀ m ∈ l, 1 ≤ m) (out : n ∉ l) (p : Part) :
    OffPoint n p (l.foldl (fun p n => votePoint n p) p) :=
  OffPoint.foldl _ l (fun m mem p => votePoint_offPoint (m := m) (n := n) (fun same => out (same ▸ mem)) (in_range m mem) is_n p) p

/-- A point that the readings have touched is voted once, and nothing else of the sample reaches it. -/
theorem sampleJudged_vote {n : Nat} {acc : Part × Touched} (listed : n ∈ sixteen) (touched : n ∈ acc.2.points) :
    ∃ p, OffPoint n acc.1 p ∧ OffPoint n (votePoint n p) (finish (sampleJudged acc)) := by
  have is_n := one_le_of_sixteen listed
  have in_list : n ∈ sixteen.filter acc.2.points.contains := List.mem_filter.2 ⟨listed, by simpa using touched⟩
  have once : (sixteen.filter acc.2.points.contains).Nodup := List.Nodup.filter _ (by decide)
  have in_range : ∀ m ∈ sixteen.filter acc.2.points.contains, 1 ≤ m :=
    fun m mem => one_le_of_sixteen (List.mem_filter.1 mem).1
  obtain ⟨before, later, split⟩ := List.append_of_mem in_list
  rw [split] at once in_range
  obtain ⟨_, later_once, apart⟩ := List.nodup_append.1 once
  refine ⟨before.foldl (fun p n => votePoint n p) acc.1, votes_offPoint is_n (fun m mem => in_range m (by simp [mem]))
    (fun mem => apart n mem n (List.mem_cons_self ..) rfl) _, ?_⟩
  unfold sampleJudged
  dsimp only
  rw [split, List.foldl_append, List.foldl_cons]
  generalize votePoint n _ = p
  have voted := votes_offPoint is_n (fun m mem => in_range m (by simp [mem])) (List.nodup_cons.1 later_once).1 p
  have formed (q : Part) : OffPoint n q (if acc.2.points.isEmpty then q else recomputeVm q) :=
    .ite (.refl q) (recomputeVm_offPoint q)
  exact (((voted.trans (formed _)).trans (OffPoint.foldl _ _ (fun m _ p => evaluateZone_offPoint m p) _))).trans
    (finish_offPoint _)

/-! ### The point read -/

/-- The slot of a velocity instrument in its point (R35). -/
theorem slot_of_velocity {m : MeasurementUnit} {x : InstrumentId × Instrument} {q : PointRec}
    (once : ((instruments m).map Prod.fst).Nodup) (mem : x ∈ instruments m) (velocity : x.1.cls = .velocity)
    (located : q ∈ m.points) (own : q.num = placeOf x.1) :
    ∃ s ∈ q.slots, x = (⟨.velocity, velocityNum q.num s.1⟩, s.2) := by
  obtain ⟨k, is_k, num⟩ := velocityNum_placeOf (d := x.1) (i := x.2) mem velocity
  have slot : ∃ s ∈ q.slots, s.1 = k := by rcases is_k with rfl | rfl | rfl <;> simp [PointRec.slots]
  obtain ⟨s, in_q, rfl⟩ := slot
  refine ⟨s, in_q, List.inj_on_of_nodup_map once mem (mem_instruments_of_slot located in_q) ?_⟩
  rw [own, ← num, ← velocity]

/-- A reading names an instrument of a point as it named it before, the point being as it was. -/
theorem named_again {n source : Nat} {r : Reading} {x : InstrumentId × Instrument} {q : PointRec} {p p' : Part}
    (once : ((instruments p.meas).map Prod.fst).Nodup) (off : ReadOff n p p')
    (named : (instruments p.meas).find? (namedBy source r) = some x) (velocity : x.1.cls = .velocity)
    (place : placeOf x.1 = n) (found : p.point? n = some q) :
    (instruments p'.meas).find? (namedBy source r) = some x := by
  have once' : ((instruments p'.meas).map Prod.fst).Nodup := by rwa [off.sources.names]
  have found' : p'.point? n = some q := off.point.trans found
  have own : q.num = placeOf x.1 := (point?_num found).trans place.symm
  obtain ⟨s, in_q, is_x⟩ := slot_of_velocity once (List.mem_of_find?_eq_some named) velocity
    (List.mem_of_find?_eq_some found) own
  have key := off.sources.named (source := source) r
  rw [named] at key
  obtain ⟨y, named_y, key_y⟩ := Option.map_eq_some_iff.1 key
  have name : y.1 = x.1 := congrArg (fun k : InstrumentId × Option Source × Bool => k.1) key_y
  have listed : x ∈ instruments p'.meas := by
    rw [is_x]
    exact mem_instruments_of_slot (List.mem_of_find?_eq_some found') in_q
  rw [named_y, List.inj_on_of_nodup_map once' (List.mem_of_find?_eq_some named_y) listed name]

end Sys2Proof.Machine
end

section
/-! PROOFS. A point voted after a reading of one of its instruments (O18). -/

namespace Sys2Proof.Machine

/-- A point after a reading applied to one of its instruments. -/
def readPoint (x : InstrumentId × Instrument) (r : Reading) (p : Part) (q : PointRec) : PointRec :=
  mapPoint (fun j i => if j = x.1 then Rule.applied p.now p.sections.staleTime x.1.cls r i else i) q

/-- The part as the vote of a point finds it in a sample. -/
structure VoteFinds (n : Nat) (q : PointRec) (p p' : Part) : Prop extends MeasStep p p' where
  point : p'.point? n = some q
  rejects : CountRises 10 p p'

theorem MeasStep.sections {p p' : Part} (h : MeasStep p p') : p'.sections = p.sections :=
  congrArg (fun m : ManagementAgent => ({ p with mgmt := m } : Part).sections) h.mgmt

/-- In a sample of which one reading is applied to an instrument of a point, and no other names one, the point is voted as
that reading has left it, and not touched again (R37, R43). -/
theorem takeSample_vote {n source : Nat} {pre post : List Reading} {r : Reading} {x : InstrumentId × Instrument}
    {q : PointRec} {p : Part} (once : ((instruments p.meas).map Prod.fst).Nodup)
    (named : (instruments p.meas).find? (namedBy source r) = some x) (velocity : x.1.cls = .velocity)
    (same : r.quantity = x.1.cls) (live : x.2.state ≠ .rejected) (place : placeOf x.1 = n)
    (others : ∀ o ∈ pre ++ post, ¬ NamesPoint n source p.meas o) (listed : n ∈ sixteen) (found : p.point? n = some q) :
    ∃ p', VoteFinds n (readPoint x r p q) p p' ∧
      OffPoint n (votePoint n p') (finish (takeSample source (pre ++ r :: post) p)) := by
  have is_n := one_le_of_sixteen listed
  let acc1 := pre.foldl (takeReading source) (p, ⟨[], []⟩)
  let acc2 := takeReading source acc1 r
  let acc3 := post.foldl (takeReading source) acc2
  have off1 : ReadOff n p acc1.1 := (takeReadings_readOff (acc := (p, ⟨[], []⟩)) is_n once
    fun o mem => others o (List.mem_append_left _ mem)).1
  have once1 : ((instruments acc1.1.meas).map Prod.fst).Nodup := by rwa [off1.sources.names]
  have read : acc2 = (onInstrument x.1 (applyReading acc1.1.now acc1.1.sections.staleTime x.1.cls r) acc1.1,
      { acc1.2 with points := placeOf x.1 :: acc1.2.points }) :=
    takeReading_of_velocity (named_again once off1 named velocity place found) same live velocity
  have sources2 : SourcesKept p.meas acc2.1.meas := Eq.trans (takeReading_sources (t := acc1.2) (r := r) once1) off1.sources
  have step2 : MeasStep p acc2.1 := off1.toMeasStep.trans (takeReading_step source acc1 r)
  have point2 : acc2.1.point? n = some (readPoint x r p q) := by
    have mapped : acc2.1.point? n = some (mapPoint (fun j i => if j = x.1 then
        applyReading acc1.1.now acc1.1.sections.staleTime x.1.cls r i else i) q) := by
      rw [read, point?_onInstrument, off1.point.trans found]
      rfl
    rw [mapped, off1.now, off1.toMeasStep.sections]
    simp only [applyReading_rule]
    rfl
  have rises2 : CountRises 10 p acc2.1 := off1.rejects.trans (.of_same (by rw [read]; rfl))
  have touched2 : n ∈ acc2.2.points := by
    rw [read, place]
    exact List.mem_cons_self ..
  obtain ⟨off3, touched3⟩ := takeReadings_readOff (acc := acc2) (readings := post) is_n
    (by rw [sources2.names]; exact once)
    fun o mem names => others o (List.mem_append_right _ mem) (names.of_sources sources2)
  obtain ⟨p', off4, later⟩ := sampleJudged_vote (acc := acc3) listed (touched3 touched2)
  have off24 : OffPoint n acc2.1 p' := off3.toOffPoint.trans off4
  refine ⟨p', ⟨step2.trans off24.toMeasStep, off24.point.trans point2, rises2.trans off24.rejects⟩, ?_⟩
  have sample : takeSample source (pre ++ r :: post) p = sampleJudged acc3 := by
    rw [takeSample_eq, List.foldl_append, List.foldl_cons]
  rw [sample]
  exact later

theorem ne_zero_of_mask {a m : BitVec 16} (h : a &&& m = m) (nonzero : m ≠ 0) : a &&& m ≠ 0 := by
  rwa [h]

/-- Settles O18, from the vote that the sample takes of the point. -/
theorem pointVotedAfterReading : Obligations.PointVotedAfterReading := by
  intro source pre post r x q s quiet numbered named is_named velocity same live n others configured range found after values
    stays
  have place : placeOf x.1 = n := by
    unfold placeOf
    rw [velocity]
  have listed : n ∈ sixteen := by
    rw [← numbered.1, ← point?_num (p := s.part) found]
    exact List.mem_map_of_mem (List.mem_of_find?_eq_some found)
  have unnamed : ∀ o ∈ pre ++ post, ¬ NamesPoint n source s.part.meas o := by
    rintro o mem ⟨y, named_y, is_velocity, at_n⟩
    refine others o mem y named_y ⟨is_velocity, ?_⟩
    unfold placeOf at at_n
    rw [is_velocity] at at_n
    exact at_n
  obtain ⟨p, finds, later⟩ := takeSample_vote (pre := pre) (post := post) (instruments_named_once numbered) is_named velocity
    (same.trans velocity.symm) live place unnamed listed found
  have own : q.num = n := point?_num (p := s.part) found
  have each (k : Nat) (i : Instrument) : (if (⟨.velocity, velocityNum q.num k⟩ : InstrumentId) = x.1 then
      Rule.applied s.part.now s.part.sections.staleTime x.1.cls r i else i) = after k i := by
    have name : x.1 = ⟨.velocity, x.1.num⟩ := by rw [← velocity]
    have own_name : (⟨.velocity, velocityNum q.num k⟩ : InstrumentId) = x.1 ↔ 3 * (n - 1) + k = x.1.num := by
      rw [name, own, InstrumentId.mk.injEq, and_iff_right rfl]
      rfl
    rw [velocity]
    exact if_congr own_name rfl rfl
  have read : readPoint x r s.part q = { q with s1 := after 1 q.s1, s2 := after 2 q.s2, s3 := after 3 q.s3 } := by
    unfold readPoint mapPoint PointRec.mapSlots
    simp only [each]
  rw [read] at finds
  let v : PointRec := { q with s1 := after 1 q.s1, s2 := after 2 q.s2, s3 := after 3 q.s3 }
  have voted : votePoint n p = voteOnly n p := by
    refine if_pos ?_
    unfold configuredPoint Part.pointEntries at *
    rw [finds.mgmt]
    exact configured
  obtain ⟨u, found_u, result, kept, checked⟩ := voteOnly_point finds.point (by rw [finds.now]; exact stays)
  rw [voted] at later
  rw [finds.toMeasStep.sections] at result checked
  refine ⟨_, u, rfl, later.point.trans found_u, result, fun few => kept few, fun valid1 valid2 valid3 => ?_⟩
  obtain ⟨first, second, third, toggles, rejects⟩ := checked ⟨valid1, valid2, valid3⟩
  obtain ⟨rule1, rule2, rule3⟩ := checkedPoint_rule s.part.sections v
  refine ⟨⟨first.trans rule1, second.trans rule2, third.trans rule3⟩, fun toggled => ?_, fun rejected => ?_⟩
  · exact ne_zero_of_mask (later.flags.of_mask (toggles toggled)) (by decide)
  · have told : RejectionTold s.part _ := ((rejects rejected).trans later.flags later.rejects).of_rises finds.rejects
    exact ⟨ne_zero_of_mask told.1 (by decide), told.2⟩

end Sys2Proof.Machine
end

section
/-! PROOFS. The fans judged by a record (R112, R113, R134, R135), and the stop-spacing timer cancelled by it (R145). -/

namespace Sys2Proof.Machine

/-! ### The fans judged -/

/-- The heat-exposed mark of a fan after a record: cleared by a new id, set by what a new id, fire or direction finds
(R113). -/
def heatAfter (h : RecordHandOn) (p : Part) (f : FanRec) : Bool :=
  (!(h.record.id != p.fm.record.id || h.record.id == 0) && f.heat) ||
    (movesFrom p.fm.record h.record && isExposed h.record (zoneTempOf p.fm f.e.zone) f.e)

/-- A fan judged by a record (R112, R113). -/
def judgedBy (h : RecordHandOn) (p : Part) (f : FanRec) : FanRec :=
  { f with excluded := Rule.excluded p.control.exclusion h.record f.e, heat := heatAfter h p f }

section
variable (h : RecordHandOn) (p : Part)

theorem fansJudged_fans : (fansJudged h p).fm.fans = p.fm.fans.map (judgedBy h p) := by
  unfold fansJudged
  extract_lets moved m q' q q1 q2 q3 q4
  have h4 : q4.fm.fans = q2.fm.fans := by
    have h3 : q3.fm.fans = q2.fm.fans := by
      unfold q3
      split <;> rfl
    unfold q4
    split <;> exact h3
  have h1 : q1.fm.fans = p.fm.fans.map fun f => { f with
      excluded := Rule.excluded p.control.exclusion h.record f.e,
      heat := !(h.record.id != p.fm.record.id || h.record.id == 0) && f.heat } := by
    unfold q1
    split
    · next clears =>
      refine List.map_map.trans (List.map_congr_left fun f _ => ?_)
      rw [clears, ← isExcluded_rule]
      rfl
    · next keeps =>
      refine List.map_congr_left fun f _ => ?_
      rw [Bool.eq_false_iff.2 keeps, ← isExcluded_rule]
      rfl
  have rest : q1.fm.record = h.record ∧ q1.fm.zoneTemps = p.fm.zoneTemps := by
    unfold q1
    split <;> exact ⟨rfl, rfl⟩
  have temp (zone : Nat) : zoneTempOf q1.fm zone = zoneTempOf p.fm zone := by
    unfold zoneTempOf
    rw [rest.2]
  have h2 : q2.fm.fans = p.fm.fans.map (judgedBy h p) := by
    unfold q2 judgedBy heatAfter
    split
    · next moves =>
      unfold judgeHeat updWhere
      dsimp only
      rw [h1, rest.1, List.map_map]
      refine List.map_congr_left fun f _ => ?_
      rw [Function.comp_apply, if_pos rfl, temp, show movesFrom p.fm.record h.record = true from moves, Bool.true_and]
    · next stays =>
      rw [h1]
      refine List.map_congr_left fun f _ => ?_
      rw [show movesFrom p.fm.record h.record = false from Bool.eq_false_iff.2 stays, Bool.false_and, Bool.or_false]
  exact h4.trans h2

/-- The preference order after a record (R134, R135). -/
theorem fansJudged_preference : (fansJudged h p).fm.preference =
    if movesFrom p.fm.record h.record || entersControl h || h.record.id == 0 then
      preferenceOf h.record (fansJudged h p).fm.fans
    else p.fm.preference := by
  unfold fansJudged
  extract_lets moved m q' q q1 q2 q3 q4
  have h4 : q4.fm.preference = q3.fm.preference ∧ q4.fm.fans = q3.fm.fans := by
    unfold q4
    split <;> exact ⟨rfl, rfl⟩
  have h2 : q2.fm.preference = p.fm.preference ∧ q2.fm.record = h.record := by
    have h1 : q1.fm.preference = p.fm.preference ∧ q1.fm.record = h.record := by
      unfold q1
      split <;> exact ⟨rfl, rfl⟩
    unfold q2
    split <;> exact h1
  change q4.fm.preference = if _ then preferenceOf h.record q4.fm.fans else _
  rw [h4.1, h4.2]
  unfold q3
  split
  · change preferenceOf q2.fm.record q2.fm.fans = _
    rw [h2.2]
    rfl
  · exact h2.1

/-- The start queue after a record outside CONTROL, or one that forms the order afresh (R135, R141). -/
theorem fansJudged_queue (emptied : h.record.state ≠ .control ∨ movesFrom p.fm.record h.record = true ∨ entersControl h = true) :
    (fansJudged h p).fm.queue = [] := by
  unfold fansJudged
  extract_lets moved m q' q q1 q2 q3 q4
  have h4 : q4 = emptyQueue q3 := by
    refine if_pos ?_
    rw [Bool.or_eq_true, Bool.or_eq_true, bne_iff_ne, or_assoc]
    exact emptied
  change q4.fm.queue = []
  rw [h4]
  rfl

end

/-! ### What no order request changes: the stop-spacing timer -/

/-- The stop-spacing timer stands. -/
def SpacingKept (p q : Part) : Prop := q.fm.stopSpacing = p.fm.stopSpacing

section
variable {p q r : Part}

theorem SpacingKept.after (k : SpacingKept q r) (h : SpacingKept p q) : SpacingKept p r := Eq.trans k h

theorem SpacingKept.of_fm (same : q.fm = p.fm) : SpacingKept p q := congrArg FanManager.stopSpacing same

theorem SpacingKept.ite {c : Prop} [Decidable c] {a b : Part} (ha : SpacingKept p a) (hb : SpacingKept p b) :
    SpacingKept p (if c then a else b) := by
  split
  · exact ha
  · exact hb

end

theorem fanTail_spacing (p : Part) : SpacingKept p (fanTail p) := SpacingKept.ite rfl rfl

theorem grantOne_spacing (p : Part) : SpacingKept p (grantOne p) := by
  unfold grantOne
  split
  · rfl
  split
  · rfl
  split
  · rfl
  · exact .ite rfl rfl

theorem releaseSlots_spacing (p : Part) : SpacingKept p (releaseSlots p) := by
  unfold releaseSlots
  extract_lets slots freed m q
  have granted : SpacingKept q (grants q) :=
    (((grantOne_spacing _).after (grantOne_spacing _)).after (grantOne_spacing _)).after (grantOne_spacing q)
  exact .ite (granted.after rfl) rfl

theorem takeOutcome_withdrawn_spacing (n : Nat) (kind : OrderKind) (p : Part) :
    SpacingKept p (takeOutcome n kind .withdrawn p) := by
  unfold takeOutcome
  split
  · rfl
  · extract_lets q
    have asked : SpacingKept p q := .ite rfl rfl
    refine (fanTail_spacing _).after (SpacingKept.after (.ite ?_ rfl) asked)
    exact SpacingKept.after (q := releaseSlots _) rfl (releaseSlots_spacing _)

theorem withdrawRec_spacing (r : OrderRec) (p : Part) : SpacingKept p (withdrawRec r p) := by
  have finished (p : Part) : SpacingKept p (finishRec r .withdrawn p) := by
    unfold finishRec
    extract_lets q m u
    have removed : SpacingKept p u := takeOutcome_withdrawn_spacing r.fan r.kind p
    split <;> exact removed
  unfold withdrawRec
  exact SpacingKept.after (.ite (.ite rfl rfl) rfl)
    ((finished _).after (SpacingKept.after (q := freeTagOf r p) rfl (.of_fm (freeTagOf_fm r p))))

theorem issue_fm (r : OrderRec) (tag : Nat) (p : Part) : (issue r tag p).fm = p.fm := by
  have sent := sendOrder_fm r tag (takeTag r.station tag p)
  unfold issue
  extract_lets q u
  repeat' split
  all_goals exact sent

theorem serveWith_spacing (fuel : Nat) (p : Part) : SpacingKept p (serveWith fuel p) := by
  induction fuel generalizing p with
  | zero => rfl
  | succ fuel ih =>
    unfold serveWith
    split
    · split
      · rfl
      · exact (ih _).after (.ite (.of_fm (issue_fm _ _ _)) (withdrawRec_spacing _ _))
    · rfl

theorem requestOrder_spacing (n : Nat) (kind : OrderKind) (p : Part) : SpacingKept p (requestOrder n kind p) := by
  have dropped (old new : OrderKind) (p : Part) : SpacingKept p (dropStart n old new p) :=
    .ite (takeOutcome_withdrawn_spacing n old _) rfl
  unfold requestOrder
  split
  · split
    · rfl
    · exact serveWith_spacing _ _
  · dsimp only
    split
    · split
      · rfl
      · exact dropped _ _ _
    · exact (serveWith_spacing _ _).after (dropped _ _ _)

/-- The order requests of an event leave the stop-spacing timer as it stands. -/
theorem settle_spacing (fuel : Nat) {p : Part} (open_ : p.fm.record.state ≠ .clearing) (out : .clearingEnd ∉ p.handOns) :
    SpacingKept p (settle takeHandOn fuel p) := by
  induction fuel generalizing p with
  | zero => rfl
  | succ fuel ih =>
    unfold settle
    split
    · rfl
    · next hand rest waits =>
      cases hand with
      | clearingEnd => exact absurd (by rw [waits]; exact List.mem_cons_self ..) out
      | orderRequest n kind =>
        have step := requestOrder_step n kind { p with handOns := rest }
        have rest_out : .clearingEnd ∉ rest := fun mem => out (by rw [waits]; exact List.mem_cons_of_mem _ mem)
        have still_open : (requestOrder n kind { p with handOns := rest }).fm.record.state ≠ .clearing := by
          rw [step.record]
          exact open_
        exact (ih still_open (step.noEnd open_ rest_out)).after (requestOrder_spacing n kind { p with handOns := rest })

theorem finish_spacing {p : Part} (open_ : p.fm.record.state ≠ .clearing) (out : .clearingEnd ∉ p.handOns) :
    (finish p).fm.stopSpacing = p.fm.stopSpacing := settle_spacing settleBound open_ out

end Sys2Proof.Machine
end

section
/-! PROOFS. Orders served that all pass the start check (R155): the Fan Manager stands. -/

namespace Sys2Proof.Machine

/-! ### The order of one fan changed -/

/-- The fan and the kind of each order record. -/
def orderKinds (p : Part) : List (Nat × OrderKind) := p.ord.records.map fun r => (r.fan, r.kind)

/-- The order of one fan changes, but not in its kind; the backlog, the Fan Manager and what waits stand. -/
structure OrderOf (n : Nat) (p q : Part) : Prop where
  fm      : q.fm = p.fm
  handOns : q.handOns = p.handOns
  backlog : q.ord.backlog = p.ord.backlog
  kinds   : orderKinds q = orderKinds p
  others  : ∀ m, m ≠ n → q.order? m = p.order? m

section
variable {n : Nat} {p q r : Part}

theorem OrderOf.trans (h : OrderOf n p q) (k : OrderOf n q r) : OrderOf n p r :=
  ⟨k.fm.trans h.fm, k.handOns.trans h.handOns, k.backlog.trans h.backlog, k.kinds.trans h.kinds,
    fun m other => (k.others m other).trans (h.others m other)⟩

theorem OrderOf.of_records (fm : q.fm = p.fm := by rfl) (handOns : q.handOns = p.handOns := by rfl)
    (backlog : q.ord.backlog = p.ord.backlog := by rfl) (records : q.ord.records = p.ord.records := by rfl) :
    OrderOf n p q := by
  refine ⟨fm, handOns, backlog, ?_, fun m _ => ?_⟩
  · unfold orderKinds
    rw [records]
  · unfold Part.order?
    rw [records]

theorem onOrder_orderOf (n : Nat) {g : OrderRec → OrderRec} (same : ∀ r, (g r).fan = r.fan ∧ (g r).kind = r.kind)
    (p : Part) : OrderOf n p (onOrder n g p) := by
  refine ⟨rfl, rfl, rfl, ?_, fun m other => ?_⟩
  · exact updWhere_map _ _ _ (fun r => Prod.ext (same r).1 (same r).2) _
  · rw [order?_onOrder n m fun r => (same r).1]
    cases p.order? m with
    | none => rfl
    | some r => exact congrArg some (if_neg other)

theorem issue_orderOf (r : OrderRec) (tag : Nat) (p : Part) : OrderOf r.fan p (issue r tag p) := by
  have sent (p : Part) : OrderOf r.fan p (sendOrder r tag p) := by
    rw [sendOrder_eq, queueOwn_eq]
    have marked := onOrder_orderOf r.fan (g := fun x => { x with tag := some tag, response := arm p.now (responseTime p) })
      (fun _ => ⟨rfl, rfl⟩) p
    exact marked.trans .of_records
  have taken : OrderOf r.fan p (takeTag r.station tag p) := .of_records
  have waited (p : Part) : OrderOf r.fan p (onOrder r.fan (fun x => { x with state := .sent }) p) :=
    onOrder_orderOf r.fan (g := fun x => { x with state := .sent }) (fun _ => ⟨rfl, rfl⟩) p
  have opened (p : Part) (t : Timer) : OrderOf r.fan p (onOrder r.fan (fun x =>
      { x with windowOpen := true, window := t, issuedBefore := true }) p) :=
    onOrder_orderOf r.fan (g := fun x => { x with windowOpen := true, window := t, issuedBefore := true })
      (fun _ => ⟨rfl, rfl⟩) p
  unfold issue
  extract_lets q u
  have issued : OrderOf r.fan p q := taken.trans (sent _)
  repeat' split
  · exact issued.trans (waited q)
  · exact (issued.trans (waited q)).trans (opened _ _)
  · exact issued

end

/-! ### A backlog that passes -/

/-- Every order of the backlog passes the start check, or carries a QUERY (R155). -/
def Passing (p : Part) : Prop :=
  ∀ n ∈ p.ord.backlog, ∀ r, p.order? n = some r → r.state = .querying ∨ startCheck r p = true

/-- The backlog has been served with no order withdrawn. -/
structure Served (p q : Part) : Prop where
  fm      : q.fm = p.fm
  handOns : q.handOns = p.handOns
  kinds   : orderKinds q = orderKinds p
  passing : Passing q

theorem nextToIssue_mem {p : Part} {l : List Nat} {r : OrderRec} {t : Nat} (next : nextToIssue p l = some (r, t)) :
    r.fan ∈ l ∧ p.order? r.fan = some r := by
  refine ⟨?_, nextToIssue_found next⟩
  induction l with
  | nil => exact nomatch next
  | cons a rest ih =>
    unfold nextToIssue at next
    split at next
    · exact List.mem_cons_of_mem _ (ih next)
    · next x found =>
      split at next
      · exact List.mem_cons_of_mem _ (ih next)
      · obtain ⟨rfl, _⟩ := Prod.mk.inj (Option.some.inj next)
        rw [order?_fan found]
        exact List.mem_cons_self ..

theorem serveWith_served (fuel : Nat) {p : Part} (passing : Passing p) : Served p (serveWith fuel p) := by
  induction fuel generalizing p with
  | zero => exact ⟨rfl, rfl, rfl, passing⟩
  | succ fuel ih =>
    unfold serveWith
    split
    · split
      · exact ⟨rfl, rfl, rfl, passing⟩
      · next r t next =>
        obtain ⟨waits, found⟩ := nextToIssue_mem next
        extract_lets m q check
        have passes : check = true := by
          have own := passing r.fan waits r found
          unfold check
          rw [Bool.or_eq_true, beq_iff_eq]
          exact own
        have issued := issue_orderOf r t q
        rw [if_pos passes]
        have rest : Passing (issue r t q) := by
          intro n mem x found_x
          rw [issued.backlog] at mem
          obtain ⟨listed, other⟩ := List.mem_filter.1 mem
          rw [issued.others n (by simpa using other)] at found_x
          rw [startCheck_congr (r := x) (p := p) rfl rfl issued.fm]
          exact passing n listed x found_x
        have served := ih rest
        exact ⟨served.fm.trans issued.fm, served.handOns.trans issued.handOns, served.kinds.trans issued.kinds, served.passing⟩
    · exact ⟨rfl, rfl, rfl, passing⟩

theorem order?_eq_none {p : Part} {n : Nat} : p.order? n = none ↔ n ∉ (orderKinds p).map Prod.fst := by
  unfold Part.order? orderKinds
  rw [List.find?_eq_none, List.map_map]
  simp

/-- A request for a fan with no order, which passes: an order record joins, and the Fan Manager stands (R153). -/
theorem requestOrder_of_new {p : Part} {n : Nat} {f : FanRec} {kind : OrderKind} (passing : Passing p)
    (free : p.order? n = none) (found : p.fan? n = some f)
    (passes : startCheck (waitingRec n f.e.station f.e.output kind) p = true) :
    (requestOrder n kind p).fm = p.fm ∧ (requestOrder n kind p).handOns = p.handOns ∧
      orderKinds (requestOrder n kind p) = orderKinds p ++ [(n, kind)] ∧ Passing (requestOrder n kind p) := by
  let r := waitingRec n f.e.station f.e.output kind
  let q := joinBack n { p with ord := { p.ord with records := p.ord.records ++ [r] } }
  have requested : requestOrder n kind p = serve q := by
    unfold requestOrder
    rw [free]
    dsimp only
    rw [found]
  have joined : Passing q := by
    intro m mem x found_x
    change (p.ord.records ++ [r]).find? (fun x => x.fan == m) = some x at found_x
    rw [List.find?_append] at found_x
    rw [startCheck_congr (r := x) (p := p) rfl rfl (rfl : q.fm = p.fm)]
    rcases List.mem_append.1 (show m ∈ p.ord.backlog ++ [n] from mem) with old | new
    · cases known : p.order? m with
      | some y =>
        have same : y = x := by
          rw [show p.ord.records.find? (fun x => x.fan == m) = some y from known, Option.some_or] at found_x
          exact Option.some.inj found_x
        subst same
        exact passing m old y known
      | none =>
        rw [show p.ord.records.find? (fun x => x.fan == m) = none from known, Option.none_or] at found_x
        obtain rfl : r = x := List.mem_singleton.1 (List.mem_of_find?_eq_some found_x) |>.symm
        exact .inr passes
    · obtain rfl : m = n := List.mem_singleton.1 new
      rw [show p.ord.records.find? (fun x => x.fan == m) = none from free, Option.none_or] at found_x
      obtain rfl : r = x := List.mem_singleton.1 (List.mem_of_find?_eq_some found_x) |>.symm
      exact .inr passes
  have served := serveWith_served (2 * q.ord.backlog.length) joined
  rw [requested]
  refine ⟨served.fm, served.handOns, served.kinds.trans ?_, served.passing⟩
  change (p.ord.records ++ [r]).map _ = _
  rw [List.map_append]
  rfl

/-! ### The stop of a RUNNING fan -/

theorem takeOutcome_withdrawn_fans {n : Nat} {kind : OrderKind} {p : Part} {f : FanRec} (found : p.fan? n = some f)
    (running : f.state = .running) (start : isStart kind = true) (open_ : p.fm.record.state ≠ .clearing) :
    (takeOutcome n kind .withdrawn p).fm.fans = p.fm.fans ∧ (takeOutcome n kind .withdrawn p).fm.record = p.fm.record ∧
      (takeOutcome n kind .withdrawn p).handOns = p.handOns := by
  have no_stop : (kind == .stop) = false := by cases kind <;> simp_all [isStart]
  have left : takeOutcome n kind .withdrawn p = formThrust (pruneQueue p) := by
    unfold takeOutcome
    rw [found]
    dsimp only
    rw [no_stop, if_neg (by simp)]
    unfold judgeOutcome
    dsimp only
    rw [if_neg (by simp [running])]
    exact testClearing_of_elsewhere (p := formThrust (pruneQueue p)) open_
  rw [left]
  exact ⟨rfl, rfl, rfl⟩

/-- The Fan Manager as it stands, less its queue and sums. -/
structure FansStand (p q : Part) : Prop where
  fans    : q.fm.fans = p.fm.fans
  record  : q.fm.record = p.fm.record
  handOns : q.handOns = p.handOns

theorem FansStand.trans {p q r : Part} (h : FansStand p q) (k : FansStand q r) : FansStand p r :=
  ⟨k.fans.trans h.fans, k.record.trans h.record, k.handOns.trans h.handOns⟩

theorem startCheck_of_fans {r : OrderRec} {p q : Part} (stand : FansStand p q) : startCheck r q = startCheck r p := by
  unfold startCheck Part.fan?
  rw [stand.fans, stand.record]

theorem Passing.of_stand {p q : Part} (passing : Passing p) (stand : FansStand p q)
    (backlog : q.ord.backlog = p.ord.backlog) (orders : ∀ n ∈ p.ord.backlog, ∀ r, q.order? n = some r →
      r.kind = .stop ∨ ∃ x, p.order? n = some x ∧ x.kind = r.kind ∧ x.state = r.state ∧ x.fan = r.fan) : Passing q := by
  intro n mem r found
  rw [backlog] at mem
  rcases orders n mem r found with stop | ⟨x, found_x, kind, state, fan⟩
  · refine .inr (if_neg ?_)
    rw [stop]
    decide
  · rw [startCheck_of_fans stand, startCheck_congr (r := x) (p := p) kind.symm fan.symm rfl, ← state]
    exact passing n mem x found_x

theorem dropStart_stand {n : Nat} {old : OrderKind} {p : Part} {f : FanRec} (found : p.fan? n = some f)
    (running : f.state = .running) (open_ : p.fm.record.state ≠ .clearing) :
    FansStand p (dropStart n old .stop p) ∧ (dropStart n old .stop p).ord.records = p.ord.records ∧
      (dropStart n old .stop p).ord.backlog = p.ord.backlog := by
  unfold dropStart
  split
  · next dropped =>
    have start : isStart old = true := (Bool.and_eq_true_iff.1 dropped).1
    obtain ⟨fans, record, handOns⟩ := takeOutcome_withdrawn_fans
      (p := countOrder (fun c => { c with withdrawn := bump c.withdrawn }) p) found running start open_
    refine ⟨⟨fans, record, handOns⟩, ?_, ?_⟩
    · rw [takeOutcome_ord]
      rfl
    · rw [takeOutcome_ord]
      rfl
  · exact ⟨⟨rfl, rfl, rfl⟩, rfl, rfl⟩

/-- The STOP of a RUNNING fan requested, every order of the backlog passing: no fan changes. -/
theorem requestOrder_stop_stand {n : Nat} {p : Part} {f : FanRec} (passing : Passing p) (found : p.fan? n = some f)
    (running : f.state = .running) (open_ : p.fm.record.state ≠ .clearing) :
    FansStand p (requestOrder n .stop p) ∧ Passing (requestOrder n .stop p) := by
  cases known : p.order? n with
  | none =>
    obtain ⟨fm, handOns, _, passes⟩ := requestOrder_of_new (kind := .stop) passing known found (if_neg (show ¬ isStart .stop = true by decide))
    exact ⟨⟨by rw [fm], by rw [fm], handOns⟩, passes⟩
  | some r =>
    unfold requestOrder
    rw [known]
    dsimp only
    split
    · let q := onOrder n (fun x => { x with successor := some .stop }) p
      have queued : Passing q := passing.of_stand ⟨rfl, rfl, rfl⟩ rfl fun m _ x found_x => by
        rw [order?_onOrder n m (g := fun x => { x with successor := some .stop }) fun _ => rfl] at found_x
        obtain ⟨y, found_y, rfl⟩ := Option.map_eq_some_iff.1 found_x
        refine .inr ⟨y, found_y, ?_⟩
        split <;> exact ⟨rfl, rfl, rfl⟩
      split
      · exact ⟨⟨rfl, rfl, rfl⟩, queued⟩
      · next old _ =>
        obtain ⟨stand, records, backlog⟩ := dropStart_stand (p := q) (old := old) found running open_
        refine ⟨(⟨rfl, rfl, rfl⟩ : FansStand p q).trans stand, queued.of_stand stand backlog fun m _ x found_x => ?_⟩
        unfold Part.order? at *
        rw [records] at found_x
        exact .inr ⟨x, found_x, rfl, rfl, rfl⟩
    · let q := onOrder n (fun x => { x with kind := .stop, busySeen := false, reissued := false }) p
      have replaced : Passing q := passing.of_stand ⟨rfl, rfl, rfl⟩ rfl fun m _ x found_x => by
        rw [order?_onOrder n m (g := fun x => { x with kind := .stop, busySeen := false, reissued := false })
          fun _ => rfl] at found_x
        obtain ⟨y, found_y, rfl⟩ := Option.map_eq_some_iff.1 found_x
        split
        · exact .inl rfl
        · exact .inr ⟨y, found_y, rfl, rfl, rfl⟩
      obtain ⟨stand, records, backlog⟩ := dropStart_stand (p := q) (old := r.kind) found running open_
      have dropped : Passing (dropStart n r.kind .stop q) := replaced.of_stand stand backlog fun m _ x found_x => by
        unfold Part.order? at *
        rw [records] at found_x
        exact .inr ⟨x, found_x, rfl, rfl, rfl⟩
      have served := serveWith_served (2 * (dropStart n r.kind .stop q).ord.backlog.length) dropped
      refine ⟨(⟨rfl, rfl, rfl⟩ : FansStand p q).trans (stand.trans ⟨?_, ?_, served.handOns⟩), served.passing⟩
      · exact congrArg FanManager.fans served.fm
      · exact congrArg FanManager.record served.fm

end Sys2Proof.Machine
end

section
/-! PROOFS. The preference order (R134, R135) and the stops of the unwanted fans (R136). -/

namespace Sys2Proof.Machine

/-! ### The preference order -/

section
variable {r : IncidentRecord} {fire : Nat} {dir : Direction} (held : r.id ≠ 0) (at_fire : r.fire = some fire)
  (toward : r.dir = some dir)

/-- A chainage upstream of a fire, for a target direction (R134). -/
def Upstream (fire : Nat) (dir : Direction) (chainage : Nat) : Prop :=
  match dir with
  | .ab => chainage < fire
  | .ba => fire < chainage

/-- What R134 compares of two fans once neither is upstream alone. -/
def RankedBefore (fire : Nat) (f g : FanRec) : Prop :=
  f.e.rank < g.e.rank ∨ (f.e.rank = g.e.rank ∧
    (((g.e.chainage : Int) - fire).natAbs < ((f.e.chainage : Int) - fire).natAbs ∨
      (((f.e.chainage : Int) - fire).natAbs = ((g.e.chainage : Int) - fire).natAbs ∧ f.e.num < g.e.num)))

theorem before_iff (f g : FanRec) : Rule.Before fire dir f g ↔
    (Upstream fire dir f.e.chainage ∧ ¬ Upstream fire dir g.e.chainage) ∨
      ((Upstream fire dir f.e.chainage ↔ Upstream fire dir g.e.chainage) ∧ RankedBefore fire f g) := Iff.rfl

include held at_fire toward

theorem isUpstream_iff (chainage : Nat) : isUpstream r chainage = true ↔ Upstream fire dir chainage := by
  unfold isUpstream Upstream
  rw [at_fire, target_of_held held, toward]
  cases dir <;> simp

theorem prefers_iff (f g : FanRec) : prefers r f g = true ↔ Rule.Before fire dir f g := by
  have ranked : (if f.e.rank != g.e.rank then decide (f.e.rank < g.e.rank)
      else if distance f.e.chainage fire != distance g.e.chainage fire then
        decide (distance g.e.chainage fire < distance f.e.chainage fire)
      else decide (f.e.num < g.e.num)) = true ↔ RankedBefore fire f g := by
    have far (c : Nat) : distance c fire = ((c : Int) - fire).natAbs := by
      unfold distance
      split <;> omega
    unfold RankedBefore
    rw [far, far]
    split
    · next differ =>
      rw [bne_iff_ne] at differ
      rw [decide_eq_true_iff]
      omega
    · next same =>
      rw [bne_iff_ne, not_not] at same
      split
      · next differ =>
        rw [bne_iff_ne] at differ
        rw [decide_eq_true_iff]
        omega
      · next same_far =>
        rw [bne_iff_ne, not_not] at same_far
        rw [decide_eq_true_iff]
        omega
  rw [before_iff, ← isUpstream_iff held at_fire toward, ← isUpstream_iff held at_fire toward]
  unfold prefers
  rw [at_fire]
  dsimp only
  rw [← ranked]
  cases isUpstream r f.e.chainage <;> cases isUpstream r g.e.chainage <;> simp

omit held at_fire toward in
theorem Rule.Before.asymm {f g : FanRec} (before : Rule.Before fire dir f g) : ¬ Rule.Before fire dir g f := by
  rw [before_iff] at *
  unfold RankedBefore at *
  by_cases up_f : Upstream fire dir f.e.chainage <;> by_cases up_g : Upstream fire dir g.e.chainage <;>
    simp only [up_f, up_g, true_and, false_and, not_true, not_false_iff, iff_self, true_iff, false_iff, or_false, false_or] at * <;>
    omega

omit held at_fire toward in
/-- Of two fans with different numbers one comes before the other. -/
theorem before_of_not {f g : FanRec} (differ : f.e.num ≠ g.e.num) (not_before : ¬ Rule.Before fire dir g f) :
    Rule.Before fire dir f g := by
  rw [before_iff] at *
  unfold RankedBefore at *
  by_cases up_f : Upstream fire dir f.e.chainage <;> by_cases up_g : Upstream fire dir g.e.chainage <;>
    simp only [up_f, up_g, true_and, false_and, not_true, not_false_iff, iff_self, true_iff, false_iff, or_false, false_or] at * <;>
    omega

omit held at_fire toward in
theorem not_before_trans {f g u : FanRec} (first : ¬ Rule.Before fire dir g f) (second : ¬ Rule.Before fire dir u g) :
    ¬ Rule.Before fire dir u f := by
  rw [before_iff] at *
  unfold RankedBefore at *
  by_cases up_f : Upstream fire dir f.e.chainage <;> by_cases up_g : Upstream fire dir g.e.chainage <;>
    by_cases up_u : Upstream fire dir u.e.chainage <;>
    simp only [up_f, up_g, up_u, true_and, false_and, not_true, not_false_iff, iff_self, true_iff, false_iff, or_false, false_or] at * <;>
    omega

/-- The order formed is the preference order of R134. -/
theorem preferenceOf_isPreference {fans : List FanRec} (apart : (fans.map (·.e.num)).Nodup) :
    Rule.IsPreference fire dir fans (preferenceOf r fans) := by
  let l := sortBy (prefers r) (fans.filter fun f => f.state != .unconfigured)
  have perm : l.Perm (fans.filter fun f => f.state != .unconfigured) := sortBy_perm _ _
  have not_prefers (f g : FanRec) : prefers r f g = false ↔ ¬ Rule.Before fire dir f g := by
    rw [← Bool.not_eq_true, prefers_iff held at_fire toward]
  have sorted : l.Pairwise fun a b => prefers r b a = false := by
    refine sortBy_pairwise (fun a b before => ?_) (fun a b c first second => ?_) _
    · rw [not_prefers]
      exact ((prefers_iff held at_fire toward a b).1 before).asymm
    · rw [not_prefers] at *
      exact not_before_trans first second
  have distinct : (l.map (·.e.num)).Nodup := (perm.map _).nodup_iff.2 ((List.filter_sublist.map _).nodup apart)
  have placed : l.Pairwise (Rule.Before fire dir) := (sorted.and (List.pairwise_map.1 distinct)).imp fun ⟨order, differ⟩ =>
    before_of_not differ ((not_prefers _ _).1 order)
  refine ⟨l, placed, fun f => ?_, ?_⟩
  · rw [perm.mem_iff, List.mem_filter, bne_iff_ne]
  · exact if_neg (by simpa using held)

end

/-- The marks of the fans are nothing to the order. -/
theorem preferenceOf_map {g : FanRec → FanRec} (same : ∀ f, (g f).e = f.e ∧ (g f).state = f.state) (r : IncidentRecord)
    (fans : List FanRec) : preferenceOf r (fans.map g) = preferenceOf r fans := by
  have order : (fun a b => prefers r (g a) (g b)) = prefers r := by
    funext a b
    unfold prefers
    rw [(same a).1, (same b).1]
  have configured : (fun f : FanRec => f.state != .unconfigured) ∘ g = fun f => f.state != .unconfigured := by
    funext f
    rw [Function.comp_apply, (same f).2]
  unfold preferenceOf
  split
  · rfl
  · rw [List.filter_map, configured, sortBy_map, order, List.map_map]
    refine List.map_congr_left fun f _ => ?_
    rw [Function.comp_apply, (same f).1]

/-! ### The unwanted fans -/

theorem unwanted_rule (r : IncidentRecord) (f : FanRec) : unwanted r f = Rule.unwanted r f := by
  unfold unwanted Rule.unwanted
  rw [useful_rule, Bool.eq_iff_iff]
  simp only [Bool.and_eq_true, Bool.or_eq_true, beq_iff_eq, bne_iff_ne, Option.isNone_iff_eq_none, decide_eq_true_eq, or_assoc]
  constructor
  · rintro ⟨running, h⟩
    refine ⟨running, ?_⟩
    tauto
  · rintro ⟨running, h⟩
    refine ⟨running, ?_⟩
    tauto

theorem unwanted_running {r : IncidentRecord} {f : FanRec} (unw : unwanted r f = true) : f.state = .running :=
  beq_iff_eq.1 (Bool.and_eq_true_iff.1 unw).1

/-- The stops of some fans asked, where they are unwanted: each fan is asked at most once (R136, R137). -/
structure StopsAsked (ns : List Nat) (p q : Part) : Prop where
  record : q.fm.record = p.fm.record
  fans   : ∀ m f, p.fan? m = some f → q.fan? m = some { f with
    stopReq := f.stopReq || (decide (m ∈ ns) && unwanted p.fm.record f) }
  posts  : ∃ l, q.handOns = p.handOns ++ l ∧ l.length ≤ ns.length ∧
    (∀ x ∈ l, ∃ n f, x = .orderRequest n .stop ∧ p.fan? n = some f ∧ f.state = .running) ∧
    ∀ n ∈ ns, ∀ f, p.fan? n = some f → unwanted p.fm.record f = true → f.stopReq = false → .orderRequest n .stop ∈ l

theorem testUnwanted_asked {n : Nat} {p : Part} (inside : p.fm.record.state = .control) :
    StopsAsked [n] p (testUnwanted n p) := by
  have control : inControl p = true := (inControl_iff p).2 inside
  have aside (not_asked : ∀ f, p.fan? n = some f → ¬ (unwanted p.fm.record f = true ∧ f.stopReq = false)) :
      StopsAsked [n] p p := by
    refine ⟨rfl, fun m f found => ?_, ⟨[], by simp, by simp, by simp, fun m mem f found unw clear => ?_⟩⟩
    · rw [found]
      by_cases own : m = n
      · subst own
        have stays := not_asked f found
        by_cases unw : unwanted p.fm.record f = true
        · have set : f.stopReq = true := by simpa [unw] using stays
          simp [unw, ← set]
        · simp [unw]
      · simp [own]
    · exact absurd ⟨unw, clear⟩ (not_asked f (List.mem_singleton.1 mem ▸ found))
  unfold testUnwanted
  cases found : p.fan? n with
  | none => exact aside fun f is_f => nomatch found.symm.trans is_f
  | some f =>
    dsimp only
    by_cases asked : unwanted p.fm.record f = true ∧ f.stopReq = false
    · obtain ⟨unw, clear⟩ := asked
      have stoppable : Stoppable f := ⟨unwanted_running unw, clear⟩
      rw [if_pos (by simp [control, unw]), askStop_of_stoppable found stoppable]
      refine ⟨rfl, fun m g found_g => ?_, ⟨[.orderRequest n .stop], rfl, by simp, ?_, ?_⟩⟩
      · by_cases own : m = n
        · subst own
          obtain rfl : f = g := Option.some.inj (found.symm.trans found_g)
          rw [stopAsked_fan? found]
          simp [unw]
        · rw [stopAsked_fan?_other own, found_g]
          simp [own]
      · intro x mem
        exact ⟨n, f, List.mem_singleton.1 mem, found, unwanted_running unw⟩
      · intro m mem _ _ _ _
        rw [List.mem_singleton.1 mem]
        exact List.mem_singleton_self _
    · have left : (if inControl p && unwanted p.fm.record f then askStop n p else p) = p := by
        split
        · next unw =>
          refine askStop_of_other found fun stoppable => asked ⟨?_, stoppable.2⟩
          exact (Bool.and_eq_true_iff.1 unw).2
        · rfl
      rw [left]
      exact aside fun g is_g => by
        obtain rfl : f = g := Option.some.inj (found.symm.trans is_g)
        exact asked

theorem unwanted_stopReq (r : IncidentRecord) (f : FanRec) (b : Bool) : unwanted r { f with stopReq := b } = unwanted r f := rfl

theorem stops_asked {ns : List Nat} (once : ns.Nodup) {p : Part} (inside : p.fm.record.state = .control) :
    StopsAsked ns p (ns.foldl (fun p n => testUnwanted n p) p) := by
  induction ns generalizing p with
  | nil =>
    refine ⟨rfl, fun m f found => ?_, ⟨[], by simp, by simp, by simp, by simp⟩⟩
    rw [List.foldl_nil, found]
    simp
  | cons n ns ih =>
    obtain ⟨fresh, once⟩ := List.nodup_cons.1 once
    have first : StopsAsked [n] p (testUnwanted n p) := testUnwanted_asked inside
    have rest := ih once (p := testUnwanted n p) (by rw [first.record]; exact inside)
    obtain ⟨l, posted, few, stops, asks⟩ := first.posts
    obtain ⟨l', posted', few', stops', asks'⟩ := rest.posts
    rw [List.foldl_cons]
    refine ⟨rest.record.trans first.record, fun m f found => ?_, ⟨l ++ l', ?_, ?_, fun x mem => ?_, ?_⟩⟩
    · rw [rest.fans m _ (first.fans m f found), first.record, unwanted_stopReq]
      by_cases own : m = n
      · subst own
        simp [fresh]
      · simp [own]
    · rw [posted', posted, List.append_assoc]
    · rw [List.length_append, List.length_cons]
      rw [List.length_singleton] at few
      omega
    · rcases List.mem_append.1 mem with mem | mem
      · exact stops x mem
      · obtain ⟨m, g, is_x, found_g, running⟩ := stops' x mem
        cases found : p.fan? m with
        | none =>
          have lost : (testUnwanted n p).fan? m = none := by
            have same : (testUnwanted n p).fm.fans.map (·.e) = p.fm.fans.map (·.e) := (testUnwanted_step n p).entries
            unfold Part.fan? at *
            have by_entry (l : List FanRec) : (l.find? fun f => f.e.num == m) = none ↔ m ∉ (l.map (·.e)).map (·.num) := by
              rw [List.find?_eq_none]
              simp
            rw [by_entry, same, ← by_entry]
            exact found
          exact nomatch lost.symm.trans found_g
        | some f =>
          have was := first.fans m f found
          obtain rfl := Option.some.inj (was.symm.trans found_g)
          exact ⟨m, f, is_x, found, running⟩
    · intro m mem f found unw clear
      rcases List.mem_cons.1 mem with rfl | mem
      · exact List.mem_append_left _ (asks m (List.mem_singleton_self _) f found unw clear)
      · have other : m ≠ n := fun same => fresh (same ▸ mem)
        refine List.mem_append_right _ (asks' m mem _ (first.fans m f found) ?_ ?_)
        · rw [first.record, unwanted_stopReq]
          exact unw
        · simp [clear, other]

end Sys2Proof.Machine
end

section
/-! PROOFS. What a record leaves of the Fan Manager when the event is over (R111 to R113, R135 to R137, R145, R147). -/

namespace Sys2Proof.Machine

section
variable {h : RecordHandOn} {p : Part}

/-! ### A and R -/

theorem fansTakeRecord_formed (h : RecordHandOn) (p : Part) : On ThrustFormed (fansTakeRecord h p) := by
  have judged : On ThrustFormed (fansJudged h p) := formThrust_formed _
  have asked : OpStep (fansJudged h p) (fansAsked h p) := OpStep.ite (testAllUnwanted_op _) (.refl _)
  have begun (q : Part) : OpStep q (clearingBegun q) := (staggeredStop_op _).after (fm_op _ q)
  have cancelled (q : Part) : OpStep q (spacingCancelled q) := fm_op _ q
  rw [fansTakeRecord_eq]
  exact ((testClearing_op _).after (OpStep.ite (OpStep.ite (begun _) (.refl _)) (cancelled _))).thrust (asked.thrust judged)

/-! ### A record taken outside CLEARING -/

section
variable (open_ : h.record.state ≠ .clearing) (quiet : p.handOns = [])

include open_ quiet

theorem fansTakeRecord_settled : OrderStep (fansTakeRecord h p) (settled (fansTakeRecord h p)) :=
  settled_order _ (by rw [fansTakeRecord_record]; exact open_) (fansTakeRecord_noEnd open_ (by simp [quiet]))

theorem finish_fansTakeRecord_spacing : (finish (fansTakeRecord h p)).fm.stopSpacing = none := by
  rw [finish_spacing (by rw [fansTakeRecord_record]; exact open_) (fansTakeRecord_noEnd open_ (by simp [quiet])),
    fansTakeRecord_of_open open_]
  rfl

theorem finish_fansTakeRecord_marks : MarksKept (fansTakeRecord h p) (finish (fansTakeRecord h p)) := by
  rcases finish_endsOrKeeps (fansTakeRecord h p) with ⟨_, marks⟩ | ⟨clearing, ended, _⟩
  · exact marks
  · have reg : (finish (fansTakeRecord h p)).reg = (fansTakeRecord h p).reg := by
      change (settled _).reg = _
      rw [(fansTakeRecord_settled open_ quiet).rest]
    rw [reg, clearing] at ended
    exact IncidentState.noConfusion ended

end

theorem testAllUnwanted_marks (p : Part) : MarksKept p (testAllUnwanted p) :=
  MarksKept.foldl _ (fun p n => testUnwanted_marks n p) _ p

theorem fansTakeRecord_marks (open_ : h.record.state ≠ .clearing) : MarksKept (fansJudged h p) (fansTakeRecord h p) := by
  rw [fansTakeRecord_of_open open_]
  exact MarksKept.trans (q := fansAsked h p) (.ite (testAllUnwanted_marks _) (.refl _)) (.of_fans rfl)

/-! ### A record taken in CLEARING -/

theorem takeClearingEnd_record {p : Part} : takeClearingEnd p = p ∨ (takeClearingEnd p).fm.record = .empty .quiet := by
  unfold takeClearingEnd
  split
  · next clearing =>
    refine .inr ?_
    let q : Part := { p with reg := { p.reg with lastCleared := p.reg.record.id } }
    have left : q.reg.record.state ≠ .quiet := by
      rw [show q.reg.record.state = .clearing from beq_iff_eq.1 clearing]
      exact IncidentState.noConfusion
    change (enterQuiet q).fm.record = _
    rw [enterQuiet_eq left, deliverRecord_fmRecord]
  · exact .inl rfl

/-- A clearing whose end, if it is reported, has been refused: order requests alone were taken. -/
theorem settled_of_record {p : Part} (posted : p.handOns = [] ∨ (Runs p ∧ .clearingEnd ∉ p.handOns) ∨ p.handOns = [.clearingEnd])
    (held : p.fm.record.id ≠ 0) (same : (settled p).fm.record = p.fm.record) : OrderStep p (settled p) := by
  rcases posted with quiet | ⟨runs, out⟩ | reported
  · rw [settled_of_quiet p quiet]
    exact .refl p
  · exact settled_of_runs runs out
  · have taken : settled p = { takeClearingEnd { p with handOns := [] } with handOns := [] } := by
      unfold settled
      have one : settle takeHandOn settleBound p = settle takeHandOn 999 (takeClearingEnd { p with handOns := [] }) := by
        change settle takeHandOn (999 + 1) p = _
        unfold settle
        rw [reported]
        rfl
      rw [one, settle_of_quiet _ _ _ (takeClearingEnd_handOns _)]
    rcases takeClearingEnd_record (p := { p with handOns := [] }) with ignored | emptied
    · rw [taken, ignored]
      exact handOns_step [] p (by simp)
    · rw [taken] at same
      rw [← show (takeClearingEnd { p with handOns := [] }).fm.record = p.fm.record from same, emptied] at held
      exact absurd rfl held

/-- What a record in CLEARING posts. -/
theorem fansTakeRecord_posted (clearing : h.record.state = .clearing) (quiet : p.handOns = []) :
    (fansTakeRecord h p).handOns = [] ∨ (Runs (fansTakeRecord h p) ∧ .clearingEnd ∉ (fansTakeRecord h p).handOns) ∨
      (fansTakeRecord h p).handOns = [.clearingEnd] := by
  by_cases enters : h.before = .clearing
  · have stays : fansTakeRecord h p = testClearing (fansJudged h p) := by
      rw [fansTakeRecord_eq, if_pos (by simp [clearing]), if_neg (by simp [enters]),
        fansAsked_of_not_control (by simp [clearing])]
    have waits : (fansJudged h p).handOns = [] := by
      rw [fansJudged_eq]
      exact quiet
    rw [stays]
    unfold testClearing
    split
    · exact .inr (.inr (congrArg (· ++ _) waits))
    · exact .inl waits
  · obtain ⟨held_open, over_⟩ := fansTakeRecord_clearing clearing enters quiet
    by_cases open_ : HeldOpen p
    · exact (held_open open_).imp_right .inl
    · exact .inr (.inr (over_ open_))

/-! ### The preference order and the queue -/

theorem fansTakeRecord_queue : (fansTakeRecord h p).fm.queue.Sublist (fansJudged h p).fm.queue := by
  have asked : GateStep (fansJudged h p) (fansAsked h p) := by
    unfold fansAsked
    split
    · exact GateStep.foldl _ (fun p n => testUnwanted_gate n p) _ _
    · exact .refl _
  have begun (q : Part) : (clearingBegun q).fm.queue.Sublist q.fm.queue := by
    unfold clearingBegun
    rcases staggeredStop_cases { q with fm := { q.fm with clearingSent := false } } with same | ⟨n, f, _, _, same⟩
    · rw [same]
      exact .refl _
    · rw [same]
      exact .refl _
  have tested (q : Part) : (testClearing q).fm.queue = q.fm.queue := by
    unfold testClearing
    split <;> rfl
  rw [fansTakeRecord_eq, tested]
  split
  · split
    · exact (begun _).trans asked.queue
    · exact asked.queue
  · exact asked.queue

/-- The preference order and the queue when the event is over, where the record is still held (R134, R135, R141). -/
theorem finish_fansTakeRecord_preference {fire : Nat} {dir : Direction} (quiet : p.handOns = [])
    (apart : (p.fm.fans.map (·.e.num)).Nodup) (held : h.record.id ≠ 0) (at_fire : h.record.fire = some fire)
    (toward : h.record.dir = some dir)
    (stays : h.record.state ≠ .clearing ∨ (finish (fansTakeRecord h p)).fm.record = h.record) :
    (movesFrom p.fm.record h.record = true ∨ entersControl h = true →
      Rule.IsPreference fire dir p.fm.fans (finish (fansTakeRecord h p)).fm.preference ∧
        (finish (fansTakeRecord h p)).fm.queue = []) ∧
    (¬ (movesFrom p.fm.record h.record = true ∨ entersControl h = true) →
      (finish (fansTakeRecord h p)).fm.preference = p.fm.preference) := by
  have step : OrderStep (fansTakeRecord h p) (settled (fansTakeRecord h p)) := by
    by_cases clearing : h.record.state = .clearing
    · refine settled_of_record (fansTakeRecord_posted clearing quiet) (by rw [fansTakeRecord_record]; exact held) ?_
      rw [fansTakeRecord_record]
      exact stays.resolve_left fun h => h clearing
    · exact fansTakeRecord_settled clearing quiet
  have preference : (finish (fansTakeRecord h p)).fm.preference = (fansJudged h p).fm.preference :=
    step.preference.trans (fansTakeRecord_judged h p).preference
  have no_zero : (h.record.id == 0) = false := by simpa using held
  have formed := fansJudged_preference h p
  rw [no_zero, Bool.or_false] at formed
  rw [preference, formed]
  refine ⟨fun moves => ⟨?_, ?_⟩, fun stands => ?_⟩
  · rw [if_pos (by rw [Bool.or_eq_true]; exact moves), fansJudged_fans,
      preferenceOf_map (g := judgedBy h p) fun f => ⟨rfl, rfl⟩]
    exact preferenceOf_isPreference held at_fire toward apart
  · have drained : (finish (fansTakeRecord h p)).fm.queue.Sublist (fansJudged h p).fm.queue :=
      (finish_drift _).queue.trans fansTakeRecord_queue
    rw [fansJudged_queue h p (.inr moves)] at drained
    exact List.sublist_nil.1 drained
  · rw [if_neg (by rw [Bool.or_eq_true]; exact stands)]

end

end Sys2Proof.Machine
end

section
/-! PROOFS. The fans when the event of a record is over (R112, R113, R136, R137). -/

namespace Sys2Proof.Machine

/-! ### Stops taken, every order of the backlog passing -/

/-- What waits are stops of RUNNING fans alone. -/
def StopsWait (p : Part) : Prop := ∀ x ∈ p.handOns, ∃ n f, x = .orderRequest n .stop ∧ p.fan? n = some f ∧ f.state = .running

theorem settle_stops (fuel : Nat) {p : Part} (stops : StopsWait p) (passing : Passing p)
    (open_ : p.fm.record.state ≠ .clearing) : (settle takeHandOn fuel p).fm.fans = p.fm.fans := by
  induction fuel generalizing p with
  | zero => rfl
  | succ fuel ih =>
    unfold settle
    split
    · rfl
    · next x rest waits =>
      obtain ⟨n, f, rfl, found, running⟩ := stops x (by rw [waits]; exact List.mem_cons_self ..)
      obtain ⟨stand, passes⟩ := requestOrder_stop_stand (p := { p with handOns := rest }) passing found running open_
      refine (ih (p := requestOrder n .stop { p with handOns := rest }) (fun y mem => ?_) passes ?_).trans stand.fans
      · rw [stand.handOns] at mem
        obtain ⟨m, g, is_y, found_g, running_g⟩ := stops y (by rw [waits]; exact List.mem_cons_of_mem _ mem)
        refine ⟨m, g, is_y, ?_, running_g⟩
        unfold Part.fan? at *
        rw [stand.fans]
        exact found_g
      · rw [stand.record]
        exact open_

section
variable {h : RecordHandOn} {p : Part}

/-- The record asks stops of the unwanted fans (R136). -/
def AsksStops (h : RecordHandOn) (p : Part) : Prop :=
  h.record.state = .control ∧ (movesFrom p.fm.record h.record = true ∨ entersControl h = true)

theorem fansAsked_of_asking (asks : AsksStops h p) : fansAsked h p = testAllUnwanted (fansJudged h p) :=
  if_pos (by simpa [AsksStops] using asks)

theorem fansAsked_of_not (aside : ¬ AsksStops h p) : fansAsked h p = fansJudged h p :=
  if_neg (by simpa [AsksStops] using aside)

theorem fan?_judged {n : Nat} {f : FanRec} (found : p.fan? n = some f) : (fansJudged h p).fan? n = some (judgedBy h p f) := by
  unfold Part.fan? at *
  rw [fansJudged_fans, List.find?_map, show (fun f : FanRec => f.e.num == n) ∘ judgedBy h p = fun f => f.e.num == n from rfl,
    found]
  rfl

theorem judged_numbers : (fansJudged h p).fm.fans.map (·.e.num) = p.fm.fans.map (·.e.num) := by
  rw [fansJudged_fans, List.map_map]
  rfl

variable (open_ : h.record.state ≠ .clearing)

include open_

/-- A record that asks nothing has no hand-on. -/
theorem finish_of_not_asking (quiet : p.handOns = []) (aside : ¬ AsksStops h p) :
    (finish (fansTakeRecord h p)).fm = (spacingCancelled (fansJudged h p)).fm := by
  have left : fansTakeRecord h p = spacingCancelled (fansJudged h p) := by
    rw [fansTakeRecord_of_open open_, fansAsked_of_not aside]
  have waits : (fansTakeRecord h p).handOns = [] := by
    rw [left]
    change (fansJudged h p).handOns = []
    rw [fansJudged_eq]
    exact quiet
  change (settled (fansTakeRecord h p)).fm = _
  rw [settled_of_quiet _ waits, left]

variable (asks : AsksStops h p) (apart : (p.fm.fans.map (·.e.num)).Nodup)

include asks apart

theorem fansTakeRecord_stops : StopsAsked (p.fm.fans.map (·.e.num)) (fansJudged h p) (fansTakeRecord h p) := by
  have stops := stops_asked (ns := p.fm.fans.map (·.e.num)) apart (p := fansJudged h p)
    (by rw [fansJudged_record]; exact asks.1)
  have left : fansTakeRecord h p = spacingCancelled ((p.fm.fans.map (·.e.num)).foldl (fun p n => testUnwanted n p) (fansJudged h p)) := by
    rw [fansTakeRecord_of_open open_, fansAsked_of_asking asks, testAllUnwanted, judged_numbers]
  rw [left]
  exact ⟨stops.record, stops.fans, stops.posts⟩

/-- A fan as the record leaves it, its stop requested where it is unwanted. -/
theorem fan?_fansTakeRecord {n : Nat} {f : FanRec} (found : p.fan? n = some f) : (fansTakeRecord h p).fan? n =
    some { judgedBy h p f with stopReq := f.stopReq || Rule.unwanted h.record (judgedBy h p f) } := by
  have mem : n ∈ p.fm.fans.map (·.e.num) := by
    rw [← fan?_num found]
    exact List.mem_map_of_mem (List.mem_of_find?_eq_some found)
  rw [(fansTakeRecord_stops open_ asks apart).fans n _ (fan?_judged found), fansJudged_record, unwanted_rule]
  simp only [mem, decide_true, Bool.true_and]
  rfl

variable (quiet : p.handOns = [])

include quiet

theorem fansTakeRecord_waits : StopsWait (fansTakeRecord h p) := by
  have stops := fansTakeRecord_stops open_ asks apart
  obtain ⟨l, posted, _, running, _⟩ := stops.posts
  intro x mem
  rw [posted, fansJudged_eq] at mem
  obtain ⟨n, f, is_x, found, runs⟩ := running x (by simpa [quiet] using mem)
  exact ⟨n, _, is_x, stops.fans n f found, runs⟩

/-- What stands of a fan when the event is over. -/
theorem finish_fan?_of_asking {n : Nat} {f : FanRec} (found : p.fan? n = some f)
    (stands : f.state ≠ .starting ∨ p.ord.backlog = []) : (finish (fansTakeRecord h p)).fan? n =
      some { judgedBy h p f with stopReq := f.stopReq || Rule.unwanted h.record (judgedBy h p f) } := by
  have taken := fan?_fansTakeRecord open_ asks apart found
  rcases stands with moving | empty
  · have drained : (fansTakeRecord h p).fm.queue = [] := by
      have shorter := fansTakeRecord_queue (h := h) (p := p)
      rw [fansJudged_queue h p (.inr asks.2)] at shorter
      exact List.sublist_nil.1 shorter
    obtain ⟨g, found_g, same⟩ := finish_fan? taken ⟨moving, fun _ => .inr (by rw [drained]; exact List.not_mem_nil)⟩
    have marks := (finish_fansTakeRecord_marks open_ quiet).fan? taken found_g
    have excluded : g.excluded = _ := congrArg (fun m : FanEntry × Bool × Bool × Bool × Bool × Option LastReport => m.2.1) marks
    have heat : g.heat = _ := congrArg (fun m : FanEntry × Bool × Bool × Bool × Bool × Option LastReport => m.2.2.1) marks
    rw [found_g, same, excluded, heat]
    rfl
  · have ord : (fansTakeRecord h p).ord = p.ord := by rw [fansTakeRecord_rest]
    have passing : Passing (fansTakeRecord h p) := by
      intro m mem
      rw [ord, empty] at mem
      exact nomatch mem
    have fans := settle_stops settleBound (fansTakeRecord_waits open_ asks apart quiet) passing
      (by rw [fansTakeRecord_record]; exact open_)
    unfold Part.fan? at *
    rw [← taken]
    exact congrArg (List.find? _) fans

/-- The stop of an unwanted fan is requested of the Order Engine (R137, R153). -/
theorem finish_asks_stop (few : p.fm.fans.length ≤ 48) {n : Nat} {f : FanRec} (found : p.fan? n = some f)
    (unw : Rule.unwanted h.record (judgedBy h p f) = true) (clear : f.stopReq = false) :
    Asked n .stop (finish (fansTakeRecord h p)) := by
  have stops := fansTakeRecord_stops open_ asks apart
  obtain ⟨l, posted, short, _, each⟩ := stops.posts
  have waits : (fansTakeRecord h p).handOns = l := by
    rw [posted, fansJudged_eq]
    exact congrArg (· ++ l) quiet
  have mem : n ∈ p.fm.fans.map (·.e.num) := by
    rw [← fan?_num found]
    exact List.mem_map_of_mem (List.mem_of_find?_eq_some found)
  have posts : .orderRequest n .stop ∈ l := each n mem _ (fan?_judged found)
    (by rw [fansJudged_record, unwanted_rule]; exact unw) clear
  obtain ⟨i, small, at_i⟩ := List.getElem_of_mem posts
  have running : f.state = .running := unwanted_running (f := judgedBy h p f) (by rw [unwanted_rule]; exact unw)
  refine finish_asked rfl (fan?_fansTakeRecord open_ asks apart found) (still_of_running running _) (fun kind mem => ?_)
    (i := i) ?_ ?_
  · obtain ⟨m, g, same, _, _⟩ := fansTakeRecord_waits open_ asks apart quiet _ mem
    exact (HandOn.orderRequest.inj same).2
  · rw [List.length_map] at short
    omega
  · rw [waits, List.getElem?_eq_getElem small, at_i]

end

end Sys2Proof.Machine
end

section
/-! PROOFS. The start queue built by a demand update, and the grants of the gate (R133, R139 to R142). -/

namespace Sys2Proof.Machine

/-! ### The start queue -/

theorem eligible_rule (r : IncidentRecord) (f : FanRec) : eligible r f = true ↔
    f.state = .stopped ∧ f.resting = false ∧ f.excluded = false ∧ f.heat = false ∧ 0 < (Rule.useful r f.e).1 := by
  rw [eligible_iff, useful_rule]

theorem walkQueue_rule (rec : IncidentRecord) (d r q : Nat) (l : List FanRec) :
    walkQueue rec d r q l = Rule.startQueue rec d r q l := by
  induction l generalizing q with
  | nil => rfl
  | cons f l ih =>
    unfold walkQueue Rule.startQueue
    dsimp only
    refine if_congr (eligible_rule rec f) ?_ (ih q)
    rw [useful_rule]
    refine if_congr ?_ (by rw [ih]) rfl
    omega

/-- The queue is part of the order, its fans eligible. -/
theorem startQueue_sublist (rec : IncidentRecord) (d r q : Nat) (l : List FanRec) :
    (Rule.startQueue rec d r q l).Sublist (l.map (·.e.num)) ∧
      ∀ n ∈ Rule.startQueue rec d r q l, ∃ f ∈ l, f.e.num = n ∧ eligible rec f = true := by
  induction l generalizing q with
  | nil => exact ⟨.refl _, nofun⟩
  | cons f l ih =>
    unfold Rule.startQueue
    dsimp only
    split
    · next ready =>
      split
      · obtain ⟨sub, each⟩ := ih (q + (Rule.useful rec f.e).1)
        refine ⟨sub.cons_cons _, fun n mem => ?_⟩
        rcases List.mem_cons.1 mem with rfl | mem
        · exact ⟨f, List.mem_cons_self .., rfl, (eligible_rule rec f).2 ready⟩
        · obtain ⟨g, listed, own, ok⟩ := each n mem
          exact ⟨g, List.mem_cons_of_mem _ listed, own, ok⟩
      · exact ⟨List.nil_sublist _, nofun⟩
    · obtain ⟨sub, each⟩ := ih q
      refine ⟨sub.cons _, fun n mem => ?_⟩
      obtain ⟨g, listed, own, ok⟩ := each n mem
      exact ⟨g, List.mem_cons_of_mem _ listed, own, ok⟩

theorem preferred_numbers (m : FanManager) : ((preferred m).map (·.e.num)).Sublist m.preference := by
  unfold preferred
  induction m.preference with
  | nil => exact .refl _
  | cons n l ih =>
    rw [List.filterMap_cons]
    cases found : m.fans.find? fun f => f.e.num == n with
    | none => exact ih.cons _
    | some f =>
      have own : f.e.num = n := beq_iff_eq.1 (List.find?_some (p := fun f : FanRec => f.e.num == n) found)
      rw [List.map_cons, own]
      exact ih.cons_cons _

/-- A useful thrust has a direction (R140). -/
theorem useful_dir (r : IncidentRecord) (e : FanEntry) : 0 < (Rule.useful r e).1 → ∃ d, (Rule.useful r e).2 = some d := by
  unfold Rule.useful
  cases e.orientation <;> grind

/-- A fan that is eligible has a direction to start in. -/
theorem useful_of_eligible {r : IncidentRecord} {f : FanRec} (ok : eligible r f = true) : ∃ d, (useful r f.e).2 = some d := by
  have thrust := ((eligible_iff r f).1 ok).2.2.2.2
  rw [useful_rule] at *
  exact useful_dir r f.e thrust

/-! ### The slots of the gate -/

theorem takeSlot_keeps (n g : Nat) (l : List (Option Nat)) {k m : Nat} (held : l[k]? = some (some m)) :
    (takeSlot n g l)[k]? = some (some m) := by
  induction l generalizing g k with
  | nil => exact nomatch held
  | cons s l ih =>
    cases g with
    | zero => exact held
    | succ g =>
      cases s with
      | none =>
        cases k with
        | zero => exact nomatch held
        | succ k => exact held
      | some x =>
        cases k with
        | zero => exact held
        | succ k => exact ih g held

/-- The free slots among the first `g`. -/
def freeSlots (g : Nat) (l : List (Option Nat)) : Nat := ((l.take g).filter Option.isNone).length

theorem slotFree_iff (m : FanManager) (g : Nat) : slotFree m g = true ↔ 0 < freeSlots g m.slots := by
  unfold slotFree freeSlots
  rw [List.length_pos_iff, ne_eq, List.filter_eq_nil_iff, List.any_eq_true]
  push Not
  rfl

/-- A slot taken is a free one of the first `g`. -/
theorem takeSlot_takes (n g : Nat) (l : List (Option Nat)) (free : 0 < freeSlots g l) :
    (∃ k < g, (takeSlot n g l)[k]? = some (some n)) ∧ freeSlots g (takeSlot n g l) + 1 = freeSlots g l := by
  induction l generalizing g with
  | nil =>
    unfold freeSlots at free
    rw [List.take_nil] at free
    exact absurd free (Nat.lt_irrefl 0)
  | cons s l ih =>
    cases g with
    | zero => exact absurd free (Nat.lt_irrefl 0)
    | succ g =>
      cases s with
      | none => exact ⟨⟨0, Nat.succ_pos g, rfl⟩, rfl⟩
      | some x =>
        obtain ⟨⟨k, small, taken⟩, fewer⟩ := ih g free
        exact ⟨⟨k + 1, Nat.succ_lt_succ small, taken⟩, fewer⟩

/-! ### The grants (R142) -/

/-- The START for a fan number. -/
def startOf (p : Part) (n : Nat) : OrderKind :=
  match p.fan? n with
  | some f => if (Rule.useful p.fm.record f.e).2 = some .rev then .startRev else .startFwd
  | none => .startFwd

/-- A fan started in its useful direction. -/
def startedFan (r : IncidentRecord) (f : FanRec) : FanRec := enter .starting (useful r f.e).2 f

/-- Every fan of the queue is a record that is eligible, and no fan is in it twice. -/
def QueueReady (p : Part) : Prop :=
  p.fm.queue.Nodup ∧ ∀ n ∈ p.fm.queue, ∃ f, p.fan? n = some f ∧ eligible p.fm.record f = true

/-- The first fans of the queue have been granted a slot each. -/
structure Granted (gs : List Nat) (p q : Part) : Prop where
  rest    : q = { p with fm := { p.fm with queue := q.fm.queue, slots := q.fm.slots, fans := q.fm.fans }, handOns := q.handOns }
  queue   : p.fm.queue = gs ++ q.fm.queue
  fans    : ∀ m f, p.fan? m = some f → q.fan? m = some (if m ∈ gs then startedFan p.fm.record f else f)
  posts   : q.handOns = p.handOns ++ gs.map fun n => .orderRequest n (startOf p n)
  holds   : ∀ n ∈ gs, ∃ k < p.control.gate, q.fm.slots[k]? = some (some n)
  keeps   : ∀ (k n : Nat), p.fm.slots[k]? = some (some n) → q.fm.slots[k]? = some (some n)
  free    : freeSlots p.control.gate q.fm.slots + gs.length = freeSlots p.control.gate p.fm.slots

section
variable {p q r : Part} {gs gs' : List Nat}

theorem Granted.refl (p : Part) : Granted [] p p :=
  ⟨rfl, rfl, fun m f found => by simpa using found, by simp, nofun, fun _ _ held => held, rfl⟩

theorem Granted.record (h : Granted gs p q) : q.fm.record = p.fm.record := by rw [h.rest]

theorem Granted.control (h : Granted gs p q) : q.control = p.control := by rw [h.rest]; rfl

theorem Granted.ready (h : Granted gs p q) (ready : QueueReady p) : QueueReady q := by
  obtain ⟨once, each⟩ := ready
  rw [h.queue] at once each
  obtain ⟨_, later, apart⟩ := List.nodup_append.1 once
  refine ⟨later, fun n mem => ?_⟩
  obtain ⟨f, found, ok⟩ := each n (List.mem_append_right _ mem)
  have other : n ∉ gs := fun listed => apart n listed n mem rfl
  refine ⟨f, ?_, by rw [h.record]; exact ok⟩
  rw [h.fans n f found, if_neg other]

theorem Granted.trans (h : Granted gs p q) (k : Granted gs' q r) (ready : QueueReady p) : Granted (gs ++ gs') p r := by
  obtain ⟨once, each⟩ := ready
  have others : ∀ n ∈ gs', n ∉ gs := by
    intro n mem listed
    rw [h.queue, k.queue] at once
    exact (List.nodup_append.1 once).2.2 n listed n (List.mem_append_left _ mem) rfl
  refine ⟨by rw [k.rest, h.rest], by rw [h.queue, k.queue, List.append_assoc], fun m f found => ?_, ?_, fun n mem => ?_,
    fun i n held => k.keeps i n (h.keeps i n held), ?_⟩
  · rw [k.fans m _ (h.fans m f found), h.record]
    by_cases first : m ∈ gs
    · rw [if_pos first, if_neg fun later => others m later first, if_pos (List.mem_append_left _ first)]
    · rw [if_neg first]
      exact congrArg some (if_congr (by simp [first]) rfl rfl)
  · rw [k.posts, h.posts, List.append_assoc, List.map_append]
    refine congrArg (fun l => p.handOns ++ (_ ++ l)) (List.map_congr_left fun n mem => ?_)
    have same : startOf q n = startOf p n := by
      obtain ⟨f, found, _⟩ := each n (by rw [h.queue, k.queue]; simp [mem])
      unfold startOf
      rw [h.fans n f found, found, if_neg (others n mem), h.record]
    rw [same]
  · rcases List.mem_append.1 mem with first | later
    · obtain ⟨i, small, held⟩ := h.holds n first
      exact ⟨i, small, k.keeps i n held⟩
    · rw [← h.control]
      exact k.holds n later
  · have first := h.free
    have second := k.free
    rw [h.control] at second
    rw [List.length_append]
    omega

/-- One grant: the head of the queue, where a slot is free (R142). -/
theorem grantOne_granted (ready : QueueReady p) (inside : p.fm.record.state = .control) :
    ∃ gs, Granted gs p (grantOne p) ∧ gs.length = min 1 (min (freeSlots p.control.gate p.fm.slots) p.fm.queue.length) := by
  unfold grantOne
  cases queue : p.fm.queue with
  | nil => exact ⟨[], .refl p, by simp⟩
  | cons n rest =>
    obtain ⟨f, found, ok⟩ := ready.2 n (by rw [queue]; exact List.mem_cons_self ..)
    obtain ⟨d, toward⟩ := useful_of_eligible ok
    dsimp only
    rw [found]
    dsimp only
    rw [toward]
    dsimp only
    by_cases free : 0 < freeSlots p.control.gate p.fm.slots
    · rw [if_pos (by rw [Bool.and_eq_true]; exact ⟨(slotFree_iff _ _).2 free, (inControl_iff p).2 inside⟩)]
      obtain ⟨taken, fewer⟩ := takeSlot_takes n p.control.gate p.fm.slots free
      have kind : startOf p n = startKind d := by
        unfold startOf
        rw [found]
        dsimp only
        rw [← useful_rule, toward]
        cases d <;> rfl
      refine ⟨[n], ⟨rfl, queue, fun m g found_g => ?_, ?_, ?_, fun k m held => takeSlot_keeps n _ _ held, ?_⟩, ?_⟩
      · change (onFan n (enter .starting (some d)) _).fan? m = _
        rw [fan?_onFan n m (g := enter .starting (some d)) (fun _ => rfl)]
        change (p.fan? m).map _ = _
        rw [found_g]
        by_cases own : m = n
        · subst own
          obtain rfl : f = g := Option.some.inj (found.symm.trans found_g)
          simp [startedFan, toward]
        · simp [own]
      · rw [List.map_singleton, kind]
        rfl
      · intro m mem
        rw [List.mem_singleton.1 mem]
        exact taken
      · exact fewer
      · rw [List.length_singleton, List.length_cons]
        omega
    · rw [if_neg (by rw [Bool.and_eq_true]; exact fun h => free ((slotFree_iff _ _).1 h.1))]
      exact ⟨[], .refl p, by rw [List.length_nil]; omega⟩

/-- The grants of an event: the head of the queue, as far as slots are free (R142). -/
theorem grants_granted (ready : QueueReady p) (inside : p.fm.record.state = .control) (four : p.fm.slots.length = 4) :
    Granted (p.fm.queue.take (freeSlots p.control.gate p.fm.slots)) p (grants p) := by
  have step (k : Nat) {q : Part} (h : ∃ gs, Granted gs p q ∧
      gs.length = min k (min (freeSlots p.control.gate p.fm.slots) p.fm.queue.length)) :
      ∃ gs, Granted gs p (grantOne q) ∧
        gs.length = min (k + 1) (min (freeSlots p.control.gate p.fm.slots) p.fm.queue.length) := by
    obtain ⟨gs, granted, length⟩ := h
    obtain ⟨gs', next, one⟩ := grantOne_granted (granted.ready ready) (by rw [granted.record]; exact inside)
    refine ⟨gs ++ gs', granted.trans next ready, ?_⟩
    have free := granted.free
    have queue := congrArg List.length granted.queue
    rw [granted.control] at one
    rw [List.length_append] at queue ⊢
    omega
  obtain ⟨gs, granted, length⟩ := step 3 (step 2 (step 1 (step 0 ⟨[], .refl p, by simp⟩)))
  have at_most : freeSlots p.control.gate p.fm.slots ≤ 4 := by
    unfold freeSlots
    have filtered := List.length_filter_le Option.isNone (p.fm.slots.take p.control.gate)
    rw [List.length_take] at filtered
    omega
  have is_take : gs = p.fm.queue.take (freeSlots p.control.gate p.fm.slots) := by
    have short : gs.length = min (freeSlots p.control.gate p.fm.slots) p.fm.queue.length := by omega
    have prefix_ : gs = p.fm.queue.take gs.length := by
      rw [granted.queue, List.take_left]
    rw [prefix_, List.take_eq_take_iff]
    omega
  rw [← is_take]
  exact granted

end

end Sys2Proof.Machine
end

section
/-! PROOFS. A demand update taken in CONTROL (R138 to R140, R142), and order requests for fans without an order. -/

namespace Sys2Proof.Machine

/-! ### What a demand update finds -/

/-- The start queue that a demand update builds (R139). -/
def demandQueue (d : Nat) (p : Part) : List Nat := Rule.startQueue p.fm.record d p.fm.r 0 (preferred p.fm)

/-- The fans that a demand update starts (R142). -/
def demandStarts (d : Nat) (p : Part) : List Nat := (demandQueue d p).take (freeSlots p.control.gate p.fm.slots)

/-- The fan that a demand update stops, if there is one (R140). -/
def demandStops (d : Nat) (p : Part) : List Nat :=
  if demandQueue d p = [] ∧ ∀ f ∈ p.fm.fans, ¬ (f.state = .running ∧ f.stopReq = true) then
    match Rule.lastUseful p.fm.record (preferred p.fm) with
    | some l => if (p.fm.r : Int) - d ≥ ((Rule.useful p.fm.record l.e).1 + p.control.hysteresis : Nat) then [l.e.num] else []
    | none => []
  else []

/-- The Fan Manager after a demand update taken in CONTROL. -/
structure DemandTaken (d : Nat) (p q : Part) : Prop where
  ord    : q.ord = p.ord
  record : q.fm.record = p.fm.record
  queue  : q.fm.queue = (demandQueue d p).drop (freeSlots p.control.gate p.fm.slots)
  fans   : ∀ n f, p.fan? n = some f → q.fan? n = some (
    if n ∈ demandStarts d p then startedFan p.fm.record f else if n ∈ demandStops d p then { f with stopReq := true } else f)
  holds  : ∀ n ∈ demandStarts d p, ∃ k < p.control.gate, q.fm.slots[k]? = some (some n)
  keeps  : ∀ (k n : Nat), p.fm.slots[k]? = some (some n) → q.fm.slots[k]? = some (some n)
  posts  : q.handOns = p.handOns ++ (demandStarts d p).map (fun n => .orderRequest n (startOf p n)) ++
    (demandStops d p).map fun n => .orderRequest n .stop

section
variable {d : Nat} {p : Part}

theorem preferred_fan {f : FanRec} (mem : f ∈ preferred p.fm) : p.fan? f.e.num = some f := by
  obtain ⟨n, _, found⟩ := List.mem_filterMap.1 mem
  have own : f.e.num = n := fan?_num found
  rw [own]
  exact found

/-- The part with the demand held and the queue rebuilt (R138, R139). -/
def rebuilt (d : Nat) (p : Part) : Part := rebuildQueue { p with fm := { p.fm with lastDemand := d } }

theorem rebuilt_queue : (rebuilt d p).fm.queue = demandQueue d p := walkQueue_rule ..

theorem demandQueue_ready (once : p.fm.preference.Nodup) :
    (demandQueue d p).Nodup ∧ ∀ n ∈ demandQueue d p, ∃ f, p.fan? n = some f ∧ eligible p.fm.record f = true := by
  obtain ⟨part, each⟩ := startQueue_sublist p.fm.record d p.fm.r 0 (preferred p.fm)
  refine ⟨(part.trans (preferred_numbers p.fm)).nodup once, fun n mem => ?_⟩
  obtain ⟨f, listed, own, ok⟩ := each n mem
  exact ⟨f, own ▸ preferred_fan listed, ok⟩

theorem rebuilt_ready (once : p.fm.preference.Nodup) : QueueReady (rebuilt d p) := by
  unfold QueueReady
  rw [rebuilt_queue]
  exact demandQueue_ready once

theorem pruneQueue_of_ready {q : Part} (ready : QueueReady q) : pruneQueue q = q := by
  have all : q.fm.queue.filter (eligibleNum q.fm) = q.fm.queue := by
    refine List.filter_eq_self.2 fun n mem => ?_
    obtain ⟨f, found, ok⟩ := ready.2 n mem
    exact (eligibleNum_iff q.fm n).2 ⟨f, found, ok⟩
  unfold pruneQueue
  rw [all]

theorem grants_of_empty {q : Part} (empty : q.fm.queue = []) : grants q = q := by
  have one : grantOne q = q := by
    unfold grantOne
    rw [empty]
  unfold grants
  rw [one, one, one, one]

/-! ### The stop of R140 -/

theorem lastUseful_rule (r : IncidentRecord) (l : List FanRec) : lastWhere (runsUseful r) l = Rule.lastUseful r l := by
  have same : runsUseful r = fun f => f.state == .running && f.dir.isSome && f.dir == (Rule.useful r f.e).2 := by
    funext f
    unfold runsUseful
    rw [useful_rule]
  unfold lastWhere Rule.lastUseful
  rw [← same, ← List.head?_reverse, ← List.filter_reverse, List.head?_filter]

theorem lastUseful_running {r : IncidentRecord} {l : List FanRec} {f : FanRec} (last : Rule.lastUseful r l = some f) :
    f ∈ l ∧ f.state = .running := by
  unfold Rule.lastUseful at last
  refine ⟨List.mem_reverse.1 (List.mem_of_find?_eq_some last), ?_⟩
  have holds := List.find?_some last
  rw [Bool.and_eq_true, Bool.and_eq_true] at holds
  exact beq_iff_eq.1 holds.1.1

/-- The stop rule asks the one stop, if there is one (R140). -/
theorem stopRule_rebuilt (empty : demandQueue d p = []) :
    (stopRule (rebuilt d p) = rebuilt d p ∧ demandStops d p = []) ∨
      ∃ n f, demandStops d p = [n] ∧ p.fan? n = some f ∧ f.state = .running ∧
        stopRule (rebuilt d p) = stopAsked n (rebuilt d p) := by
  unfold stopRule demandStops
  by_cases asked : ∀ f ∈ p.fm.fans, ¬ (f.state = .running ∧ f.stopReq = true)
  · have none_asked : ((rebuilt d p).fm.fans.any fun f => f.state == .running && f.stopReq) = false := by
      rw [List.any_eq_false]
      intro f mem both
      rw [Bool.and_eq_true, beq_iff_eq] at both
      exact asked f mem both
    have stands : preferred (rebuilt d p).fm = preferred p.fm := rfl
    rw [if_neg (by rw [none_asked]; exact Bool.false_ne_true), lastUseful_rule, if_pos ⟨empty, asked⟩, stands,
      show (rebuilt d p).fm.record = p.fm.record from rfl]
    cases last : Rule.lastUseful p.fm.record (preferred p.fm) with
    | none => exact .inl ⟨rfl, rfl⟩
    | some l =>
      obtain ⟨listed, running⟩ := lastUseful_running last
      have found : p.fan? l.e.num = some l := preferred_fan listed
      dsimp only
      rw [useful_rule]
      by_cases over_ : d + (Rule.useful p.fm.record l.e).1 + p.control.hysteresis ≤ p.fm.r
      · have clear : l.stopReq = false := Bool.eq_false_iff.2 fun set =>
          asked l (List.mem_of_find?_eq_some found) ⟨running, set⟩
        refine .inr ⟨l.e.num, l, if_pos (by omega), found, running, (if_pos over_).trans ?_⟩
        exact askStop_of_stoppable (p := rebuilt d p) found ⟨running, clear⟩
      · exact .inl ⟨if_neg over_, if_neg (by omega)⟩
  · have some_asked : ((rebuilt d p).fm.fans.any fun f => f.state == .running && f.stopReq) = true := by
      push Not at asked
      obtain ⟨f, mem, running, set⟩ := asked
      exact List.any_eq_true.2 ⟨f, mem, by rw [running, set]; rfl⟩
    exact .inl ⟨if_pos some_asked, if_neg fun h => asked h.2⟩

/-- A demand update taken in CONTROL (R138 to R140, R142). -/
theorem takeDemand_taken (inside : p.fm.record.state = .control) (once : p.fm.preference.Nodup)
    (four : p.fm.slots.length = 4) : DemandTaken d p (takeDemand d p) := by
  have control : inControl p = true := (inControl_iff p).2 inside
  have taken : takeDemand d p = formThrust (pruneQueue (grants (
      if (rebuilt d p).fm.queue.isEmpty then stopRule (rebuilt d p) else rebuilt d p))) := if_pos control
  rw [taken, rebuilt_queue]
  by_cases empty : demandQueue d p = []
  · have no_starts : demandStarts d p = [] := by
      unfold demandStarts
      rw [empty, List.take_nil]
    have rest : (demandQueue d p).drop (freeSlots p.control.gate p.fm.slots) = [] := by rw [empty, List.drop_nil]
    rw [if_pos (List.isEmpty_iff.2 empty)]
    have drained : (rebuilt d p).fm.queue = [] := rebuilt_queue.trans empty
    have pruned (q : Part) (empty : q.fm.queue = []) : pruneQueue (grants q) = q := by
      rw [grants_of_empty empty]
      refine pruneQueue_of_ready ⟨?_, ?_⟩
      · rw [empty]
        exact .nil
      · rw [empty]
        exact nofun
    rcases stopRule_rebuilt empty with ⟨same, no_stop⟩ | ⟨n, f, stop, found, running, same⟩
    · rw [same, pruned _ drained]
      refine ⟨rfl, rfl, ?_, fun m g found_g => ?_, ?_, fun k m held => held, ?_⟩
      · rw [rest]
        exact drained
      · rw [no_starts, no_stop, if_neg List.not_mem_nil, if_neg List.not_mem_nil]
        exact found_g
      · rw [no_starts]
        exact nofun
      · rw [no_starts, no_stop, List.map_nil, List.map_nil, List.append_nil, List.append_nil]
        rfl
    · rw [same, pruned (stopAsked n (rebuilt d p)) drained]
      refine ⟨rfl, rfl, ?_, fun m g found_g => ?_, ?_, fun k m held => held, ?_⟩
      · rw [rest]
        exact drained
      · rw [no_starts, stop, if_neg List.not_mem_nil]
        change (stopAsked n (rebuilt d p)).fan? m = _
        by_cases own : m = n
        · subst own
          obtain rfl : f = g := Option.some.inj (found.symm.trans found_g)
          rw [stopAsked_fan? (p := rebuilt d p) found, if_pos (List.mem_singleton_self _)]
        · rw [stopAsked_fan?_other own, if_neg fun mem => own (List.mem_singleton.1 mem)]
          exact found_g
      · rw [no_starts]
        exact nofun
      · rw [no_starts, stop, List.map_nil, List.append_nil]
        rfl
  · have no_stops : demandStops d p = [] := if_neg fun h => empty h.1
    rw [if_neg fun h => empty (List.isEmpty_iff.1 h)]
    have ready : QueueReady (rebuilt d p) := rebuilt_ready once
    have granted := grants_granted (p := rebuilt d p) ready inside four
    rw [rebuilt_queue] at granted
    rw [pruneQueue_of_ready (granted.ready ready)]
    refine ⟨?_, ?_, ?_, fun n f found => ?_, granted.holds, granted.keeps, ?_⟩
    · change (grants (rebuilt d p)).ord = _
      rw [granted.rest]
      rfl
    · exact granted.record
    · have split := granted.queue
      rw [rebuilt_queue] at split
      refine List.append_cancel_left (as := (demandQueue d p).take (freeSlots p.control.gate p.fm.slots)) ?_
      rw [List.take_append_drop]
      exact split.symm
    · rw [no_stops, if_neg (c := n ∈ []) List.not_mem_nil]
      exact granted.fans n f found
    · rw [no_stops, List.map_nil, List.append_nil]
      exact granted.posts

end

/-! ### Requests for fans without an order, the backlog empty or passing -/

/-- The requests that wait are for different fans, none of which has an order, and every START passes. -/
structure FreshRequests (l : List (Nat × OrderKind)) (p : Part) : Prop where
  waits   : p.handOns = l.map fun x => .orderRequest x.1 x.2
  once    : (l.map Prod.fst).Nodup
  free    : ∀ x ∈ l, p.order? x.1 = none
  passes  : ∀ x ∈ l, ∃ f, p.fan? x.1 = some f ∧ startCheck (waitingRec x.1 f.e.station f.e.output x.2) p = true
  passing : Passing p

/-- Each request becomes an order, and the Fan Manager stands (R153). -/
theorem settle_fresh (fuel : Nat) {l : List (Nat × OrderKind)} {p : Part} (fresh : FreshRequests l p)
    (enough : l.length ≤ fuel) :
    (settle takeHandOn fuel p).fm = p.fm ∧ orderKinds (settle takeHandOn fuel p) = orderKinds p ++ l := by
  induction l generalizing p fuel with
  | nil =>
    rw [settle_of_quiet _ _ _ fresh.waits, List.append_nil]
    exact ⟨rfl, rfl⟩
  | cons x l ih =>
    obtain ⟨fuel, rfl⟩ : ∃ k, fuel = k + 1 := ⟨fuel - 1, by rw [List.length_cons] at enough; omega⟩
    let rest : List HandOn := l.map fun x => .orderRequest x.1 x.2
    let q : Part := { p with handOns := rest }
    have step : settle takeHandOn (fuel + 1) p = settle takeHandOn fuel (requestOrder x.1 x.2 q) := by
      rw [settle, fresh.waits]
      rfl
    obtain ⟨f, found, passes⟩ := fresh.passes x (List.mem_cons_self ..)
    obtain ⟨fm, handOns, kinds, passing⟩ := requestOrder_of_new (p := q) fresh.passing (fresh.free x (List.mem_cons_self ..)) found passes
    obtain ⟨other, once⟩ := List.nodup_cons.1 fresh.once
    have next : FreshRequests l (requestOrder x.1 x.2 q) := by
      refine ⟨handOns, once, fun y mem => ?_, fun y mem => ?_, passing⟩
      · have free := fresh.free y (List.mem_cons_of_mem _ mem)
        rw [order?_eq_none] at free ⊢
        rw [kinds, List.map_append, List.mem_append]
        rintro (old | new)
        · exact free old
        · exact other (List.mem_singleton.1 new ▸ List.mem_map_of_mem mem)
      · obtain ⟨g, found_g, passes_g⟩ := fresh.passes y (List.mem_cons_of_mem _ mem)
        refine ⟨g, ?_, ?_⟩
        · unfold Part.fan? at *
          rw [fm]
          exact found_g
        · rw [startCheck_congr rfl rfl (show (requestOrder x.1 x.2 q).fm = p.fm from fm)]
          exact passes_g
    obtain ⟨fm', kinds'⟩ := ih fuel next (by rw [List.length_cons] at enough; omega)
    rw [step]
    refine ⟨fm'.trans fm, kinds'.trans ?_⟩
    rw [kinds, List.append_assoc]
    rfl

end Sys2Proof.Machine
end

section
/-! PROOFS. The orders of a demand update, the backlog empty (R138 to R140, R142, R153). -/

namespace Sys2Proof.Machine

/-- The orders that a demand update asks. -/
def demandOrders (d : Nat) (p : Part) : List (Nat × OrderKind) :=
  (demandStarts d p).map (fun n => (n, startOf p n)) ++ (demandStops d p).map fun n => (n, .stop)

section
variable {d : Nat} {p : Part}

theorem demandStops_cases (d : Nat) (p : Part) :
    demandStops d p = [] ∨ (demandStarts d p = [] ∧ ∃ f, demandStops d p = [f.e.num] ∧ p.fan? f.e.num = some f) := by
  by_cases empty : demandQueue d p = []
  · rcases stopRule_rebuilt empty with ⟨_, none_asked⟩ | ⟨n, f, stops, found, _⟩
    · exact .inl none_asked
    · refine .inr ⟨?_, f, ?_, ?_⟩
      · unfold demandStarts
        rw [empty, List.take_nil]
      · rw [stops, fan?_num found]
      · rw [fan?_num found]
        exact found
  · exact .inl (if_neg fun h => empty h.1)

/-- A fan started passes the start check of its order (R155). -/
theorem startCheck_started {q : Part} {n : Nat} {f : FanRec} (found : p.fan? n = some f)
    (ok : eligible p.fm.record f = true) (started : q.fan? n = some (startedFan p.fm.record f))
    (record : q.fm.record = p.fm.record) (station output : Nat) :
    startCheck (waitingRec n station output (startOf p n)) q = true := by
  obtain ⟨d, toward⟩ := useful_of_eligible ok
  have rule : (Rule.useful p.fm.record f.e).2 = some d := by rw [← useful_rule]; exact toward
  have kind : startOf p n = startKind d := by
    unfold startOf
    rw [found]
    dsimp only
    rw [rule]
    cases d <;> rfl
  refine (startCheck_iff _ _).2 ?_
  rw [kind]
  have started_fan : q.fm.fans.find? (fun x => x.e.num == n) = some (startedFan p.fm.record f) := started
  intro e names
  have same : d = e := by cases d <;> cases e <;> simp_all [startKind, waitingRec]
  subst same
  exact ⟨_, started_fan, rfl, toward, by rw [record]; exact rule⟩

theorem demandOrders_fresh (inside : p.fm.record.state = .control) (once : p.fm.preference.Nodup)
    (four : p.fm.slots.length = 4) (quiet : p.handOns = []) (empty : p.ord.backlog = [])
    (free : ∀ r ∈ p.ord.records, r.fan ∉ demandStarts d p ∧ r.fan ∉ demandStops d p) :
    FreshRequests (demandOrders d p) (takeDemand d p) := by
  have taken : DemandTaken d p (takeDemand d p) := takeDemand_taken inside once four
  obtain ⟨distinct, each⟩ := demandQueue_ready (d := d) once
  have starts_distinct : (demandStarts d p).Nodup := (List.take_sublist _ _).nodup distinct
  have numbers : (demandOrders d p).map Prod.fst = demandStarts d p ++ demandStops d p := by
    unfold demandOrders
    rw [List.map_append, List.map_map, List.map_map]
    exact congrArg₂ _ (List.map_id _) (List.map_id _)
  have no_order (n : Nat) (asked : n ∈ demandStarts d p ∨ n ∈ demandStops d p) : (takeDemand d p).order? n = none := by
    unfold Part.order?
    rw [taken.ord, List.find?_eq_none]
    intro r mem own
    obtain rfl : r.fan = n := beq_iff_eq.1 own
    obtain ⟨no_start, no_stop⟩ := free r mem
    exact asked.elim no_start no_stop
  refine ⟨?_, ?_, fun x mem => ?_, fun x mem => ?_, fun n mem => ?_⟩
  · rw [taken.posts, quiet, List.nil_append]
    unfold demandOrders
    rw [List.map_append, List.map_map, List.map_map]
    rfl
  · rw [numbers]
    rcases demandStops_cases d p with none_asked | ⟨no_starts, f, stops, _⟩
    · rw [none_asked, List.append_nil]
      exact starts_distinct
    · rw [no_starts, stops]
      exact List.nodup_singleton _
  · refine no_order x.1 (List.mem_append.1 ?_)
    rw [← numbers]
    exact List.mem_map_of_mem mem
  · rcases List.mem_append.1 mem with start | stop
    · obtain ⟨n, started, rfl⟩ := List.mem_map.1 start
      obtain ⟨f, found, ok⟩ := each n (List.mem_of_mem_take started)
      have moved := taken.fans n f found
      rw [if_pos started] at moved
      exact ⟨_, moved, startCheck_started found ok moved taken.record _ _⟩
    · obtain ⟨n, stopped, rfl⟩ := List.mem_map.1 stop
      have passes (q : Part) (a b : Nat) : startCheck (waitingRec n a b .stop) q = true := if_neg Bool.false_ne_true
      rcases demandStops_cases d p with none_asked | ⟨_, f, stops, found⟩
      · rw [none_asked] at stopped
        exact absurd stopped List.not_mem_nil
      · rw [stops] at stopped
        obtain rfl := List.mem_singleton.1 stopped
        exact ⟨_, taken.fans _ f found, passes _ _ _⟩
  · rw [taken.ord, empty] at mem
    exact absurd mem List.not_mem_nil

theorem demandOrders_few (four : p.fm.slots.length = 4) : (demandOrders d p).length ≤ 5 := by
  have starts : (demandStarts d p).length ≤ 4 := by
    have filtered := List.length_filter_le Option.isNone (p.fm.slots.take p.control.gate)
    unfold demandStarts freeSlots
    rw [List.length_take] at filtered ⊢
    omega
  have stops : (demandStops d p).length ≤ 1 := by
    rcases demandStops_cases d p with none_asked | ⟨_, f, stops, _⟩
    · rw [none_asked]
      exact Nat.zero_le 1
    · rw [stops]
      exact Nat.le_refl 1
  unfold demandOrders
  rw [List.length_append, List.length_map, List.length_map]
  omega

/-- A demand update in CONTROL, the backlog empty and no order for the fans it starts or stops, once its hand-ons are
taken. -/
theorem finish_takeDemand (inside : p.fm.record.state = .control) (once : p.fm.preference.Nodup)
    (four : p.fm.slots.length = 4) (quiet : p.handOns = []) (empty : p.ord.backlog = [])
    (free : ∀ r ∈ p.ord.records, r.fan ∉ demandStarts d p ∧ r.fan ∉ demandStops d p) :
    (finish (takeDemand d p)).fm = (takeDemand d p).fm ∧
      orderKinds (finish (takeDemand d p)) = orderKinds p ++ demandOrders d p := by
  have taken : DemandTaken d p (takeDemand d p) := takeDemand_taken inside once four
  have few := demandOrders_few (d := d) four
  have bound : (demandOrders d p).length ≤ settleBound := few.trans (by decide)
  obtain ⟨fm, kinds⟩ := settle_fresh settleBound (demandOrders_fresh inside once four quiet empty free) bound
  have same : orderKinds (takeDemand d p) = orderKinds p := by
    unfold orderKinds
    rw [taken.ord]
  rw [same] at kinds
  exact ⟨fm, kinds⟩

/-- A slot held below the gate is one of the first. -/
theorem mem_take_of_getElem? {α : Type} {l : List α} {k g : Nat} {x : α} (small : k < g) (held : l[k]? = some x) :
    x ∈ l.take g := by
  refine List.mem_of_getElem? (i := k) ?_
  rw [List.getElem?_take_of_lt small]
  exact held

end

/-- What a demand update outside CONTROL and in CONTROL leaves (R138). -/
theorem demandUpdate_held (d : Nat) {s : State} (quiet : Quiescent s) :
    (s.part.fm.record.state ≠ .control → exec (.demandUpdate d) s = nextPart s s.part) ∧
    (s.part.fm.record.state = .control → ∃ t, exec (.demandUpdate d) s = .next t ∧
      t.part.fm.lastDemand = d ∧ t.part.fm.record = s.part.fm.record ∧ t.part.fm.preference = s.part.fm.preference ∧
      t.part.meas = s.part.meas ∧ t.part.reg = s.part.reg ∧ t.part.ctl = s.part.ctl ∧ t.part.coord = s.part.coord ∧
      t.part.mgmt = s.part.mgmt ∧ t.part.disp = s.part.disp) := by
  refine ⟨fun outside => ?_, fun inside => ⟨_, rfl, ?_⟩⟩
  · have aside : inControl s.part = false := by
      rw [← Bool.not_eq_true, inControl_iff]
      exact outside
    exact nextWith_of_left (takeDemand_of_elsewhere d aside) quiet
  · have step := settled_takeDemand d quiet
    refine ⟨finish_takeDemand_lastDemand d inside, step.record, step.preference, ?_⟩
    have rest := step.rest
    have meas := congrArg Part.meas rest
    have reg := congrArg Part.reg rest
    have ctl := congrArg Part.ctl rest
    have coord := congrArg Part.coord rest
    have mgmt := congrArg Part.mgmt rest
    have disp := congrArg Part.disp rest
    exact ⟨meas, reg, ctl, coord, mgmt, disp⟩

end Sys2Proof.Machine
end

section
/-! PROOFS. An order request sets no stop requested (R137, R153). -/

namespace Sys2Proof.Machine

/-- Every fan whose stop is requested had it requested before. -/
def AsksNone (p q : Part) : Prop :=
  ∀ n g, q.fan? n = some g → g.stopReq = true → ∃ f, p.fan? n = some f ∧ f.stopReq = true

section
variable {p q r : Part}

theorem AsksNone.refl (p : Part) : AsksNone p p := fun _ g found set => ⟨g, found, set⟩

theorem AsksNone.after (k : AsksNone q r) (h : AsksNone p q) : AsksNone p r := by
  intro n g found set
  obtain ⟨f, found_f, set_f⟩ := k n g found set
  exact h n f found_f set_f

theorem AsksNone.of_fans (same : q.fm.fans = p.fm.fans) : AsksNone p q := by
  intro n g found set
  unfold Part.fan? at *
  rw [same] at found
  exact ⟨g, found, set⟩

theorem AsksNone.ite {c : Prop} [Decidable c] {a b : Part} (ha : AsksNone p a) (hb : AsksNone p b) :
    AsksNone p (if c then a else b) := by
  split
  · exact ha
  · exact hb

end

theorem onFan_asksNone (n : Nat) {g : FanRec → FanRec} (same : ∀ f, (g f).e = f.e)
    (clears : ∀ f, (g f).stopReq = true → f.stopReq = true) (p : Part) : AsksNone p (onFan n g p) := by
  intro m x found set
  rw [fan?_onFan n m same] at found
  obtain ⟨f, found_f, rfl⟩ := Option.map_eq_some_iff.1 found
  refine ⟨f, found_f, ?_⟩
  split at set
  · exact clears f set
  · exact set

theorem fanTail_asksNone (p : Part) : AsksNone p (fanTail p) :=
  AsksNone.ite (.of_fans rfl) (.of_fans rfl)

theorem grantOne_asksNone (p : Part) : AsksNone p (grantOne p) := by
  unfold grantOne
  split
  · exact .refl p
  split
  · exact .refl p
  split
  · exact .refl p
  · next d _ => exact .ite (onFan_asksNone _ (g := enter .starting (some d)) (fun _ => rfl) (fun _ set => set) p) (.refl p)

theorem releaseSlots_asksNone (p : Part) : AsksNone p (releaseSlots p) := by
  unfold releaseSlots
  extract_lets slots freed m q
  have pruned : AsksNone p q := .of_fans rfl
  have granted : AsksNone q (grants q) :=
    (((grantOne_asksNone _).after (grantOne_asksNone _)).after (grantOne_asksNone _)).after (grantOne_asksNone q)
  exact .ite (granted.after pruned) pruned

theorem takeOutcome_withdrawn_asksNone (n : Nat) (kind : OrderKind) (p : Part) :
    AsksNone p (takeOutcome n kind .withdrawn p) := by
  have own (f : FanRec) : (becomeUnknown f).e = f.e := congrArg Prod.fst (keepKnown_marks f)
  unfold takeOutcome
  split
  · exact .refl p
  · next f _ =>
    extract_lets q
    have asked : AsksNone p q := .ite (onFan_asksNone n (g := fun f => { f with stopReq := false }) (fun _ => rfl)
      (fun _ set => nomatch set) p) (.refl p)
    refine (fanTail_asksNone _).after (AsksNone.after (.ite ?_ (.refl q)) asked)
    have given_up := onFan_asksNone f.e.num own (fun _ set => nomatch set) q
    exact AsksNone.after (.of_fans rfl) ((releaseSlots_asksNone _).after given_up)

theorem withdrawRec_asksNone (r : OrderRec) (p : Part) : AsksNone p (withdrawRec r p) := by
  have finished (p : Part) : AsksNone p (finishRec r .withdrawn p) := by
    unfold finishRec
    extract_lets q m u
    have removed : AsksNone p u := AsksNone.after (.of_fans rfl) (takeOutcome_withdrawn_asksNone r.fan r.kind p)
    split
    · exact removed
    · exact AsksNone.after (.of_fans rfl) removed
  have freed (p : Part) : AsksNone p (freeTagOf r p) := .of_fans (congrArg FanManager.fans (freeTagOf_fm r p))
  unfold withdrawRec
  refine AsksNone.after (.ite (AsksNone.ite (.of_fans rfl) (.refl _)) (.refl _)) ((finished _).after ?_)
  exact AsksNone.after (.of_fans rfl) (freed _)

theorem serveWith_asksNone (fuel : Nat) (p : Part) : AsksNone p (serveWith fuel p) := by
  induction fuel generalizing p with
  | zero => exact .refl p
  | succ fuel ih =>
    unfold serveWith
    split
    · split
      · exact .refl p
      · exact (ih _).after (.ite (.of_fans (congrArg FanManager.fans (issue_fm _ _ _))) ((withdrawRec_asksNone _ _).after (.of_fans rfl)))
    · exact .refl p

theorem requestOrder_asksNone (n : Nat) (kind : OrderKind) (p : Part) : AsksNone p (requestOrder n kind p) := by
  have dropped (old new : OrderKind) (p : Part) : AsksNone p (dropStart n old new p) :=
    .ite ((takeOutcome_withdrawn_asksNone n old _).after (.of_fans rfl)) (.refl p)
  unfold requestOrder
  split
  · split
    · exact .refl p
    · exact (serveWith_asksNone _ _).after (.of_fans rfl)
  · dsimp only
    split
    · split
      · exact .of_fans rfl
      · exact (dropped _ _ _).after (.of_fans rfl)
    · exact ((serveWith_asksNone _ _).after (dropped _ _ _)).after (.of_fans rfl)

/-- The end of an event sets no stop requested, where no end of clearing is reported. -/
theorem settle_asksNone (fuel : Nat) {p : Part} (runs : Runs p) (out : .clearingEnd ∉ p.handOns) :
    AsksNone p (settle takeHandOn fuel p) := by
  induction fuel generalizing p with
  | zero => exact .refl p
  | succ fuel ih =>
    unfold settle
    split
    · exact .refl p
    · next hand rest waits =>
      cases hand with
      | clearingEnd => exact absurd (by rw [waits]; exact List.mem_cons_self ..) out
      | orderRequest n kind =>
        have rest_out : .clearingEnd ∉ rest := fun mem => out (by rw [waits]; exact List.mem_cons_of_mem _ mem)
        have course := takeHandOn_course (.orderRequest n kind) { p with handOns := rest }
        exact (ih (course.runs runs) (course.noEnd runs rest_out).1).after (requestOrder_asksNone n kind { p with handOns := rest })

end Sys2Proof.Machine
end

section
/-! PROOFS. A record that enters CLEARING while a fan holds it open (R145). -/

namespace Sys2Proof.Machine

/-- The fans judged by a record that enters CLEARING, its end not yet reported. -/
def clearingJudged (h : RecordHandOn) (p : Part) : Part :=
  { fansJudged h p with fm := { (fansJudged h p).fm with clearingSent := false } }

section
variable {h : RecordHandOn} {p : Part}

theorem fan?_clearingJudged {n : Nat} {f : FanRec} (found : p.fan? n = some f) :
    (clearingJudged h p).fan? n = some (judgedBy h p f) := fan?_judged found

theorem fan?_of_clearingJudged {n : Nat} {g : FanRec} (found : (clearingJudged h p).fan? n = some g) :
    ∃ f, p.fan? n = some f ∧ g = judgedBy h p f := by
  have marked : (p.fm.fans.map (judgedBy h p)).find? (fun f => f.e.num == n) = some g := by
    rw [← fansJudged_fans]
    exact found
  rw [List.find?_map, show (fun f : FanRec => f.e.num == n) ∘ judgedBy h p = fun f => f.e.num == n from rfl] at marked
  obtain ⟨f, found_f, same⟩ := Option.map_eq_some_iff.1 marked
  exact ⟨f, found_f, same.symm⟩

variable (clearing : h.record.state = .clearing) (enters : h.before ≠ .clearing) (quiet : p.handOns = [])

include clearing enters in
theorem fansTakeRecord_of_held (open_ : HeldOpen p) : fansTakeRecord h p = staggeredStop (clearingJudged h p) := by
  have still_open : HeldOpen (staggeredStop (clearingJudged h p)) := by
    have judged : HeldOpen (clearingJudged h p) := (fansJudged_open h p).2 open_
    rcases staggeredStop_cases (clearingJudged h p) with same | ⟨n, f, found, ⟨running, _⟩, same⟩
    · rw [same]
      exact judged
    · rw [same]
      refine .inl ⟨{ f with stopReq := true }, ?_, .inr (.inl running)⟩
      exact List.mem_of_find?_eq_some (stopAsked_fan? found)
  rw [fansTakeRecord_of_clearing clearing enters]
  exact testClearing_of_open still_open

include quiet in
theorem clearingJudged_quiet : (clearingJudged h p).handOns = [] := by
  change (fansJudged h p).handOns = []
  rw [fansJudged_eq]
  exact quiet

/-- What a staggered stop leaves once its hand-ons are taken. -/
structure StaggeredEnd (p q : Part) : Prop where
  record       : q.fm.record = p.fm.record
  preference   : q.fm.preference = p.fm.preference
  queue        : q.fm.queue.Sublist p.fm.queue
  clearingSent : q.fm.clearingSent = p.fm.clearingSent
  spacing      : q.fm.stopSpacing = some (p.now + BitVec.ofNat 32 (1000 * p.control.stopSpacing))

include quiet clearing in
theorem finish_clearingJudged : StaggeredEnd (clearingJudged h p) (finish (staggeredStop (clearingJudged h p))) := by
  have none_waits := clearingJudged_quiet (h := h) quiet
  have in_clearing : (clearingJudged h p).fm.record.state = .clearing := by
    change (fansJudged h p).fm.record.state = _
    rw [fansJudged_record]
    exact clearing
  rcases staggeredStop_cases (clearingJudged h p) with same | ⟨n, f, found, ⟨running, _⟩, same⟩
  · have left : settled (spacingArmed (clearingJudged h p)) = spacingArmed (clearingJudged h p) := settled_of_quiet _ none_waits
    rw [same]
    change StaggeredEnd _ (formHealth (settled (spacingArmed (clearingJudged h p))))
    rw [left]
    exact ⟨rfl, rfl, .refl _, rfl, rfl⟩
  · rw [same]
    obtain ⟨step, _, _⟩ := finish_stopAsked none_waits found running
    let q : Part := spacingArmed (stopAsked n (clearingJudged h p))
    have drift := finish_drift q
    have record : (finish q).fm.record = q.fm.record := step.record
    have out : .clearingEnd ∉ q.handOns := by
      rw [show q.handOns = [.orderRequest n .stop] from congrArg (· ++ _) none_waits]
      simp
    exact ⟨record, step.preference, drift.queue, (drift.noEnd (stopAsked_runs found running) out).2,
      (drift.spacing (by rw [record]; exact in_clearing)).2⟩

end

/-- What a record that enters CLEARING leaves while a fan holds it open (R145). -/
theorem clearing_entered {h : RecordHandOn} {s : State} (quiet : Quiescent s) (clearing : h.record.state = .clearing)
    (enters : h.before ≠ .clearing) (open_ : ∃ f ∈ s.part.fm.fans, Rule.holdsOpen f) :
    ∃ t, exec (.incidentRecordToFanManager h) s = .next t ∧ t.part.fm.record = h.record ∧ t.part.fm.queue = [] ∧
      t.part.fm.clearingSent = false ∧
      t.part.fm.stopSpacing = some (s.part.now + BitVec.ofNat 32 (1000 * s.part.control.stopSpacing)) ∧
      ∀ pre n post f, t.part.fm.preference = pre ++ n :: post →
        s.part.fm.fans.find? (fun g => g.e.num == n) = some f → f.state = .running → f.stopReq = false →
        (∀ m ∈ post, ∀ g, s.part.fm.fans.find? (fun x => x.e.num == m) = some g →
          ¬ (g.state = .running ∧ g.stopReq = false)) →
        (∃ g, t.part.fm.fans.find? (fun x => x.e.num == n) = some g ∧ g.state = .running ∧ g.stopReq = true) ∧
        (∃ r ∈ t.part.ord.records, r.fan = n ∧ (r.kind = .stop ∨ r.successor = some .stop)) ∧
        ∀ m g', m ≠ n → t.part.fm.fans.find? (fun x => x.e.num == m) = some g' → g'.stopReq = true →
          ∃ g, s.part.fm.fans.find? (fun x => x.e.num == m) = some g ∧ g.stopReq = true := by
  have taken : fansTakeRecord h s.part = staggeredStop (clearingJudged h s.part) :=
    fansTakeRecord_of_held clearing enters (.inl open_)
  have left : exec (.incidentRecordToFanManager h) s =
      .next { s with part := finish (staggeredStop (clearingJudged h s.part)) } := by
    rw [← taken]
    rfl
  obtain ⟨record, preference, queue, unsent, spacing⟩ := finish_clearingJudged (p := s.part) clearing quiet
  refine ⟨_, left, record.trans (fansJudged_record h s.part), ?_, unsent, ?_, fun pre n post f order found running clear last => ?_⟩
  · have emptied : (clearingJudged h s.part).fm.queue = [] :=
      fansJudged_queue h s.part (.inl (by rw [clearing]; exact IncidentState.noConfusion))
    rw [emptied] at queue
    exact List.sublist_nil.1 queue
  · refine spacing.trans ?_
    unfold clearingJudged
    rw [fansJudged_eq]
    rfl
  · have none_waits := clearingJudged_quiet (h := h) quiet
    have found_j := fan?_clearingJudged (h := h) (p := s.part) found
    have stops : staggeredStop (clearingJudged h s.part) = spacingArmed (stopAsked n (clearingJudged h s.part)) := by
      refine staggeredStop_of_last (preference.symm.trans order) found_j ⟨running, clear⟩ fun m mem g found_g => ?_
      obtain ⟨f, found_f, rfl⟩ := fan?_of_clearingJudged found_g
      exact last m mem f found_f
    obtain ⟨_, own, asked⟩ := finish_stopAsked none_waits found_j running
    rw [← stops] at own asked
    refine ⟨own, asked.record, fun m g other found_g set => ?_⟩
    let q : Part := spacingArmed (stopAsked n (clearingJudged h s.part))
    have out : .clearingEnd ∉ q.handOns := by
      rw [show q.handOns = [.orderRequest n .stop] from congrArg (· ++ _) none_waits]
      simp
    have none_asked : AsksNone q (settle takeHandOn settleBound q) := settle_asksNone settleBound (stopAsked_runs found_j running) out
    dsimp only at found_g
    rw [stops] at found_g
    obtain ⟨x, found_x, set_x⟩ := none_asked m g found_g set
    rw [show q.fan? m = (clearingJudged h s.part).fan? m from stopAsked_fan?_other other] at found_x
    obtain ⟨f, found_f, rfl⟩ := fan?_of_clearingJudged found_x
    exact ⟨f, found_f, set_x⟩

end Sys2Proof.Machine
end

section
/-! PROOFS. The obligation: the Fan Manager's records and demand updates. -/

namespace Sys2Proof.Machine

/-! ### The marks and the preference order -/

theorem excluded_iff (exclusion : Nat) (r : IncidentRecord) (e : FanEntry) : Rule.excluded exclusion r e = true ↔
    r.id ≠ 0 ∧ ∃ fire, r.fire = some fire ∧ (e.chainage : Int) - fire ≤ exclusion ∧ (fire : Int) - e.chainage ≤ exclusion := by
  unfold Rule.excluded
  cases r.fire with
  | none => simp
  | some fire =>
    simp only [decide_eq_true_eq, Option.some.injEq, exists_eq_left']
    refine and_congr_right fun _ => ?_
    omega

section
variable {h : RecordHandOn} {s : State} (quiet : Quiescent s)

include quiet

/-- What a record outside CLEARING leaves of the Fan Manager (R112, R135, R141, R145). -/
theorem record_taken (open_ : h.record.state ≠ .clearing) :
    ∃ t, exec (.incidentRecordToFanManager h) s = .next t ∧
       t.part.fm.record = h.record ∧ t.part.fm.stopSpacing = none ∧
       (h.record.id = 0 → t.part.fm.preference = []) ∧ (h.record.state ≠ .control → t.part.fm.queue = []) ∧
       ∀ n f, t.part.fm.fans.find? (fun x => x.e.num == n) = some f →
         (f.excluded = true ↔ h.record.id ≠ 0 ∧ ∃ fire, h.record.fire = some fire ∧
           (f.e.chainage : Int) - fire ≤ s.part.control.exclusion ∧ (fire : Int) - f.e.chainage ≤ s.part.control.exclusion) := by
  have step := fansTakeRecord_settled open_ quiet
  refine ⟨_, rfl, step.record.trans (fansTakeRecord_record h s.part), finish_fansTakeRecord_spacing open_ quiet,
    fun none_held => ?_, fun outside => ?_, fun n f found => ?_⟩
  · refine step.preference.trans ((fansTakeRecord_judged h s.part).preference.trans ?_)
    rw [fansJudged_preference, if_pos (by simp [none_held])]
    exact if_pos (by simp [none_held])
  · have drained := (finish_drift (fansTakeRecord h s.part)).queue.trans fansTakeRecord_queue
    rw [fansJudged_queue h s.part (.inl outside)] at drained
    exact List.sublist_nil.1 drained
  · have marks : MarksKept (fansJudged h s.part) (finish (fansTakeRecord h s.part)) :=
      (fansTakeRecord_marks open_).trans (finish_fansTakeRecord_marks open_ quiet)
    obtain ⟨g, found_g, same⟩ := MarksKept.fan?_isSome (p := finish (fansTakeRecord h s.part)) (q := fansJudged h s.part)
      marks.symm found
    have listed : g ∈ s.part.fm.fans.map (judgedBy h s.part) := by
      rw [← fansJudged_fans]
      exact List.mem_of_find?_eq_some found_g
    obtain ⟨x, _, rfl⟩ := List.mem_map.1 listed
    have entry : x.e = f.e := congrArg Prod.fst same
    have excluded : Rule.excluded s.part.control.exclusion h.record x.e = f.excluded :=
      congrArg (fun m : FanEntry × Bool × Bool × Bool × Bool × Option LastReport => m.2.1) same
    rw [← excluded, entry]
    exact excluded_iff ..

end

/-! ### A record with an id, a fire and a direction -/

theorem heatAfter_rule {h : RecordHandOn} (held : h.record.id ≠ 0) (p : Part) (f : FanRec) :
    heatAfter h p f = decide ((h.record.id = p.fm.record.id ∧ f.heat = true) ∨
      ((h.record.id ≠ p.fm.record.id ∨ h.record.fire ≠ p.fm.record.fire ∨ h.record.dir ≠ p.fm.record.dir) ∧
        Rule.exposed h.record ((p.fm.zoneTemps.find? fun z => z.zone == f.e.zone).bind (·.value)) f.e = true)) := by
  have temp : zoneTempOf p.fm f.e.zone = (p.fm.zoneTemps.find? fun z => z.zone == f.e.zone).bind (·.value) := by
    unfold zoneTempOf
    cases p.fm.zoneTemps.find? fun z => z.zone == f.e.zone <;> rfl
  unfold heatAfter
  rw [isExposed_rule held, temp, Bool.eq_iff_iff, decide_eq_true_iff, Bool.or_eq_true, Bool.and_eq_true,
    Bool.and_eq_true, movesFrom_iff]
  simp [held]

theorem fans_few {s : State} (distinct : FansDistinct s) (numbered : FansNumbered s) : s.part.fm.fans.length ≤ 48 := by
  have part : (s.part.fm.fans.map (·.e.num)).length ≤ (List.range' 1 48).length := by
    refine (List.subperm_of_subset distinct.1 fun n mem => ?_).length_le
    obtain ⟨f, listed, rfl⟩ := List.mem_map.1 mem
    obtain ⟨low, high⟩ := numbered.1 f listed
    rw [List.mem_range'_1]
    omega
  rw [List.length_map, List.length_range'] at part
  exact part

section
variable {h : RecordHandOn} {s : State} (quiet : Quiescent s) (distinct : FansDistinct s) (open_ : h.record.state ≠ .clearing)
  {n : Nat} {f : FanRec} (found : s.part.fan? n = some f)

include quiet distinct open_ found

/-- A fan, once the event of a record outside CLEARING is over. -/
theorem fan_of_record (stands : f.state ≠ .starting ∨ s.part.ord.backlog = []) {asked : Bool}
    (rule : asked = true ↔ f.stopReq = true ∨
      (AsksStops h s.part ∧ Rule.unwanted h.record (judgedBy h s.part f) = true ∧ f.stopReq = false)) :
    (finish (fansTakeRecord h s.part)).fan? n = some { judgedBy h s.part f with stopReq := asked } := by
  by_cases asks : AsksStops h s.part
  · have same : asked = (f.stopReq || Rule.unwanted h.record (judgedBy h s.part f)) := by
      rw [Bool.eq_iff_iff, rule]
      cases f.stopReq <;> simp [asks]
    rw [finish_fan?_of_asking open_ asks distinct.1 quiet found stands, same]
  · have same : asked = f.stopReq := by
      rw [Bool.eq_iff_iff, rule]
      simp [asks]
    have fm := finish_of_not_asking open_ quiet asks
    rw [same]
    unfold Part.fan?
    rw [fm]
    exact fan?_judged found

omit distinct in
theorem marks_of_record : ∃ g, (finish (fansTakeRecord h s.part)).fan? n = some g ∧
    g.excluded = (judgedBy h s.part f).excluded ∧ g.heat = (judgedBy h s.part f).heat := by
  have marks : MarksKept (fansJudged h s.part) (finish (fansTakeRecord h s.part)) :=
    (fansTakeRecord_marks open_).trans (finish_fansTakeRecord_marks open_ quiet)
  obtain ⟨g, found_g, same⟩ := marks.fan?_isSome (fan?_judged found)
  exact ⟨g, found_g, congrArg (fun m : FanEntry × Bool × Bool × Bool × Bool × Option LastReport => m.2.1) same,
    congrArg (fun m : FanEntry × Bool × Bool × Bool × Bool × Option LastReport => m.2.2.1) same⟩

end

end Sys2Proof.Machine
end

section
/-! PROOFS. The obligation: the Fan Manager's records and demand updates (R111 to R113, R134 to R142, R145). -/

namespace Sys2Proof.Machine

theorem entersControl_prop (h : RecordHandOn) : (entersControl h = true) = (h.record.state = .control ∧ h.before ≠ .control) :=
  propext (entersControl_iff h)

theorem movesFrom_prop (old new : IncidentRecord) :
    (movesFrom old new = true) = (new.id ≠ old.id ∨ new.fire ≠ old.fire ∨ new.dir ≠ old.dir) := propext (movesFrom_iff old new)

/-- Settles O35, by what a record and a demand update leave once the orders they ask are taken. -/
theorem fansTakeRecordAndDemand : Obligations.FansTakeRecordAndDemand := by
  unfold Obligations.FansTakeRecordAndDemand
  refine ⟨fun h s quiet open_ => record_taken quiet open_, fun h fire dir s quiet distinct numbered held at_fire toward => ?_,
    fun d s quiet => demandUpdate_held d quiet, fun d s quiet distinct inside empty => ?_,
    fun h s quiet clearing enters open_ => clearing_entered quiet clearing enters open_⟩
  · intro r old moved entering asked judged
    have judged_eq (f : FanRec) : judged f = judgedBy h s.part f := by
      unfold judgedBy
      rw [heatAfter_rule held]
    have asks : AsksStops h s.part = asked := by
      unfold AsksStops
      rw [movesFrom_prop, entersControl_prop]
    refine ⟨_, rfl, (finish_op (fansTakeRecord h s.part)).thrust (fansTakeRecord_formed h s.part), fun stays => ?_,
      fun open_ n f found => ?_⟩
    · have order := finish_fansTakeRecord_preference quiet distinct.1 held at_fire toward stays
      rw [movesFrom_prop, entersControl_prop] at order
      exact order
    · rw [judged_eq]
      refine ⟨fun stands => ?_, marks_of_record quiet open_ found, fun ⟨asking, unw, clear⟩ => ?_⟩
      · refine fan_of_record quiet distinct open_ found stands ?_
        rw [decide_eq_true_iff, asks]
      · exact (finish_asks_stop open_ (asks ▸ asking) distinct.1 quiet (fans_few distinct numbered) found unw clear).record
  · intro m fan order queue gate free granted stops start kinds none_ordered
    obtain ⟨_, once, four, _⟩ := distinct
    have taken : DemandTaken d s.part (takeDemand d s.part) := takeDemand_taken inside once four
    obtain ⟨fm, orders⟩ := finish_takeDemand inside once four quiet empty none_ordered
    refine ⟨_, rfl, (congrArg FanManager.queue fm).trans taken.queue, fun n f found => ?_, fun n started => ?_,
      fun k n held => ?_, ?_⟩
    · have stands := taken.fans n f found
      unfold Part.fan? at stands
      rw [← fm, startedFan, useful_rule] at stands
      exact stands
    · obtain ⟨k, small, held⟩ := taken.holds n started
      rw [← fm] at held
      exact mem_take_of_getElem? small held
    · have kept := taken.keeps k n held
      rw [← fm] at kept
      exact kept
    · unfold demandOrders at orders
      rw [← List.append_assoc] at orders
      exact orders

end Sys2Proof.Machine
end

section
/-! PROOFS. What a peer's view makes of the Register (R75 to R81), and the lead's share (R100, R101, R184). -/

namespace Sys2Proof.Machine

/-! ### The lead's share -/

theorem shareFor_rule (b : Bulletin) (p : Part) : shareFor p.node b = Rule.shareOf p b :=
  if_congr (by rw [beq_iff_eq]) rfl rfl

theorem takeLeadShare_eq (share : Option Nat) (p : Part) : takeLeadShare share p = { p with ctl := Rule.shareTaken p share } := by
  unfold takeLeadShare Rule.shareTaken
  cases share <;> cases mode : p.ctl.mode <;> simp [arm, after]

/-- A share is nothing to a controller in another mode than SHARE and SHARE_HELD. -/
theorem shareTaken_of_idle {p : Part} (idle : p.ctl.mode = .idle) (share : Option Nat) : Rule.shareTaken p share = p.ctl := by
  unfold Rule.shareTaken
  cases share <;> simp [idle]

/-! ### The steps of a view -/

theorem responding_iff (s : IncidentState) : responding s = true ↔ Responding s := by
  unfold responding Responding
  rw [Bool.or_eq_true, Bool.or_eq_true, beq_iff_eq, beq_iff_eq, beq_iff_eq, or_assoc]

/-- The part with the direction change of a replaced incident raised, if there is one (R79). -/
def turned (b : Bulletin) (p : Part) : Part := if b.direction != p.reg.record.dir then raise .directionChanged p else p

/-- A view can be joined (R78). -/
def CanJoin (b : Bulletin) (p : Part) : Prop :=
  (p.reg.record.state = .quiet ∨ p.reg.record.state = .alert) ∧ p.mgmt.control ≠ none ∧ complete b = true ∧
    b.id ≠ p.reg.lastCleared

/-- A view can replace the incident held (R79). -/
def CanReplace (b : Bulletin) (p : Part) : Prop :=
  Responding p.reg.record.state ∧ complete b = true ∧ b.id < p.reg.record.id ∧ b.id ≠ p.reg.lastCleared

/-- A view has the incident held cleared (R80). -/
def CanClear (b : Bulletin) (p : Part) : Prop := Responding p.reg.record.state ∧ b.lastCleared = p.reg.record.id

section
variable {b : Bulletin} {p : Part}

theorem canJoin_iff : ((p.reg.record.state == .quiet || p.reg.record.state == .alert) && p.mgmt.control.isSome &&
    complete b && b.id != p.reg.lastCleared) = true ↔ CanJoin b p := by
  unfold CanJoin
  rw [Bool.and_eq_true, Bool.and_eq_true, Bool.and_eq_true, Bool.or_eq_true, beq_iff_eq, beq_iff_eq, bne_iff_ne,
    Option.isSome_iff_ne_none, and_assoc, and_assoc]

theorem joinView_of (can : CanJoin b p) : joinView b p = takeOn (joinedRecord b) p := if_pos (canJoin_iff.2 can)

theorem joinView_of_not (cannot : ¬ CanJoin b p) : joinView b p = p := if_neg (mt canJoin_iff.1 cannot)

theorem canReplace_iff : (responding p.reg.record.state && complete b && b.id < p.reg.record.id &&
    b.id != p.reg.lastCleared) = true ↔ CanReplace b p := by
  unfold CanReplace
  rw [Bool.and_eq_true, Bool.and_eq_true, Bool.and_eq_true, responding_iff, decide_eq_true_iff, bne_iff_ne, and_assoc, and_assoc]

theorem replaceView_of (can : CanReplace b p) : replaceView b p = takeOn (joinedRecord b) (turned b p) :=
  if_pos (canReplace_iff.2 can)

theorem replaceView_of_not (cannot : ¬ CanReplace b p) : replaceView b p = p := if_neg (mt canReplace_iff.1 cannot)

theorem canClear_iff : (responding p.reg.record.state && b.lastCleared == p.reg.record.id) = true ↔ CanClear b p := by
  unfold CanClear
  rw [Bool.and_eq_true, responding_iff, beq_iff_eq]

theorem clearView_of (can : CanClear b p) : clearView b p = enterClearing p := if_pos (canClear_iff.2 can)

theorem clearView_of_not (cannot : ¬ CanClear b p) : clearView b p = p := if_neg (mt canClear_iff.1 cannot)

theorem turned_reg : (turned b p).reg = p.reg := by
  unfold turned
  split <;> rfl

/-! ### Where a view leads the Register -/

/-- The Register has taken on the view's incident, or entered CLEARING. -/
structure Departed (g u : IncidentRegister) : Prop where
  holds       : Responding u.record.state ∨ u.record.state = .clearing
  lastCleared : u.lastCleared = g.lastCleared
  how         : ((g.record.state = .quiet ∨ g.record.state = .alert) ∧ u.record.id ≠ g.lastCleared) ∨
    (Responding g.record.state ∧ (u.record.id < g.record.id ∨ (u.record.id = g.record.id ∧ u.record.state = .clearing)))

/-- The Register has copied its lead's role or state (R75, R77, R81). -/
structure Followed (g u : IncidentRegister) : Prop where
  before      : Responding g.record.state
  holds       : Responding u.record.state
  lastCleared : u.lastCleared = g.lastCleared
  id          : u.record.id = g.record.id
  record      : u.record ≠ g.record

/-- The Register stands, but for its pending entry. -/
def EntryOnly (p q : Part) : Prop := ∃ e, q = { p with reg := { p.reg with entry := e } }

theorem EntryOnly.refl (p : Part) : EntryOnly p p := ⟨p.reg.entry, rfl⟩

theorem takeOn_departed {g : IncidentRegister} {r : IncidentRecord} (same : p.reg = g) (fresh : r.id ≠ g.lastCleared)
    (how : (g.record.state = .quiet ∨ g.record.state = .alert) ∨ (Responding g.record.state ∧ r.id < g.record.id)) :
    Departed g (takeOn r p).reg := by
  obtain ⟨state, controlled, wait, active, reg⟩ := takeOn_reg r p
  rw [reg]
  refine ⟨.inl ?_, ?_, ?_⟩
  · exact active.imp id .inl
  · rw [← same]
    rfl
  · exact how.imp (fun rests => ⟨rests, fresh⟩) fun ⟨responds, lower⟩ => ⟨responds, .inl lower⟩

theorem not_responding_of_rest {s : IncidentState} (rests : s = .quiet ∨ s = .alert) : ¬ Responding s := by
  rintro (state | state | state) <;> rcases rests with rest | rest <;> exact IncidentState.noConfusion (rest.symm.trans state)

theorem clearing_not_responding {s : IncidentState} (clearing : s = .clearing) : ¬ Responding s := by
  rintro (state | state | state) <;> exact IncidentState.noConfusion (clearing.symm.trans state)

theorem Departed.not_rest {g u : IncidentRegister} (h : Departed g u) : ¬ (u.record.state = .quiet ∨ u.record.state = .alert) := by
  intro rests
  rcases h.holds with responds | clearing
  · exact not_responding_of_rest rests responds
  · rcases rests with rest | rest <;> exact IncidentState.noConfusion (rest.symm.trans clearing)

theorem Departed.joinView {g : IncidentRegister} (h : Departed g p.reg) : Departed g (joinView b p).reg := by
  rw [joinView_of_not fun can => h.not_rest can.1]
  exact h

theorem Departed.replaceView {g : IncidentRegister} (h : Departed g p.reg) : Departed g (replaceView b p).reg := by
  by_cases can : CanReplace b p
  · obtain ⟨responds, _, lower, fresh⟩ := can
    rw [replaceView_of ⟨responds, ‹_›, lower, fresh⟩]
    have taken := takeOn_departed (p := turned b p) (g := p.reg) (r := joinedRecord b) turned_reg fresh (.inr ⟨responds, lower⟩)
    have id : (takeOn (joinedRecord b) (turned b p)).reg.record.id = b.id := by
      obtain ⟨_, _, _, _, reg⟩ := takeOn_reg (joinedRecord b) (turned b p)
      rw [reg]
      rfl
    refine ⟨taken.holds, taken.lastCleared.trans h.lastCleared, ?_⟩
    rw [id]
    refine h.how.imp (fun ⟨rests, _⟩ => ⟨rests, h.lastCleared ▸ fresh⟩) fun ⟨before, how⟩ => ⟨before, .inl ?_⟩
    rcases how with less | ⟨same, _⟩
    · exact lower.trans less
    · exact same ▸ lower
  · rw [replaceView_of_not can]
    exact h

theorem Departed.clearView {g : IncidentRegister} (h : Departed g p.reg) : Departed g (clearView b p).reg := by
  by_cases can : CanClear b p
  · rw [clearView_of can, enterClearing_reg]
    refine ⟨.inr rfl, h.lastCleared, h.how.imp id fun ⟨before, how⟩ => ⟨before, how.imp id fun ⟨same, _⟩ => ⟨same, rfl⟩⟩⟩
  · rw [clearView_of_not can]
    exact h

theorem clearView_departed (can : CanClear b p) : Departed p.reg (clearView b p).reg := by
  rw [clearView_of can, enterClearing_reg]
  exact ⟨.inr rfl, rfl, .inr ⟨can.1, .inr ⟨rfl, rfl⟩⟩⟩

theorem Departed.entry {g : IncidentRegister} {q : Part} (h : Departed g p.reg) (only : EntryOnly p q) : Departed g q.reg := by
  obtain ⟨e, rfl⟩ := only
  exact ⟨h.holds, h.lastCleared, h.how⟩

theorem Departed.followed {g u : IncidentRegister} (h : Departed g p.reg) (k : Followed p.reg u) : Departed g u := by
  refine ⟨.inl k.holds, k.lastCleared.trans h.lastCleared, ?_⟩
  rw [k.id]
  refine h.how.imp id fun ⟨before, how⟩ => ⟨before, .inl ?_⟩
  exact how.resolve_right fun ⟨_, clearing⟩ => clearing_not_responding clearing k.before

theorem Followed.departed {g v u : IncidentRegister} (h : Followed g v) (k : Departed v u) : Departed g u := by
  refine ⟨k.holds, k.lastCleared.trans h.lastCleared, .inr ⟨h.before, ?_⟩⟩
  rcases k.how with ⟨rests, _⟩ | ⟨_, how⟩
  · exact absurd h.holds (not_responding_of_rest rests)
  · rw [h.id] at how
    exact how

/-! ### A lead followed -/

theorem putRecord_followed {r : IncidentRecord} (before : Responding p.reg.record.state) (holds : Responding r.state)
    (id : r.id = p.reg.record.id) (differs : r.state ≠ p.reg.record.state ∨ r.role ≠ p.reg.record.role) :
    Followed p.reg (putRecord r p).reg := by
  have kept : (markControlled p.reg.record r).state = r.state ∧ (markControlled p.reg.record r).role = r.role ∧
      (markControlled p.reg.record r).id = r.id := by
    unfold markControlled
    split <;> exact ⟨rfl, rfl, rfl⟩
  obtain ⟨state, role, ident⟩ := kept
  rw [(putRecord_regMeas r p).1]
  refine ⟨before, ?_, rfl, ident.trans id, fun same => ?_⟩
  · change Responding (markControlled p.reg.record r).state
    rw [state]
    exact holds
  · change markControlled p.reg.record r = p.reg.record at same
    rw [same] at state role
    exact differs.elim (fun other => other state.symm) fun other => other role.symm

theorem rejoinLead_cases (b : Bulletin) (p : Part) (holding : p.reg.record.state = .control ∨ p.reg.record.state = .hold) :
    rejoinLead b p = p ∨ (p.reg.record.role = .localRole ∧ Followed p.reg (rejoinLead b p).reg ∧
      (rejoinLead b p).reg.record.state = p.reg.record.state) := by
  unfold rejoinLead
  dsimp only
  split
  · next named =>
    have role : p.reg.record.role = .localRole := beq_iff_eq.1 (Bool.and_eq_true_iff.1 (Bool.and_eq_true_iff.1 named).1).1
    have responds : Responding p.reg.record.state := .inr holding
    refine .inr ⟨role, putRecord_followed responds responds rfl (.inr ?_), ?_⟩
    · rw [role]
      exact IncidentRole.noConfusion
    · rw [(putRecord_regMeas _ _).1]
      exact markControlled_state _ _
  · exact .inl rfl

theorem copyLead_cases (b : Bulletin) (p : Part) : copyLead b p = p ∨
    (Followed p.reg (copyLead b p).reg ∧ (copyLead b p).reg.record.state ≠ p.reg.record.state) := by
  have copied {r : IncidentRecord} (before : Responding p.reg.record.state) (holds : Responding r.state)
      (id : r.id = p.reg.record.id) (differs : r.state ≠ p.reg.record.state) :
      Followed p.reg (putRecord r p).reg ∧ (putRecord r p).reg.record.state ≠ p.reg.record.state := by
    refine ⟨putRecord_followed before holds id (.inl differs), ?_⟩
    rw [(putRecord_regMeas _ _).1]
    change (markControlled _ _).state ≠ _
    rw [markControlled_state]
    exact differs
  unfold copyLead
  dsimp only
  split
  · next inside _ => exact .inr (copied (.inr (.inl inside)) (.inr (.inr rfl)) rfl (by rw [inside]; exact IncidentState.noConfusion))
  · next held _ => exact .inr (copied (.inr (.inr held)) (.inr (.inl rfl)) rfl (by rw [held]; exact IncidentState.noConfusion))
  · exact .inl rfl

theorem leaveDeclared_followed {state : IncidentState} {role : IncidentRole} (declared : p.reg.record.state = .declared)
    (active : state = .control ∨ state = .hold) : Followed p.reg (leaveDeclared state role p).reg := by
  have followed := putRecord_followed (p := dropWait p) (r := { p.reg.record with state := state, role := role })
    (.inl declared) (.inr active) rfl (.inl ?_)
  · exact ⟨followed.before, followed.holds, followed.lastCleared, followed.id, followed.record⟩
  · change state ≠ p.reg.record.state
    rw [declared]
    rcases active with rfl | rfl <;> exact IncidentState.noConfusion

theorem followLead_cases (b : Bulletin) (p : Part) :
    EntryOnly p (followLead b p) ∨ Followed p.reg (followLead b p).reg := by
  have held (holding : p.reg.record.state = .control ∨ p.reg.record.state = .hold) :
      EntryOnly p (copyLead b (rejoinLead b p)) ∨ Followed p.reg (copyLead b (rejoinLead b p)).reg := by
    rcases copyLead_cases b (rejoinLead b p) with same | ⟨copied, differs⟩
    · rw [same]
      rcases rejoinLead_cases b p holding with stays | ⟨_, followed, _⟩
      · rw [stays]
        exact .inl (.refl p)
      · exact .inr followed
    · rcases rejoinLead_cases b p holding with stays | ⟨_, followed, state⟩
      · rw [stays] at copied ⊢
        exact .inr copied
      · refine .inr ⟨followed.before, copied.holds, copied.lastCleared.trans followed.lastCleared,
          copied.id.trans followed.id, fun same => differs ?_⟩
        rw [same, state]
  unfold followLead
  split
  · next declared =>
    split
    · unfold recordPending
      split
      · exact .inl ⟨_, rfl⟩
      · exact .inl ⟨_, rfl⟩
      · exact .inl (.refl p)
    · split
      · unfold followDeclared
        split
        · exact .inr (leaveDeclared_followed declared (.inl rfl))
        · exact .inr (leaveDeclared_followed declared (.inr rfl))
        · exact .inl (.refl p)
      · exact .inl (.refl p)
  · next inside =>
    split
    · exact held (.inl inside)
    · exact .inl (.refl p)
  · next inside =>
    split
    · exact held (.inr inside)
    · exact .inl (.refl p)
  · exact .inl (.refl p)

/-! ### A view taken -/

/-- The view as one of an incident: joined, then one that replaces, then one that clears (R78 to R80). -/
def viewJudged (b : Bulletin) (p : Part) : Part := clearView b (replaceView b (joinView b p))

theorem takeView_eq (b : Bulletin) (mark : Bool) (p : Part) : takeView b mark p =
    if mark = true ∧ b.id = (viewJudged b p).reg.record.id then followLead b (viewJudged b p) else viewJudged b p :=
  if_congr (by rw [Bool.and_eq_true, beq_iff_eq]; rfl) rfl rfl

theorem viewJudged_cases (b : Bulletin) (p : Part) : viewJudged b p = p ∨ Departed p.reg (viewJudged b p).reg := by
  unfold viewJudged
  by_cases joins : CanJoin b p
  · obtain ⟨rests, _, _, fresh⟩ := joins
    refine .inr (Departed.clearView (Departed.replaceView ?_))
    rw [joinView_of ⟨rests, ‹_›, ‹_›, fresh⟩]
    exact takeOn_departed rfl fresh (.inl rests)
  · rw [joinView_of_not joins]
    by_cases replaces : CanReplace b p
    · obtain ⟨responds, _, lower, fresh⟩ := replaces
      refine .inr (Departed.clearView ?_)
      rw [replaceView_of ⟨responds, ‹_›, lower, fresh⟩]
      exact takeOn_departed turned_reg fresh (.inr ⟨responds, lower⟩)
    · rw [replaceView_of_not replaces]
      by_cases clears : CanClear b p
      · exact .inr (clearView_departed clears)
      · exact .inl (clearView_of_not clears)

theorem Departed.viewJudged {g : IncidentRegister} (h : Departed g p.reg) : Departed g (viewJudged b p).reg :=
  (h.joinView.replaceView).clearView

theorem Departed.followLead {g : IncidentRegister} (h : Departed g p.reg) : Departed g (followLead b p).reg := by
  rcases followLead_cases b p with only | followed
  · exact h.entry only
  · exact h.followed followed

theorem Departed.takeView {g : IncidentRegister} {mark : Bool} (h : Departed g p.reg) : Departed g (takeView b mark p).reg := by
  rw [takeView_eq]
  split
  · exact h.viewJudged.followLead
  · exact h.viewJudged

/-- What a view makes of the Register: nothing but a pending entry; or the part has left its incident, or, the view being
the lead's for the id held, followed it. -/
theorem takeView_cases (b : Bulletin) (mark : Bool) (p : Part) :
    EntryOnly p (takeView b mark p) ∨ Departed p.reg (takeView b mark p).reg ∨
      (mark = true ∧ b.id = p.reg.record.id ∧ Followed p.reg (takeView b mark p).reg) := by
  rw [takeView_eq]
  rcases viewJudged_cases b p with same | departed
  · rw [same]
    split
    · next marked =>
      exact (followLead_cases b p).imp id fun followed => .inr ⟨marked.1, marked.2, followed⟩
    · exact .inl (.refl p)
  · split
    · exact .inr (.inl departed.followLead)
    · exact .inr (.inl departed)

end

end Sys2Proof.Machine
end

section
/-! PROOFS. The lead view judged afresh and handed on (R177, R179, R182). -/

namespace Sys2Proof.Machine

/-! ### The end of an event at the Register -/

/-- The Register when a clearing has ended (R82). -/
def clearedReg (g : IncidentRegister) : IncidentRegister :=
  { g with record := .empty .quiet, lastCleared := g.record.id, detection := [], autoDeclare := none, leadWait := none,
           entry := none }

theorem settle_reg (fuel : Nat) (p : Part) : (settle takeHandOn fuel p).reg = p.reg ∨
    (p.reg.record.state = .clearing ∧ (settle takeHandOn fuel p).reg = clearedReg p.reg) := by
  induction fuel generalizing p with
  | zero => exact .inl rfl
  | succ fuel ih =>
    unfold settle
    split
    · exact .inl rfl
    · next h rest _ =>
      have after_kept {q : Part} (same : q.reg = p.reg) : (settle takeHandOn fuel q).reg = p.reg ∨
          (p.reg.record.state = .clearing ∧ (settle takeHandOn fuel q).reg = clearedReg p.reg) := same ▸ ih q
      cases h with
      | orderRequest n kind => exact after_kept (requestOrder_step n kind { p with handOns := rest }).regMeasKept.reg
      | clearingEnd =>
        by_cases clearing : p.reg.record.state = .clearing
        · let q : Part := { p with handOns := rest, reg := { p.reg with lastCleared := p.reg.record.id } }
          have left : q.reg.record.state ≠ .quiet := by
            rw [show q.reg.record.state = .clearing from clearing]
            exact IncidentState.noConfusion
          have taken : takeHandOn .clearingEnd { p with handOns := rest } = enterQuiet q :=
            if_pos (by simpa using clearing)
          have entered : (enterQuiet q).reg = clearedReg p.reg := (enterQuiet_regMeasKept left).reg
          have stays := (settle_regMeasKept fuel (enterQuiet q) (by rw [entered]; exact IncidentState.noConfusion)).reg
          rw [taken]
          exact .inr ⟨clearing, stays.trans entered⟩
        · have ignored : takeHandOn .clearingEnd { p with handOns := rest } = { p with handOns := rest } :=
            if_neg (by simpa using clearing)
          rw [ignored]
          exact after_kept (q := { p with handOns := rest }) rfl

/-- The Register stands at the end of an event, or the clearing has ended. -/
theorem finish_reg (p : Part) : (finish p).reg = p.reg ∨
    (p.reg.record.state = .clearing ∧ (finish p).reg = clearedReg p.reg) := settle_reg settleBound p

section
variable {p : Part} {g : IncidentRegister}

theorem Departed.finish (h : Departed g p.reg) : (finish p).reg ≠ g := by
  intro same
  rcases finish_reg p with stays | ⟨_, ended⟩
  · rw [stays] at same
    rw [same] at h
    rcases h.how with ⟨rests, _⟩ | ⟨responds, less | ⟨_, clearing⟩⟩
    · exact h.not_rest rests
    · exact Nat.lt_irrefl _ less
    · exact clearing_not_responding clearing responds
  · rw [ended] at same
    subst same
    rcases h.how with ⟨_, other⟩ | ⟨responds, _⟩
    · exact other rfl
    · exact not_responding_of_rest (.inl rfl) responds

theorem Followed.finish (h : Followed g p.reg) : (finish p).reg ≠ g := by
  intro same
  rcases finish_reg p with stays | ⟨clearing, _⟩
  · exact h.record (congrArg IncidentRegister.record (stays.symm.trans same))
  · exact clearing_not_responding clearing h.holds

end

/-! ### The lead view judged -/

/-- The lead view of the id that the Coordinator holds. -/
def leadNow (p : Part) : Option Nat := leadViewFor p.coord.heldId p.coord.peers

section
variable {p : Part} {taken : Option Nat}

theorem judgeLead_leadView (p : Part) : (judgeLead p).coord.leadView = leadNow p := by rw [judgeLead_coord]; rfl

theorem judgeLead_peers (p : Part) : (judgeLead p).coord.peers = p.coord.peers := (judgeLead_event p).peers

theorem judgeLead_reg (p : Part) : (judgeLead p).reg = p.reg := (judgeLead_regMeasKept p).reg

theorem judgeLead_ctl (p : Part) : (judgeLead p).ctl = p.ctl := by rw [judgeLead_eq]

theorem judgeLead_handOns (p : Part) : (judgeLead p).handOns = p.handOns := by rw [judgeLead_eq]

/-- No change of the lead view, or none to be handed on (R182). -/
theorem judgeAndHandOn_of_same (same : p.coord.leadView = none ∨ leadNow p = p.coord.leadView ∨
    (leadNow p ≠ none ∧ leadNow p = taken)) : judgeAndHandOn taken p = judgeLead p := by
  unfold judgeAndHandOn
  dsimp only
  rw [judgeLead_leadView]
  cases before : p.coord.leadView with
  | none => rfl
  | some old =>
    cases lead : leadNow p with
    | none =>
      rw [before, lead] at same
      rcases same with none_before | same | ⟨some_now, _⟩
      · exact nomatch none_before
      · exact nomatch same
      · exact absurd rfl some_now
    | some new =>
      dsimp only
      refine if_neg fun changes => ?_
      rw [Bool.and_eq_true, bne_iff_ne, bne_iff_ne] at changes
      obtain ⟨other, elsewhere⟩ := changes
      rw [before, lead] at same
      rcases same with none_before | same | ⟨_, in_hand⟩
      · exact nomatch none_before
      · exact other (Option.some.inj same).symm
      · exact elsewhere in_hand.symm

theorem judgeAndHandOn_of_lost (before : p.coord.leadView ≠ none) (lost : leadNow p = none) :
    judgeAndHandOn taken p = takeLeadShare none (judgeLead p) := by
  unfold judgeAndHandOn
  dsimp only
  rw [judgeLead_leadView, lost]
  cases held : p.coord.leadView with
  | none => exact absurd held before
  | some old => rfl

theorem judgeAndHandOn_of_new {a : Nat} (before : p.coord.leadView ≠ none) (lead : leadNow p = some a)
    (differs : leadNow p ≠ p.coord.leadView) (elsewhere : taken ≠ some a) :
    judgeAndHandOn taken p = handNewLead a (judgeLead p) := by
  unfold judgeAndHandOn
  dsimp only
  rw [judgeLead_leadView, lead]
  cases held : p.coord.leadView with
  | none => exact absurd held before
  | some old =>
    refine if_pos ?_
    rw [Bool.and_eq_true, bne_iff_ne, bne_iff_ne]
    refine ⟨fun same => differs ?_, elsewhere⟩
    rw [lead, held, same]

end

/-! ### A new lead handed on -/

theorem shareTaken_condition (p : Part) (share : Option Nat) : (Rule.shareTaken p share).condition = p.ctl.condition := by
  unfold Rule.shareTaken
  cases share <;> dsimp only <;> split <;> rfl

theorem claims_iff {id : Nat} {q : PeerRec} {b : Bulletin} (held : q.held = some b) : Rule.claims id q = true ↔
    id ≠ 0 ∧ q.fresh = true ∧ b.role = .lead ∧ b.id = id := by
  unfold Rule.claims
  rw [held]
  exact decide_eq_true_iff

theorem claims_of_leadView {id a : Nat} {peers : List PeerRec} {x : PeerRec} (apart : (peers.map (·.address)).Nodup)
    (lead : leadViewFor id peers = some a) (found : peerAt a peers = some x) : Rule.claims id x = true := by
  obtain ⟨⟨q, mem, claims, rfl⟩, _⟩ := isLeadView_some_iff.2 lead
  have same : peerAt q.address peers = some q := find?_of_nodup (key := PeerRec.address) apart mem
  obtain rfl := Option.some.inj (same.symm.trans found)
  exact claims

section
variable {p : Part} {a : Nat} {x : PeerRec} {v : Bulletin}

theorem handNewLead_eq (found : peerAt a p.coord.peers = some x) (held : x.held = some v) : handNewLead a p =
    if leadViewFor (takeView v true p).reg.record.id p.coord.peers = some a then
      takeLeadShare (Rule.shareOf p v) (takeView v true p) else takeView v true p := by
  have event := takeView_event v true p
  have node : (takeView v true p).node = p.node := by
    unfold Part.node
    rw [event.line]
  unfold handNewLead
  rw [found]
  dsimp only [Option.bind_some]
  rw [held]
  dsimp only
  rw [event.peers, node, shareFor_rule]
  exact if_congr beq_iff_eq rfl rfl

/-- A view in CONTROL of the incident that the part is FOLLOWER or LEAD of in CONTROL changes nothing. -/
theorem takeView_of_control {mark : Bool} (role : p.reg.record.role = .follower ∨ p.reg.record.role = .lead)
    (inside : p.reg.record.state = .control) (view : v.state = .control) (open_ : v.lastCleared ≠ p.reg.record.id)
    (id : v.id = p.reg.record.id) : takeView v mark p = p := by
  have no_join : ¬ CanJoin v p := fun can => not_responding_of_rest can.1 (.inr (.inl inside))
  have no_replace : ¬ CanReplace v p := fun can => absurd can.2.2.1 (by omega)
  have no_clear : ¬ CanClear v p := fun can => open_ can.2
  have judged : viewJudged v p = p := by
    unfold viewJudged
    rw [joinView_of_not no_join, replaceView_of_not no_replace, clearView_of_not no_clear]
  have copies : copyLead v p = p := by
    unfold copyLead
    dsimp only
    rw [inside, view]
  have not_local : p.reg.record.role ≠ .localRole := by
    rcases role with role | role <;>
    · rw [role]
      exact IncidentRole.noConfusion
  have rejoins : rejoinLead v p = p := if_neg (by simp [not_local])
  have followed : followLead v p = p := by
    unfold followLead
    rw [inside]
    dsimp only
    rw [rejoins, copies]
    exact ite_self p
  rw [takeView_eq, judged, followed]
  exact ite_self p

end

/-! ### What remains of an event that leaves the Register -/

/-- The lead view has been judged; but for it, a pending entry and a share, the part stands. -/
def JudgedOnly (p q : Part) : Prop := ∃ e c, c.condition = p.ctl.condition ∧
  q = { judgeLead p with reg := { p.reg with entry := e }, ctl := c }

section
variable {p q : Part}

theorem JudgedOnly.judged (p : Part) : JudgedOnly p (judgeLead p) := by
  refine ⟨p.reg.entry, p.ctl, rfl, ?_⟩
  have same : judgeLead p = { judgeLead p with reg := (judgeLead p).reg, ctl := (judgeLead p).ctl } := rfl
  rw [judgeLead_reg, judgeLead_ctl] at same
  exact same

theorem JudgedOnly.share (h : JudgedOnly p q) (share : Option Nat) : JudgedOnly p (takeLeadShare share q) := by
  obtain ⟨e, c, condition, rfl⟩ := h
  rw [takeLeadShare_eq]
  exact ⟨e, _, (shareTaken_condition _ _).trans condition, rfl⟩

theorem JudgedOnly.entry {r : Part} (h : JudgedOnly p q) (only : EntryOnly q r) : JudgedOnly p r := by
  obtain ⟨e, c, condition, rfl⟩ := h
  obtain ⟨e', rfl⟩ := only
  exact ⟨e', c, condition, rfl⟩

theorem JudgedOnly.id (h : JudgedOnly p q) : q.reg.record.id = p.reg.record.id := by
  obtain ⟨e, c, condition, rfl⟩ := h
  rfl

/-- Fault Capture when the event is over: that of the lead view judged, with the health formed. -/
theorem JudgedOnly.fc (h : JudgedOnly p q) : (formHealth q).fc = (formHealth { p with fc := (judgeLead p).fc }).fc := by
  obtain ⟨e, c, condition, rfl⟩ := h
  have conditions : healthConditions { judgeLead p with reg := { p.reg with entry := e }, ctl := c } =
      healthConditions { p with fc := (judgeLead p).fc } := by
    rw [judgeLead_eq]
    unfold healthConditions
    dsimp only
    rw [condition]
    rfl
  rw [formHealth_fc, formHealth_fc, conditions]

end

end Sys2Proof.Machine
end

section
/-! PROOFS. A bulletin and a freshness timer's expiry (R176 to R182). -/

namespace Sys2Proof.Machine

/-! ### The peer records -/

/-- The peer records with a bulletin taken from one (R177, R178). -/
def peersTaking (source : Nat) (b : Bulletin) (p : Part) : List PeerRec :=
  p.coord.peers.map fun q => if q.address = source then
    { q with held := some b, arrival := p.now, fresh := true, freshness := some (p.now + BitVec.ofNat 32 (freshTime p)) }
  else q

/-- The peer records with one no longer fresh (R178). -/
def peersStale (address : Nat) (p : Part) : List PeerRec :=
  p.coord.peers.map fun q => if q.address = address then { q with fresh := false, freshness := none } else q

/-- A bulletin held and counted (R177). -/
def bulletinHeld (source : Nat) (b : Bulletin) (p : Part) : Part :=
  { p with coord := { p.coord with taken := bump p.coord.taken, peers := peersTaking source b p } }

/-- A peer no longer fresh, counted (R178). -/
def peerStale (address : Nat) (p : Part) : Part :=
  { p with coord := { p.coord with stale := bump p.coord.stale, peers := peersStale address p } }

theorem updWhere_peers (a : Nat) (g : PeerRec → PeerRec) (l : List PeerRec) :
    updWhere (fun q => q.address == a) g l = l.map fun q => if q.address = a then g q else q :=
  List.map_congr_left fun q _ => by simp only [beq_iff_eq]

theorem freshTime_eq (p : Part) : freshTime p = match p.mgmt.control with | some c => 1000 * c.freshTime | none => 10000 := by
  unfold freshTime
  cases p.mgmt.control <;> rfl

section
variable {p : Part}

theorem peersTaking_addresses (source : Nat) (b : Bulletin) (p : Part) :
    (peersTaking source b p).map (·.address) = p.coord.peers.map (·.address) := by
  unfold peersTaking
  rw [List.map_map]
  refine List.map_congr_left fun q _ => ?_
  rw [Function.comp_apply]
  split <;> rfl

theorem peersStale_addresses (address : Nat) (p : Part) :
    (peersStale address p).map (·.address) = p.coord.peers.map (·.address) := by
  unfold peersStale
  rw [List.map_map]
  refine List.map_congr_left fun q _ => ?_
  rw [Function.comp_apply]
  split <;> rfl

/-- The part with a bulletin held and the lead view judged and handed on (R177). -/
def bulletinJudged (source : Nat) (b : Bulletin) (p : Part) : Part :=
  judgeAndHandOn (some source) (bulletinHeld source b p)

/-- A bulletin held, the lead view judged, and the view taken (R177). -/
def bulletinViewed (source : Nat) (b : Bulletin) (p : Part) : Part :=
  takeView b (leadViewFor b.id (peersTaking source b p) == some source) (bulletinJudged source b p)

theorem takeBulletin_of_no_peer {source : Nat} {b : Bulletin} (unknown : ∀ q ∈ p.coord.peers, q.address ≠ source) :
    takeBulletin source b p = p := by
  have absent : peerAt source p.coord.peers = none := by
    refine List.find?_eq_none.2 fun q mem own => ?_
    exact unknown q mem (beq_iff_eq.1 own)
  unfold takeBulletin
  rw [absent]

theorem bulletinJudged_event (source : Nat) (b : Bulletin) (p : Part) :
    EventStep (bulletinHeld source b p) (bulletinJudged source b p) := judgeAndHandOn_event _ _

theorem bulletinViewed_event (source : Nat) (b : Bulletin) (p : Part) :
    EventStep (bulletinHeld source b p) (bulletinViewed source b p) :=
  (takeView_event _ _ _).after (bulletinJudged_event source b p)

theorem takeBulletin_of_peer {source : Nat} {b : Bulletin} (known : ∃ q ∈ p.coord.peers, q.address = source) :
    takeBulletin source b p =
      if leadViewFor (bulletinViewed source b p).reg.record.id (peersTaking source b p) = some source then
        takeLeadShare (Rule.shareOf p b) (bulletinViewed source b p) else bulletinViewed source b p := by
  obtain ⟨q, mem, rfl⟩ := known
  obtain ⟨x, found⟩ := Option.isSome_iff_exists.1
    (List.find?_isSome (p := fun x : PeerRec => x.address == q.address).2 ⟨q, mem, beq_self_eq_true _⟩)
  have located : peerAt q.address p.coord.peers = some x := found
  have held : { p with coord := { p.coord with
      taken := bump p.coord.taken,
      peers := updWhere (fun x => x.address == q.address) (withBulletin p.now (freshTime p) b) p.coord.peers } } =
      bulletinHeld q.address b p := by
    rw [updWhere_peers]
    rfl
  have judged_peers : (bulletinJudged q.address b p).coord.peers = peersTaking q.address b p := (bulletinJudged_event _ _ _).peers
  have event := bulletinViewed_event q.address b p
  have node : (bulletinViewed q.address b p).node = p.node := by
    unfold Part.node
    rw [event.line]
    rfl
  have viewed : takeView b (leadViewFor b.id (judgeAndHandOn (some q.address) (bulletinHeld q.address b p)).coord.peers ==
      some q.address) (judgeAndHandOn (some q.address) (bulletinHeld q.address b p)) = bulletinViewed q.address b p := by
    rw [show (judgeAndHandOn (some q.address) (bulletinHeld q.address b p)).coord.peers = _ from judged_peers]
    rfl
  unfold takeBulletin
  rw [located]
  dsimp only
  rw [held, viewed, event.peers, node, shareFor_rule]
  exact if_congr beq_iff_eq rfl rfl

theorem freshnessExpires_of {address : Nat} {q : PeerRec} (found : peerAt address p.coord.peers = some q) :
    freshnessExpires address p = if q.freshness = none then p else judgeAndHandOn none (peerStale address p) := by
  unfold freshnessExpires
  rw [found]
  dsimp only
  rw [updWhere_peers]
  exact if_congr Option.isNone_iff_eq_none rfl rfl

/-! ### Where the Register stands, or does not -/

/-- What judging the lead view and handing it on leaves: the Register, or a part that has left its incident, or one that
has followed its new lead in it. -/
theorem judgeAndHandOn_cases (taken : Option Nat) (apart : (p.coord.peers.map (·.address)).Nodup) :
    JudgedOnly p (judgeAndHandOn taken p) ∨ Departed p.reg (judgeAndHandOn taken p).reg ∨
      (Followed p.reg (judgeAndHandOn taken p).reg ∧ p.coord.heldId = p.reg.record.id ∧
        ∃ a, leadNow p = some a ∧ taken ≠ some a) := by
  by_cases same : p.coord.leadView = none ∨ leadNow p = p.coord.leadView ∨ (leadNow p ≠ none ∧ leadNow p = taken)
  · rw [judgeAndHandOn_of_same same]
    exact .inl (.judged p)
  push Not at same
  obtain ⟨before, differs, elsewhere⟩ := same
  cases lead : leadNow p with
  | none =>
    rw [judgeAndHandOn_of_lost before lead]
    exact .inl (JudgedOnly.share (.judged p) none)
  | some a =>
    have other : taken ≠ some a := fun in_hand => elsewhere (by rw [lead]; exact Option.some_ne_none a) (lead.trans in_hand.symm)
    rw [judgeAndHandOn_of_new before lead differs other]
    cases found : (peerAt a (judgeLead p).coord.peers) with
    | none =>
      have left : handNewLead a (judgeLead p) = judgeLead p := by
        unfold handNewLead
        rw [found]
        rfl
      rw [left]
      exact .inl (.judged p)
    | some x =>
      cases held : x.held with
      | none =>
        have left : handNewLead a (judgeLead p) = judgeLead p := by
          unfold handNewLead
          rw [found, Option.bind_some, held]
        rw [left]
        exact .inl (.judged p)
      | some v =>
        have reg (q : Part) (share : Option Nat) (c : Prop) [Decidable c] :
            (if c then takeLeadShare share q else q).reg = q.reg := by
          split
          · rw [takeLeadShare_eq]
          · rfl
        rw [handNewLead_eq found held, reg]
        rcases takeView_cases v true (judgeLead p) with only | departed | ⟨_, id, followed⟩
        · refine .inl ?_
          split
          · exact ((JudgedOnly.judged p).entry only).share _
          · exact (JudgedOnly.judged p).entry only
        · rw [judgeLead_reg] at departed
          exact .inr (.inl departed)
        · rw [judgeLead_reg] at followed id
          rw [judgeLead_peers] at found
          have claims := (claims_iff held).1 (claims_of_leadView apart lead found)
          exact .inr (.inr ⟨followed, claims.2.2.2.symm.trans id, a, rfl, other⟩)

/-- What a bulletin of a peer leaves: the Register, but for a pending entry; or a part that has left its incident or
followed its lead in it. -/
theorem takeBulletin_cases {source : Nat} {b : Bulletin} (known : ∃ q ∈ p.coord.peers, q.address = source)
    (apart : (p.coord.peers.map (·.address)).Nodup) :
    JudgedOnly (bulletinHeld source b p) (takeBulletin source b p) ∨ Departed p.reg (takeBulletin source b p).reg ∨
      Followed p.reg (takeBulletin source b p).reg := by
  have reg (share : Option Nat) (c : Prop) [Decidable c] :
      (if c then takeLeadShare share (bulletinViewed source b p) else bulletinViewed source b p).reg =
        (bulletinViewed source b p).reg := by
    split
    · rw [takeLeadShare_eq]
    · rfl
  rw [takeBulletin_of_peer known, reg]
  have judged := judgeAndHandOn_cases (some source) (p := bulletinHeld source b p)
    (by rw [← peersTaking_addresses source b p] at apart; exact apart)
  have viewed := takeView_cases b (leadViewFor b.id (peersTaking source b p) == some source) (bulletinJudged source b p)
  rcases judged with only | departed | ⟨followed, holds, a, lead, other⟩
  · rcases viewed with stays | departed | ⟨_, _, followed⟩
    · refine .inl ?_
      split
      · exact (only.entry stays).share _
      · exact only.entry stays
    · obtain ⟨e, c, _, left⟩ := only
      rw [show bulletinJudged source b p = _ from left] at departed
      refine .inr (.inl ?_)
      rw [show bulletinViewed source b p = takeView b _ _ from rfl, show bulletinJudged source b p = _ from left]
      exact ⟨departed.holds, departed.lastCleared, departed.how⟩
    · obtain ⟨e, c, _, left⟩ := only
      rw [show bulletinJudged source b p = _ from left] at followed
      refine .inr (.inr ?_)
      rw [show bulletinViewed source b p = takeView b _ _ from rfl, show bulletinJudged source b p = _ from left]
      exact ⟨followed.before, followed.holds, followed.lastCleared, followed.id, followed.record⟩
  · exact .inr (.inl (Departed.takeView departed))
  · rcases viewed with ⟨e, left⟩ | departed | ⟨mark, id, _⟩
    · refine .inr (.inr ?_)
      rw [show bulletinViewed source b p = takeView b _ _ from rfl, left]
      exact ⟨followed.before, followed.holds, followed.lastCleared, followed.id, followed.record⟩
    · exact .inr (.inl (followed.departed departed))
    · refine absurd ?_ other
      have named : b.id = p.coord.heldId := id.trans (followed.id.trans holds.symm)
      have leads : leadViewFor b.id (peersTaking source b p) = some source := beq_iff_eq.1 mark
      rw [named] at leads
      exact leads.symm.trans lead

end

end Sys2Proof.Machine
end

section
/-! PROOFS. A bulletin and a freshness timer's expiry: the peers, the lead view and the two-leads mark (R176 to R182). -/

namespace Sys2Proof.Machine

theorem takeBulletin_event {source : Nat} {b : Bulletin} {p : Part} (known : ∃ q ∈ p.coord.peers, q.address = source) :
    EventStep (bulletinHeld source b p) (takeBulletin source b p) := by
  rw [takeBulletin_of_peer known]
  have viewed := bulletinViewed_event source b p
  exact .ite ((takeLeadShare_event _ _).after viewed) viewed

theorem peersTaking_eq (source : Nat) (b : Bulletin) (p : Part) {ms : Nat} (interval : ms = freshTime p) :
    peersTaking source b p = p.coord.peers.map fun q => if q.address = source then
      { q with held := some b, arrival := p.now, fresh := true, freshness := some (p.now + BitVec.ofNat 32 ms) }
    else q := by
  rw [interval]
  rfl

/-- The records of the peers after a bulletin (R176 to R178). -/
theorem bulletin_peers (source : Nat) (b : Bulletin) {s : State} (quiet : Quiescent s) {ms : Nat}
    (interval : ms = freshTime s.part) :
    ((∀ q ∈ s.part.coord.peers, q.address ≠ source) → exec (.bulletin source b) s = nextPart s s.part) ∧
    ((∃ q ∈ s.part.coord.peers, q.address = source) → ∃ t, exec (.bulletin source b) s = .next t ∧
      (t.part.coord.peers = s.part.coord.peers.map fun q => if q.address = source then
          { q with held := some b, arrival := s.part.now, fresh := true,
                   freshness := some (s.part.now + BitVec.ofNat 32 ms) }
        else q) ∧
      t.part.coord.taken = bump s.part.coord.taken ∧ t.part.coord.stale = s.part.coord.stale) := by
  refine ⟨fun unknown => nextWith_of_left (takeBulletin_of_no_peer unknown) quiet, fun known => ⟨_, rfl, ?_⟩⟩
  have event := (takeBulletin_event (b := b) known).trans (finish_event _)
  exact ⟨event.peers.trans (peersTaking_eq source b s.part interval), event.taken, event.stale⟩

/-! ### The freshness timer -/

section
variable {address : Nat} {q : PeerRec} {s : State} (quiet : Quiescent s)
  (found : s.part.coord.peers.find? (fun x => x.address == address) = some q)

include quiet found

theorem freshness_unarmed (unarmed : q.freshness = none) : exec (.freshnessTimerExpiry address) s = nextPart s s.part :=
  nextWith_of_left ((freshnessExpires_of found).trans (if_pos unarmed)) quiet

omit quiet in
theorem freshness_expires (armed : q.freshness ≠ none) :
    freshnessExpires address s.part = judgeAndHandOn none (peerStale address s.part) :=
  (freshnessExpires_of found).trans (if_neg armed)

omit quiet in
/-- The records of the peers after a freshness timer's expiry (R178). -/
theorem freshness_peers (armed : q.freshness ≠ none) : ∃ t, exec (.freshnessTimerExpiry address) s = .next t ∧
    (t.part.coord.peers = s.part.coord.peers.map fun x =>
      if x.address = address then { x with fresh := false, freshness := none } else x) ∧
    t.part.coord.stale = bump s.part.coord.stale ∧ t.part.coord.taken = s.part.coord.taken := by
  refine ⟨_, rfl, ?_⟩
  have event := (judgeAndHandOn_event none (peerStale address s.part)).trans (finish_event _)
  rw [← freshness_expires found armed] at event
  exact ⟨event.peers, event.stale, event.taken⟩

end

/-- A new lead whose view has CONTROL, as the part has, its share alone handed on (R182). -/
theorem handNewLead_of_control {p : Part} {a : Nat} {x : PeerRec} {v : Bulletin}
    (apart : (p.coord.peers.map (·.address)).Nodup) (lead : leadNow p = some a) (found : peerAt a p.coord.peers = some x)
    (held : x.held = some v) (holds : p.coord.heldId = p.reg.record.id)
    (role : p.reg.record.role = .follower ∨ p.reg.record.role = .lead) (inside : p.reg.record.state = .control)
    (view : v.state = .control) (open_ : v.lastCleared ≠ p.reg.record.id) :
    handNewLead a (judgeLead p) = takeLeadShare (Rule.shareOf p v) (judgeLead p) := by
  have claims := (claims_iff held).1 (claims_of_leadView apart lead found)
  have id : v.id = p.reg.record.id := claims.2.2.2.trans holds
  have stands : takeView v true (judgeLead p) = judgeLead p := by
    refine takeView_of_control ?_ ?_ view ?_ ?_ <;> rw [judgeLead_reg]
    · exact role
    · exact inside
    · exact open_
    · exact id
  have share : Rule.shareOf (judgeLead p) v = Rule.shareOf p v := by
    unfold Rule.shareOf
    rw [judgeLead_eq]
  rw [handNewLead_eq (by rw [judgeLead_peers]; exact found) held, stands, share]
  refine if_pos ?_
  rw [judgeLead_reg, judgeLead_peers, ← holds]
  exact lead

/-- The Register and the controller with the lead view judged and handed on, the part standing in its incident. -/
theorem judgeLead_share (p : Part) (share : Option Nat) :
    (takeLeadShare share (judgeLead p)).reg = p.reg ∧ (takeLeadShare share (judgeLead p)).ctl = Rule.shareTaken p share ∧
      (takeLeadShare share (judgeLead p)).handOns = p.handOns := by
  rw [takeLeadShare_eq]
  refine ⟨judgeLead_reg p, ?_, judgeLead_handOns p⟩
  unfold Rule.shareTaken
  rw [judgeLead_eq]
  rfl

/-- What a freshness timer's expiry makes of the Register and the controller (R100, R101, R182). -/
theorem freshness_handed {address : Nat} {q : PeerRec} {s : State} (quiet : Quiescent s)
    (found : s.part.coord.peers.find? (fun x => x.address == address) = some q) (armed : q.freshness ≠ none) :
    let p := peerStale address s.part
    let before := p.coord.leadView
    ∃ t, exec (.freshnessTimerExpiry address) s = .next t ∧
      (before = none ∨ leadNow p = before → t.part.reg = s.part.reg ∧ t.part.ctl = s.part.ctl) ∧
      (before ≠ none → leadNow p = none → t.part.reg = s.part.reg ∧ t.part.ctl = Rule.shareTaken s.part none) ∧
      ∀ a x b, (s.part.coord.peers.map (·.address)).Nodup → before ≠ none → leadNow p ≠ before → leadNow p = some a →
        p.coord.peers.find? (fun x => x.address == a) = some x → x.held = some b →
        s.part.coord.heldId = s.part.reg.record.id →
        s.part.reg.record.role = .follower ∨ s.part.reg.record.role = .lead → s.part.reg.record.state = .control →
        b.state = .control → b.lastCleared ≠ s.part.reg.record.id →
        t.part.reg = s.part.reg ∧ t.part.ctl = Rule.shareTaken s.part (Rule.shareOf s.part b) := by
  intro p before
  have expires := freshness_expires found armed
  have ends {r : Part} (left : judgeAndHandOn none p = r) (waits : r.handOns = p.handOns) :
      (finish (freshnessExpires address s.part)).reg = r.reg ∧ (finish (freshnessExpires address s.part)).ctl = r.ctl := by
    rw [expires, left]
    change (settled r).reg = _ ∧ (settled r).ctl = _
    rw [settled_of_quiet r (waits.trans quiet)]
    exact ⟨rfl, rfl⟩
  refine ⟨_, rfl, fun same => ?_, fun held lost => ?_, fun a x b apart held differs lead at_a view holds role inside active open_ => ?_⟩
  · obtain ⟨reg, ctl⟩ := ends (judgeAndHandOn_of_same (same.imp id .inl)) (judgeLead_handOns p)
    exact ⟨reg.trans (judgeLead_reg p), ctl.trans (judgeLead_ctl p)⟩
  · obtain ⟨kept, share, waits⟩ := judgeLead_share p none
    obtain ⟨reg, ctl⟩ := ends (judgeAndHandOn_of_lost held lost) waits
    exact ⟨reg.trans kept, ctl.trans share⟩
  · have moved := judgeAndHandOn_of_new (taken := none) held lead differs nofun
    rw [handNewLead_of_control (by rw [← peersStale_addresses address s.part] at apart; exact apart) lead at_a view
      holds role inside active open_] at moved
    obtain ⟨kept, share, waits⟩ := judgeLead_share p (Rule.shareOf p b)
    obtain ⟨reg, ctl⟩ := ends moved waits
    exact ⟨reg.trans kept, ctl.trans share⟩

/-! ### The lead view and the two-leads mark -/

/-- The lead view, the two-leads mark and the fault of an event that leaves the Register (R179, R180). -/
theorem judgedOnly_leads {s : State} {k : SectionCoordinator} {q : Part} (quiet : Quiescent s)
    (apart : (k.peers.map (·.address)).Nodup) (held : k.heldId = s.part.coord.heldId) (role : k.role = s.part.coord.role)
    (mark : k.twoLeads = s.part.coord.twoLeads) (only : JudgedOnly { s.part with coord := k } q) :
    let t := finish q
    let conflict := Rule.Conflict s.part.coord.heldId s.part.coord.role k.peers
    Rule.IsLeadView s.part.coord.heldId k.peers t.coord.leadView ∧ (t.coord.twoLeads = true ↔ conflict) ∧
    (conflict → s.part.coord.twoLeads = false → ∃ n u, Rule.IsTwoLeadsObject s.part.coord.heldId s.part.coord.role k.peers n ∧
      exec (.faultReport .twoLeads ⟨.station, n⟩) s = .next u ∧ t.fc = u.part.fc) ∧
    (¬ conflict ∨ s.part.coord.twoLeads = true → t.fc = (formHealth s.part).fc) := by
  intro t conflict
  let p : Part := { s.part with coord := k }
  have fc : (formHealth q).fc = (formHealth { s.part with fc := (judgeLead p).fc }).fc := only.fc
  obtain ⟨e, c, _, left⟩ := only
  have waits : q.handOns = [] := by
    rw [left]
    exact (judgeLead_handOns p).trans quiet
  have ends : t = formHealth q := congrArg formHealth (settled_of_quiet q waits)
  have coord : t.coord = (judgeLead p).coord := by
    rw [ends, left]
    rfl
  rw [ends] at coord ⊢
  rw [coord, judgeLead_leadView, judgeLead_twoLeads_iff, fc]
  rw [show conflict = Rule.Conflict p.coord.heldId p.coord.role p.coord.peers by
    unfold conflict
    rw [← held, ← role]]
  refine ⟨held ▸ isLeadView_leadViewFor _ _, Iff.rfl, fun two clear => ?_, fun silent => ?_⟩
  · refine ⟨twoLeadsObject k.role (leadViewFor k.heldId k.peers) (claimants k.heldId k.peers), _, ?_,
      exec_faultReport _ _ s quiet, ?_⟩
    · rw [← held, ← role]
      exact isTwoLeadsObject apart two
    · rw [judgeLead_fc_of_new p two (mark.trans clear), report_withCoord]
      exact congrArg (fun q => (formHealth q).fc) (report_eq _ _ s.part).symm
  · rw [judgeLead_fc_of_old p fun ⟨two, clear⟩ => silent.elim (fun none_two => none_two two) fun set => ?_]
    rw [show p.coord.twoLeads = k.twoLeads from rfl, mark, set] at clear
    exact nomatch clear

end Sys2Proof.Machine
end

section
/-! PROOFS. A lead followed, and an incident taken on from a view (R75 to R81). -/

namespace Sys2Proof.Machine

/-! ### A lead followed -/



/-- The entry that a lead view leaves pending under the store-write hold (R76). -/
def pendingOf (b : Bulletin) : PendingEntry := if b.state = .control then .leadViewControl else .leadViewHold

theorem follows_iff (r : IncidentRole) : follows r = true ↔ r = .follower ∨ r = .localRole := by
  unfold follows
  rw [Bool.or_eq_true, beq_iff_eq, beq_iff_eq]

section
variable {b : Bulletin} {p : Part}

theorem leaveDeclared_reg_of_declared {state : IncidentState} (role : IncidentRole) (declared : p.reg.record.state = .declared)
    (active : state = .control ∨ state = .hold) : (leaveDeclared state role p).reg = { p.reg with
      leadWait := none, entry := none,
      record := { p.reg.record with
        state := state, role := role, controlled := p.reg.record.controlled || state == .control } } := by
  rw [leaveDeclared_reg role p (by rcases active with rfl | rfl <;> exact IncidentState.noConfusion)]
  rcases active with rfl | rfl
  · rw [markControlled_entry (by rw [declared]; exact IncidentState.noConfusion) rfl]
    simp
  · rw [markControlled_elsewhere (.inl IncidentState.noConfusion)]
    simp

/-- A lead view in DECLARED under the store-write hold is recorded (R76). -/
theorem followLead_recorded (declared : p.reg.record.state = .declared) (held : p.reg.storeHold = true) :
    (followLead b p).reg = { p.reg with entry := if b.state = .control ∨ b.state = .hold then some (pendingOf b) else p.reg.entry } := by
  unfold followLead
  rw [declared]
  dsimp only
  rw [if_pos held]
  unfold recordPending pendingOf
  split
  · next active => simp [active]
  · next active => simp [active]
  · next not_control not_hold =>
    rw [if_neg (not_or.2 ⟨not_control, not_hold⟩)]

/-- A lead view in DECLARED is followed by a FOLLOWER or LOCAL part (R75). -/
theorem followLead_declared (declared : p.reg.record.state = .declared) (free : p.reg.storeHold = false) :
    (followLead b p).reg =
      if (p.reg.record.role = .follower ∨ p.reg.record.role = .localRole) ∧ (b.state = .control ∨ b.state = .hold) then
        { p.reg with leadWait := none, entry := none, record := { p.reg.record with
            state := b.state, role := .follower, controlled := p.reg.record.controlled || b.state == .control } }
      else p.reg := by
  unfold followLead
  rw [declared]
  dsimp only
  rw [if_neg (by rw [free]; exact Bool.false_ne_true)]
  by_cases role : follows p.reg.record.role = true
  · rw [if_pos role]
    rw [follows_iff] at role
    unfold followDeclared
    split
    · next active =>
      rw [if_pos ⟨role, .inl active⟩, leaveDeclared_reg_of_declared _ declared (.inl rfl), active]
    · next active =>
      rw [if_pos ⟨role, .inr active⟩, leaveDeclared_reg_of_declared _ declared (.inr rfl), active]
    · next not_control not_hold => rw [if_neg fun h => h.2.elim not_control not_hold]
  · rw [if_neg role, if_neg fun h => role ((follows_iff _).2 h.1)]

theorem rejoinLead_reg (holding : p.reg.record.state = .control ∨ p.reg.record.state = .hold) :
    (rejoinLead b p).reg = { p.reg with record := { p.reg.record with
      role := if p.reg.record.role = .localRole ∧ (b.state = .control ∨ b.state = .hold) ∧ ∃ e ∈ b.shares, e.node = p.node
        then .follower else p.reg.record.role } } := by
  have named : (p.reg.record.role == .localRole && (b.state == .control || b.state == .hold) &&
      b.shares.any fun e => e.node == p.node) = true ↔
      p.reg.record.role = .localRole ∧ (b.state = .control ∨ b.state = .hold) ∧ ∃ e ∈ b.shares, e.node = p.node := by
    simp only [Bool.and_eq_true, Bool.or_eq_true, beq_iff_eq, List.any_eq_true, and_assoc]
  have stays : markControlled p.reg.record { p.reg.record with role := .follower } = { p.reg.record with role := .follower } := by
    refine markControlled_elsewhere ?_
    rcases holding with inside | held
    · exact .inr inside
    · exact .inl (by rw [show ({ p.reg.record with role := .follower } : IncidentRecord).state = _ from held]; exact IncidentState.noConfusion)
  unfold rejoinLead
  dsimp only
  by_cases joins : p.reg.record.role = .localRole ∧ (b.state = .control ∨ b.state = .hold) ∧ ∃ e ∈ b.shares, e.node = p.node
  · rw [if_pos (named.2 joins), if_pos joins, (putRecord_regMeas _ _).1, putReg, stays, if_neg fun quiet => ?_]
    rcases holding with inside | held
    · exact IncidentState.noConfusion (inside.symm.trans quiet.1)
    · exact IncidentState.noConfusion (held.symm.trans quiet.1)
  · rw [if_neg (mt named.1 joins), if_neg joins]

theorem copyLead_reg (holding : p.reg.record.state = .control ∨ p.reg.record.state = .hold) :
    (copyLead b p).reg = { p.reg with record := { p.reg.record with
      state := if b.state = .control ∨ b.state = .hold then b.state else p.reg.record.state,
      controlled := p.reg.record.controlled || decide (p.reg.record.state = .hold ∧ b.state = .control) } } := by
  have left : ∀ r : IncidentRecord, p.reg.record = r → (copyLead b p).reg = { p.reg with record := { r with
      state := if b.state = .control ∨ b.state = .hold then b.state else r.state,
      controlled := r.controlled || decide (r.state = .hold ∧ b.state = .control) } } := by
    intro r same
    unfold copyLead
    dsimp only
    rw [same]
    split
    · next inside view =>
      rw [(putRecord_regMeas _ _).1, putReg, markControlled_elsewhere (.inl IncidentState.noConfusion),
        if_neg fun quiet => IncidentState.noConfusion quiet.1]
      simp [view]
    · next held view =>
      rw [(putRecord_regMeas _ _).1, putReg, markControlled_entry (by rw [same, held]; exact IncidentState.noConfusion) rfl,
        if_neg fun quiet => IncidentState.noConfusion quiet.1]
      simp [view, held]
    · next no_hold no_control =>
      rw [same] at holding
      have state : (if b.state = .control ∨ b.state = .hold then b.state else r.state) = r.state := by
        by_cases active : b.state = .control ∨ b.state = .hold
        · rw [if_pos active]
          rcases holding with inside | held <;> rcases active with view | view
          · rw [inside, view]
          · exact absurd view (no_hold inside)
          · exact absurd view (no_control held)
          · rw [held, view]
        · exact if_neg active
      have mark : (r.controlled || decide (r.state = .hold ∧ b.state = .control)) = r.controlled := by
        have neither : ¬ (r.state = .hold ∧ b.state = .control) := fun h => no_control h.1 h.2
        simp [neither]
      rw [state, mark, ← same]
  exact left _ rfl

/-- A lead followed in CONTROL or HOLD, the role first and then the state (R77, R81). -/
theorem followLead_held (holding : p.reg.record.state = .control ∨ p.reg.record.state = .hold) :
    (followLead b p).reg = { p.reg with record := { p.reg.record with
      role := if p.reg.record.role = .localRole ∧ (b.state = .control ∨ b.state = .hold) ∧ ∃ e ∈ b.shares, e.node = p.node
        then .follower else p.reg.record.role,
      state := if (p.reg.record.role = .follower ∨ p.reg.record.role = .localRole) ∧ (b.state = .control ∨ b.state = .hold)
        then b.state else p.reg.record.state,
      controlled := p.reg.record.controlled || decide (p.reg.record.state = .hold ∧
        (p.reg.record.role = .follower ∨ p.reg.record.role = .localRole) ∧ b.state = .control) } } := by
  have chosen : followLead b p = if follows p.reg.record.role = true then copyLead b (rejoinLead b p) else p := by
    unfold followLead
    rcases holding with inside | held
    · rw [inside]
    · rw [held]
  have rejoined := rejoinLead_reg (b := b) holding
  have holding' : (rejoinLead b p).reg.record.state = .control ∨ (rejoinLead b p).reg.record.state = .hold := by
    rw [rejoined]
    exact holding
  rw [chosen]
  by_cases role : follows p.reg.record.role = true
  · rw [if_pos role, copyLead_reg holding', rejoined]
    rw [follows_iff] at role
    simp only [role, true_and]
  · rw [if_neg role]
    rw [follows_iff] at role
    have not_local : ¬ (p.reg.record.role = .localRole ∧ (b.state = .control ∨ b.state = .hold) ∧ ∃ e ∈ b.shares, e.node = p.node) :=
      fun h => role (.inr h.1)
    rw [if_neg not_local, if_neg fun h => role h.1]
    simp [role]

end

end Sys2Proof.Machine
end

section
/-! PROOFS. A view joined, or one that replaces the incident held (R75, R76, R78 to R80). -/

namespace Sys2Proof.Machine

/-- A view is taken on: joined, or in place of the incident held (R78, R79). -/
def TakesOn (b : Bulletin) (p : Part) : Prop := CanJoin b p ∨ CanReplace b p

/-- The part at the moment a view is taken on: the change of direction raised, where the view replaces (R79). -/
structure Turned (b : Bulletin) (p q : Part) : Prop where
  reg    : q.reg = p.reg
  event  : EventStep p q
  raised : Responding p.reg.record.state → b.direction ≠ p.reg.record.dir → q.fc.flags &&& flagBit .directionChanged = flagBit .directionChanged

section
variable {b : Bulletin} {p : Part}

theorem takeOn_id (r : IncidentRecord) (p : Part) : (takeOn r p).reg.record.id = r.id := by
  obtain ⟨_, _, _, _, reg⟩ := takeOn_reg r p
  rw [reg]
  rfl

theorem viewJudged_of_takesOn (takes : TakesOn b p) :
    ∃ q, Turned b p q ∧ viewJudged b p = clearView b (takeOn (joinedRecord b) q) := by
  unfold viewJudged
  rcases takes with joins | replaces
  · refine ⟨p, ⟨rfl, .refl p, fun responds => absurd responds (not_responding_of_rest joins.1)⟩, ?_⟩
    have no_replace : ¬ CanReplace b (takeOn (joinedRecord b) p) := by
      intro can
      have lower := can.2.2.1
      rw [takeOn_id] at lower
      exact Nat.lt_irrefl _ lower
    rw [joinView_of joins, replaceView_of_not no_replace]
  · refine ⟨turned b p, ⟨turned_reg, ?_, fun _ differs => ?_⟩, ?_⟩
    · unfold turned
      exact .ite (raise_event _ p) (.refl p)
    · unfold turned
      rw [if_pos (bne_iff_ne.2 differs)]
      exact raise_flags_and_flagBit .directionChanged p
    · rw [joinView_of_not fun can => not_responding_of_rest can.1 replaces.1, replaceView_of replaces]

theorem viewJudged_of_open (takes : TakesOn b p) (open_ : b.lastCleared ≠ b.id) :
    ∃ q, Turned b p q ∧ viewJudged b p = takeOn (joinedRecord b) q := by
  obtain ⟨q, turned, judged⟩ := viewJudged_of_takesOn takes
  refine ⟨q, turned, judged.trans (clearView_of_not fun can => open_ ?_)⟩
  exact can.2.trans (takeOn_id _ _)

theorem viewJudged_of_cleared (takes : TakesOn b p) (cleared : b.lastCleared = b.id) :
    ∃ q, Turned b p q ∧ viewJudged b p = enterClearing (takeOn (joinedRecord b) q) := by
  obtain ⟨q, turned, judged⟩ := viewJudged_of_takesOn takes
  refine ⟨q, turned, judged.trans (clearView_of ⟨?_, ?_⟩)⟩
  · exact (takeOn_state _ _).imp id .inl
  · exact cleared.trans (takeOn_id (joinedRecord b) q).symm

/-! ### The incident taken on, the view followed where it is the lead's -/

/-- The Register when a view has been taken on, and followed where it is marked the lead's; `lead` says whether the part
is judged LEAD. -/
def viewedReg (b : Bulletin) (marked lead : Bool) (p : Part) : IncidentRegister :=
  let g := takenOn (joinedRecord b) p
  let follows := marked = true ∧ (b.state = .control ∨ b.state = .hold)
  if lead = true then
    if p.reg.storeHold = true then { g with entry := if follows then some (pendingOf b) else none }
    else { g with record := { g.record with state := .control, controlled := true } }
  else if p.reg.storeHold = true then
    { g with leadWait := arm p.now (1000 * p.control.leadWait), entry := if follows then some (pendingOf b) else none }
  else if follows then
    { g with record := { g.record with state := b.state, role := .follower, controlled := b.state == .control } }
  else { g with leadWait := arm p.now (1000 * p.control.leadWait) }

theorem takenOn_role_of_follower {r : IncidentRecord} (outside : judgedLead p r.fire = false) :
    (takenOn r p).record.role = if p.reg.record.role = .localRole then .localRole else .follower :=
  judgedRole_of_not_lead _ outside

/-- The Register when a view has been taken on and, where it is marked, followed (R75, R76, R78, R79). -/
theorem takeOn_viewed (marked : Bool) :
    (if marked = true then followLead b (takeOn (joinedRecord b) p) else takeOn (joinedRecord b) p).reg =
      viewedReg b marked (judgedLead p (some b.fire)) p := by
  have hold : (takenOn (joinedRecord b) p).storeHold = p.reg.storeHold := rfl
  unfold viewedReg
  dsimp only
  cases lead : judgedLead p (some b.fire) with
  | true =>
    rw [if_pos rfl]
    cases held : p.reg.storeHold with
    | true =>
      have reg := takeOn_reg_of_held (r := joinedRecord b) lead held
      rw [if_pos rfl]
      cases marked with
      | false =>
        rw [if_neg Bool.false_ne_true, if_neg fun h => Bool.false_ne_true h.1]
        exact reg
      | true =>
        rw [if_pos rfl, followLead_recorded (by rw [reg]; rfl) (by rw [reg]; exact held), reg]
        by_cases active : b.state = .control ∨ b.state = .hold
        · rw [if_pos active, if_pos ⟨rfl, active⟩]
        · rw [if_neg active, if_neg fun h => active h.2]
          rfl
    | false =>
      have reg := takeOn_reg_of_lead (r := joinedRecord b) lead held
      have is_lead : (takenOn (joinedRecord b) p).record.role = .lead := if_pos lead
      rw [if_neg Bool.false_ne_true]
      cases marked with
      | false => exact reg
      | true =>
        rw [if_pos rfl, followLead_held (by rw [reg]; exact .inl rfl), reg]
        simp [is_lead]
  | false =>
    have reg := takeOn_reg_of_follower (r := joinedRecord b) lead
    have role := takenOn_role_of_follower (r := joinedRecord b) lead
    have may_follow : (takenOn (joinedRecord b) p).record.role = .follower ∨ (takenOn (joinedRecord b) p).record.role = .localRole := by
      rw [role]
      split
      · exact .inr rfl
      · exact .inl rfl
    rw [if_neg Bool.false_ne_true]
    cases held : p.reg.storeHold with
    | true =>
      rw [if_pos rfl]
      cases marked with
      | false =>
        rw [if_neg Bool.false_ne_true, if_neg fun h => Bool.false_ne_true h.1]
        exact reg
      | true =>
        rw [if_pos rfl, followLead_recorded (by rw [reg]; rfl) (by rw [reg]; exact held), reg]
        by_cases active : b.state = .control ∨ b.state = .hold
        · rw [if_pos active, if_pos ⟨rfl, active⟩]
        · rw [if_neg active, if_neg fun h => active h.2]
          rfl
    | false =>
      rw [if_neg Bool.false_ne_true]
      cases marked with
      | false =>
        rw [if_neg Bool.false_ne_true, if_neg fun h => Bool.false_ne_true h.1]
        exact reg
      | true =>
        rw [if_pos rfl, followLead_declared (by rw [reg]; rfl) (by rw [reg]; exact held), reg]
        by_cases active : b.state = .control ∨ b.state = .hold
        · rw [if_pos ⟨may_follow, active⟩, if_pos ⟨rfl, active⟩]
          rfl
        · rw [if_neg fun h => active h.2, if_neg fun h => active h.2]

/-- The Register after a view that is taken on and not cleared. -/
theorem takeView_takesOn (marked : Bool) (takes : TakesOn b p) (open_ : b.lastCleared ≠ b.id) :
    ∃ q, Turned b p q ∧ (takeView b marked p).reg = viewedReg b marked (judgedLead p (some b.fire)) p ∧
      EventStep q (takeView b marked p) := by
  obtain ⟨q, turned, judged⟩ := viewJudged_of_open takes open_
  refine ⟨q, turned, ?_, ?_⟩
  · have same : viewedReg b marked (judgedLead q (some b.fire)) q = viewedReg b marked (judgedLead p (some b.fire)) p := by
      have sections : judgedLead q (some b.fire) = judgedLead p (some b.fire) := by
        unfold judgedLead
        rw [turned.event.mgmt]
      have role : judgedRole q (some b.fire) q.reg.record.role = judgedRole p (some b.fire) p.reg.record.role := by
        unfold judgedRole
        rw [sections, turned.reg]
      have taken : takenOn (joinedRecord b) q = takenOn (joinedRecord b) p := by
        unfold takenOn
        rw [show judgedRole q (joinedRecord b).fire q.reg.record.role = _ from role, turned.reg]
        rfl
      unfold viewedReg
      rw [taken, sections, turned.reg, turned.event.now, control_of_mgmt turned.event.mgmt]
    rw [← same, ← takeOn_viewed, takeView_eq, judged]
    refine congrArg Part.reg (if_congr ?_ rfl rfl)
    rw [takeOn_id]
    exact ⟨fun h => h.1, fun h => ⟨h, rfl⟩⟩
  · rw [takeView_eq, judged]
    have taken : EventStep q (takeOn (joinedRecord b) q) := takeOn_event _ _
    exact .ite ((followLead_event _ _).after taken) taken

end

end Sys2Proof.Machine
end

section
/-! PROOFS. What a bulletin leaves at the Register and the controller (R75 to R82, R100, R101, R177, R182, R184). -/

namespace Sys2Proof.Machine

/-! ### The lead view judged, before the view is taken -/

/-- What the controller holds once the lead view has been judged and handed on, `moved` being the view of a new lead. -/
def handedCtl (source : Nat) (b : Bulletin) (moved : Option Bulletin) (p : Part) : AirflowController :=
  if moved ≠ none then Rule.shareTaken p (moved.bind (Rule.shareOf p))
  else if p.coord.leadView ≠ none ∧ leadNow (bulletinHeld source b p) = none then Rule.shareTaken p none
  else p.ctl

/-- The part with the lead view judged, where the Register stands. -/
structure HandedOnly (peers : List PeerRec) (c : AirflowController) (p q : Part) : Prop where
  rest  : q = { p with coord := q.coord, fc := q.fc, ctl := c }
  peers : q.coord.peers = peers

section
variable {source : Nat} {b : Bulletin} {p : Part}

theorem handedOnly_judged (q : Part) (share : Option Nat) (c : AirflowController) (taken : Rule.shareTaken q share = c) :
    HandedOnly q.coord.peers c q (takeLeadShare share (judgeLead q)) := by
  have eq : takeLeadShare share (judgeLead q) = { judgeLead q with ctl := c } := by
    rw [takeLeadShare_eq]
    refine congrArg (fun x => { judgeLead q with ctl := x }) ?_
    have kept := (judgeLead_share q share).2.1
    rw [takeLeadShare_eq] at kept
    exact kept.trans taken
  rw [eq]
  refine ⟨?_, judgeLead_peers q⟩
  rw [judgeLead_eq]

/-- The lead view judged and handed on where the Register stands, `moved` being the view of a new lead (R177, R182). -/
theorem bulletinJudged_of {moved : Option Bulletin}
    (stands : moved = none ∧ (p.coord.leadView = none ∨ leadNow (bulletinHeld source b p) = none ∨
        leadNow (bulletinHeld source b p) = some source ∨ leadNow (bulletinHeld source b p) = p.coord.leadView) ∨
      (∃ a x v, p.coord.leadView ≠ none ∧ leadNow (bulletinHeld source b p) = some a ∧ a ≠ source ∧
        leadNow (bulletinHeld source b p) ≠ p.coord.leadView ∧ (p.coord.peers.map (·.address)).Nodup ∧
        (peersTaking source b p).find? (fun x => x.address == a) = some x ∧ x.held = some v ∧ moved = some v ∧
        p.coord.heldId = p.reg.record.id ∧ (p.reg.record.role = .follower ∨ p.reg.record.role = .lead) ∧
        p.reg.record.state = .control ∧ v.state = .control ∧ v.lastCleared ≠ p.reg.record.id)) :
    HandedOnly (peersTaking source b p) (handedCtl source b moved p) p (bulletinJudged source b p) := by
  have of_held {c : AirflowController} {q : Part} (h : HandedOnly (peersTaking source b p) c (bulletinHeld source b p) q) :
      HandedOnly (peersTaking source b p) c p q := ⟨h.rest, h.peers⟩
  unfold bulletinJudged handedCtl
  rcases stands with ⟨rfl, same⟩ | ⟨a, x, v, before, lead, other, differs, apart, found, held, rfl, holds, role, inside, view, open_⟩
  · rw [if_neg (not_not.2 rfl)]
    by_cases lost : p.coord.leadView ≠ none ∧ leadNow (bulletinHeld source b p) = none
    · rw [if_pos lost, judgeAndHandOn_of_lost (p := bulletinHeld source b p) lost.1 lost.2]
      exact of_held (handedOnly_judged (bulletinHeld source b p) none _ rfl)
    · have kept : leadNow (bulletinHeld source b p) = none → p.coord.leadView = none := by
        intro none_now
        by_contra some_before
        exact lost ⟨some_before, none_now⟩
      rw [if_neg lost, judgeAndHandOn_of_same]
      · refine ⟨?_, judgeLead_peers _⟩
        rw [judgeLead_eq]
        rfl
      · rcases same with none_before | none_now | own | stays
        · exact .inl none_before
        · exact .inl (kept none_now)
        · exact .inr (.inr ⟨by rw [own]; exact Option.some_ne_none _, own⟩)
        · exact .inr (.inl stays)
  · rw [if_pos (Option.some_ne_none v), judgeAndHandOn_of_new (p := bulletinHeld source b p) before lead differs
      fun in_hand => other (Option.some.inj in_hand).symm]
    have handed := handNewLead_of_control (p := bulletinHeld source b p)
      (by rw [← peersTaking_addresses source b p] at apart; exact apart) lead found held holds role inside view open_
    rw [handed]
    exact of_held (handedOnly_judged (bulletinHeld source b p) _ _ rfl)

/-! ### The view taken -/

theorem takeBulletin_reg (known : ∃ q ∈ p.coord.peers, q.address = source) :
    (takeBulletin source b p).reg = (bulletinViewed source b p).reg := by
  rw [takeBulletin_of_peer known]
  split
  · rw [takeLeadShare_eq]
  · rfl

theorem takeBulletin_handOns (known : ∃ q ∈ p.coord.peers, q.address = source) :
    (takeBulletin source b p).handOns = (bulletinViewed source b p).handOns := by
  rw [takeBulletin_of_peer known]
  split
  · rw [takeLeadShare_eq]
  · rfl

/-- An event that does not leave the part in CLEARING leaves the Register as its view does. -/
theorem finish_takeBulletin_reg (known : ∃ q ∈ p.coord.peers, q.address = source)
    (open_ : (bulletinViewed source b p).reg.record.state ≠ .clearing) :
    (finish (takeBulletin source b p)).reg = (bulletinViewed source b p).reg := by
  rw [← takeBulletin_reg known] at open_ ⊢
  exact (finish_regMeasKept _ open_).reg

theorem followLead_of_clearing (clearing : p.reg.record.state = .clearing) : followLead b p = p := by
  unfold followLead
  rw [clearing]

/-- A view that has the incident cleared is not followed. -/
theorem takeView_of_cleared {mark : Bool} {q : Part} (judged : viewJudged b p = enterClearing q) :
    takeView b mark p = enterClearing q := by
  have clearing : (enterClearing q).reg.record.state = .clearing := by rw [enterClearing_reg]
  rw [takeView_eq, judged, followLead_of_clearing clearing]
  exact ite_self _

theorem viewJudged_of_neither (no_take : ¬ TakesOn b p) (no_clear : ¬ CanClear b p) : viewJudged b p = p := by
  unfold viewJudged
  rw [joinView_of_not fun can => no_take (.inl can), replaceView_of_not fun can => no_take (.inr can), clearView_of_not no_clear]

/-- The controller is IDLE in CLEARING. -/
theorem enterClearing_mode (responds : Responding p.reg.record.state) : (enterClearing p).ctl.mode = .idle := by
  rw [enterClearing_eq responds]
  exact deliverRecord_ctl (P := (·.mode = .idle)) fun q _ _ => ctlMeetsRecord_idle (by exact IncidentState.noConfusion) q

/-! ### The Register after a view taken on -/

/-- What R75, R76, R78 and R79 say of the Register after a view that is taken on. -/
theorem viewedReg_rule (marked : Bool) :
    let g := p.reg
    let u := viewedReg b marked (judgedLead p (some b.fire)) p
    let leads : Prop := b.state = .control ∨ b.state = .hold
    let inSection : Prop := judgedLead p (some b.fire) = true
    let waits : Prop := ¬ inSection ∧ (¬ (marked = true ∧ leads) ∨ g.storeHold = true)
    u.record.id = b.id ∧ u.record.fire = some b.fire ∧ u.record.head = none ∧ u.record.tail = none ∧
    u.record.dir = b.direction ∧ u.record.dirSource = some .adopted ∧ u.record.heat = some b.heat ∧
    (inSection → u.record.role = .lead ∧ u.record.state = (if g.storeHold then .declared else .control)) ∧
    (waits → u.record.state = .declared ∧
      u.record.role = (if g.record.role = .localRole then .localRole else .follower) ∧
      u.leadWait = some (p.now + BitVec.ofNat 32 (1000 * p.control.leadWait))) ∧
    (¬ inSection → ¬ waits → u.record.state = b.state ∧ u.record.role = .follower ∧ u.leadWait = none) ∧
    u.entry = (if g.storeHold = true ∧ marked = true ∧ leads then some (pendingOf b) else none) ∧
    (u.record.controlled = true ↔ u.record.state = .control) ∧ u.autoDeclare = none ∧
    u.detection = g.detection ∧ u.lastCleared = g.lastCleared ∧ u.outcome = g.outcome := by
  intro g u leads inSection waits
  unfold u viewedReg waits inSection g
  dsimp only
  cases lead : judgedLead p (some b.fire) with
  | true =>
    have role : (takenOn (joinedRecord b) p).record.role = .lead := if_pos lead
    rw [if_pos rfl]
    cases held : p.reg.storeHold with
    | true =>
      rw [if_pos rfl]
      exact ⟨rfl, rfl, rfl, rfl, rfl, rfl, rfl, fun _ => ⟨role, rfl⟩, fun w => absurd rfl w.1, fun w => absurd rfl w,
        by simp [leads], iff_of_false Bool.noConfusion IncidentState.noConfusion, rfl, rfl, rfl, rfl⟩
    | false =>
      rw [if_neg Bool.false_ne_true]
      exact ⟨rfl, rfl, rfl, rfl, rfl, rfl, rfl, fun _ => ⟨role, rfl⟩, fun w => absurd rfl w.1, fun w => absurd rfl w,
        by simp [takenOn], iff_of_true rfl rfl, rfl, rfl, rfl, rfl⟩
  | false =>
    have role := takenOn_role_of_follower (r := joinedRecord b) lead
    rw [if_neg Bool.false_ne_true]
    cases held : p.reg.storeHold with
    | true =>
      rw [if_pos rfl]
      exact ⟨rfl, rfl, rfl, rfl, rfl, rfl, rfl, fun w => absurd w Bool.false_ne_true, fun _ => ⟨rfl, role, rfl⟩,
        fun _ w => absurd ⟨Bool.false_ne_true, .inr rfl⟩ w, by simp [leads],
        iff_of_false Bool.noConfusion IncidentState.noConfusion, rfl, rfl, rfl, rfl⟩
    | false =>
      rw [if_neg Bool.false_ne_true]
      by_cases follows : marked = true ∧ leads
      · rw [if_pos follows]
        exact ⟨rfl, rfl, rfl, rfl, rfl, rfl, rfl, fun w => absurd w Bool.false_ne_true,
          fun w => absurd w.2 (by simp [follows]), fun _ _ => ⟨rfl, rfl, rfl⟩, by simp [takenOn], beq_iff_eq, rfl, rfl, rfl, rfl⟩
      · rw [if_neg follows]
        exact ⟨rfl, rfl, rfl, rfl, rfl, rfl, rfl, fun w => absurd w Bool.false_ne_true, fun _ => ⟨rfl, role, rfl⟩,
          fun _ w => absurd ⟨Bool.false_ne_true, .inl follows⟩ w, by simp [takenOn],
          iff_of_false Bool.noConfusion IncidentState.noConfusion, rfl, rfl, rfl, rfl⟩

end

end Sys2Proof.Machine
end

section
/-! PROOFS. The obligation: bulletins taken (R75 to R82, R100, R101, R176 to R184). -/

namespace Sys2Proof.Machine

theorem complete_iff (b : Bulletin) : complete b = true ↔
    (b.state = .declared ∨ b.state = .control ∨ b.state = .hold) ∧
      (1 ≤ b.id ∧ b.id ≤ 0xEFFF ∨ 0xF001 ≤ b.id ∧ b.id ≤ 0xF0EF) ∧ b.fire ≤ 20000 ∧ b.direction ≠ none ∧
      1 ≤ b.heat ∧ b.heat ≤ 6 := by
  unfold complete
  simp only [Bool.and_eq_true, Bool.or_eq_true, beq_iff_eq, decide_eq_true_eq, Option.isSome_iff_ne_none, or_assoc, and_assoc]

/-- An incident taken on from a view stands in DECLARED, CONTROL or HOLD. -/
theorem viewedReg_responding (b : Bulletin) (marked lead : Bool) (p : Part) :
    Responding (viewedReg b marked lead p).record.state := by
  unfold viewedReg
  dsimp only
  split
  · split
    · exact .inl rfl
    · exact .inr (.inl rfl)
  · split
    · exact .inl rfl
    · split
      · next follows => exact .inr follows.2
      · exact .inl rfl

theorem Departed.record_ne {g u : IncidentRegister} (h : Departed g u) : u.record ≠ g.record := by
  intro same
  have rests := h.not_rest
  rcases h.how with ⟨rest, _⟩ | ⟨responds, less | ⟨_, clearing⟩⟩
  · rw [same] at rests
    exact rests rest
  · rw [same] at less
    exact Nat.lt_irrefl _ less
  · rw [same] at clearing
    exact clearing_not_responding clearing responds

section
variable {source : Nat} {b : Bulletin} {c : AirflowController} {s : State} (quiet : Quiescent s)
  (known : ∃ q ∈ s.part.coord.peers, q.address = source)
  (handed : HandedOnly (peersTaking source b s.part) c s.part (bulletinJudged source b s.part))

include handed

theorem handed_reg : (bulletinJudged source b s.part).reg = s.part.reg := by rw [handed.rest]

theorem handed_mgmt : (bulletinJudged source b s.part).mgmt = s.part.mgmt := by rw [handed.rest]

theorem takesOn_iff : TakesOn b (bulletinJudged source b s.part) ↔ complete b = true ∧ b.id ≠ s.part.reg.lastCleared ∧
    ((s.part.reg.record.state = .quiet ∨ s.part.reg.record.state = .alert) ∧ s.part.mgmt.control ≠ none ∨
      Responding s.part.reg.record.state ∧ b.id < s.part.reg.record.id) := by
  unfold TakesOn CanJoin CanReplace
  rw [handed_reg handed, handed_mgmt handed]
  tauto

theorem canClear_handed : CanClear b (bulletinJudged source b s.part) ↔
    Responding s.part.reg.record.state ∧ b.lastCleared = s.part.reg.record.id := by
  unfold CanClear
  rw [handed_reg handed]

include known

/-- A view taken on that is not cleared (R75, R76, R78, R79). -/
theorem bulletin_taken_on (takes : TakesOn b (bulletinJudged source b s.part)) (open_ : b.lastCleared ≠ b.id) :
    (finish (takeBulletin source b s.part)).reg =
      viewedReg b (leadViewFor b.id (peersTaking source b s.part) == some source) (judgedLead s.part (some b.fire)) s.part ∧
    (Responding s.part.reg.record.state → b.direction ≠ s.part.reg.record.dir →
      (finish (takeBulletin source b s.part)).fc.flags &&& 0x0010 ≠ 0) := by
  obtain ⟨q, turned, reg, event⟩ := takeView_takesOn (leadViewFor b.id (peersTaking source b s.part) == some source) takes open_
  have same : viewedReg b (leadViewFor b.id (peersTaking source b s.part) == some source)
      (judgedLead (bulletinJudged source b s.part) (some b.fire)) (bulletinJudged source b s.part) =
      viewedReg b (leadViewFor b.id (peersTaking source b s.part) == some source) (judgedLead s.part (some b.fire)) s.part := by
    rw [handed.rest]
    rfl
  have viewed : (bulletinViewed source b s.part).reg = _ := reg.trans same
  refine ⟨(finish_takeBulletin_reg known ?_).trans viewed, fun responds differs => ?_⟩
  · rw [viewed]
    exact fun clearing => clearing_not_responding clearing (viewedReg_responding ..)
  · have raised := turned.raised (by rw [handed_reg handed]; exact responds) (by rw [handed_reg handed]; exact differs)
    have rest : EventStep q (takeBulletin source b s.part) := by
      rw [takeBulletin_of_peer known]
      exact .ite ((takeLeadShare_event _ _).after event) event
    have kept := (rest.trans (finish_event _)).flags.of_mask raised
    rw [show (0x0010 : BitVec 16) = flagBit .directionChanged from rfl, kept]
    decide

/-- A view taken on and cleared at once (R80). -/
theorem bulletin_taken_cleared (takes : TakesOn b (bulletinJudged source b s.part)) (cleared : b.lastCleared = b.id) :
    let u := (finish (takeBulletin source b s.part)).reg
    u.leadWait = none ∧ u.entry = none ∧
      (u.record.state = .clearing ∧ u.record.id = b.id ∧ u.lastCleared = s.part.reg.lastCleared ∨
        u.record = .empty .quiet ∧ u.lastCleared = b.id ∧ u.detection = []) := by
  obtain ⟨q, turned, judged⟩ := viewJudged_of_cleared takes cleared
  have viewed : (takeBulletin source b s.part).reg = (enterClearing (takeOn (joinedRecord b) q)).reg := by
    rw [takeBulletin_reg known, bulletinViewed, takeView_of_cleared judged]
  obtain ⟨state, controlled, wait, _, taken⟩ := takeOn_reg (joinedRecord b) q
  have id : (takeBulletin source b s.part).reg.record.id = b.id := by
    rw [viewed, enterClearing_reg, taken]
    rfl
  have lastCleared : (takeBulletin source b s.part).reg.lastCleared = s.part.reg.lastCleared := by
    have kept : q.reg.lastCleared = s.part.reg.lastCleared := by rw [turned.reg, handed_reg handed]
    rw [viewed, enterClearing_reg, taken]
    exact kept
  have waits : (takeBulletin source b s.part).reg.leadWait = none ∧ (takeBulletin source b s.part).reg.entry = none ∧
      (takeBulletin source b s.part).reg.record.state = .clearing := by
    rw [viewed, enterClearing_reg]
    exact ⟨rfl, rfl, rfl⟩
  obtain ⟨no_wait, no_entry, clearing⟩ := waits
  intro u
  unfold u
  rcases finish_reg (takeBulletin source b s.part) with stays | ⟨_, ended⟩
  · rw [stays]
    exact ⟨no_wait, no_entry, .inl ⟨clearing, id, lastCleared⟩⟩
  · rw [ended]
    exact ⟨rfl, rfl, .inr ⟨rfl, id, rfl⟩⟩

include quiet

/-- A view that has the incident held cleared (R80, R82). -/
theorem bulletin_clears (no_take : ¬ TakesOn b (bulletinJudged source b s.part))
    (clears : Responding s.part.reg.record.state ∧ b.lastCleared = s.part.reg.record.id) :
    let u := (finish (takeBulletin source b s.part)).reg
    (HeldOpen s.part → u = { s.part.reg with
      record := { s.part.reg.record with state := .clearing }, leadWait := none, entry := none }) ∧
    (¬ HeldOpen s.part → u = clearedReg s.part.reg) := by
  have can : CanClear b (bulletinJudged source b s.part) := (canClear_handed handed).2 clears
  have judged : viewJudged b (bulletinJudged source b s.part) = enterClearing (bulletinJudged source b s.part) := by
    unfold viewJudged
    rw [joinView_of_not fun joins => no_take (.inl joins), replaceView_of_not fun replaces => no_take (.inr replaces),
      clearView_of can]
  have taken : takeBulletin source b s.part = enterClearing (bulletinJudged source b s.part) := by
    have share : takeLeadShare (Rule.shareOf s.part b) (enterClearing (bulletinJudged source b s.part)) =
        enterClearing (bulletinJudged source b s.part) := by
      rw [takeLeadShare_eq, shareTaken_of_idle (enterClearing_mode can.1)]
    rw [takeBulletin_of_peer known, bulletinViewed, takeView_of_cleared judged, share]
    exact ite_self _
  have open_same : HeldOpen (bulletinJudged source b s.part) ↔ HeldOpen s.part := by
    rw [handed.rest]
    rfl
  obtain ⟨held, ended⟩ := finish_enterClearing (p := bulletinJudged source b s.part) can.1
    (by rw [handed.rest]; exact quiet)
  intro u
  unfold u
  rw [taken]
  rw [open_same, handed_reg handed] at held ended
  exact ⟨held, ended⟩

/-- A view that is neither taken on nor clears, followed where it is the lead's of the incident held. -/
theorem bulletin_followed (no_take : ¬ TakesOn b (bulletinJudged source b s.part))
    (no_clear : ¬ CanClear b (bulletinJudged source b s.part)) :
    let p := bulletinJudged source b s.part
    (¬ (leadViewFor b.id (peersTaking source b s.part) = some source ∧ b.id = s.part.reg.record.id ∧
        Responding s.part.reg.record.state) → (finish (takeBulletin source b s.part)).reg = s.part.reg) ∧
    (leadViewFor b.id (peersTaking source b s.part) = some source → b.id = s.part.reg.record.id →
      (followLead b p).reg.record.state ≠ .clearing → (finish (takeBulletin source b s.part)).reg = (followLead b p).reg) := by
  have judged := viewJudged_of_neither no_take no_clear
  intro p
  refine ⟨fun aside => ?_, fun marked id open_ => ?_⟩
  · have viewed : bulletinViewed source b s.part = p := by
      rw [bulletinViewed, takeView_eq, judged]
      split
      · next follows =>
        obtain ⟨marked, id⟩ := follows
        rw [handed_reg handed] at id
        have rests : ¬ Responding s.part.reg.record.state := fun responds => aside ⟨beq_iff_eq.1 marked, id, responds⟩
        unfold followLead
        rw [handed_reg handed]
        split
        · next state => exact absurd (.inl state) rests
        · next state => exact absurd (.inr (.inl state)) rests
        · next state => exact absurd (.inr (.inr state)) rests
        · rfl
      · rfl
    have waits : (takeBulletin source b s.part).handOns = [] := by
      rw [takeBulletin_handOns known, viewed]
      unfold p
      rw [handed.rest]
      exact quiet
    change (settled (takeBulletin source b s.part)).reg = _
    rw [settled_of_quiet _ waits, takeBulletin_reg known, viewed]
    exact handed_reg handed
  · have viewed : bulletinViewed source b s.part = followLead b p := by
      rw [bulletinViewed, takeView_eq, judged, handed_reg handed]
      exact if_pos ⟨beq_iff_eq.2 marked, id⟩
    rw [← viewed] at open_ ⊢
    exact finish_takeBulletin_reg known open_

end

end Sys2Proof.Machine
end

section
/-! PROOFS. The obligation: bulletins taken (R75 to R82, R100, R101, R176 to R184). -/

namespace Sys2Proof.Machine

section
variable {source : Nat} {b : Bulletin} {c : AirflowController} {s : State} (quiet : Quiescent s)
  (known : ∃ q ∈ s.part.coord.peers, q.address = source)
  (handed : HandedOnly (peersTaking source b s.part) c s.part (bulletinJudged source b s.part))

include handed

theorem handed_node : (bulletinJudged source b s.part).node = s.part.line.node.toNat := by
  rw [handed.rest]
  rfl

include known quiet

/-- The lead view of the incident held, in each state that it is followed in (R75 to R77, R81). -/
theorem bulletin_leads (no_take : ¬ TakesOn b (bulletinJudged source b s.part))
    (no_clear : ¬ CanClear b (bulletinJudged source b s.part))
    (marked : leadViewFor b.id (peersTaking source b s.part) = some source) (id : b.id = s.part.reg.record.id) :
    let g := s.part.reg
    let r := g.record
    let u := (finish (takeBulletin source b s.part)).reg
    let leads : Prop := b.state = .control ∨ b.state = .hold
    let follows : Prop := r.role = .follower ∨ r.role = .localRole
    (r.state = .declared → g.storeHold = true → u = { g with entry := if leads then some (pendingOf b) else g.entry }) ∧
    (r.state = .declared → g.storeHold = false → u = if follows ∧ leads then
        { g with leadWait := none, entry := none,
                 record := { r with state := b.state, role := .follower,
                                    controlled := r.controlled || b.state == .control } }
      else g) ∧
    (r.state = .control ∨ r.state = .hold →
      let named : Prop := r.role = .localRole ∧ leads ∧ ∃ e ∈ b.shares, e.node = s.part.line.node.toNat
      u = { g with record := { r with
        role := if named then .follower else r.role, state := if follows ∧ leads then b.state else r.state,
        controlled := r.controlled || decide (r.state = .hold ∧ follows ∧ b.state = .control) } }) := by
  obtain ⟨_, left⟩ := bulletin_followed quiet known handed no_take no_clear
  have view_open (leads : b.state = .control ∨ b.state = .hold) : b.state ≠ .clearing := fun clearing =>
    clearing_not_responding clearing (.inr leads)
  intro g r u leads follows
  unfold u
  refine ⟨fun declared held => ?_, fun declared free => ?_, fun holding => ?_⟩
  · have followed := followLead_recorded (b := b) (p := bulletinJudged source b s.part)
      (by rw [handed_reg handed]; exact declared) (by rw [handed_reg handed]; exact held)
    rw [handed_reg handed] at followed
    refine (left marked id ?_).trans followed
    rw [followed]
    exact fun clearing => IncidentState.noConfusion (declared.symm.trans clearing)
  · have followed := followLead_declared (b := b) (p := bulletinJudged source b s.part)
      (by rw [handed_reg handed]; exact declared) (by rw [handed_reg handed]; exact free)
    rw [handed_reg handed] at followed
    refine (left marked id ?_).trans followed
    rw [followed]
    split
    · next may => exact view_open may.2
    · exact fun clearing => IncidentState.noConfusion (declared.symm.trans clearing)
  · have followed := followLead_held (b := b) (p := bulletinJudged source b s.part) (by rw [handed_reg handed]; exact holding)
    rw [handed_reg handed, handed_node handed] at followed
    refine (left marked id ?_).trans followed
    rw [followed]
    dsimp only
    split
    · next may => exact view_open may.2
    · exact fun clearing => clearing_not_responding clearing (.inr holding)

/-- A part whose record stands after a view that does not clear it has no more than a pending entry from it. -/
theorem bulletinViewed_of_record (open_ : b.lastCleared ≠ b.id)
    (stays : (finish (takeBulletin source b s.part)).reg.record = s.part.reg.record) :
    EntryOnly (bulletinJudged source b s.part) (bulletinViewed source b s.part) := by
  rcases takeView_cases b (leadViewFor b.id (peersTaking source b s.part) == some source) (bulletinJudged source b s.part)
    with only | departed | ⟨_, _, followed⟩
  · exact only
  · rw [handed_reg handed] at departed
    have moved : Departed s.part.reg (takeBulletin source b s.part).reg := by
      rw [takeBulletin_reg known]
      exact departed
    exfalso
    rcases finish_reg (takeBulletin source b s.part) with kept | ⟨_, ended⟩
    · rw [kept] at stays
      exact moved.record_ne stays
    · have rests : s.part.reg.record.state = .quiet := by
        rw [← stays, ended]
        rfl
      have not_responds := not_responding_of_rest (.inl rests)
      by_cases takes : TakesOn b (bulletinJudged source b s.part)
      · obtain ⟨taken, _⟩ := bulletin_taken_on known handed takes open_
        rw [taken] at stays
        have responds := viewedReg_responding b (leadViewFor b.id (peersTaking source b s.part) == some source)
          (judgedLead s.part (some b.fire)) s.part
        rw [stays] at responds
        exact not_responds responds
      · have no_clear : ¬ CanClear b (bulletinJudged source b s.part) := fun can =>
          not_responds ((canClear_handed handed).1 can).1
        exact moved.finish ((bulletin_followed quiet known handed takes no_clear).1 fun h => not_responds h.2.2)
  · rw [handed_reg handed] at followed
    have kept := finish_takeBulletin_reg (source := source) (b := b) known
      fun clearing => clearing_not_responding clearing followed.holds
    rw [kept] at stays
    exact absurd stays followed.record

/-- The share that the view brings, the part standing in its incident (R100, R101, R184). -/
theorem bulletin_shares (open_ : b.lastCleared ≠ b.id)
    (stays : (finish (takeBulletin source b s.part)).reg.record = s.part.reg.record) :
    (finish (takeBulletin source b s.part)).ctl =
      if leadViewFor s.part.reg.record.id (peersTaking source b s.part) = some source then
        Rule.shareTaken { s.part with ctl := c } (Rule.shareOf s.part b) else c := by
  obtain ⟨e, viewed⟩ := bulletinViewed_of_record quiet known handed open_ stays
  have waits : (takeBulletin source b s.part).handOns = [] := by
    rw [takeBulletin_handOns known, viewed, handed.rest]
    exact quiet
  have id : (bulletinViewed source b s.part).reg.record.id = s.part.reg.record.id := by
    rw [viewed]
    change (bulletinJudged source b s.part).reg.record.id = _
    rw [handed_reg handed]
  change (settled (takeBulletin source b s.part)).ctl = _
  rw [settled_of_quiet _ waits, takeBulletin_of_peer known, id]
  split
  · rw [takeLeadShare_eq, viewed, handed.rest]
    rfl
  · rw [viewed, handed.rest]

end

/-! ### The obligation -/

/-- The event of a bulletin of a peer. -/
theorem bulletin_leadsJudged {source : Nat} {b : Bulletin} {s : State}
    (known : ∃ q ∈ s.part.coord.peers, q.address = source) (apart : (s.part.coord.peers.map (·.address)).Nodup)
    (kept : (finish (takeBulletin source b s.part)).reg = s.part.reg) :
    JudgedOnly (bulletinHeld source b s.part) (takeBulletin source b s.part) := by
  rcases takeBulletin_cases known apart with only | departed | followed
  · exact only
  · exact absurd kept departed.finish
  · exact absurd kept followed.finish

/-- The event of a freshness timer's expiry. -/
theorem freshness_leadsJudged {address : Nat} {q : PeerRec} {s : State}
    (found : s.part.coord.peers.find? (fun x => x.address == address) = some q) (armed : q.freshness ≠ none)
    (apart : (s.part.coord.peers.map (·.address)).Nodup)
    (kept : (finish (freshnessExpires address s.part)).reg = s.part.reg) :
    JudgedOnly (peerStale address s.part) (freshnessExpires address s.part) := by
  rw [freshness_expires found armed] at kept ⊢
  rcases judgeAndHandOn_cases none (p := peerStale address s.part)
    (by rw [← peersStale_addresses address s.part] at apart; exact apart) with only | departed | ⟨followed, _⟩
  · exact only
  · exact absurd kept departed.finish
  · exact absurd kept followed.finish

/-- What a bulletin of a peer leaves of the Register and the controller. -/
theorem bulletin_left {source : Nat} {b : Bulletin} {moved : Option Bulletin} {s : State} (quiet : Quiescent s)
    (known : ∃ q ∈ s.part.coord.peers, q.address = source)
    (handed : HandedOnly (peersTaking source b s.part) (handedCtl source b moved s.part) s.part (bulletinJudged source b s.part))
    (own : leadNow (bulletinHeld source b s.part) = some source → moved = none) :
    s.part.coord.heldId = s.part.reg.record.id → b.lastCleared ≠ b.id →
      (finish (takeBulletin source b s.part)).reg.record = s.part.reg.record →
      (finish (takeBulletin source b s.part)).ctl =
        if leadNow (bulletinHeld source b s.part) = some source then Rule.shareTaken s.part (Rule.shareOf s.part b)
        else if moved ≠ none then Rule.shareTaken s.part (moved.bind (Rule.shareOf s.part))
        else if s.part.coord.leadView ≠ none ∧ leadNow (bulletinHeld source b s.part) = none then Rule.shareTaken s.part none
        else s.part.ctl := by
  intro holds open_ stays
  have lead : leadNow (bulletinHeld source b s.part) = leadViewFor s.part.reg.record.id (peersTaking source b s.part) := by
    rw [← holds]
    rfl
  have ctl := bulletin_shares quiet known handed open_ stays
  rw [← lead] at ctl
  rw [ctl]
  by_cases in_hand : leadNow (bulletinHeld source b s.part) = some source
  · have none_handed : handedCtl source b moved s.part = s.part.ctl := by
      unfold handedCtl
      rw [if_neg (not_not.2 (own in_hand)), if_neg fun lost => ?_]
      rw [in_hand] at lost
      exact nomatch lost.2
    rw [if_pos in_hand, if_pos in_hand, none_handed]
  · rw [if_neg in_hand, if_neg in_hand]
    rfl

/-- Settles O45, by where a view leads the Register (`takeView_cases`) and by what judging the lead view hands on. -/
theorem bulletinsTaken : Obligations.BulletinsTaken := by
  unfold Obligations.BulletinsTaken
  refine ⟨?_, ?_, ?_, ?_⟩
  · intro source b s quiet ms
    exact bulletin_peers source b quiet (freshTime_eq s.part).symm
  · intro address q s quiet found
    exact ⟨freshness_unarmed quiet found, freshness_peers found, fun armed => freshness_handed quiet found armed⟩
  · intro command peers s t quiet apart ms which next kept id role
    rcases which with ⟨source, b, rfl, known, rfl⟩ | ⟨address, rfl, ⟨q, mem, rfl, armed⟩, rfl⟩
    · obtain rfl := Host.Outcome.next.inj next
      have only := bulletin_leadsJudged known apart kept
      have taking := peersTaking_eq source b s.part (freshTime_eq s.part).symm
      rw [← peersTaking_addresses source b s.part] at apart
      obtain ⟨view, mark, reported, silent⟩ := judgedOnly_leads
        (k := { s.part.coord with taken := bump s.part.coord.taken, peers := peersTaking source b s.part }) quiet apart rfl rfl rfl only
      rw [taking] at view mark reported silent
      exact ⟨view, mark, reported, silent⟩
    · obtain rfl := Host.Outcome.next.inj next
      have only := freshness_leadsJudged (find?_of_nodup (key := PeerRec.address) apart mem) armed apart kept
      rw [← peersStale_addresses q.address s.part] at apart
      exact judgedOnly_leads
        (k := { s.part.coord with stale := bump s.part.coord.stale, peers := peersStale q.address s.part }) quiet apart rfl rfl rfl only
  · intro source b moved s quiet known ms peers before lead g r stands marked leads responds complete joins clears inSection
      pending follows
    have taking : peersTaking source b s.part = peers := peersTaking_eq source b s.part (freshTime_eq s.part).symm
    clear_value peers
    subst taking
    have handed := bulletinJudged_of (source := source) (b := b) stands
    have own : leadNow (bulletinHeld source b s.part) = some source → moved = none := by
      intro in_hand
      rcases stands with ⟨none_moved, _⟩ | ⟨a, _, _, _, at_a, other, _⟩
      · exact none_moved
      · exact absurd (Option.some.inj (at_a.symm.trans in_hand)) other
    have joins_iff : joins ↔ TakesOn b (bulletinJudged source b s.part) := by
      rw [takesOn_iff handed, complete_iff]
      exact Iff.rfl
    have clears_iff : clears ↔ CanClear b (bulletinJudged source b s.part) := (canClear_handed handed).symm
    have section_iff : judgedLead s.part (some b.fire) = true ↔ inSection := by
      rw [judgedLead_iff]
      exact ⟨fun ⟨x, v, is_x, is_v, range⟩ => ⟨x, is_x, Option.some.inj is_v ▸ range⟩,
        fun ⟨x, is_x, range⟩ => ⟨x, b.fire, is_x, rfl, range⟩⟩
    refine ⟨_, rfl, fun take open_ => ?_, fun take cleared => ?_, fun no_take clear => ?_, fun no_take no_clear mark id => ?_,
      fun no_take no_clear aside => ?_, bulletin_left quiet known handed own⟩
    · intro u waits
      obtain ⟨reg, raised⟩ := bulletin_taken_on known handed (joins_iff.1 take) open_
      have same : u = viewedReg b (leadViewFor b.id (peersTaking source b s.part) == some source)
        (judgedLead s.part (some b.fire)) s.part := reg
      clear_value u
      subst same
      obtain ⟨id, fire, head, tail, dir, dirSource, heat, inside, waiting, following, entry, controlled, auto, detection, last,
        outcome⟩ := viewedReg_rule (b := b) (p := s.part) (leadViewFor b.id (peersTaking source b s.part) == some source)
      have marked_iff : (leadViewFor b.id (peersTaking source b s.part) == some source) = true ↔ marked := beq_iff_eq
      have waits_iff : (¬ judgedLead s.part (some b.fire) = true ∧
          (¬ ((leadViewFor b.id (peersTaking source b s.part) == some source) = true ∧ leads) ∨ g.storeHold = true)) ↔ waits :=
        and_congr (not_congr section_iff) (or_congr_left (not_congr (and_congr_left' marked_iff)))
      refine ⟨id, fire, head, tail, dir, dirSource, heat, fun within => inside (section_iff.2 within),
        fun waits_now => waiting (waits_iff.2 waits_now),
        fun outside goes => following (mt section_iff.1 outside) (mt waits_iff.1 goes), entry.trans (if_congr ?_ rfl rfl),
        controlled, auto, detection, last, outcome, raised⟩
      exact and_congr_right' (and_congr_left' marked_iff)
    · exact bulletin_taken_cleared known handed (joins_iff.1 take) cleared
    · obtain ⟨held, ended⟩ := bulletin_clears quiet known handed (mt joins_iff.2 no_take) clear
      by_cases open_ : HeldOpen s.part
      · rw [held open_]
        exact ⟨rfl, rfl, fun _ => ⟨rfl, rfl, rfl⟩, fun none_open records => absurd open_ (by simp [HeldOpen, none_open, records])⟩
      · rw [ended open_]
        exact ⟨rfl, rfl, fun opens => absurd opens open_, fun _ _ => ⟨rfl, rfl, rfl⟩⟩
    · exact bulletin_leads quiet known handed (mt joins_iff.2 no_take) (mt clears_iff.2 no_clear) mark id
    · exact (bulletin_followed quiet known handed (mt joins_iff.2 no_take) (mt clears_iff.2 no_clear)).1 aside

end Sys2Proof.Machine
end

section
/-! PROOFS. ACTIVATE (R208), and the end of a store write as the Management Agent shows it (R209). -/

namespace Sys2Proof.Machine

theorem nextWith_congr {f g : Part → Part} {s : State} (same : f s.part = g s.part) : nextWith f s = nextWith g s := by
  unfold nextWith
  rw [same]

/-! ### ACTIVATE -/

section
variable {src : Byte} {num : BitVec 16} {k : Byte} {kind : TableKind} {s : State}

/-- The store with the slot of a kind WRITING. -/
def writingSlot (kind : TableKind) (m : ManagementAgent) : ManagementAgent :=
  setSlot kind { slotOf m kind with state := .writing } m

/-- The part when a store write begins. -/
def writeBegun (kind : TableKind) (source : Byte) (number : BitVec 16) (p : Part) : Part :=
  { p with
    reg := { p.reg with storeHold := true },
    mgmt := { writingSlot kind p.mgmt with write := some ⟨kind, p.mgmt.buffer.bytes, source, number⟩ } }

theorem tableOfCode_listed (listed : (k = 1 ∧ kind = .stations) ∨ (k = 2 ∧ kind = .sections) ∨ (k = 3 ∧ kind = .fans) ∨
    (k = 4 ∧ kind = .control)) : tableOfCode k.toNat = some kind := by
  rcases listed with ⟨rfl, rfl⟩ | ⟨rfl, rfl⟩ | ⟨rfl, rfl⟩ | ⟨rfl, rfl⟩ <;> rfl

theorem takeActivate_of_listed (listed : tableOfCode k.toNat = some kind) (p : Part) :
    takeActivate ⟨src, num, [k]⟩ p = match activateFault kind p with
      | some reason => answer 5 ⟨src, num, [k]⟩ (refusal reason p)
      | none => writeBegun kind src num p := by
  unfold takeActivate
  dsimp only
  rw [listed]
  rfl

theorem activateFault_protected (inside : s.part.reg.record.state ≠ .quiet) :
    activateFault kind s.part = some .protectedState :=
  if_pos (bne_iff_ne.2 inside)

section
variable (rests : s.part.reg.record.state = .quiet)
include rests

theorem activateFault_busy (writes : s.part.mgmt.write ≠ none) : activateFault kind s.part = some .busy := by
  unfold activateFault
  rw [if_neg (by simp [rests]), if_pos]
  exact Option.isSome_iff_ne_none.2 writes

theorem activateFault_of_idle (idle : s.part.mgmt.write = none) : activateFault kind s.part =
    if s.part.mgmt.buffer.state = .verified ∧ s.part.mgmt.buffer.kind = some kind then none else some .wrongState := by
  unfold activateFault locked
  rw [if_neg (by simp [rests]), if_neg (by simp [idle])]
  by_cases ready : s.part.mgmt.buffer.state = .verified ∧ s.part.mgmt.buffer.kind = some kind
  · rw [if_pos ready, if_neg]
    simp [ready.1, ready.2]
  · rw [if_neg ready, if_pos]
    rw [Bool.or_eq_true, bne_iff_ne, bne_iff_ne]
    exact not_and_or.1 ready

end

/-- ACTIVATE refused for a reason that depends on the part. -/
theorem refused_activate_here {reason : ReplyReason} (quiet : Quiescent s) (listed : tableOfCode k.toNat = some kind)
    (fault : activateFault kind s.part = some reason) :
    Refused s (.activate ⟨src, num, [k]⟩) (refusalReply 5 src num (BitVec.ofNat 8 (reasonCode reason))) := by
  have left : takeActivate ⟨src, num, [k]⟩ s.part = answer 5 ⟨src, num, [k]⟩ (refusal reason s.part) := by
    rw [takeActivate_of_listed listed, fault]
  have same : nextWith (eventOf (.activate ⟨src, num, [k]⟩)) s =
      nextWith (fun p => answer 5 ⟨src, num, [k]⟩ (refusal reason p)) s :=
    nextWith_congr left
  refine ⟨_, ((exec_eventOf _ s).trans same).trans ?_, exec_queueOwnTelegram _ _ quiet⟩
  exact nextWith_answer_refusal 5 ⟨src, num, [k]⟩ (refusal reason) s quiet rfl

end

/-- An ACTIVATE that is accepted (R208). -/
theorem activate_begins {src : Byte} {num : BitVec 16} {k : Byte} {kind : TableKind} {s : State} (quiet : Quiescent s)
    (listed : tableOfCode k.toNat = some kind)
    (fault : activateFault kind s.part = none) :
    exec (.activate ⟨src, num, [k]⟩) s = nextPart s (writeBegun kind src num s.part) := by
  refine (exec_eventOf _ s).trans (nextWith_of_left ?_ quiet)
  change takeActivate ⟨src, num, [k]⟩ s.part = _
  rw [takeActivate_of_listed listed, fault]

end Sys2Proof.Machine
end

section
/-! PROOFS. The end of a store write in its phases (R209): the table installed, the blocks rebuilt, the store-write hold
lifted, the reply queued. -/

namespace Sys2Proof.Machine

/-! ### The phases -/

/-- The part with the image of a store write stored and its table active. -/
def installed (w : StoreWrite) (p : Part) : Part := { p with mgmt := writeEnded w p.mgmt }

/-- The part when the blocks that use the table have been rebuilt and what they hand on has been taken. -/
def rebuiltPart (w : StoreWrite) (p : Part) : Part := settled (rebuildFrom w.kind (installed w p))

/-- The part when the event is raised and the store-write hold is over. -/
def released (p : Part) : Part := settled (endStoreHold (formHealth (raise .tableEvent p)))

section
variable {w : StoreWrite} {p : Part} {s : State}

theorem endWrite_eq (writes : p.mgmt.write = some w) :
    endWrite p = reply w.source w.number 5 (.ok []) (released (rebuiltPart w p)) := by
  unfold endWrite
  rw [writes]
  rfl

theorem settled_handOns (p : Part) : (settled p).handOns = [] := rfl

theorem reply_handOns (source : Byte) (number : BitVec 16) (kind : Byte) (v : Verdict) (p : Part) :
    (reply source number kind v p).handOns = p.handOns := by
  unfold reply
  rw [queueOwn_eq]

theorem exec_storeWriteEnd (writes : s.part.mgmt.write = some w) : exec .storeWriteEnd s =
    nextPart s (reply w.source w.number 5 (.ok []) (released (rebuiltPart w s.part))) := by
  rw [exec_eventOf]
  exact nextWith_of_left (endWrite_eq writes) ((reply_handOns ..).trans (settled_handOns _))

theorem exec_storeWriteEnd_idle (quiet : Quiescent s) (idle : s.part.mgmt.write = none) :
    exec .storeWriteEnd s = nextPart s s.part := by
  have left : endWrite s.part = s.part := by
    unfold endWrite
    rw [idle]
  rw [exec_eventOf]
  exact nextWith_of_left left quiet

/-! ### What the phases leave -/

/-- Of the Management Agent nothing changes once the table is installed. -/
theorem rebuiltPart_mgmt : (rebuiltPart w p).mgmt = writeEnded w p.mgmt := by
  have rebuilt : Leaves False True False False False False (installed w p) (rebuiltPart w p) :=
    (settled_event _).leaves.after (rebuildFrom_leaves w.kind (installed w p))
  exact rebuilt.mgmt trivial

theorem released_event (p : Part) : EventStep p (released p) :=
  (((settled_event _).after (endStoreHold_event _)).after (formHealth_event _)).after (raise_event _ p)

theorem released_flag (p : Part) : (released p).fc.flags &&& 0x0004 = 0x0004 := by
  have kept : FlagsKept (raise .tableEvent p).fc.flags (released p).fc.flags :=
    (((settled_event _).after (endStoreHold_event _)).after (formHealth_event _)).flags
  exact kept.of_mask (raise_flags_and_flagBit .tableEvent p)

/-- The store-write hold is over, and no entry is pending. -/
theorem released_hold (p : Part) : (released p).reg.storeHold = false ∧ (released p).reg.entry = none := by
  have step : OpStep (holdLifted (formHealth (raise .tableEvent p))) (released p) :=
    (settled_op _).after (endStoreHold_op _)
  exact ⟨step.storeHold, step.entry rfl rfl⟩

theorem slotOf_writeEnded (w : StoreWrite) (m : ManagementAgent) (k : TableKind) : slotOf (writeEnded w m) k =
    if k = w.kind then ⟨.valid, w.image, imageSum w.image⟩ else slotOf m k := by
  have same (n : ManagementAgent) : slotOf { n with write := none, buffer := .empty } k = slotOf n k := by
    cases k <;> rfl
  unfold writeEnded
  extract_lets m1 m2
  rw [same, ← if_congr (eq_comm (a := w.kind)) rfl rfl, ← slotOf_setSlot]
  unfold m2
  split
  · exact slotOf_installTable _ _ _
  · rfl

theorem activeTable_of_parsed {t : Table} (parsed : parseTable w.kind w.image = some t) (m : ManagementAgent) :
    activeTable t.kind (writeEnded w m) = some t := by
  have own : t.kind = w.kind := parseTable_kind parsed
  have same (n : ManagementAgent) : activeTable t.kind { n with write := none, buffer := .empty } = activeTable t.kind n := by
    cases t.kind <;> rfl
  unfold writeEnded
  extract_lets m1 m2
  rw [same]
  unfold m2
  rw [parsed]
  dsimp only
  rw [activeTable_installTable, if_pos rfl]

theorem imageSum_eq (l : List Byte) : imageSum l = BitVec.ofNat 16 (l.map BitVec.toNat).sum := by
  rw [imageSum, sumOf_eq]

theorem reply_mgmt (source : Byte) (number : BitVec 16) (kind : Byte) (v : Verdict) (p : Part) :
    (reply source number kind v p).mgmt = p.mgmt ∧ (reply source number kind v p).fc = p.fc ∧
      (reply source number kind v p).reg = p.reg := by
  unfold reply
  rw [queueOwn_eq]
  exact ⟨rfl, rfl, rfl⟩

/-- The Management Agent at the end. -/
theorem released_mgmt : (released (rebuiltPart w p)).mgmt = writeEnded w p.mgmt :=
  (released_event _).mgmt.trans rebuiltPart_mgmt

end

/-- R209, R76: what the end of a store write leaves of the table store, the events and the store-write hold. -/
theorem storeWriteEnd_store {w : StoreWrite} {p u : Part}
    (ended : u = formHealth (reply w.source w.number 5 (.ok []) (released (rebuiltPart w p)))) :
    u.mgmt = writeEnded w p.mgmt ∧ u.fc.flags &&& 0x0004 ≠ 0 ∧ u.reg.storeHold = false ∧ u.reg.entry = none := by
  have store : (released (rebuiltPart w p)).mgmt = writeEnded w p.mgmt := released_mgmt
  have flag := released_flag (rebuiltPart w p)
  have hold := released_hold (rebuiltPart w p)
  generalize released (rebuiltPart w p) = v at ended store flag hold
  obtain ⟨mgmt, fc, reg⟩ := reply_mgmt w.source w.number 5 (.ok []) v
  have flags : u.fc.flags = v.fc.flags := by
    rw [ended]
    change (reply w.source w.number 5 (.ok []) v).fc.flags = _
    rw [fc]
  have register : u.reg = v.reg := by
    rw [ended]
    exact reg
  refine ⟨?_, ?_, register ▸ hold⟩
  · rw [ended]
    exact mgmt.trans store
  · rw [flags, flag]
    decide

/-! ### What the table store shows -/

theorem writeEnded_slots (w : StoreWrite) (m : ManagementAgent) :
    let slot : StoreSlot := ⟨.valid, w.image, BitVec.ofNat 16 (w.image.map BitVec.toNat).sum⟩
    (writeEnded w m).slotStation = (if w.kind = .stations then slot else m.slotStation) ∧
    (writeEnded w m).slotSection = (if w.kind = .sections then slot else m.slotSection) ∧
    (writeEnded w m).slotFan = (if w.kind = .fans then slot else m.slotFan) ∧
    (writeEnded w m).slotControl = (if w.kind = .control then slot else m.slotControl) := by
  intro slot
  have each (k : TableKind) : slotOf (writeEnded w m) k = if w.kind = k then slot else slotOf m k := by
    rw [slotOf_writeEnded, imageSum_eq]
    exact if_congr eq_comm rfl rfl
  exact ⟨each .stations, each .sections, each .fans, each .control⟩

theorem writeEnded_tables (w : StoreWrite) (m : ManagementAgent) :
    (∀ x, parseTable w.kind w.image = some (.stations x) → (writeEnded w m).stations = some x) ∧
    (∀ x, parseTable w.kind w.image = some (.sections x) → (writeEnded w m).sections = some x) ∧
    (∀ x, parseTable w.kind w.image = some (.fans x) → (writeEnded w m).fans = some x) ∧
    ∀ x, parseTable w.kind w.image = some (.control x) → (writeEnded w m).control = some x := by
  refine ⟨fun x parsed => ?_, fun x parsed => ?_, fun x parsed => ?_, fun x parsed => ?_⟩
  all_goals
    obtain ⟨y, active, same⟩ := Option.map_eq_some_iff.1 (activeTable_of_parsed parsed m)
    cases same
    exact active

end Sys2Proof.Machine
end

section
/-! PROOFS. What the hand-ons of a store write leave of a fan (`FanTends`) and of the part (`Tends`): entries, reports and
isolation marks, the tags of the pool, the replies that wait. -/

namespace Sys2Proof.Machine

/-! ### A fan -/

/-- A fan that a hand-on may move, or ask something of: neither UNKNOWN nor UNCONFIGURED. -/
def Movable (f : FanRec) : Prop := f.state ≠ .unknown ∧ f.state ≠ .unconfigured

/-- The requests that a fan may still have made for it, generously: a start in the company of three, what follows a start
given up, a stop. -/
def requestsLeft (f : FanRec) : Nat :=
  match f.state with
  | .stopped => 5
  | .starting => 1
  | .running => if f.stopReq then 0 else 1
  | _ => 0

/-- What the hand-ons of an event leave of a fan, and, where `calm`, of its state. -/
structure FanTends (calm : Prop) (f g : FanRec) : Prop where
  e         : g.e = f.e
  last      : g.last = f.last
  reportIso : g.reportIso = f.reportIso
  mgrIso    : g.mgrIso = f.mgrIso
  rests     : ¬ Movable f → g = { f with excluded := g.excluded, heat := g.heat }
  stays     : g.state = .unconfigured → f.state = .unconfigured
  left      : requestsLeft g ≤ requestsLeft f
  calm      : calm → f.state ≠ .starting → g.state = f.state

section
variable {calm calm' : Prop} {f g h : FanRec}

/-- The marks of exclusion and of heat are not among what is left. -/
theorem FanTends.of_marks (same : g = { f with excluded := g.excluded, heat := g.heat }) : FanTends calm f g := by
  rw [same]
  exact ⟨rfl, rfl, rfl, rfl, fun _ => rfl, id, Nat.le_refl _, fun _ _ => rfl⟩

theorem FanTends.refl (f : FanRec) : FanTends calm f f := .of_marks rfl

theorem FanTends.trans (h₁ : FanTends calm f g) (h₂ : FanTends calm' g h) (later : calm → calm') : FanTends calm f h where
  e := h₂.e.trans h₁.e
  last := h₂.last.trans h₁.last
  reportIso := h₂.reportIso.trans h₁.reportIso
  mgrIso := h₂.mgrIso.trans h₁.mgrIso
  rests still := by
    have first := h₁.rests still
    have resting : ¬ Movable g := by rwa [first]
    rw [h₂.rests resting, first]
  stays out := h₁.stays (h₂.stays out)
  left := h₂.left.trans h₁.left
  calm quiet running := by
    have first := h₁.calm quiet running
    rw [h₂.calm (later quiet) (first ▸ running), first]

theorem FanTends.movable (h : FanTends calm f g) (moves : Movable g) : Movable f := by
  by_contra still
  rw [h.rests still] at moves
  exact still moves

/-- A STOPPED fan is started (R142). -/
theorem started_tends (stopped : f.state = .stopped ∨ f.state = .starting) (d : RunDir) (loud : ¬ calm) :
    FanTends calm f (enter .starting (some d) f) := by
  refine ⟨rfl, rfl, rfl, rfl, fun still => ?_, nofun, ?_, fun quiet => absurd quiet loud⟩
  · unfold Movable at still
    rcases stopped with state | state <;> exact absurd (by simp [state]) still
  · unfold requestsLeft
    rcases stopped with state | state <;> simp [state, enter]

/-- A STARTING fan is given up (R155). -/
theorem givenUp_tends (starting : f.state = .starting) : FanTends calm f (becomeUnknown f) := by
  have known : keepKnown f = { f with known := (keepKnown f).known } := by rw [keepKnown_eq]
  unfold becomeUnknown
  rw [known]
  refine ⟨rfl, rfl, rfl, rfl, fun still => ?_, nofun, Nat.zero_le _, fun _ out => absurd starting out⟩
  exact absurd (by simp [Movable, starting]) still

/-- A RUNNING fan is asked to stop (R137). -/
theorem asked_tends (running : f.state = .running) : FanTends calm f { f with stopReq := true } := by
  refine ⟨rfl, rfl, rfl, rfl, fun still => ?_, id, ?_, fun _ _ => rfl⟩
  · exact absurd (by simp [Movable, running]) still
  · simp [requestsLeft, running]

end

/-! ### The requests of an event -/

/-- The requests that the fan of a number may still have made for it. -/
def leftAt (p : Part) (n : Nat) : Nat := (p.fan? n).elim 0 requestsLeft

/-- The fan numbers of the part. -/
def fanNumbers (p : Part) : Finset Nat := (p.fm.fans.map (·.e.num)).toFinset

/-- The hand-ons that wait and those that may come, the end of clearing among them. -/
def requestsDue (p : Part) : Nat :=
  p.handOns.length + (if p.fm.clearingSent then 0 else 1) + ∑ n ∈ fanNumbers p, leftAt p n

/-- The MGMT REPLY telegrams that wait. -/
def repliesOf (l : LineInterface) : List OwnEntry := l.own.filter fun e => e.cls == .mgmtReply

/-- What the hand-ons of a store write leave, by what is delivered outside CONTROL (`o`), before the fans are judged
(`c`), while orders are made for the fans `new`. -/
structure Tends (o c : Prop) (new : Nat → Prop) (p q : Part) : Prop where
  entries : q.fm.fans.map (·.e) = p.fm.fans.map (·.e)
  fans    : ∀ n f, p.fan? n = some f → ∃ g, q.fan? n = some g ∧ FanTends (o ∧ p.fm.record.state ≠ .control) f g
  record  : o → p.fm.record.state ≠ .control → q.fm.record.state ≠ .control
  posts   : ∃ l, q.handOns = p.handOns ++ l ∧ ∀ n k, .orderRequest n k ∈ l → (∃ f, p.fan? n = some f ∧ Movable f) ∧
    (c → p.fm.record.state ≠ .control → ∃ r ∈ p.ord.records, r.fan = n)
  orders  : ∀ r ∈ q.ord.records, (∃ x ∈ p.ord.records, x.fan = r.fan) ∨ ¬ c ∧ new r.fan
  keys    : q.ord.tags.map TagRec.key = p.ord.tags.map TagRec.key
  replies : repliesOf q.line = repliesOf p.line ∧ q.line.droppedReplies = p.line.droppedReplies
  bounded : c → requestsDue q ≤ requestsDue p
  held    : c → q.fm.record = p.fm.record

section
variable {o c : Prop} {new : Nat → Prop} {p q r : Part}

theorem fanNumbers_of_entries (entries : q.fm.fans.map (·.e) = p.fm.fans.map (·.e)) : fanNumbers q = fanNumbers p := by
  have numbers (p : Part) : p.fm.fans.map (·.e.num) = (p.fm.fans.map (·.e)).map (·.num) := by rw [List.map_map]; rfl
  rw [fanNumbers, fanNumbers, numbers, numbers, entries]

theorem fan?_isSome_iff {n : Nat} : (p.fan? n).isSome ↔ n ∈ fanNumbers p := by
  unfold Part.fan? fanNumbers
  rw [List.find?_isSome, List.mem_toFinset, List.mem_map]
  simp only [beq_iff_eq]

/-- Of every fan that is found after it, it finds one before. -/
theorem Tends.before (h : Tends o c new p q) {n : Nat} {g : FanRec} (found : q.fan? n = some g) :
    ∃ f, p.fan? n = some f ∧ FanTends (o ∧ p.fm.record.state ≠ .control) f g := by
  have listed : n ∈ fanNumbers p := by
    rw [← fanNumbers_of_entries h.entries, ← fan?_isSome_iff, found]
    rfl
  obtain ⟨f, found_f⟩ := Option.isSome_iff_exists.1 (fan?_isSome_iff.2 listed)
  obtain ⟨g', found_g, tends⟩ := h.fans n f found_f
  obtain rfl := Option.some.inj (found.symm.trans found_g)
  exact ⟨f, found_f, tends⟩

theorem Tends.trans (h : Tends o c new p q) (k : Tends o c new q r) : Tends o c new p r := by
  obtain ⟨l, posted_l, asks_l⟩ := h.posts
  obtain ⟨m, posted_m, asks_m⟩ := k.posts
  refine ⟨k.entries.trans h.entries, fun n f found => ?_, fun open_ out => k.record open_ (h.record open_ out),
    ⟨l ++ m, by rw [posted_m, posted_l, List.append_assoc], fun n kind mem => ?_⟩, fun x mem => ?_, k.keys.trans h.keys,
    ⟨k.replies.1.trans h.replies.1, k.replies.2.trans h.replies.2⟩, fun early => (k.bounded early).trans (h.bounded early),
    fun early => (k.held early).trans (h.held early)⟩
  · obtain ⟨g, found_g, tends⟩ := h.fans n f found
    obtain ⟨u, found_u, tends'⟩ := k.fans n g found_g
    exact ⟨u, found_u, tends.trans tends' fun calm => ⟨calm.1, h.record calm.1 calm.2⟩⟩
  · rcases List.mem_append.1 mem with mem | mem
    · exact asks_l n kind mem
    · obtain ⟨⟨g, found_g, moves⟩, has⟩ := asks_m n kind mem
      obtain ⟨f, found, tends⟩ := h.before found_g
      refine ⟨⟨f, found, tends.movable moves⟩, fun early out => ?_⟩
      obtain ⟨x, listed, fan⟩ := has early (h.held early ▸ out)
      obtain ⟨y, listed_y, same⟩ := (h.orders x listed).resolve_right fun late => late.1 early
      exact ⟨y, listed_y, same.trans fan⟩
  · rcases k.orders x mem with ⟨y, listed, same⟩ | late
    · rcases h.orders y listed with ⟨z, listed_z, same_z⟩ | late
      · exact .inl ⟨z, listed_z, same_z.trans same⟩
      · exact .inr ⟨late.1, same ▸ late.2⟩
    · exact .inr late

theorem Tends.after (k : Tends o c new q r) (h : Tends o c new p q) : Tends o c new p r := h.trans k

theorem leftAt_congr (fans : q.fm.fans = p.fm.fans) (n : Nat) : leftAt q n = leftAt p n := by
  unfold leftAt Part.fan?
  rw [fans]

/-- No more is left of any fan. -/
theorem sum_leftAt_le (entries : q.fm.fans.map (·.e) = p.fm.fans.map (·.e)) (each : ∀ n, leftAt q n ≤ leftAt p n) :
    ∑ n ∈ fanNumbers q, leftAt q n ≤ ∑ n ∈ fanNumbers p, leftAt p n := by
  rw [fanNumbers_of_entries entries]
  exact Finset.sum_le_sum fun n _ => each n

theorem leftAt_le (fans : ∀ n f, p.fan? n = some f → ∃ g, q.fan? n = some g ∧ requestsLeft g ≤ requestsLeft f)
    (entries : q.fm.fans.map (·.e) = p.fm.fans.map (·.e)) (n : Nat) : leftAt q n ≤ leftAt p n := by
  unfold leftAt
  cases found : p.fan? n with
  | some f =>
    obtain ⟨g, found_g, less⟩ := fans n f found
    rw [found_g]
    exact less
  | none =>
    have missing : q.fan? n = none := by
      rw [← Option.not_isSome_iff_eq_none, fan?_isSome_iff, fanNumbers_of_entries entries, ← fan?_isSome_iff, found]
      exact Bool.false_ne_true
    rw [missing]

/-- A change of the fans that posts nothing. -/
theorem Tends.of_fans (entries : q.fm.fans.map (·.e) = p.fm.fans.map (·.e))
    (fans : ∀ n f, p.fan? n = some f → ∃ g, q.fan? n = some g ∧ FanTends (o ∧ p.fm.record.state ≠ .control) f g)
    (record : q.fm.record = p.fm.record := by rfl) (sent : q.fm.clearingSent = p.fm.clearingSent := by rfl)
    (handOns : q.handOns = p.handOns := by rfl) (ord : q.ord = p.ord := by rfl) (line : q.line = p.line := by rfl) :
    Tends o c new p q where
  entries := entries
  fans := fans
  record _ out := record ▸ out
  posts := ⟨[], by rw [handOns, List.append_nil], nofun⟩
  orders r mem := .inl ⟨r, ord ▸ mem, rfl⟩
  keys := by rw [ord]
  replies := by rw [line]; exact ⟨rfl, rfl⟩
  bounded _ := by
    unfold requestsDue
    rw [handOns, sent]
    refine Nat.add_le_add_left (sum_leftAt_le entries (leftAt_le (fun n f found => ?_) entries)) _
    obtain ⟨g, found_g, tends⟩ := fans n f found
    exact ⟨g, found_g, tends.left⟩
  held _ := record

/-- A change that leaves the fans. -/
theorem Tends.of_same (fans : q.fm.fans = p.fm.fans) (record : q.fm.record = p.fm.record := by rfl)
    (sent : q.fm.clearingSent = p.fm.clearingSent := by rfl) (handOns : q.handOns = p.handOns := by rfl)
    (ord : q.ord = p.ord := by rfl) (line : q.line = p.line := by rfl) : Tends o c new p q :=
  .of_fans (by rw [fans]) (fun n f found => ⟨f, by unfold Part.fan? at *; rwa [fans], .refl f⟩) record sent handOns ord line

theorem Tends.refl (p : Part) : Tends o c new p p := .of_same rfl

theorem Tends.ite {x : Prop} [Decidable x] {a b : Part} (ha : x → Tends o c new p a) (hb : Tends o c new p b) :
    Tends o c new p (if x then a else b) := by
  split
  · next h => exact ha h
  · exact hb

theorem Tends.foldl {α : Type} (g : Part → α → Part) (step : ∀ p a, Tends o c new p (g p a)) (as : List α) :
    ∀ p, Tends o c new p (as.foldl g p) := by
  induction as with
  | nil => exact Tends.refl
  | cons a as ih => exact fun p => (ih _).after (step p a)

/-- A change of the orders and of the own queue that leaves the Fan Manager. -/
theorem Tends.of_orders (orders : ∀ r ∈ q.ord.records, (∃ x ∈ p.ord.records, x.fan = r.fan) ∨ ¬ c ∧ new r.fan)
    (keys : q.ord.tags.map TagRec.key = p.ord.tags.map TagRec.key := by rfl)
    (replies : repliesOf q.line = repliesOf p.line ∧ q.line.droppedReplies = p.line.droppedReplies := by
      exact ⟨rfl, rfl⟩)
    (fm : q.fm = p.fm := by rfl) (handOns : q.handOns = p.handOns := by rfl) : Tends o c new p q := by
  have found (n : Nat) : q.fan? n = p.fan? n := by unfold Part.fan?; rw [fm]
  refine ⟨by rw [fm], fun n f is_f => ⟨f, (found n).trans is_f, .refl f⟩, fun _ out => fm ▸ out,
    ⟨[], by rw [handOns, List.append_nil], nofun⟩, orders, keys, replies, fun _ => ?_, fun _ => by rw [fm]⟩
  unfold requestsDue
  rw [handOns, fm, fanNumbers_of_entries (p := p) (q := q) (by rw [fm])]
  exact Nat.add_le_add_left (Finset.sum_le_sum fun n _ => (leftAt_congr (by rw [fm]) n).le) _

/-- A request posted behind what waits, for a fan that moves, where fewer are due before. -/
theorem Tends.asking (h : Tends o c new p q) {n : Nat} {kind : OrderKind} (moves : ∃ f, p.fan? n = some f ∧ Movable f)
    (has : c → p.fm.record.state ≠ .control → ∃ r ∈ p.ord.records, r.fan = n)
    (fewer : c → requestsDue q + 1 ≤ requestsDue p) : Tends o c new p (post (.orderRequest n kind) q) := by
  obtain ⟨l, posted, asks⟩ := h.posts
  refine ⟨h.entries, h.fans, h.record, ⟨l ++ [.orderRequest n kind], ?_, fun m other mem => ?_⟩, h.orders, h.keys, h.replies,
    fun early => ?_, h.held⟩
  · rw [post, posted, List.append_assoc]
  · rcases List.mem_append.1 mem with mem | mem
    · exact asks m other mem
    · obtain ⟨rfl, _⟩ : m = n ∧ other = kind := by simpa using mem
      exact ⟨moves, has⟩
  · have less := fewer early
    unfold requestsDue at less ⊢
    change (q.handOns ++ [_]).length + (if q.fm.clearingSent = true then 0 else 1) +
      ∑ i ∈ fanNumbers q, leftAt q i ≤ _
    rw [List.length_append, List.length_singleton]
    omega

/-- A change of one fan. -/
theorem onFan_tends {n : Nat} {g : FanRec → FanRec} {p : Part} (same : ∀ f, (g f).e = f.e)
    (tends : ∀ f, p.fan? n = some f → FanTends (o ∧ p.fm.record.state ≠ .control) f (g f)) :
    Tends o c new p (onFan n g p) := by
  refine .of_fans ?_ fun m f found => ?_
  · exact (onFan_step n g p same).entries
  · rw [fan?_onFan n m same, found]
    refine ⟨_, rfl, ?_⟩
    split
    · next is_it => exact tends f (is_it ▸ found)
    · exact .refl f

/-- Less is left of the one fan that changes. -/
theorem requestsDue_onFan {n k : Nat} {g : FanRec → FanRec} {p : Part} {f : FanRec} (same : ∀ f, (g f).e = f.e)
    (found : p.fan? n = some f) (less : requestsLeft (g f) + k ≤ requestsLeft f) :
    requestsDue (onFan n g p) + k ≤ requestsDue p := by
  have listed : n ∈ fanNumbers p := by
    rw [← fan?_isSome_iff, found]
    rfl
  have numbers : fanNumbers (onFan n g p) = fanNumbers p := fanNumbers_of_entries (onFan_step n g p same).entries
  have others : ∀ m ∈ (fanNumbers p).erase n, leftAt (onFan n g p) m = leftAt p m := fun m mem => by
    unfold leftAt
    rw [fan?_onFan n m same]
    cases p.fan? m with
    | none => rfl
    | some x => rw [Option.map_some, if_neg (Finset.ne_of_mem_erase mem)]
  have own : leftAt (onFan n g p) n + k ≤ leftAt p n := by
    unfold leftAt
    rw [fan?_onFan n n same, found, Option.map_some, if_pos rfl]
    exact less
  have split_q := Finset.add_sum_erase (fanNumbers p) (fun i => leftAt (onFan n g p) i) listed
  have split_p := Finset.add_sum_erase (fanNumbers p) (fun i => leftAt p i) listed
  have rest : ∑ i ∈ (fanNumbers p).erase n, leftAt (onFan n g p) i = ∑ i ∈ (fanNumbers p).erase n, leftAt p i :=
    Finset.sum_congr rfl others
  unfold requestsDue
  rw [numbers]
  change p.handOns.length + (if p.fm.clearingSent = true then 0 else 1) +
    ∑ i ∈ fanNumbers p, leftAt (onFan n g p) i + k ≤ _
  omega

end

end Sys2Proof.Machine
end

section
/-! PROOFS. What the Fan Manager's own operations tend to: the gate, the stops asked, the marks, a demand update, a record
taken. -/

namespace Sys2Proof.Machine

section
variable {o c : Prop} {new : Nat → Prop} {p : Part}

/-! ### The gate (R142) -/

theorem pruneQueue_tends (p : Part) : Tends o c new p (pruneQueue p) := .of_same rfl

theorem formThrust_tends (p : Part) : Tends o c new p (formThrust p) := .of_same rfl

theorem testClearing_tends (p : Part) : Tends o c new p (testClearing p) := by
  refine .ite (fun ends => ?_) (.refl p)
  have unsent : p.fm.clearingSent = false := by
    simp only [Bool.and_eq_true, Bool.not_eq_true'] at ends
    exact ends.1.1.2
  refine ⟨rfl, fun n f found => ⟨f, found, .refl f⟩, fun _ => id, ⟨[.clearingEnd], rfl, fun _ _ mem => nomatch List.mem_singleton.1 mem⟩,
    fun r mem => .inl ⟨r, mem, rfl⟩, rfl, ⟨rfl, rfl⟩, fun _ => ?_, fun _ => rfl⟩
  unfold requestsDue
  rw [unsent]
  change (p.handOns ++ [_]).length + 0 + ∑ n ∈ fanNumbers p, leftAt p n ≤ _
  rw [List.length_append]
  exact Nat.le_refl _

theorem fanTail_tends (p : Part) : Tends o c new p (fanTail p) :=
  (testClearing_tends _).after ((formThrust_tends _).after (pruneQueue_tends p))

theorem requestsDue_post (h : HandOn) (p : Part) : requestsDue (post h p) = requestsDue p + 1 := by
  unfold requestsDue
  change (p.handOns ++ [h]).length + (if p.fm.clearingSent = true then 0 else 1) + ∑ n ∈ fanNumbers p, leftAt p n = _
  rw [List.length_append, List.length_singleton]
  omega

/-- A fan of the start queue that is STOPPED, or STARTING already. -/
theorem startable_of_not_still {queue : List Nat} {f : FanRec} (moves : ¬ Still queue f) :
    f.state = .stopped ∨ f.state = .starting := by
  unfold Still at moves
  by_cases starting : f.state = .starting
  · exact .inr starting
  · exact .inl (by_contra fun other => moves ⟨starting, fun stopped => absurd stopped other⟩)

/-- The part with the head of the queue put in a slot. -/
def slotTaken (n : Nat) (rest : List Nat) (p : Part) : Part :=
  { p with fm := { p.fm with queue := rest, slots := takeSlot n p.control.gate p.fm.slots } }

/-- One grant, if it is made (R142). -/
theorem grantOne_cases (p : Part) : grantOne p = p ∨ ∃ n f d rest, p.fm.record.state = .control ∧ p.fm.queue = n :: rest ∧
    p.fan? n = some f ∧
    grantOne p = post (.orderRequest n (startKind d)) (onFan n (enter .starting (some d)) (slotTaken n rest p)) := by
  unfold grantOne
  split
  · exact .inl rfl
  · next n rest queue =>
    split
    · exact .inl rfl
    · next f found =>
      split
      · exact .inl rfl
      · next d _ =>
        split
        · next free =>
          have inside : inControl p = true := (Bool.and_eq_true _ _ ▸ free).2
          exact .inr ⟨n, f, d, rest, (inControl_iff p).1 inside, queue, found, rfl⟩
        · exact .inl rfl

theorem slotTaken_tends (n : Nat) (rest : List Nat) (p : Part) : Tends o c new p (slotTaken n rest p) := .of_same rfl

theorem grantOne_tends (starts : QueueStarts p) : Tends o False new p (grantOne p) := by
  rcases grantOne_cases p with same | ⟨n, f, d, rest, inside, queue, found, made⟩
  · rw [same]
    exact .refl p
  · have head : n ∈ p.fm.queue := by rw [queue]; exact List.mem_cons_self ..
    have startable := startable_of_not_still (starts n head f found)
    have movable : Movable f := by rcases startable with state | state <;> simp [Movable, state]
    rw [made]
    refine Tends.asking (Tends.after (onFan_tends (g := enter .starting (some d)) (fun _ => rfl) fun g found_g => ?_)
      (slotTaken_tends n rest p)) ⟨f, found, movable⟩ False.elim False.elim
    obtain rfl : f = g := Option.some.inj (found.symm.trans found_g)
    exact started_tends startable d fun calm => calm.2 inside

theorem grantOne_due (starts : QueueStarts p) : requestsDue (grantOne p) ≤ requestsDue p + 1 := by
  rcases grantOne_cases p with same | ⟨n, f, d, rest, inside, queue, found, made⟩
  · rw [same]
    exact Nat.le_succ _
  · have head : n ∈ p.fm.queue := by rw [queue]; exact List.mem_cons_self ..
    have less := (started_tends (calm := False) (startable_of_not_still (starts n head f found)) d not_false).left
    have due : requestsDue (onFan n (enter .starting (some d)) (slotTaken n rest p)) ≤ requestsDue (slotTaken n rest p) :=
      requestsDue_onFan (k := 0) (fun _ => rfl) (p := slotTaken n rest p) found less
    rw [made, requestsDue_post]
    exact Nat.succ_le_succ due

/-- The first grant leaves room for the three that may follow it. -/
theorem grantOne_room (stopped : ∀ n ∈ p.fm.queue, ∀ f, p.fan? n = some f → f.state = .stopped) :
    grantOne p = p ∨ p.fm.record.state = .control ∧ requestsDue (grantOne p) + 3 ≤ requestsDue p := by
  rcases grantOne_cases p with same | ⟨n, f, d, rest, inside, queue, found, made⟩
  · exact .inl same
  · have state := stopped n (by rw [queue]; exact List.mem_cons_self ..) f found
    have less : requestsLeft (enter .starting (some d) f) + 4 ≤ requestsLeft f := by simp [requestsLeft, enter, state]
    have due : requestsDue (onFan n (enter .starting (some d)) (slotTaken n rest p)) + 4 ≤ requestsDue (slotTaken n rest p) :=
      requestsDue_onFan (fun _ => rfl) (p := slotTaken n rest p) found less
    refine .inr ⟨inside, ?_⟩
    rw [made, requestsDue_post]
    exact due

theorem grants_tends_late (starts : QueueStarts p) : Tends o False new p (grants p) := by
  have one := (grantOne_course starts).2
  have two := (grantOne_course one).2
  have three := (grantOne_course two).2
  exact (((grantOne_tends three).after (grantOne_tends two)).after (grantOne_tends one)).after (grantOne_tends starts)

/-- What tends late tends early where it acts in CONTROL alone, posting no more than is due. -/
theorem Tends.early {q : Part} (h : Tends o False new p q) (inside : p.fm.record.state = .control)
    (record : q.fm.record = p.fm.record) (ord : q.ord = p.ord) (due : requestsDue q ≤ requestsDue p) :
    Tends o c new p q := by
  obtain ⟨l, posted, asks⟩ := h.posts
  exact ⟨h.entries, h.fans, h.record, ⟨l, posted, fun n k mem => ⟨(asks n k mem).1, fun _ out => absurd inside out⟩⟩,
    fun r mem => .inl ⟨r, ord ▸ mem, rfl⟩, h.keys, h.replies, fun _ => due, fun _ => record⟩

theorem grants_tends (starts : QueueStarts p)
    (stopped : ∀ n ∈ p.fm.queue, ∀ f, p.fan? n = some f → f.state = .stopped) : Tends o c new p (grants p) := by
  rcases grantOne_room stopped with same | ⟨inside, room⟩
  · have none_made : grants p = p := by
      unfold grants
      rw [same, same, same, same]
    rw [none_made]
    exact .refl p
  · have step := grants_step p
    have one := (grantOne_course starts).2
    have two := (grantOne_course one).2
    have three := (grantOne_course two).2
    refine (grants_tends_late starts).early inside step.record (by rw [step.rest]) ?_
    have due_two := grantOne_due one
    have due_three := grantOne_due two
    have due_four := grantOne_due three
    unfold grants
    omega

theorem pruneQueue_stopped (p : Part) : ∀ n ∈ (pruneQueue p).fm.queue, ∀ f, (pruneQueue p).fan? n = some f →
    f.state = .stopped := by
  intro n mem f found
  obtain ⟨g, found_g, ready⟩ := (eligibleNum_iff _ _).1 (List.mem_filter.1 mem).2
  obtain rfl : g = f := Option.some.inj (found_g.symm.trans found)
  exact ((eligible_iff _ _).1 ready).1

theorem releaseSlots_tends (p : Part) : Tends o c new p (releaseSlots p) := by
  unfold releaseSlots
  extract_lets slots freed m q
  have pruned : Tends o c new p q := .of_same rfl
  refine .ite (fun _ => Tends.after ?_ pruned) pruned
  exact grants_tends (pruneQueue_starts _) (pruneQueue_stopped _)

/-! ### Stops (R136, R137) -/

theorem askStop_tends (n : Nat) (p : Part) (loud : c → p.fm.record.state = .control) : Tends o c new p (askStop n p) := by
  unfold askStop
  split
  · next f found =>
    refine .ite (fun stoppable => ?_) (.refl p)
    obtain ⟨running, clear⟩ : f.state = .running ∧ f.stopReq = false := by simpa using stoppable
    refine Tends.asking (onFan_tends (g := fun f => { f with stopReq := true }) (fun _ => rfl) fun g found_g => ?_)
      ⟨f, found, by simp [Movable, running]⟩ (fun early out => absurd (loud early) out) fun _ => ?_
    · obtain rfl : f = g := Option.some.inj (found.symm.trans found_g)
      exact asked_tends running
    · exact requestsDue_onFan (fun _ => rfl) found (by simp [requestsLeft, running, clear])
  · exact .refl p

theorem testUnwanted_tends (n : Nat) (p : Part) : Tends o c new p (testUnwanted n p) := by
  unfold testUnwanted
  split
  · refine .ite (fun unwanted => askStop_tends n p fun _ => ?_) (.refl p)
    exact (inControl_iff p).1 (Bool.and_eq_true _ _ ▸ unwanted).1
  · exact .refl p

theorem testAllUnwanted_tends (p : Part) : Tends o c new p (testAllUnwanted p) :=
  Tends.foldl _ (fun p n => testUnwanted_tends n p) _ p

/-! ### Marks -/

theorem marks_tends {q : Part} {x h : FanRec → Bool}
    (fans : q.fm.fans = p.fm.fans.map fun f => { f with excluded := x f, heat := h f })
    (record : q.fm.record = p.fm.record := by rfl) (sent : q.fm.clearingSent = p.fm.clearingSent := by rfl)
    (handOns : q.handOns = p.handOns := by rfl) (ord : q.ord = p.ord := by rfl) (line : q.line = p.line := by rfl) :
    Tends o c new p q := by
  refine .of_fans ?_ (fun n f found => ⟨{ f with excluded := x f, heat := h f }, ?_, .of_marks rfl⟩) record sent handOns ord line
  · rw [fans, List.map_map]
    rfl
  · unfold Part.fan? at *
    rw [fans, List.find?_map]
    exact (congrArg _ found).trans rfl

theorem judgeHeat_tends (k : FanRec → Bool) (p : Part) : Tends o c new p (judgeHeat k p) := by
  have marked : (judgeHeat k p).fm.fans = p.fm.fans.map fun f => { f with
      excluded := f.excluded,
      heat := if k f then f.heat || isExposed p.fm.record (zoneTempOf p.fm f.e.zone) f.e else f.heat } := by
    refine List.map_congr_left fun f _ => ?_
    split <;> rfl
  exact marks_tends marked

theorem judgeExclusion_tends (p : Part) : Tends o c new p (judgeExclusion p) := marks_tends (h := fun f => f.heat) rfl

theorem clearHeat_tends (p : Part) : Tends o c new p (clearHeat p) := marks_tends (x := fun f => f.excluded) rfl

theorem testNewHeat_tends (before : List FanRec) (p : Part) : Tends o c new p (testNewHeat before p) :=
  Tends.foldl _ (fun p n => testUnwanted_tends n p) _ p

theorem takeZoneTemp_tends (zone : Nat) (value : Option Int) (p : Part) : Tends o c new p (takeZoneTemp zone value p) := by
  unfold takeZoneTemp
  extract_lets before m q
  have kept : Tends o c new p q := .of_same rfl
  refine .ite (fun _ => kept) ?_
  exact ((fanTail_tends _).after ((testNewHeat_tends before _).after (judgeHeat_tends _ _))).after kept

/-! ### A demand update and a record, while the store-write hold is over or lifted -/

theorem staggeredStop_tends (p : Part) : Tends o False new p (staggeredStop p) := by
  unfold staggeredStop
  extract_lets q
  have asked : Tends o False new p q := by
    unfold q
    split
    · exact askStop_tends _ p False.elim
    · exact .refl p
  exact Tends.after (.of_same (p := q) rfl) asked

theorem stopRule_tends (p : Part) : Tends o False new p (stopRule p) := by
  unfold stopRule
  refine .ite (fun _ => .refl p) ?_
  split
  · exact .refl p
  · exact .ite (fun _ => askStop_tends _ p False.elim) (.refl p)

theorem startQueue_starts {d : Nat} {r q : Nat} {p : Part} {l : List FanRec} (found : ∀ f ∈ l, p.fan? f.e.num = some f)
    (queue : p.fm.queue = walkQueue p.fm.record d r q l) : QueueStarts p := by
  intro n mem f is_f still
  rw [queue, walkQueue_rule] at mem
  obtain ⟨g, listed, own, ready⟩ := (startQueue_sublist p.fm.record d r q l).2 n mem
  obtain rfl : g = f := Option.some.inj ((found g listed).symm.trans (own ▸ is_f))
  obtain ⟨stopped, rested, _⟩ := (eligible_iff _ _).1 ready
  rcases still.2 stopped with resting | out
  · exact absurd resting (by simp [rested])
  · rw [queue, walkQueue_rule] at out
    exact out (own ▸ mem)

theorem takeDemand_tends (d : Nat) (p : Part) : Tends o False new p (takeDemand d p) := by
  refine .ite (fun _ => ?_) (.refl p)
  have queued : Tends o False new p (rebuilt d p) := .of_same rfl
  have starts : QueueStarts (rebuilt d p) := startQueue_starts (fun f mem => preferred_fan mem) rfl
  refine ((formThrust_tends _).after (pruneQueue_tends _)).after ?_
  by_cases empty : (rebuilt d p).fm.queue.isEmpty = true
  · have same : (if (rebuilt d p).fm.queue.isEmpty = true then stopRule (rebuilt d p) else rebuilt d p) = stopRule (rebuilt d p) :=
      if_pos empty
    have none_starts : (rebuilt d p).fm.queue = [] := List.isEmpty_iff.1 empty
    have queue : (stopRule (rebuilt d p)).fm.queue = [] := by
      rcases stopRule_rebuilt (rebuilt_queue.symm.trans none_starts) with ⟨stays, _⟩ | ⟨n, f, _, _, _, asked⟩
      · rw [stays, none_starts]
      · rw [asked]
        exact none_starts
    change Tends o False new p (grants (if (rebuilt d p).fm.queue.isEmpty = true then stopRule (rebuilt d p) else rebuilt d p))
    rw [same, grants_of_empty queue]
    exact (stopRule_tends _).after queued
  · change Tends o False new p (grants (if (rebuilt d p).fm.queue.isEmpty = true then stopRule (rebuilt d p) else rebuilt d p))
    rw [if_neg empty]
    exact (grants_tends_late starts).after queued

end

end Sys2Proof.Machine
end

section
/-! PROOFS. What a record handed on tends to, in the three blocks that take it (R62). -/

namespace Sys2Proof.Machine

/-- The fans that have an order, or may get one from what waits. -/
structure Allows (new : Nat → Prop) (p : Part) : Prop where
  waits : ∀ n k, HandOn.orderRequest n k ∈ p.handOns → new n
  moves : ∀ n f, p.fan? n = some f → Movable f → new n

section
variable {o : Prop} {new : Nat → Prop} {p q : Part} {h : RecordHandOn}

/-- A change of the record held, or of the clearing report mark. -/
theorem Tends.of_record (fans : q.fm.fans = p.fm.fans)
    (record : o → p.fm.record.state ≠ .control → q.fm.record.state ≠ .control)
    (handOns : q.handOns = p.handOns := by rfl) (ord : q.ord = p.ord := by rfl)
    (replies : repliesOf q.line = repliesOf p.line ∧ q.line.droppedReplies = p.line.droppedReplies := by
      exact ⟨rfl, rfl⟩) : Tends o False new p q :=
  ⟨by rw [fans], fun n f found => ⟨f, by unfold Part.fan? at *; rwa [fans], .refl f⟩, record,
    ⟨[], by rw [handOns, List.append_nil], nofun⟩, fun r mem => .inl ⟨r, ord ▸ mem, rfl⟩, by rw [ord], replies,
    False.elim, False.elim⟩

/-! ### The Fan Manager -/

theorem fansJudged_tends (outside : o → h.record.state ≠ .control) (p : Part) : Tends o False new p (fansJudged h p) := by
  unfold fansJudged
  extract_lets moved m p1 p2 p3 p4 p5 p6
  have h1 : Tends o False new p p1 := .of_record rfl fun open_ _ => outside open_
  have h2 : Tends o False new p1 p2 := judgeExclusion_tends p1
  have h3 : Tends o False new p2 p3 := .ite (fun _ => clearHeat_tends _) (.refl _)
  have h4 : Tends o False new p3 p4 := .ite (fun _ => judgeHeat_tends _ _) (.refl _)
  have h5 : Tends o False new p4 p5 := .ite (fun _ => .of_same rfl) (.refl _)
  have h6 : Tends o False new p5 p6 := .ite (fun _ => .of_same rfl) (pruneQueue_tends _)
  exact ((((((formThrust_tends p6).after h6).after h5).after h4).after h3).after h2).after h1

theorem fansTakeRecord_tends (outside : o → h.record.state ≠ .control) (p : Part) :
    Tends o False new p (fansTakeRecord h p) := by
  have asked : Tends o False new p (fansAsked h p) :=
    (Tends.ite (fun _ => testAllUnwanted_tends _) (.refl _)).after (fansJudged_tends outside p)
  have begun (q : Part) : Tends o False new q (clearingBegun q) := (staggeredStop_tends _).after (.of_record rfl fun _ => id)
  rw [fansTakeRecord_eq]
  refine (testClearing_tends _).after (.ite (fun _ => .ite (fun _ => (begun _).after asked) asked) ?_)
  exact Tends.after (.of_same (p := fansAsked h p) rfl) asked

/-! ### The controller -/

theorem ctl_tends (x : AirflowController) (p : Part) : Tends o False new p { p with ctl := x } := .of_same rfl

theorem compute_tends (start : ComputeStart) (p : Part) : Tends o False new p (compute start p) := by
  refine .ite (fun _ => .refl p) ?_
  dsimp only
  refine (takeDemand_tends _ _).after ?_
  rw [formDemand_eq]
  exact ctl_tends _ p

theorem ctlTakeRecord_tends (h : RecordHandOn) (p : Part) : Tends o False new p (ctlTakeRecord h p) := by
  rw [ctlTakeRecord_eq]
  extract_lets q
  have taken : Tends o False new p q := ctl_tends _ p
  refine .ite (fun _ => ?_) (.ite (fun _ => ctl_tends _ p) (ctl_tends _ p))
  split
  · rw [takeMode_eq]
    exact (compute_tends _ _).after (ctl_tends _ p)
  · refine Tends.after ?_ taken
    unfold changeRole
    split
    case h_7 =>
      rw [takeShareMode_eq]
      exact (compute_tends _ _).after (ctl_tends _ q)
    case h_9 => exact .refl q
    all_goals exact (compute_tends _ _).after (ctl_tends _ q)

theorem ctlMeetsRecord_tends (h : RecordHandOn) (p : Part) : Tends o False new p (ctlMeetsRecord h p) := by
  refine .ite (fun _ => ?_) (ctlTakeRecord_tends h p)
  dsimp only
  have chosen : Tends o False new p (choose 2 p).2 := .of_same rfl
  refine (ctlTakeRecord_tends h _).after (Tends.after ?_ chosen)
  exact .ite (fun _ => .refl _) (.ite (fun _ => compute_tends _ _) (.refl _))

/-! ### The Coordinator -/

/-- Own telegrams other than replies leave the replies that wait. -/
theorem queueOwn_replies {r : OwnRequest} (other : isReply (classOf r) = false) (p : Part) :
    repliesOf (queueOwn r p).line = repliesOf p.line ∧ (queueOwn r p).line.droppedReplies = p.line.droppedReplies := by
  have class_ne : ∀ x, classOf r = x → (x == .mgmtReply) = false := by
    rintro x rfl
    cases is_r : classOf r <;> simp_all [isReply]
  have kept : repliesOf (joinOwn r (p.isUp .a) (p.isUp .b) p.line) = repliesOf p.line := by
    unfold repliesOf joinOwn
    dsimp only
    rw [List.filter_append, List.filter_filter, List.filter_cons_of_neg, List.filter_nil, List.append_nil]
    · refine List.filter_congr fun e _ => ?_
      by_cases reply : (e.cls == .mgmtReply) = true
      · have differs : (e.cls == classOf r) = false := by
          rw [beq_iff_eq] at reply
          rw [reply, beq_eq_false_iff_ne]
          exact fun same => by simpa [← same] using class_ne _ rfl
        rw [reply, replaces, differs]
        simp
      · rw [Bool.not_eq_true] at reply
        rw [reply, Bool.false_and]
    · rw [class_ne _ rfl]
      exact Bool.false_ne_true
  unfold queueOwn
  rw [other]
  split
  · exact ⟨rfl, rfl⟩
  · split
    · exact ⟨rfl, rfl⟩
    · exact ⟨kept, rfl⟩

theorem queueOwn_tends {c : Prop} {r : OwnRequest} (other : isReply (classOf r) = false) (p : Part) :
    Tends o c new p (queueOwn r p) := by
  have replies := queueOwn_replies other p
  rw [queueOwn_eq] at replies ⊢
  exact .of_orders (fun r mem => .inl ⟨r, mem, rfl⟩) rfl replies

theorem sendBulletin_tends (p : Part) : Tends o False new p (sendBulletin p) := by
  rw [sendBulletin_eq]
  exact (queueOwn_tends rfl _).after (.of_same rfl)

theorem coordTakeRecord_tends (h : RecordHandOn) (p : Part) : Tends o False new p (coordTakeRecord h p) := by
  rw [coordTakeRecord_eq]
  have judged : Tends o False new p (coordJudged h p) := by
    rw [coordJudged_eq]
    exact .of_same rfl
  split
  · exact judged
  · exact (sendBulletin_tends _).after judged

/-! ### The record handed on, and put -/

theorem deliverRecord_tends (outside : o → h.record.state ≠ .control) (p : Part) :
    Tends o False new p (deliverRecord h p) :=
  deliverRecord_induction (P := Tends o False new p) (.of_same rfl) (fun q k => (fansTakeRecord_tends outside q).after k)
    (fun q k => (ctlMeetsRecord_tends h q).after k) fun q k => (coordTakeRecord_tends h q).after k

theorem putRecord_tends (new' : IncidentRecord) (outside : o → new'.state ≠ .control) (p : Part) :
    Tends o False new p (putRecord new' p) := by
  have stored : Tends o False new p (recordStored new' p) := by
    rw [recordStored_rest]
    exact .of_same rfl
  rw [putRecord_eq]
  refine .ite (fun _ => Tends.after (deliverRecord_tends (fun open_ => ?_) _) stored) stored
  change (markControlled p.reg.record new').state ≠ .control
  rw [markControlled_state]
  exact outside open_

theorem takeClearingEnd_tends (p : Part) : Tends o False new p (takeClearingEnd p) := by
  refine .ite (fun _ => ?_) (.refl p)
  exact (putRecord_tends _ (fun _ => by decide) _).after (.of_same rfl)

end

end Sys2Proof.Machine
end

section
/-! PROOFS. What the Order Engine's own operations tend to: tags, orders withdrawn and issued, requests, and the hand-ons
of an event taken. -/

namespace Sys2Proof.Machine

section
variable {o c : Prop} {new : Nat → Prop} {p : Part}

/-! ### Tags and telegrams -/

/-- The records stand, and so do the numbers of the tags. -/
theorem Tends.of_ord {q : Part} (records : q.ord.records = p.ord.records)
    (keys : q.ord.tags.map TagRec.key = p.ord.tags.map TagRec.key := by rfl)
    (replies : repliesOf q.line = repliesOf p.line ∧ q.line.droppedReplies = p.line.droppedReplies := by
      exact ⟨rfl, rfl⟩)
    (fm : q.fm = p.fm := by rfl) (handOns : q.handOns = p.handOns := by rfl) : Tends o c new p q :=
  .of_orders (fun r mem => .inl ⟨r, records ▸ mem, rfl⟩) keys replies fm handOns

theorem withdraw_tends (station tag : Nat) (p : Part) : Tends o c new p (withdraw station tag p) := by
  refine .of_ord rfl rfl ⟨?_, rfl⟩
  change (p.line.own.filter _).filter _ = p.line.own.filter _
  rw [List.filter_filter]
  refine List.filter_congr fun e _ => ?_
  by_cases reply : (e.cls == .mgmtReply) = true
  · have other : (e.cls == .fanOrder station tag) = false := by simp [beq_iff_eq.1 reply]
    rw [reply]
    dsimp only
    rw [other]
    rfl
  · rw [Bool.not_eq_true] at reply
    rw [reply, Bool.false_and]

theorem setTag_tends (station tag : Nat) (s : TagState) (t : Timer) (p : Part) : Tends o c new p (setTag station tag s t p) :=
  .of_ord rfl (by refine updFirst_map TagRec.key _ _ (fun g => ?_) _; rfl)

theorem takeTag_tends (station tag : Nat) (p : Part) : Tends o c new p (takeTag station tag p) :=
  .of_ord rfl (by refine updFirst_map TagRec.key _ _ (fun g => ?_) _; rfl)

theorem freeTagOf_tends (r : OrderRec) (p : Part) : Tends o c new p (freeTagOf r p) := by
  unfold freeTagOf tagToFree
  split
  · exact .ite (fun _ => (withdraw_tends _ _ _).after (setTag_tends _ _ _ _ p)) (.refl p)
  · exact .refl p

theorem quarantineTagOf_tends (r : OrderRec) (p : Part) : Tends o c new p (quarantineTagOf r p) := by
  unfold quarantineTagOf tagToQuarantine
  split
  · exact .ite (fun _ => (withdraw_tends _ _ _).after (setTag_tends _ _ _ _ p)) (.refl p)
  · exact .refl p

theorem countOrder_tends (g : OrderCounters → OrderCounters) (p : Part) : Tends o c new p (countOrder g p) := .of_ord rfl

theorem onOrder_tends (n : Nat) {g : OrderRec → OrderRec} (p : Part)
    (same : ∀ r, (g r).fan = r.fan := by exact fun _ => rfl) : Tends o c new p (onOrder n g p) := by
  refine .of_orders fun r mem => .inl ?_
  obtain ⟨x, listed, rfl⟩ := List.mem_map.1 mem
  refine ⟨x, listed, ?_⟩
  split
  · exact (same x).symm
  · rfl

theorem reportEmpty_tends (p : Part) : Tends o c new p (reportEmpty p) := .ite (fun _ => testClearing_tends p) (.refl p)

/-! ### Orders withdrawn -/

theorem takeOutcome_withdrawn_tends (n : Nat) {kind : OrderKind} (start : isStart kind = true)
    (has : ∃ r ∈ p.ord.records, r.fan = n) : Tends o c new p (takeOutcome n kind .withdrawn p) := by
  unfold takeOutcome
  split
  · exact .refl p
  · next f found =>
    have no_stop : (kind == .stop) = false := by cases kind <;> simp_all [isStart]
    dsimp only
    rw [if_neg (by simp [no_stop])]
    unfold judgeOutcome
    dsimp only
    refine (fanTail_tends _).after (.ite (fun cond => ?_) (.refl p))
    have starting : f.state = .starting := by simpa [start] using cond
    rw [fan?_num found]
    have given_up : Tends o c new p (onFan n becomeUnknown p) := onFan_tends becomeUnknown_e fun g found_g => by
      obtain rfl : f = g := Option.some.inj (found.symm.trans found_g)
      exact givenUp_tends starting
    refine ((releaseSlots_tends _).after given_up).asking ⟨f, found, by simp [Movable, starting]⟩ (fun _ _ => has) fun _ => ?_
    have freed := (releaseSlots_tends (o := o) (c := True) (new := new) (onFan n becomeUnknown p)).bounded trivial
    have fewer : requestsDue (onFan n becomeUnknown p) + 1 ≤ requestsDue p :=
      requestsDue_onFan becomeUnknown_e found (by simp [requestsLeft, becomeUnknown, enter, starting])
    omega

theorem finishRec_tends {r : OrderRec} {outcome : OrderOutcome} (has : ∃ x ∈ p.ord.records, x.fan = r.fan)
    (taken : Tends o c new p (takeOutcome r.fan r.kind outcome p)) : Tends o c new p (finishRec r outcome p) := by
  unfold finishRec
  extract_lets q m u
  have removed : Tends o c new p u := taken.trans (.of_orders fun x mem => .inl ⟨x, (List.mem_filter.1 mem).1, rfl⟩)
  split
  · exact removed
  · extract_lets fresh
    obtain ⟨x, listed, fan⟩ := has
    have own : fresh.fan = r.fan := by
      unfold fresh
      split <;> rfl
    refine taken.trans (.of_orders fun y mem => .inl ?_)
    rcases List.mem_append.1 mem with mem | mem
    · exact ⟨y, (List.mem_filter.1 mem).1, rfl⟩
    · rw [List.mem_singleton.1 mem, own]
      exact ⟨x, by rwa [show q.ord = p.ord from takeOutcome_ord _ _ _ p], fan⟩

theorem withdrawRec_tends {r : OrderRec} (start : isStart r.kind = true) (has : ∃ x ∈ p.ord.records, x.fan = r.fan) :
    Tends o c new p (withdrawRec r p) := by
  unfold withdrawRec
  extract_lets q
  have freed : Tends o c new p q := (countOrder_tends _ _).after (freeTagOf_tends r p)
  have records : q.ord.records = p.ord.records := freeTagOf_records r p
  have listed : ∃ x ∈ q.ord.records, x.fan = r.fan := by rwa [records]
  exact (reportEmpty_tends _).after ((finishRec_tends listed (takeOutcome_withdrawn_tends _ start listed)).after freed)

/-! ### Orders issued and served -/

theorem sendOrder_tends (r : OrderRec) (tag : Nat) (p : Part) : Tends o c new p (sendOrder r tag p) := by
  unfold sendOrder
  dsimp only
  exact (countOrder_tends _ _).after ((onOrder_tends _ _).after (queueOwn_tends rfl p))

theorem issue_tends (r : OrderRec) (tag : Nat) (p : Part) : Tends o c new p (issue r tag p) := by
  unfold issue
  extract_lets q u
  have sent : Tends o c new p q := (sendOrder_tends _ _ _).after (takeTag_tends _ _ p)
  have marked : Tends o c new p u := (onOrder_tends _ _).after sent
  exact .ite (fun _ => .ite (fun _ => marked) ((onOrder_tends _ _).after marked)) sent

theorem serveWith_tends (fuel : Nat) (p : Part) : Tends o c new p (serveWith fuel p) := by
  induction fuel generalizing p with
  | zero => exact .refl p
  | succ fuel ih =>
    unfold serveWith
    split
    · split
      · exact .refl p
      · next r t next =>
        have listed : ∃ x ∈ p.ord.records, x.fan = r.fan := ⟨r, List.mem_of_find?_eq_some (nextToIssue_found next), rfl⟩
        refine (ih _).after ?_
        have taken : Tends o c new p { p with ord := { p.ord with
          backlog := p.ord.backlog.filter fun n => n != r.fan } } := .of_ord rfl
        split
        · exact (issue_tends r t _).after taken
        · next fails =>
          rw [Bool.or_eq_true, not_or, Bool.not_eq_true, Bool.not_eq_true] at fails
          refine Tends.after (withdrawRec_tends (startCheck_isStart fails.2) ?_) taken
          exact listed
    · exact .refl p

theorem serve_tends (p : Part) : Tends o c new p (serve p) := serveWith_tends _ p

/-! ### Requests -/

theorem dropStart_tends (n : Nat) (old kind : OrderKind) (has : ∃ r ∈ p.ord.records, r.fan = n) :
    Tends o c new p (dropStart n old kind p) := by
  refine .ite (fun dropped => ?_) (.refl p)
  have start : isStart old = true := (Bool.and_eq_true _ _ ▸ dropped).1
  exact Tends.after (takeOutcome_withdrawn_tends n start has) (countOrder_tends _ p)

/-- An order request is for a fan that may have one (R153). -/
theorem requestOrder_tends (n : Nat) (kind : OrderKind) (p : Part) (allowed : new n) :
    Tends o False new p (requestOrder n kind p) := by
  have changed {g : OrderRec → OrderRec} (same : ∀ r, (g r).fan = r.fan) {r : OrderRec} (found : p.order? n = some r) :
      ∃ x ∈ (onOrder n g p).ord.records, x.fan = n := by
    have found_g : (onOrder n g p).order? n = some (g r) := by
      rw [order?_onOrder n n same, found, Option.map_some, if_pos rfl]
    exact ⟨g r, List.mem_of_find?_eq_some found_g, order?_fan found_g⟩
  unfold requestOrder
  split
  · split
    · exact .refl p
    · refine (serve_tends _).after (.of_orders fun x mem => ?_)
      rcases List.mem_append.1 mem with mem | mem
      · exact .inl ⟨x, mem, rfl⟩
      · rw [List.mem_singleton.1 mem]
        exact .inr ⟨not_false, allowed⟩
  · next r found =>
    dsimp only
    split
    · have succeeded : Tends o False new p (onOrder n (fun x => { x with successor := some kind }) p) :=
        onOrder_tends n p
      split
      · exact succeeded
      · exact Tends.after (dropStart_tends n _ kind (changed (fun _ => rfl) found)) succeeded
    · refine (serve_tends _).after (Tends.after (dropStart_tends n _ kind (changed (fun _ => rfl) found)) ?_)
      exact onOrder_tends n p

/-! ### The hand-ons of an event -/

theorem Allows.after {q : Part} (h : Allows new p) (tends : Tends o c new p q) : Allows new q := by
  obtain ⟨l, posted, asks⟩ := tends.posts
  refine ⟨fun n k mem => ?_, fun n g found moves => ?_⟩
  · rw [posted] at mem
    rcases List.mem_append.1 mem with mem | mem
    · exact h.waits n k mem
    · obtain ⟨⟨f, found, moves⟩, _⟩ := asks n k mem
      exact h.moves n f found moves
  · obtain ⟨f, found_f, tends_f⟩ := tends.before found
    exact h.moves n f found_f (tends_f.movable moves)

theorem takeHandOn_tends {h : HandOn} (p : Part) (allowed : ∀ n k, h = .orderRequest n k → new n) :
    Tends o False new p (takeHandOn h p) := by
  cases h with
  | orderRequest n kind => exact requestOrder_tends n kind p (allowed n kind rfl)
  | clearingEnd => exact takeClearingEnd_tends p

end

end Sys2Proof.Machine
end

section
/-! PROOFS. The hand-ons of an event taken one after another: what they tend to, and that a QUERY requested for an UNKNOWN
fan becomes its order whatever was requested for it before. -/

namespace Sys2Proof.Machine

/-- What is left of the fans and of the replies that wait, the orders and the tags set aside. -/
structure Carries (o : Prop) (p q : Part) : Prop where
  entries : q.fm.fans.map (·.e) = p.fm.fans.map (·.e)
  fans    : ∀ n f, p.fan? n = some f → ∃ g, q.fan? n = some g ∧ FanTends (o ∧ p.fm.record.state ≠ .control) f g
  record  : o → p.fm.record.state ≠ .control → q.fm.record.state ≠ .control
  replies : repliesOf q.line = repliesOf p.line ∧ q.line.droppedReplies = p.line.droppedReplies

/-- The part with no hand-on waiting. -/
def idle (p : Part) : Part := { p with handOns := [] }

section
variable {o : Prop} {new : Nat → Prop} {p q : Part}

theorem Tends.idle (h : Tends o False new p q) : Tends o False new (idle p) (idle q) :=
  ⟨h.entries, h.fans, h.record, ⟨[], rfl, nofun⟩, h.orders, h.keys, h.replies, False.elim, False.elim⟩

theorem settle_tends (fuel : Nat) (allows : Allows new p) :
    Tends o False new (Machine.idle p) (Machine.idle (settle takeHandOn fuel p)) := by
  induction fuel generalizing p with
  | zero => exact .refl _
  | succ fuel ih =>
    unfold settle
    split
    · exact .refl _
    · next h rest waits =>
      let p' : Part := { p with handOns := rest }
      have allows' : Allows new p' :=
        ⟨fun n k mem => allows.waits n k (by rw [waits]; exact List.mem_cons_of_mem _ mem), allows.moves⟩
      have taken : Tends o False new p' (takeHandOn h p') := takeHandOn_tends p' fun n k is_h =>
        allows.waits n k (by rw [waits, is_h]; exact List.mem_cons_self ..)
      exact (ih (allows'.after taken)).after taken.idle

/-- The end of an event. -/
theorem settled_tends (allows : Allows new p) : Tends o False new (Machine.idle p) (settled p) :=
  settle_tends settleBound allows

theorem idle_of_quiet (quiet : p.handOns = []) : Machine.idle p = p := by
  unfold Machine.idle
  rw [← quiet]

/-- Where no hand-on waits before what has been done. -/
theorem Tends.settled (h : Tends o False new p q) (allows : Allows new p) (quiet : p.handOns = []) :
    Tends o False new p (settled q) := by
  have kept := h.idle
  rw [idle_of_quiet quiet] at kept
  exact (settled_tends (allows.after h)).after kept

/-- Every fan allowed. -/
theorem Allows.all (p : Part) : Allows (fun _ => True) p := ⟨fun _ _ _ => trivial, fun _ _ _ _ => trivial⟩

/-! ### A QUERY requested -/

/-- Of a fan, only QUERYs are requested. -/
def OnlyQueries (n : Nat) (l : List HandOn) : Prop := ∀ kind, .orderRequest n kind ∈ l → kind = .query

/-- A QUERY waits for a fan with few before it, and only QUERYs after it. -/
def QueryWaits (n few : Nat) (l : List HandOn) : Prop :=
  ∃ before after, l = before ++ HandOn.orderRequest n .query :: after ∧ before.length < few ∧ OnlyQueries n after

theorem OnlyQueries.append {n : Nat} {l m : List HandOn} (h : OnlyQueries n l) (k : OnlyQueries n m) :
    OnlyQueries n (l ++ m) := fun kind mem => (List.mem_append.1 mem).elim (h kind) (k kind)

theorem OnlyQueries.tail {n : Nat} {h : HandOn} {l : List HandOn} (all : OnlyQueries n (h :: l)) : OnlyQueries n l :=
  fun kind mem => all kind (List.mem_cons_of_mem _ mem)

theorem takeHandOn_asked {n : Nat} {h : HandOn} (asked : Asked n .query p)
    (own : ∀ kind, h = .orderRequest n kind → kind = .query) : Asked n .query (takeHandOn h p) := by
  cases h with
  | orderRequest m kind => exact requestOrder_asked rfl asked fun is_it => own kind (by rw [is_it])
  | clearingEnd => exact asked.of_records (congrArg OrderEngine.records (takeClearingEnd_ord p))

theorem settle_queried (fuel : Nat) {n : Nat} {f : FanRec} (found : p.fan? n = some f) (unknown : f.state = .unknown)
    (will : (Asked n .query p ∧ OnlyQueries n p.handOns) ∨ QueryWaits n fuel p.handOns) :
    Asked n .query (settle takeHandOn fuel p) := by
  induction fuel generalizing p f with
  | zero =>
    rcases will with ⟨asked, _⟩ | ⟨_, _, _, few, _⟩
    · exact asked
    · exact absurd few (Nat.not_lt_zero _)
  | succ fuel ih =>
    unfold settle
    split
    · next none_waits =>
      rcases will with ⟨asked, _⟩ | ⟨before, after, waits, _⟩
      · exact asked
      · rw [none_waits] at waits
        exact absurd waits.symm (by simp)
    · next h rest waits =>
      let p' : Part := { p with handOns := rest }
      have taken : Tends False False (fun _ => True) p' (takeHandOn h p') := takeHandOn_tends p' fun _ _ _ => trivial
      have still : ¬ Movable f := fun moves => moves.1 unknown
      obtain ⟨g, found_g, tends⟩ := taken.fans n f found
      have unknown_g : g.state = .unknown := by rw [tends.rests still]; exact unknown
      obtain ⟨l, posted, asks⟩ := taken.posts
      have others : OnlyQueries n l := fun kind mem => by
        obtain ⟨⟨x, found_x, moves⟩, _⟩ := asks n kind mem
        exact absurd (Option.some.inj (found.symm.trans found_x) ▸ moves) still
      refine ih found_g unknown_g ?_
      rw [posted]
      change (_ ∧ OnlyQueries n (rest ++ l)) ∨ QueryWaits n fuel (rest ++ l)
      rw [waits] at will
      rcases will with ⟨asked, only⟩ | ⟨before, after, split, few, only⟩
      · exact .inl ⟨takeHandOn_asked (asked.of_records rfl) fun kind is_h => only kind (by simp [is_h]), only.tail.append others⟩
      · cases before with
        | nil =>
          obtain ⟨rfl, rfl⟩ := List.cons.inj split
          exact .inl ⟨requestOrder_asks (p := p') rfl found, only.append others⟩
        | cons x before =>
          obtain ⟨rfl, rfl⟩ := List.cons.inj split
          refine .inr ⟨before, after ++ l, by simp, ?_, only.append others⟩
          exact Nat.lt_of_succ_lt_succ few

end

end Sys2Proof.Machine
end

section
/-! PROOFS. The lead view judged afresh while the store-write hold stands (R76, R182), and the hold lifted: what they tend
to. -/

namespace Sys2Proof.Machine

section
variable {o : Prop} {new : Nat → Prop} {p : Part}

theorem reg_tends (x : IncidentRegister) (p : Part) : Tends o False new p { p with reg := x } := .of_same rfl

theorem raise_tends {c : Prop} (f : EventFlag) (p : Part) : Tends o c new p (raise f p) := .of_same rfl

theorem armLeadWait_tends (p : Part) : Tends o False new p (armLeadWait p) := .ite (fun _ => .refl p) (.of_same rfl)

/-! ### Views of peers under the store-write hold -/

/-- The store-write hold stands, and the incident is neither in CONTROL nor in HOLD. -/
def HeldBack (p : Part) : Prop := p.reg.storeHold = true ∧ OutsideControl p

theorem HeldBack.step {q : Part} (h : HeldBack p) (step : HoldStep p q) : HeldBack q :=
  ⟨step.storeHold.trans h.1, step.outside h.1 h.2⟩

theorem takeOn_tends (r : IncidentRecord) (held : p.reg.storeHold = true) : Tends o False new p (takeOn r p) := by
  unfold takeOn
  extract_lets r' m q
  have put : Tends o False new p (putRecord r' q) := (putRecord_tends r' (fun _ => by simp [r']) q).after (.of_same rfl)
  have stands : (putRecord r' q).reg.storeHold = true := by
    rw [(putRecord_regMeas r' q).1]
    exact held
  unfold proceed
  split
  · rw [if_pos stands]
    exact put
  · exact (armLeadWait_tends _).after put

theorem joinView_tends (b : Bulletin) (held : HeldBack p) : Tends o False new p (joinView b p) :=
  .ite (fun _ => takeOn_tends _ held.1) (.refl p)

theorem replaceView_tends (b : Bulletin) (held : HeldBack p) : Tends o False new p (replaceView b p) := by
  refine .ite (fun _ => ?_) (.refl p)
  dsimp only
  split
  · exact (takeOn_tends (p := raise .directionChanged p) (joinedRecord b) held.1).after (raise_tends _ p)
  · exact takeOn_tends _ held.1

theorem clearView_tends (b : Bulletin) (p : Part) : Tends o False new p (clearView b p) := by
  refine .ite (fun _ => ?_) (.refl p)
  exact (putRecord_tends _ (fun _ => by simp) _).after (reg_tends _ p)

theorem followLead_tends (b : Bulletin) (held : HeldBack p) : Tends o False new p (followLead b p) := by
  unfold followLead
  split
  · rw [if_pos held.1]
    unfold recordPending
    split
    · exact reg_tends _ p
    · exact reg_tends _ p
    · exact .refl p
  · next inside => exact absurd inside held.2.1
  · next inside => exact absurd inside held.2.2
  · exact .refl p

theorem takeView_tends (b : Bulletin) (mark : Bool) (held : HeldBack p) : Tends o False new p (takeView b mark p) := by
  have joined : HeldBack (joinView b p) := held.step (joinView_op b p).toHoldStep
  have replaced : HeldBack (replaceView b (joinView b p)) := joined.step (replaceView_op b _).toHoldStep
  have cleared : HeldBack (clearView b (replaceView b (joinView b p))) := replaced.step (clearView_op b _).toHoldStep
  have viewed : Tends o False new p (clearView b (replaceView b (joinView b p))) :=
    ((clearView_tends b _).after (replaceView_tends b joined)).after (joinView_tends b held)
  exact .ite (fun _ => (followLead_tends b cleared).after viewed) viewed

theorem takeLeadShare_tends (share : Option Nat) (p : Part) : Tends o False new p (takeLeadShare share p) := by
  rw [takeLeadShare_eq]
  exact ctl_tends _ p

theorem judgeLead_tends (p : Part) : Tends o False new p (judgeLead p) := by
  rw [judgeLead_eq]
  exact .of_same rfl

theorem handNewLead_tends (a : Nat) (held : HeldBack p) : Tends o False new p (handNewLead a p) := by
  unfold handNewLead
  split
  · exact .refl p
  · have viewed (b : Bulletin) : Tends o False new p (takeView b true p) := takeView_tends b true held
    exact .ite (fun _ => (takeLeadShare_tends _ _).after (viewed _)) (viewed _)

theorem judgeAndHandOn_tends (taken : Option Nat) (held : HeldBack p) :
    Tends o False new p (judgeAndHandOn taken p) := by
  have judged : Tends o False new p (judgeLead p) := judgeLead_tends p
  have held' : HeldBack (judgeLead p) := by
    rw [judgeLead_eq]
    exact held
  unfold judgeAndHandOn
  extract_lets before q
  split
  · exact (takeLeadShare_tends none _).after judged
  · exact .ite (fun _ => (handNewLead_tends _ held').after judged) judged
  · exact judged

theorem rebuildPeers_tends (held : HeldBack p) : Tends o False new p (rebuildPeers p) := by
  let q : Part := { p with coord := { p.coord with peers := buildPeers p.disp.stations p.coord.peers } }
  have made : Tends o False new p q := .of_same rfl
  exact Tends.after (judgeAndHandOn_tends (p := q) none held) made

/-! ### The store-write hold lifted -/

/-- A record that enters CONTROL is the one that the Fan Manager holds. -/
theorem putRecord_enters {new' : IncidentRecord} (differs : p.reg.record.state ≠ new'.state) :
    (putRecord new' p).fm.record.state = new'.state := by
  rw [putRecord_eq, if_pos (isHandedOn_of_state differs), deliverRecord_fmRecord]
  exact markControlled_state _ _

theorem putRecord_noEnd {new' : IncidentRecord} (open_ : new'.state ≠ .clearing) (out : .clearingEnd ∉ p.handOns) :
    .clearingEnd ∉ (putRecord new' p).handOns := by
  have stored : .clearingEnd ∉ (recordStored new' p).handOns := by rwa [recordStored_rest]
  rw [putRecord_eq]
  split
  · refine deliverRecord_noEnd ?_ stored
    change (markControlled p.reg.record new').state ≠ .clearing
    rwa [markControlled_state]
  · exact stored

/-- What the end of the store-write hold comes to (R76): nothing, an entry to CONTROL or HOLD, or a role judged afresh. -/
theorem endStoreHold_cases (p : Part) : endStoreHold p = holdLifted p ∨ p.reg.record.state = .declared ∧
    ((∃ state role, (state = .control ∨ state = .hold) ∧ endStoreHold p = leaveDeclared state role (holdLifted p)) ∨
      ∃ role, endStoreHold p = armLeadWait (putRecord { p.reg.record with role := role } (holdLifted p))) := by
  unfold endStoreHold
  extract_lets entry m q r role
  change (_ : Part) = q ∨ _
  split
  · exact .inl rfl
  · next in_declared =>
    have declared : r.state = .declared := by simpa using in_declared
    refine .inr ⟨declared, ?_⟩
    split
    · exact .inl ⟨_, _, .inl rfl, rfl⟩
    · clear_value entry
      cases entry with
      | none => exact .inr ⟨_, rfl⟩
      | some pending =>
        refine .inl ?_
        cases pending with
        | leadViewControl => exact ⟨_, _, .inl rfl, rfl⟩
        | leadViewHold => exact ⟨_, _, .inr rfl, rfl⟩
        | leadWaitExpiry => exact ⟨_, _, .inl rfl, rfl⟩

theorem endStoreHold_tends (p : Part) (outside : o → (endStoreHold p).fm.record.state ≠ .control) :
    Tends o False new p (endStoreHold p) := by
  have lifted : Tends o False new p (holdLifted p) := reg_tends _ p
  rcases endStoreHold_cases p with same | ⟨declared, ⟨state, role, is_state, same⟩ | ⟨role, same⟩⟩
  · rw [same]
    exact lifted
  · rw [same] at outside ⊢
    refine Tends.after ((putRecord_tends _ (fun open_ inside => ?_) _).after (reg_tends _ _)) lifted
    refine outside open_ ((putRecord_enters ?_).trans inside)
    change p.reg.record.state ≠ state
    rw [declared]
    rcases is_state with rfl | rfl <;> decide
  · rw [same]
    refine ((armLeadWait_tends _).after (putRecord_tends _ (fun _ => ?_) _)).after lifted
    change p.reg.record.state ≠ _
    rw [declared]
    decide

theorem endStoreHold_noEnd (out : .clearingEnd ∉ p.handOns) : .clearingEnd ∉ (endStoreHold p).handOns := by
  rcases endStoreHold_cases p with same | ⟨declared, ⟨state, role, is_state, same⟩ | ⟨role, same⟩⟩
  · rw [same]
    exact out
  · rw [same]
    refine putRecord_noEnd (fun clearing => ?_) out
    change state = .clearing at clearing
    rcases is_state with rfl | rfl <;> exact nomatch clearing
  · have put : .clearingEnd ∉ (putRecord { p.reg.record with role := role } (holdLifted p)).handOns :=
      putRecord_noEnd (by change p.reg.record.state ≠ _; rw [declared]; decide) out
    rw [same]
    unfold armLeadWait
    split <;> exact put

/-- A record in CONTROL that the end of the hold hands on is the one that the Fan Manager holds at the end of the event. -/
theorem released_record (quiet : p.handOns = []) (inside : (endStoreHold (formHealth (raise .tableEvent p))).fm.record.state = .control) :
    (released p).fm.record.state = .control := by
  have out : .clearingEnd ∉ (endStoreHold (formHealth (raise .tableEvent p))).handOns :=
    endStoreHold_noEnd (by change _ ∉ p.handOns; rw [quiet]; exact List.not_mem_nil)
  unfold released
  rw [(settled_order _ (by rw [inside]; decide) out).record]
  exact inside

theorem released_tends (quiet : p.handOns = []) (allows : Allows new p)
    (outside : o → (released p).fm.record.state ≠ .control) : Tends o False new p (released p) := by
  refine Tends.settled (Tends.after (endStoreHold_tends _ fun open_ inside => ?_) ?_) allows quiet
  · exact outside open_ (released_record quiet inside)
  · exact .of_same rfl

end

end Sys2Proof.Machine
end

section
/-! PROOFS. What the blocks that rebuild from a table tend to (R36, R109, R125, R169), each from the point where its own
records have been replaced. -/

namespace Sys2Proof.Machine

/-- What holds of the part once the table of a store write is installed. -/
structure Rebuildable (p : Part) : Prop where
  held      : HeldBack p
  quiet     : p.handOns = []
  addresses : On AddressesDistinct p
  distinct  : On FansDistinct p
  numbered  : On FansNumbered p

section
variable {o c : Prop} {new : Nat → Prop}

/-! ### The Measurement Unit -/

theorem report_tends (k : FaultKind) (x : FaultObject) (p : Part) : Tends o c new p (report k x p) := by
  rw [report_eq]
  exact .of_same rfl

theorem meas_tends (x : MeasurementUnit) (p : Part) : Tends o c new p { p with meas := x } := .of_same rfl

theorem rejectInstrument_tends (d : InstrumentId) (p : Part) : Tends o c new p (rejectInstrument d p) :=
  ((raise_tends _ _).after (report_tends _ _ _)).after (.of_same rfl)

theorem voteChecks_tends (n : Nat) (before : PointRec) (p : Part) : Tends o c new p (voteChecks n before p) := by
  unfold voteChecks
  extract_lets t x y z judged p1 later p2
  have streaked : Tends o c new p p1 := meas_tends _ p
  have rejected : Tends o c new p p2 := Tends.after (Tends.foldl _ (fun p s => rejectInstrument_tends _ p) _ p1) streaked
  exact .ite (fun _ => (raise_tends _ _).after rejected) rejected

theorem votePoint_tends (n : Nat) (p : Part) : Tends o c new p (votePoint n p) := by
  refine .ite (fun _ => ?_) (.refl p)
  unfold voteOnly
  split
  · exact .refl p
  · extract_lets values r hold p1 p2
    have voted : Tends o c new p p1 := meas_tends _ p
    have told : Tends o c new p p2 := (Tends.ite (fun _ => report_tends _ _ _) (.refl _)).after voted
    refine .ite (fun _ => ?_) (.ite (fun _ => (voteChecks_tends n _ p2).after told) told)
    exact ((raise_tends _ _).after (report_tends _ _ _)).after (meas_tends _ p)

theorem recomputeVm_tends (p : Part) : Tends o c new p (recomputeVm p) := by
  rw [recomputeVm_rest]
  exact .of_same rfl

theorem recomputeZone_tends (n : Nat) (p : Part) : Tends o c new p (recomputeZone n p) := by
  refine .ite (fun _ => ?_) (.refl p)
  refine Tends.after ?_ (meas_tends (onZone n recomputed p).meas p)
  unfold handTemp
  split
  · exact takeZoneTemp_tends _ _ _
  · exact .refl _

theorem judgeInstruments_tends (p : Part) : Tends o c new p (judgeInstruments p) := by
  unfold judgeInstruments
  extract_lets p1 m p2 p3 p4 p5
  have judged : Tends o c new p p1 := (Tends.ite (fun _ => raise_tends _ _) (.refl _)).after (meas_tends _ p)
  have aligned : Tends o c new p1 p2 := meas_tends _ p1
  have handed : Tends o c new p2 p3 := Tends.foldl _ (fun p n => takeZoneTemp_tends n none p) _ p2
  have voted : Tends o c new p3 p4 := Tends.foldl _ (fun p n => votePoint_tends n p) _ p3
  have recomputed : Tends o c new p4 p5 := Tends.foldl _ (fun p n => recomputeZone_tends n p) _ p4
  exact ((((recomputeVm_tends p5).after recomputed).after voted).after handed).after (aligned.after judged)

/-! ### The Order Engine -/

/-- Whether a record loses its tag (R169). -/
def losesTag (p : Part) (r : OrderRec) : Bool := r.tag.isSome && !keepsTags p r.station

/-- The records that an activation leaves (R169). -/
def recordsLeft (p : Part) : List OrderRec :=
  (p.ord.records.filter (recordStands p)).map fun r => if losesTag p r then untag r else r

/-- The backlog that an activation leaves (R169). -/
def backlogLeft (p : Part) : List Nat :=
  (p.ord.backlog.filter fun n => (recordsLeft p).any fun r => r.fan == n) ++
    (p.ord.records.filter fun r => recordStands p r && losesTag p r).map (·.fan)

/-- The part with the tags and the records rebuilt. -/
def ordersLeft (p : Part) : Part :=
  { withdrawDropped p with ord := { (withdrawDropped p).ord with
      tags := rebuiltTags p, records := recordsLeft p, backlog := backlogLeft p } }

theorem rebuildOrders_eq (p : Part) : rebuildOrders p = reportEmpty (serve
    (((p.ord.records.filter fun r => !recordStands p r).filter fun r => keepsTags p r.station).foldl
      (fun p r => quarantineTagOf r p) (ordersLeft p))) := rfl

theorem rebuildOrders_tends (p : Part) : Tends o c new (ordersLeft p) (rebuildOrders p) := by
  rw [rebuildOrders_eq]
  exact ((reportEmpty_tends _).after (serve_tends _)).after (Tends.foldl _ (fun p r => quarantineTagOf_tends r p) _ _)

theorem withdrawDropped_tends (p : Part) : Tends o c new p (withdrawDropped p) :=
  Tends.foldl _ (fun p (t : TagRec) => withdraw_tends t.station t.tag p) _ p

/-- The rebuild of the orders leaves the Fan Manager. -/
theorem withdrawDropped_fm (p : Part) : (withdrawDropped p).fm = p.fm ∧ (withdrawDropped p).handOns = p.handOns := by
  have each (l : List TagRec) (p : Part) : (l.foldl (fun p t => withdraw t.station t.tag p) p).fm = p.fm ∧
      (l.foldl (fun p t => withdraw t.station t.tag p) p).handOns = p.handOns := by
    induction l generalizing p with
    | nil => exact ⟨rfl, rfl⟩
    | cons t l ih => exact ih (withdraw t.station t.tag p)
  exact each _ p

/-- A record that is left was there, for a fan that is kept (R109, R169). -/
theorem recordsLeft_stands {p : Part} {r : OrderRec} (mem : r ∈ recordsLeft p) :
    ∃ x ∈ p.ord.records, x.fan = r.fan ∧ recordStands p x = true := by
  obtain ⟨x, listed, rfl⟩ := List.mem_map.1 mem
  obtain ⟨listed, stands⟩ := List.mem_filter.1 listed
  refine ⟨x, listed, ?_, stands⟩
  split <;> rfl

/-! ### The Fan Manager -/

theorem buildReach_tends (p : Part) : Tends o c new p (buildReach p) := .of_same rfl

/-- The part with the fan records judged (R109). -/
def fansJudgedAfresh (p : Part) : Part := { p with fm := { p.fm with fans := p.fanEntries.map (judgedFan p) } }

/-- The part with the QUERYs requested (R109). -/
def queriesAsked (p : Part) : Part := (freshFans p).foldl (fun p n => askQuery n p) (raiseDangling (fansJudgedAfresh p))

theorem judgeFans_eq (p : Part) : judgeFans p = fanTail (releaseSlots (
    if (queriesAsked p).fm.record.id != 0 then
      formPreference (judgeHeat (fun _ => true) (judgeExclusion (queriesAsked p))) else queriesAsked p)) := rfl

theorem judgeFans_tends (p : Part) : Tends o c new (queriesAsked p) (judgeFans p) := by
  rw [judgeFans_eq]
  refine ((fanTail_tends _).after (releaseSlots_tends _)).after (.ite (fun _ => ?_) (.refl _))
  have marked : Tends o c new (queriesAsked p) (judgeHeat (fun _ => true) (judgeExclusion (queriesAsked p))) :=
    (judgeHeat_tends _ _).after (judgeExclusion_tends _)
  exact marked.trans (.of_same rfl)

theorem queriesAsked_eq (p : Part) : queriesAsked p = { fansJudgedAfresh p with
    fc := (raiseDangling (fansJudgedAfresh p)).fc,
    handOns := p.handOns ++ (freshFans p).map fun n => .orderRequest n .query } := by
  have each (l : List Nat) (p : Part) : l.foldl (fun p n => askQuery n p) p =
      { p with handOns := p.handOns ++ l.map fun n => .orderRequest n .query } := by
    induction l generalizing p with
    | nil => rw [List.map_nil, List.append_nil]; rfl
    | cons n l ih =>
      rw [List.foldl_cons, ih, List.map_cons]
      change { p with handOns := (p.handOns ++ [_]) ++ _ } = _
      rw [List.append_assoc]
      rfl
  have dangling : raiseDangling (fansJudgedAfresh p) =
      { fansJudgedAfresh p with fc := (raiseDangling (fansJudgedAfresh p)).fc } := by
    unfold raiseDangling
    split <;> rfl
  unfold queriesAsked
  rw [each, dangling]
  rfl

end

end Sys2Proof.Machine
end

section
/-! PROOFS. The end of a store write from the fans judged on, and what it carries of the fans and of the replies. -/

namespace Sys2Proof.Machine

/-! ### What is carried through the rebuild of the orders -/

section
variable {o c : Prop} {new : Nat → Prop} {p q r : Part}

theorem Tends.carries (h : Tends o c new p q) : Carries o p q := ⟨h.entries, h.fans, h.record, h.replies⟩

theorem Carries.trans (h : Carries o p q) (k : Carries o q r) : Carries o p r := by
  refine ⟨k.entries.trans h.entries, fun n f found => ?_, fun open_ out => k.record open_ (h.record open_ out),
    ⟨k.replies.1.trans h.replies.1, k.replies.2.trans h.replies.2⟩⟩
  obtain ⟨g, found_g, tends⟩ := h.fans n f found
  obtain ⟨u, found_u, tends'⟩ := k.fans n g found_g
  exact ⟨u, found_u, tends.trans tends' fun calm => ⟨calm.1, h.record calm.1 calm.2⟩⟩

theorem ordersLeft_carries (p : Part) : Carries o p (ordersLeft p) := by
  have same : (ordersLeft p).fm = p.fm := (withdrawDropped_fm p).1
  have replies := (withdrawDropped_tends (o := o) (c := False) (new := fun _ => False) p).replies
  refine ⟨by rw [same], fun n f found => ⟨f, ?_, .refl f⟩, fun _ out => by rwa [same], replies⟩
  unfold Part.fan? at *
  rwa [same]

/-! ### The phases of the rebuild -/

/-- The part with the stations, the peers and what the lead view hands on (R24, R176, R182). -/
def stationsRebuilt (p : Part) : Part := settled (rebuildPeers (rebuildStations p))

/-- The part with the orders replaced, where the table replaces them. -/
def ordersFrom (k : TableKind) (p : Part) : Part :=
  match k with
  | .stations => ordersLeft (stationsRebuilt p)
  | .fans => ordersLeft p
  | .sections | .control => p

/-- The part when all but the Fan Manager have been rebuilt. -/
def beforeFans (k : TableKind) (p : Part) : Part :=
  match k with
  | .stations => buildReach (judgeInstruments (rebuildOrders (stationsRebuilt p)))
  | .sections => judgeInstruments p
  | .fans => rebuildOrders p
  | .control => p

theorem rebuildFrom_eq {k : TableKind} (other : k ≠ .control) (p : Part) :
    rebuildFrom k p = judgeFans (beforeFans k p) := by
  cases k with
  | control => exact absurd rfl other
  | _ => rfl

theorem beforeFans_tends (k : TableKind) (p : Part) : Tends o c new (ordersFrom k p) (beforeFans k p) := by
  cases k with
  | stations => exact ((buildReach_tends _).after (judgeInstruments_tends _)).after (rebuildOrders_tends _)
  | sections => exact judgeInstruments_tends p
  | fans => exact rebuildOrders_tends p
  | control => exact .refl p

theorem stationsRebuilt_tends (held : HeldBack p) (quiet : p.handOns = []) :
    Tends o False (fun _ => True) p (stationsRebuilt p) := by
  have made : Tends o False (fun _ => True) p (rebuildStations p) := .of_same rfl
  exact Tends.settled (Tends.after (rebuildPeers_tends (p := rebuildStations p) held) made) (Allows.all p) quiet

theorem ordersFrom_carries (k : TableKind) (held : HeldBack p) (quiet : p.handOns = []) :
    Carries o p (ordersFrom k p) ∧ (ordersFrom k p).handOns = [] := by
  cases k with
  | stations =>
    exact ⟨(stationsRebuilt_tends held quiet).carries.trans (ordersLeft_carries _),
      (withdrawDropped_fm (stationsRebuilt p)).2.trans (settled_handOns _)⟩
  | fans => exact ⟨ordersLeft_carries p, (withdrawDropped_fm p).2.trans quiet⟩
  | sections | control => exact ⟨(Tends.refl (c := False) (new := fun _ => True) p).carries, quiet⟩

theorem beforeFans_carries (k : TableKind) (held : HeldBack p) (quiet : p.handOns = []) : Carries o p (beforeFans k p) :=
  (ordersFrom_carries k held quiet).1.trans (beforeFans_tends (c := False) (new := fun _ => True) k p).carries

/-! ### From the fans judged to the end -/

theorem Allows.idle (h : Allows new p) : Allows new (Machine.idle p) :=
  ⟨fun _ _ mem => absurd mem List.not_mem_nil, h.moves⟩

/-- The part at the end of the event, before the reply. -/
def fansRebuilt (p : Part) : Part := released (settled (judgeFans p))

theorem fansRebuilt_tends (allows : Allows new (queriesAsked p)) (outside : o → (fansRebuilt p).fm.record.state ≠ .control) :
    Tends o False new (idle (queriesAsked p)) (fansRebuilt p) := by
  have judged : Tends o False new (queriesAsked p) (judgeFans p) := judgeFans_tends p
  have taken : Tends o False new (idle (judgeFans p)) (settled (judgeFans p)) := settled_tends (allows.after judged)
  have still : (settled (judgeFans p)).handOns = [] := settled_handOns _
  have settled_allows : Allows new (settled (judgeFans p)) := Allows.after (allows.after judged).idle taken
  have before : Tends o False new (idle (queriesAsked p)) (idle (judgeFans p)) := judged.idle
  unfold fansRebuilt at outside ⊢
  generalize settled (judgeFans p) = q at taken still settled_allows outside
  exact ((released_tends still settled_allows outside).after taken).after before

/-! ### The QUERYs of the fans judged -/

theorem requestsLeft_le (f : FanRec) : requestsLeft f ≤ 5 := by
  unfold requestsLeft
  split
  · exact Nat.le_refl _
  · decide
  · split <;> decide
  · decide

/-- With the fans numbered no more than 241 hand-ons come of the fans as they stand. -/
theorem requestsDue_le (quiet : p.handOns = []) (numbered : ∀ f ∈ p.fm.fans, 1 ≤ f.e.num ∧ f.e.num ≤ 48) :
    requestsDue p ≤ 241 := by
  have few : (fanNumbers p).card ≤ 48 := by
    have inside : fanNumbers p ⊆ Finset.Icc 1 48 := fun n mem => by
      obtain ⟨f, listed, rfl⟩ := List.mem_map.1 (List.mem_toFinset.1 mem)
      exact Finset.mem_Icc.2 (numbered f listed)
    have small := Finset.card_le_card inside
    rwa [Nat.card_Icc] at small
  have each : ∑ n ∈ fanNumbers p, leftAt p n ≤ (fanNumbers p).card • 5 := Finset.sum_le_card_nsmul _ _ _ fun n _ => by
    unfold leftAt
    cases p.fan? n with
    | none => exact Nat.zero_le _
    | some f => exact requestsLeft_le f
  rw [smul_eq_mul] at each
  have one : (if p.fm.clearingSent = true then 0 else 1) ≤ 1 := by split <;> decide
  unfold requestsDue
  rw [quiet, List.length_nil]
  omega

theorem handOns_le_requestsDue (p : Part) : p.handOns.length ≤ requestsDue p := by
  unfold requestsDue
  omega

/-- A QUERY in the middle of QUERYs. -/
theorem queryWaits_middle {n bound : Nat} {waiting l : List HandOn} {before after : List Nat}
    (few : waiting.length + (before ++ n :: after).length < bound) (others : OnlyQueries n l) :
    QueryWaits n bound (waiting ++ ((before ++ n :: after).map fun n => HandOn.orderRequest n .query) ++ l) := by
  have queries : OnlyQueries n (after.map fun n => HandOn.orderRequest n .query) := fun kind mem => by
    obtain ⟨x, _, same⟩ := List.mem_map.1 mem
    exact (HandOn.orderRequest.inj same).2.symm
  refine ⟨waiting ++ before.map fun n => HandOn.orderRequest n .query, (after.map fun n => HandOn.orderRequest n .query) ++ l, ?_, ?_,
    queries.append others⟩
  · rw [List.map_append, List.map_cons]
    simp only [List.append_assoc, List.cons_append]
  · rw [List.length_append, List.length_map]
    rw [List.length_append, List.length_cons] at few
    omega

/-- A fan made UNKNOWN afresh has its QUERY among what waits, and no other request after it. -/
theorem judgeFans_waits {n : Nat} {f : FanRec} (few : p.handOns.length + (freshFans p).length < settleBound)
    (fresh : n ∈ freshFans p) (found : (queriesAsked p).fan? n = some f) (unknown : f.state = .unknown) :
    QueryWaits n settleBound (judgeFans p).handOns := by
  obtain ⟨l, posted, asks⟩ := (judgeFans_tends (o := False) (c := False) (new := fun _ => True) p).posts
  obtain ⟨before, after, split⟩ := List.append_of_mem fresh
  have others : OnlyQueries n l := fun kind mem => by
    obtain ⟨⟨x, found_x, moves⟩, _⟩ := asks n kind mem
    obtain rfl := Option.some.inj (found.symm.trans found_x)
    exact absurd unknown moves.1
  have asked : (queriesAsked p).handOns = p.handOns ++ (freshFans p).map fun n => HandOn.orderRequest n .query := by
    rw [queriesAsked_eq]
  rw [posted, asked]
  rw [split] at few ⊢
  exact queryWaits_middle few others

end

end Sys2Proof.Machine
end

section
/-! PROOFS. The QUERY of a fan made UNKNOWN afresh, from the fans judged to the end of the event (R109, R153). -/

namespace Sys2Proof.Machine

/-! ### A record handed on leaves the orders -/

section
variable {p : Part}

theorem compute_ord (start : ComputeStart) (p : Part) : (compute start p).ord = p.ord := by
  unfold compute
  split
  · rfl
  · rw [(takeDemand_step _ _).rest, formDemand_eq]

theorem ctlTakeRecord_ord (h : RecordHandOn) (p : Part) : (ctlTakeRecord h p).ord = p.ord := by
  rw [ctlTakeRecord_eq]
  dsimp only
  split
  · split
    · rw [takeMode_eq, compute_ord]
    · unfold changeRole
      split
      case h_7 => rw [takeShareMode_eq, compute_ord]
      case h_9 => rfl
      all_goals exact compute_ord _ _
  · split <;> rfl

theorem ctlMeetsRecord_ord (h : RecordHandOn) (p : Part) : (ctlMeetsRecord h p).ord = p.ord := by
  have period (q : Part) : (periodExpires q).ord = q.ord := by
    unfold periodExpires
    split
    · exact compute_ord _ _
    · rfl
  unfold ctlMeetsRecord
  split
  · dsimp only
    rw [ctlTakeRecord_ord]
    split
    · rfl
    · exact period _
  · exact ctlTakeRecord_ord h p

theorem putRecord_orders (new : IncidentRecord) (p : Part) : (putRecord new p).ord = p.ord := by
  have stored : (recordStored new p).ord = p.ord := by rw [recordStored_rest]
  rw [putRecord_eq]
  split
  · refine deliverRecord_induction (P := (·.ord = p.ord)) stored (fun q same => ?_) (fun q same => ?_) fun q same => ?_
    · rw [fansTakeRecord_rest]
      exact same
    · rw [ctlMeetsRecord_ord]
      exact same
    · rw [coordTakeRecord_rest]
      exact same
  · exact stored

theorem endStoreHold_ord (p : Part) : (endStoreHold p).ord = p.ord := by
  rcases endStoreHold_cases p with same | ⟨_, ⟨state, role, _, same⟩ | ⟨role, same⟩⟩
  · rw [same]
    rfl
  · rw [same]
    exact putRecord_orders _ _
  · rw [same]
    unfold armLeadWait
    split <;> exact putRecord_orders _ _

/-! ### The QUERY stands -/

theorem idle_fan? (n : Nat) (p : Part) : (idle p).fan? n = p.fan? n := rfl

theorem asked_settled {n : Nat} {k : OrderKind} (asked : Asked n k (settle takeHandOn settleBound p)) :
    Asked n k (settled p) := asked.of_records rfl

/-- The order of an UNKNOWN fan stands through the end of the store-write hold. -/
theorem released_asked {n : Nat} {f : FanRec} (quiet : p.handOns = []) (found : p.fan? n = some f)
    (unknown : f.state = .unknown) (asked : Asked n .query p) : Asked n .query (released p) := by
  have raised : Tends False False (fun _ => True) p (formHealth (raise .tableEvent p)) := .of_same rfl
  have lifted := (endStoreHold_tends _ False.elim).after raised
  have orders : (endStoreHold (formHealth (raise .tableEvent p))).ord = p.ord := endStoreHold_ord _
  unfold released
  generalize endStoreHold (formHealth (raise .tableEvent p)) = q at lifted orders
  have still : ¬ Movable f := fun moves => moves.1 unknown
  obtain ⟨g, found_g, tends⟩ := lifted.fans n f found
  have unknown_g : g.state = .unknown := by rw [tends.rests still]; exact unknown
  obtain ⟨l, posted, asks⟩ := lifted.posts
  have only : OnlyQueries n q.handOns := fun kind mem => by
    rw [posted, quiet, List.nil_append] at mem
    obtain ⟨⟨x, found_x, moves⟩, _⟩ := asks n kind mem
    exact absurd (Option.some.inj (found.symm.trans found_x) ▸ moves) still
  have stands : Asked n .query q := asked.of_records (congrArg OrderEngine.records orders)
  exact asked_settled (settle_queried settleBound found_g unknown_g (.inl ⟨stands, only⟩))

/-- A fan made UNKNOWN afresh has a QUERY requested at the end (R109). -/
theorem fansRebuilt_asked {n : Nat} {f : FanRec} (few : p.handOns.length + (freshFans p).length < settleBound)
    (fresh : n ∈ freshFans p) (found : (queriesAsked p).fan? n = some f) (unknown : f.state = .unknown) :
    Asked n .query (fansRebuilt p) := by
  have still : ¬ Movable f := fun moves => moves.1 unknown
  have judged : Tends False False (fun _ => True) (queriesAsked p) (judgeFans p) := judgeFans_tends p
  obtain ⟨g, found_g, tends⟩ := judged.fans n f found
  have unknown_g : g.state = .unknown := by rw [tends.rests still]; exact unknown
  have taken : Tends False False (fun _ => True) (idle (judgeFans p)) (settled (judgeFans p)) := settled_tends (Allows.all _)
  obtain ⟨u, found_u, tends_u⟩ := taken.fans n g ((idle_fan? n _).trans found_g)
  have unknown_u : u.state = .unknown := by rw [tends_u.rests fun moves => moves.1 unknown_g]; exact unknown_g
  have asked : Asked n .query (settled (judgeFans p)) :=
    asked_settled (settle_queried settleBound found_g unknown_g (.inr (judgeFans_waits few fresh found unknown)))
  exact released_asked (settled_handOns _) found_u unknown_u asked

end

end Sys2Proof.Machine
end

section
/-! PROOFS. The fans judged at an activation (R109), and the orders that stand through it (R169). -/

namespace Sys2Proof.Machine

/-- What the end of a store write leaves of the fan of an entry, by the fan of its number before it. -/
structure FanRebuilt (p v : Part) (entry : FanEntry) (f : FanRec) : Prop where
  entry_eq     : f.e = entry
  unconfigured : ¬ Rule.configured v entry → f.state = .unconfigured
  fresh        : Rule.configured v entry → ¬ (∃ g, p.fan? entry.num = some g ∧ Rule.keeps g entry) →
    f.state = .unknown ∧ Rule.queried v entry.num
  blank        : ¬ (Rule.configured v entry ∧ ∃ g, p.fan? entry.num = some g ∧ Rule.keeps g entry) →
    f.known = none ∧ f.last = none ∧ f.reportIso = false ∧ f.mgrIso = false ∧ f.resting = false ∧ f.runUp = none ∧
      f.runDown = none ∧ f.stopReq = false
  kept         : ∀ g, Rule.configured v entry → p.fan? entry.num = some g → Rule.keeps g entry → f.last = g.last ∧
    f.reportIso = g.reportIso ∧ f.mgrIso = g.mgrIso ∧ (p.fm.record.state ≠ .control → v.fm.record.state ≠ .control →
      g.state ≠ .starting → f.state = g.state)

/-! ### The fans judged -/

section
variable {p q : Part} {e : FanEntry} {f : FanRec} {n : Nat}

theorem queriesAsked_fans (p : Part) : (queriesAsked p).fm.fans = p.fanEntries.map (judgedFan p) := by
  rw [queriesAsked_eq]
  rfl

theorem queriesAsked_entries (p : Part) : (queriesAsked p).fm.fans.map (·.e) = p.fanEntries := by
  rw [queriesAsked_fans, List.map_map]
  refine (List.map_congr_left fun e _ => ?_).trans (List.map_id _)
  exact judgedFan_e p e

theorem queriesAsked_record (p : Part) : (queriesAsked p).fm.record = p.fm.record := by
  rw [queriesAsked_eq]
  rfl

theorem queriesAsked_ord (p : Part) : (queriesAsked p).ord = p.ord := by
  rw [queriesAsked_eq]
  rfl

/-- The FAN table in use numbers each fan once. -/
def EntriesApart (p : Part) : Prop := (p.fanEntries.map (·.num)).Nodup

theorem queriesAsked_fan? (apart : EntriesApart p) (mem : e ∈ p.fanEntries) :
    (queriesAsked p).fan? e.num = some (judgedFan p e) := by
  have listed : judgedFan p e ∈ (queriesAsked p).fm.fans := by
    rw [queriesAsked_fans]
    exact List.mem_map_of_mem mem
  have numbers : ((queriesAsked p).fm.fans.map (·.e.num)).Nodup := by
    have same : (queriesAsked p).fm.fans.map (·.e.num) = ((queriesAsked p).fm.fans.map (·.e)).map (·.num) := by
      rw [List.map_map]
      rfl
    rw [same, queriesAsked_entries]
    exact apart
  have found := find?_of_nodup (key := fun f : FanRec => f.e.num) numbers listed
  rwa [judgedFan_e] at found

theorem queriesAsked_found (found : (queriesAsked p).fan? n = some f) :
    ∃ e ∈ p.fanEntries, e.num = n ∧ f = judgedFan p e := by
  have listed := List.mem_of_find?_eq_some found
  rw [queriesAsked_fans] at listed
  obtain ⟨e, mem, rfl⟩ := List.mem_map.1 listed
  refine ⟨e, mem, ?_, rfl⟩
  rw [← fan?_num found, judgedFan_e]

theorem fanFate_unfit (unfit : configuredFan p e = false) (old : Option FanRec) : fanFate p e old = .unconfigured := by
  unfold fanFate
  rw [unfit]
  rfl

/-- What a judgement makes of an entry, by its fate (R109). -/
theorem judgedFan_unconfigured (unfit : configuredFan p e = false) : judgedFan p e = freshFan e .unconfigured := by
  unfold judgedFan
  dsimp only
  rw [fanFate_unfit unfit]

/-- What R109 asks of a fan to be kept. -/
theorem fanFate_of_configured (fit : configuredFan p e = true) (old : Option FanRec) :
    fanFate p e old = .kept ∧ (∃ f, old = some f ∧ Rule.keeps f e) ∨
      fanFate p e old = .fresh ∧ ¬ ∃ f, old = some f ∧ Rule.keeps f e := by
  unfold fanFate Rule.keeps
  rw [fit]
  cases old with
  | none => exact .inr ⟨rfl, fun ⟨_, same, _⟩ => absurd same (Option.some_ne_none _).symm⟩
  | some f =>
    dsimp only
    rw [if_neg (by decide)]
    by_cases keeps : f.state ≠ .unconfigured ∧ f.e.station = e.station ∧ f.e.output = e.output ∧ f.e.zone = e.zone
    · refine .inl ⟨if_pos ?_, f, rfl, keeps⟩
      obtain ⟨state, station, output, zone⟩ := keeps
      simp [state, station, output, zone]
    · refine .inr ⟨if_neg ?_, ?_⟩
      · simpa [and_assoc] using keeps
      · rintro ⟨g, same, kept⟩
        obtain rfl := Option.some.inj same
        exact keeps kept

theorem judgedFan_kept {g : FanRec} (fit : configuredFan p e = true) (found : p.fan? e.num = some g)
    (keeps : Rule.keeps g e) : judgedFan p e = { g with e := e } := by
  have fate : fanFate p e (some g) = .kept := by
    rcases fanFate_of_configured fit (some g) with ⟨kept, _⟩ | ⟨_, none_keeps⟩
    · exact kept
    · exact absurd ⟨g, rfl, keeps⟩ none_keeps
  unfold judgedFan
  rw [found]
  dsimp only
  rw [fate]

theorem judgedFan_fresh (fit : configuredFan p e = true) (none_keeps : ¬ ∃ g, p.fan? e.num = some g ∧ Rule.keeps g e) :
    judgedFan p e = freshFan e .unknown ∧ fanFate p e (p.fan? e.num) = .fresh := by
  have fate : fanFate p e (p.fan? e.num) = .fresh := by
    rcases fanFate_of_configured fit (p.fan? e.num) with ⟨_, keeps⟩ | ⟨fresh, _⟩
    · exact absurd keeps none_keeps
    · exact fresh
  refine ⟨?_, fate⟩
  unfold judgedFan
  dsimp only
  rw [fate]

theorem judgedFan_configured (fit : configuredFan p e = true) : (judgedFan p e).state ≠ .unconfigured := by
  by_cases keeps : ∃ g, p.fan? e.num = some g ∧ Rule.keeps g e
  · obtain ⟨g, found, keeps⟩ := keeps
    rw [judgedFan_kept fit found keeps]
    exact keeps.1
  · rw [(judgedFan_fresh fit keeps).1]
    exact FanState.noConfusion

/-! ### The orders that stand -/

/-- A fan number that the tables in use configure. -/
def Configures (p : Part) (n : Nat) : Prop := ∃ e ∈ p.fanEntries, e.num = n ∧ configuredFan p e = true

theorem Configures.of_tables (fits : Configures p n) (disp : q.disp = p.disp) (mgmt : q.mgmt = p.mgmt) : Configures q n := by
  obtain ⟨e, mem, num, fit⟩ := fits
  have entries : q.fanEntries = p.fanEntries := by unfold Part.fanEntries; rw [mgmt]
  refine ⟨e, entries ▸ mem, num, ?_⟩
  rw [configuredFan_iff] at *
  unfold Rule.configured at *
  rwa [disp, mgmt]

theorem configures_of_stands {r : OrderRec} (stands : recordStands p r = true) : Configures p r.fan := by
  unfold recordStands at stands
  split at stands
  · next e found =>
    have num : e.num = r.fan := by simpa using List.find?_some found
    refine ⟨e, List.mem_of_find?_eq_some found, num, ?_⟩
    by_contra unfit
    rw [fanFate_unfit (Bool.not_eq_true _ ▸ unfit)] at stands
    exact absurd stands (by decide)
  · exact nomatch stands

theorem configures_of_fresh (fresh : n ∈ freshFans p) : Configures p n := by
  obtain ⟨e, mem, rfl⟩ := List.mem_map.1 fresh
  obtain ⟨listed, fate⟩ := List.mem_filter.1 mem
  refine ⟨e, listed, rfl, ?_⟩
  by_contra unfit
  rw [fanFate_unfit (Bool.not_eq_true _ ▸ unfit)] at fate
  exact absurd fate (by decide)

/-- The fans judged move, and are asked, only where they are configured. -/
theorem allows_configured (waits : ∀ n k, .orderRequest n k ∈ p.handOns → Configures p n) :
    Allows (Configures p) (queriesAsked p) := by
  refine ⟨fun n k mem => ?_, fun n f found moves => ?_⟩
  · rw [queriesAsked_eq] at mem
    rcases List.mem_append.1 mem with mem | mem
    · exact waits n k mem
    · obtain ⟨m, fresh, same⟩ := List.mem_map.1 mem
      exact (HandOn.orderRequest.inj same).1 ▸ configures_of_fresh fresh
  · obtain ⟨e, mem, num, rfl⟩ := queriesAsked_found found
    refine ⟨e, mem, num, ?_⟩
    by_contra unfit
    rw [judgedFan_unconfigured (Bool.not_eq_true _ ▸ unfit)] at moves
    exact moves.2 rfl

/-- The records of the rebuilt orders, and what they hand on outside CONTROL, are for fans that are configured. -/
theorem ordersLeft_configures (quiet : p.handOns = []) (outside : p.fm.record.state ≠ .control)
    (tends : Tends True True (fun _ => False) (ordersLeft p) q) (disp : q.disp = p.disp) (mgmt : q.mgmt = p.mgmt) :
    (∀ r ∈ q.ord.records, Configures q r.fan) ∧ ∀ n k, .orderRequest n k ∈ q.handOns → Configures q n := by
  have left (x : OrderRec) (mem : x ∈ (ordersLeft p).ord.records) : Configures q x.fan := by
    obtain ⟨y, _, fan, stands⟩ := recordsLeft_stands mem
    exact fan ▸ (configures_of_stands stands).of_tables disp mgmt
  obtain ⟨fm, handOns⟩ := withdrawDropped_fm p
  refine ⟨fun r mem => ?_, fun n k mem => ?_⟩
  · rcases tends.orders r mem with ⟨x, listed, fan⟩ | late
    · exact fan ▸ left x listed
    · exact late.2.elim
  · obtain ⟨l, posted, asks⟩ := tends.posts
    have none_waits : (ordersLeft p).handOns = [] := handOns.trans quiet
    rw [posted, none_waits, List.nil_append] at mem
    have open_ : (ordersLeft p).fm.record.state ≠ .control := by
      change (withdrawDropped p).fm.record.state ≠ .control
      rwa [fm]
    obtain ⟨r, listed, fan⟩ := (asks n k mem).2 trivial open_
    exact fan ▸ left r listed

/-- Every order at the end is for a fan that is not UNCONFIGURED (R109, R169). -/
theorem fansRebuilt_orders (apart : EntriesApart p) (records : ∀ r ∈ p.ord.records, Configures p r.fan)
    (waits : ∀ n k, .orderRequest n k ∈ p.handOns → Configures p n) :
    ∀ r ∈ (fansRebuilt p).ord.records, ∃ f ∈ (fansRebuilt p).fm.fans, f.e.num = r.fan ∧ f.state ≠ .unconfigured := by
  have tends : Tends False False (Configures p) (idle (queriesAsked p)) (fansRebuilt p) :=
    fansRebuilt_tends (allows_configured waits) False.elim
  have orders : (idle (queriesAsked p)).ord = p.ord := queriesAsked_ord p
  have judged {e : FanEntry} (mem : e ∈ p.fanEntries) : (idle (queriesAsked p)).fan? e.num = some (judgedFan p e) :=
    (idle_fan? e.num _).trans (queriesAsked_fan? apart mem)
  generalize idle (queriesAsked p) = q at tends orders judged
  generalize fansRebuilt p = v at tends
  intro r mem
  have fits : Configures p r.fan := by
    rcases tends.orders r mem with ⟨x, listed, fan⟩ | late
    · rw [orders] at listed
      exact fan ▸ records x listed
    · exact late.2
  obtain ⟨e, listed, num, fit⟩ := fits
  obtain ⟨f, found, kept⟩ := tends.fans _ _ (judged listed)
  refine ⟨f, List.mem_of_find?_eq_some found, (fan?_num found).trans num, fun out => ?_⟩
  exact judgedFan_configured fit (kept.stays out)

end

end Sys2Proof.Machine
end

section
/-! PROOFS. The tags after an activation (R169). -/

namespace Sys2Proof.Machine

/-- The tag numbers that a station has in the pool. -/
def stationTags (a : Nat) (l : List TagRec) : List Nat := (l.filter fun g => g.station == a).map (·.tag)

section
variable {p : Part} {a : Nat} {l m : List TagRec}

/-- They are read from the names of the tags alone. -/
theorem stationTags_of_keys (same : l.map TagRec.key = m.map TagRec.key) : stationTags a l = stationTags a m := by
  have by_key (l : List TagRec) : stationTags a l = ((l.map TagRec.key).filter fun k => k.1 == a).map Prod.snd := by
    rw [List.filter_map, List.map_map]
    rfl
  rw [by_key, by_key, same]

theorem stationTags_append : stationTags a (l ++ m) = stationTags a l ++ stationTags a m := by
  unfold stationTags
  rw [List.filter_append, List.map_append]

theorem stationTags_of_none (none_of : ∀ g ∈ l, g.station ≠ a) : stationTags a l = [] := by
  unfold stationTags
  rw [List.filter_eq_nil_iff.2 fun g mem => by simpa using none_of g mem, List.map_nil]

theorem stationTags_fresh (a n : Nat) : stationTags a (freshTags a n) = List.range n := by
  unfold stationTags
  rw [freshTags_eq, List.filter_eq_self.2 (by simp), List.map_map]
  exact List.map_id _

theorem mem_freshTags_station {n : Nat} {g : TagRec} (mem : g ∈ freshTags a n) : g.station = a := by
  rw [freshTags_eq] at mem
  obtain ⟨k, _, rfl⟩ := List.mem_map.1 mem
  rfl

/-! ### The tags rebuilt -/

/-- The stations of the station table are addressed each once. -/
def StationsNamed (p : Part) : Prop := (p.disp.stations.map (·.address)).Nodup

theorem keepsTags_of_station (named : StationsNamed p) {r : StationRec} (mem : r ∈ p.disp.stations)
    (role : r.role = .fanStation) :
    keepsTags p r.address = true ↔ (stationTags r.address p.ord.tags).length = r.tagCount := by
  have found : p.stationWith r.address .fanStation = some r := by
    have isSome : (p.stationWith r.address .fanStation).isSome = true := hasRole_iff.2 ⟨r, mem, rfl, role⟩
    obtain ⟨x, is_x⟩ := Option.isSome_iff_exists.1 isSome
    have matches_ := List.find?_some (p := fun s : StationRec => s.address == r.address && s.role == .fanStation) is_x
    have address : x.address = r.address := beq_iff_eq.1 (Bool.and_eq_true_iff.1 matches_).1
    rw [is_x, List.inj_on_of_nodup_map named (List.mem_of_find?_eq_some is_x) mem address]
  unfold keepsTags stationTags tagsOf
  rw [found, List.length_map]
  exact beq_iff_eq

theorem rebuiltTags_of_station (named : StationsNamed p) {r : StationRec} (mem : r ∈ p.disp.stations)
    (role : r.role = .fanStation) : stationTags r.address (rebuiltTags p) =
      if (stationTags r.address p.ord.tags).length = r.tagCount then stationTags r.address p.ord.tags
      else List.range r.tagCount := by
  unfold rebuiltTags
  rw [stationTags_append]
  by_cases keeps : keepsTags p r.address = true
  · rw [if_pos ((keepsTags_of_station named mem role).1 keeps)]
    have kept : stationTags r.address (p.ord.tags.filter fun t => keepsTags p t.station) =
        stationTags r.address p.ord.tags := by
      unfold stationTags
      rw [List.filter_filter]
      refine congrArg (List.map _) (List.filter_congr fun g _ => ?_)
      by_cases own : g.station = r.address
      · rw [own, keeps, Bool.and_true]
      · rw [beq_eq_false_iff_ne.2 own, Bool.false_and]
    have none_new : stationTags r.address (((fanStations p).filter fun s => !keepsTags p s.address).flatMap fun s =>
        freshTags s.address s.tagCount) = [] := stationTags_of_none fun g listed own => by
      obtain ⟨s, rebuilt, fresh⟩ := List.mem_flatMap.1 listed
      have address : s.address = r.address := (mem_freshTags_station fresh).symm.trans own
      have lost := (List.mem_filter.1 rebuilt).2
      rw [address, keeps] at lost
      exact nomatch lost
    rw [kept, none_new, List.append_nil]
  · have none_kept : stationTags r.address (p.ord.tags.filter fun t => keepsTags p t.station) = [] :=
      stationTags_of_none fun g listed own => by
        have kept := (List.mem_filter.1 listed).2
        rw [own] at kept
        exact keeps kept
    rw [if_neg fun same => keeps ((keepsTags_of_station named mem role).2 same), none_kept, List.nil_append]
    have listed : r ∈ (fanStations p).filter fun s => !keepsTags p s.address :=
      List.mem_filter.2 ⟨List.mem_filter.2 ⟨mem, beq_iff_eq.2 role⟩, by simpa using keeps⟩
    obtain ⟨before, after, split⟩ := List.append_of_mem listed
    have others : ∀ s ∈ before ++ after, s.address ≠ r.address := fun s other same => by
      have once : ((before ++ r :: after).map (·.address)).Nodup := by
        rw [← split]
        exact named.sublist ((List.filter_sublist.trans List.filter_sublist).map _)
      rw [List.map_append, List.map_cons, List.nodup_middle, List.nodup_cons, ← List.map_append] at once
      exact once.1 (same ▸ List.mem_map_of_mem other)
    have none_of (l : List StationRec) (apart : ∀ s ∈ l, s.address ≠ r.address) :
        stationTags r.address (l.flatMap fun s => freshTags s.address s.tagCount) = [] := by
      refine stationTags_of_none fun g listed own => ?_
      obtain ⟨s, in_l, fresh⟩ := List.mem_flatMap.1 listed
      exact apart s in_l ((mem_freshTags_station fresh).symm.trans own)
    rw [split, List.flatMap_append, List.flatMap_cons, stationTags_append, stationTags_append, stationTags_fresh,
      none_of before fun s in_l => others s (List.mem_append_left _ in_l),
      none_of after fun s in_l => others s (List.mem_append_right _ in_l), List.nil_append, List.append_nil]

/-- Every tag is of a fan station. -/
theorem rebuiltTags_station {g : TagRec} (mem : g ∈ rebuiltTags p) :
    ∃ r ∈ p.disp.stations, r.address = g.station ∧ r.role = .fanStation := by
  unfold rebuiltTags at mem
  rcases List.mem_append.1 mem with mem | mem
  · have kept := (List.mem_filter.1 mem).2
    unfold keepsTags at kept
    refine hasRole_iff.1 ?_
    unfold Part.hasRole
    cases found : p.stationWith g.station .fanStation with
    | none => rw [found] at kept; exact nomatch kept
    | some s => rfl
  · obtain ⟨s, rebuilt, fresh⟩ := List.mem_flatMap.1 mem
    obtain ⟨listed, role⟩ := List.mem_filter.1 (List.mem_filter.1 rebuilt).1
    exact ⟨s, listed, (mem_freshTags_station fresh).symm, beq_iff_eq.1 role⟩

/-- The pool with the names of the rebuilt tags (R169). -/
theorem tags_of_rebuilt {p u : Part} (named : StationsNamed p) (disp : u.disp = p.disp)
    (keys : u.ord.tags.map TagRec.key = (rebuiltTags p).map TagRec.key) :
    (∀ r ∈ u.disp.stations, r.role = .fanStation → stationTags r.address u.ord.tags =
      if (stationTags r.address p.ord.tags).length = r.tagCount then stationTags r.address p.ord.tags
      else List.range r.tagCount) ∧
    ∀ g ∈ u.ord.tags, ∃ r ∈ u.disp.stations, r.address = g.station ∧ r.role = .fanStation := by
  rw [disp]
  refine ⟨fun r mem role => ?_, fun g mem => ?_⟩
  · rw [stationTags_of_keys keys]
    exact rebuiltTags_of_station named mem role
  · have key : TagRec.key g ∈ (rebuiltTags p).map TagRec.key := keys ▸ List.mem_map_of_mem mem
    obtain ⟨h, listed, same⟩ := List.mem_map.1 key
    have station : h.station = g.station := congrArg Prod.fst same
    exact station ▸ rebuiltTags_station listed

end

end Sys2Proof.Machine
end

section
/-! PROOFS. The Measurement Unit brought into line with the tables (R36): the instruments with their sources, and the points
and zones that are not configured. -/

namespace Sys2Proof.Machine

/-! ### The instruments through the votes -/

/-- What the votes at an activation leave of an instrument: its source, whether it is ABSENT, and all of one that is not of
velocity. -/
def InstrumentStands (x y : InstrumentId × Instrument) : Prop :=
  y.1 = x.1 ∧ y.2.source = x.2.source ∧ (y.2.state = .absent ↔ x.2.state = .absent) ∧ (x.1.cls ≠ .velocity → y = x)

/-- A point without a value (R36). -/
def BlankPoint (q : PointRec) : Prop := q.quality = .unknown ∧ q.voted = none ∧ q.holdTimer = none

/-- A zone without values (R36). -/
def BlankZone (z : ZoneRec) : Prop :=
  z.state = .unknown ∧ z.opacity = none ∧ z.temperature = none ∧ z.confirm = 0 ∧ z.holdO = false ∧ z.holdT = false

/-- The Measurement Unit stands as it was aligned in `b`, but for votes and recomputes of what is configured. -/
structure AlignedTo (b q : Part) : Prop where
  disp        : q.disp = b.disp
  mgmt        : q.mgmt = b.mgmt
  instruments : List.Forall₂ InstrumentStands (instruments b.meas) (Machine.instruments q.meas)
  points      : ∀ x ∈ q.meas.points, configuredPoint b x.num = false → BlankPoint x
  zones       : ∀ z ∈ q.meas.zones, b.zoneEntry z.num = none → BlankZone z

/-- Each instrument has the source of its slot, and is ABSENT where that is no SENSOR station (R36). -/
def Sourced (p : Part) : Prop := ∀ x ∈ instruments p.meas, x.2.source = Rule.slotSource p.mgmt.sections x.1 ∧
  (x.2.state = .absent ↔ Rule.fromSensor p.disp.stations (Rule.slotSource p.mgmt.sections x.1) = false)

theorem InstrumentStands.refl (x : InstrumentId × Instrument) : InstrumentStands x x := ⟨rfl, rfl, .rfl, fun _ => rfl⟩

theorem InstrumentStands.trans {x y z : InstrumentId × Instrument} (h : InstrumentStands x y) (k : InstrumentStands y z) :
    InstrumentStands x z := by
  obtain ⟨name, source, absent, others⟩ := h
  obtain ⟨name', source', absent', others'⟩ := k
  exact ⟨name'.trans name, source'.trans source, absent'.trans absent,
    fun other => (others' (name ▸ other)).trans (others other)⟩

theorem forall₂_stands_trans {l m n : List (InstrumentId × Instrument)} (h : List.Forall₂ InstrumentStands l m)
    (k : List.Forall₂ InstrumentStands m n) : List.Forall₂ InstrumentStands l n := by
  induction h generalizing n with
  | nil => cases k; exact .nil
  | cons first _ ih =>
    cases k with
    | cons first' rest' => exact .cons (first.trans first') (ih rest')

theorem forall₂_mem_left {α β : Type} {R : α → β → Prop} {l : List α} {m : List β} (h : List.Forall₂ R l m) :
    ∀ x ∈ l, ∃ y ∈ m, R x y := by
  induction h with
  | nil => exact fun x mem => absurd mem List.not_mem_nil
  | cons first _ ih =>
    rintro x (_ | ⟨_, mem⟩)
    · exact ⟨_, List.mem_cons_self .., first⟩
    · obtain ⟨y, listed, related⟩ := ih x mem
      exact ⟨y, List.mem_cons_of_mem _ listed, related⟩

theorem forall₂_mem_right {α β : Type} {R : α → β → Prop} {l : List α} {m : List β} (h : List.Forall₂ R l m) :
    ∀ y ∈ m, ∃ x ∈ l, R x y := by
  induction h with
  | nil => exact fun x mem => absurd mem List.not_mem_nil
  | cons first _ ih =>
    rintro y (_ | ⟨_, mem⟩)
    · exact ⟨_, List.mem_cons_self .., first⟩
    · obtain ⟨x, listed, related⟩ := ih y mem
      exact ⟨x, List.mem_cons_of_mem _ listed, related⟩

theorem forall₂_imp_mem {α β : Type} {R S : α → β → Prop} {l : List α} {m : List β} (h : List.Forall₂ R l m)
    (imp : ∀ x ∈ l, ∀ y, R x y → S x y) : List.Forall₂ S l m := by
  induction h with
  | nil => exact .nil
  | cons first _ ih =>
    exact .cons (imp _ (List.mem_cons_self ..) _ first) (ih fun x mem => imp x (List.mem_cons_of_mem _ mem))

theorem forall₂_flatMap {α β : Type} {R : β → β → Prop} {f g : α → List β} (each : ∀ a, List.Forall₂ R (f a) (g a))
    (l : List α) : List.Forall₂ R (l.flatMap f) (l.flatMap g) := by
  induction l with
  | nil => exact .nil
  | cons a l ih => exact List.rel_append (each a) ih

section
variable {b q r : Part}

/-- An event of the other blocks. -/
theorem AlignedTo.of_meas (h : AlignedTo b q) (meas : r.meas = q.meas) (disp : r.disp = q.disp := by rfl)
    (mgmt : r.mgmt = q.mgmt := by rfl) : AlignedTo b r :=
  ⟨disp.trans h.disp, mgmt.trans h.mgmt, by rw [meas]; exact h.instruments, by rw [meas]; exact h.points,
    by rw [meas]; exact h.zones⟩

theorem AlignedTo.raise (h : AlignedTo b q) (f : EventFlag) : AlignedTo b (Machine.raise f q) := h.of_meas rfl

theorem AlignedTo.report (h : AlignedTo b q) (k : FaultKind) (x : FaultObject) : AlignedTo b (Machine.report k x q) := by
  rw [report_eq]
  exact h.of_meas rfl

theorem AlignedTo.fans (h : AlignedTo b q) (only : FansOnly q r) : AlignedTo b r := by
  rw [show r = _ from only]
  exact h.of_meas rfl

/-- A change of the points of a number that is configured. -/
theorem AlignedTo.onPoint (h : AlignedTo b q) {n : Nat} {g : PointRec → PointRec} (configured : configuredPoint b n = true)
    (num : ∀ x, (g x).num = x.num)
    (slots : ∀ x, List.Forall₂ InstrumentStands (x.slots.map fun s => (⟨.velocity, velocityNum x.num s.1⟩, s.2))
      ((g x).slots.map fun s => (⟨.velocity, velocityNum x.num s.1⟩, s.2))) : AlignedTo b (Machine.onPoint n g q) := by
  refine ⟨h.disp, h.mgmt, forall₂_stands_trans h.instruments ?_, fun x mem unfit => ?_, h.zones⟩
  · change List.Forall₂ InstrumentStands (_ ++ _) (_ ++ _)
    refine List.rel_append ?_ (List.forall₂_same.2 fun x _ => .refl x)
    change List.Forall₂ _ _ ((updWhere _ _ _).flatMap _)
    unfold updWhere
    rw [List.flatMap_map]
    refine forall₂_flatMap (fun x => ?_) _
    dsimp only
    split
    · rw [num]
      exact slots x
    · exact List.forall₂_same.2 fun x _ => .refl x
  · obtain ⟨y, listed, rfl⟩ := List.mem_map.1 mem
    by_cases own : (y.num == n) = true
    · rw [if_pos own, num, beq_iff_eq.1 own, configured] at unfit
      exact nomatch unfit
    · rw [if_neg own] at unfit ⊢
      exact h.points y listed unfit

/-- An instrument that is not ABSENT is rejected (R42). -/
theorem AlignedTo.rejectInstrument (h : AlignedTo b q) {d : InstrumentId} (velocity : d.cls = .velocity)
    (present : ∀ x ∈ Machine.instruments b.meas, x.1 = d → x.2.state ≠ .absent) :
    AlignedTo b (Machine.rejectInstrument d q) := by
  suffices changed : AlignedTo b (onInstrument d (fun i => { i with state := .rejected, stale := none }) q) from
    (changed.report _ _).raise _
  refine ⟨h.disp, h.mgmt, ?_, fun x mem unfit => ?_, fun z mem unfit => ?_⟩
  · rw [onInstrument_instruments, List.forall₂_map_right_iff]
    refine forall₂_imp_mem h.instruments fun x mem y stands => ?_
    obtain ⟨name, source, absent, others⟩ := stands
    split
    · next own =>
      have here : x.1 = d := name.symm.trans own
      refine ⟨name, source, ?_, fun other => absurd (here ▸ velocity) other⟩
      exact iff_of_false nofun (present x mem here)
    · exact ⟨name, source, absent, others⟩
  · obtain ⟨y, listed, rfl⟩ := List.mem_map.1 mem
    exact h.points y listed unfit
  · obtain ⟨y, listed, rfl⟩ := List.mem_map.1 mem
    exact h.zones y listed unfit

/-! ### Votes -/

theorem slot_stands {x y : InstrumentId × Instrument} (velocity : x.1.cls = .velocity) (name : y.1 = x.1)
    (source : y.2.source = x.2.source) (state : y.2.state = x.2.state) : InstrumentStands x y :=
  ⟨name, source, by rw [state], fun other => absurd velocity other⟩

theorem checkStreaks_stands (tolerance : Nat) (mid : Int) (judged : Option Nat) (slot : Nat) (i : Instrument) :
    (checkStreaks tolerance mid judged slot i).source = i.source ∧ (checkStreaks tolerance mid judged slot i).state = i.state := by
  unfold checkStreaks
  dsimp only
  repeat' split
  all_goals exact ⟨rfl, rfl⟩

theorem AlignedTo.voted (h : AlignedTo b q) {n : Nat} (configured : configuredPoint b n = true) (x : PointQuality) (y : Option Int)
    (z : Timer) : AlignedTo b (Machine.onPoint n (fun q => { q with quality := x, voted := y, holdTimer := z }) q) :=
  h.onPoint configured (fun _ => rfl) fun _ => List.forall₂_same.2 fun x _ => .refl x

theorem AlignedTo.streaked (h : AlignedTo b q) {n : Nat} (configured : configuredPoint b n = true)
    (tolerance : Nat) (mid : Int) (judged : Option Nat) :
    AlignedTo b (Machine.onPoint n (PointRec.mapSlots (checkStreaks tolerance mid judged)) q) := by
  refine h.onPoint configured (fun _ => rfl) fun x => ?_
  have one (k : Nat) (i : Instrument) : InstrumentStands (⟨.velocity, velocityNum x.num k⟩, i)
      (⟨.velocity, velocityNum x.num k⟩, checkStreaks tolerance mid judged k i) :=
    slot_stands rfl rfl (checkStreaks_stands ..).1 (checkStreaks_stands ..).2
  exact .cons (one 1 x.s1) (.cons (one 2 x.s2) (.cons (one 3 x.s3) .nil))

theorem AlignedTo.rejectEach (l : List (Nat × Instrument)) {n : Nat} (h : AlignedTo b q)
    (present : ∀ s ∈ l, ∀ x ∈ Machine.instruments b.meas, x.1 = ⟨.velocity, velocityNum n s.1⟩ → x.2.state ≠ .absent) :
    AlignedTo b (l.foldl (fun p s => Machine.rejectInstrument ⟨.velocity, velocityNum n s.1⟩ p) q) := by
  induction l generalizing q with
  | nil => exact h
  | cons s l ih =>
    exact ih (h.rejectInstrument rfl (present s (List.mem_cons_self ..))) fun t mem => present t (List.mem_cons_of_mem _ mem)

theorem AlignedTo.voteChecks (h : AlignedTo b q) {n : Nat} (configured : configuredPoint b n = true) (before : PointRec)
    (present : ∀ k, k = 1 ∨ k = 2 ∨ k = 3 → ∀ x ∈ Machine.instruments b.meas, x.1 = ⟨.velocity, velocityNum n k⟩ →
      x.2.state ≠ .absent) : AlignedTo b (Machine.voteChecks n before q) := by
  unfold Machine.voteChecks
  extract_lets t x y z judged p1 later p2
  have streaked : AlignedTo b p1 := h.streaked configured _ _ _
  have rejected : AlignedTo b p2 := AlignedTo.rejectEach _ streaked fun s mem => by
    refine present s.1 ?_
    have slot := (List.mem_filter.1 mem).1
    simp only [PointRec.slots, List.mem_cons, List.not_mem_nil, or_false] at slot
    rcases slot with rfl | rfl | rfl <;> simp
  split
  · exact rejected.raise _
  · exact rejected

/-- The three instruments of a point whose vote is checked are not ABSENT. -/
theorem AlignedTo.present (h : AlignedTo b q) (sourced : Sourced b) {n : Nat} {x : PointRec} (found : q.point? n = some x)
    (valid : ∀ s ∈ x.slots, s.2.state = .valid) :
    ∀ k, k = 1 ∨ k = 2 ∨ k = 3 → ∀ y ∈ Machine.instruments b.meas, y.1 = ⟨.velocity, velocityNum n k⟩ → y.2.state ≠ .absent := by
  intro k is_k y mem name
  have slot : ∃ s ∈ x.slots, s.1 = k := by rcases is_k with rfl | rfl | rfl <;> simp [PointRec.slots]
  obtain ⟨s, in_x, rfl⟩ := slot
  have listed := mem_instruments_of_slot (List.mem_of_find?_eq_some found) in_x
  obtain ⟨z, in_b, own, _, absent, _⟩ := forall₂_mem_right h.instruments _ listed
  have same : z.1 = y.1 := by
    rw [name, ← own, point?_num found]
  have some_source : z.2.state ≠ .absent := fun gone => by
    have state := absent.2 gone
    rw [valid s in_x] at state
    exact nomatch state
  intro gone
  exact some_source ((sourced z in_b).2.2 (same ▸ (sourced y mem).2.1 gone))

theorem AlignedTo.votePoint (h : AlignedTo b q) (sourced : Sourced b) (n : Nat) : AlignedTo b (Machine.votePoint n q) := by
  unfold Machine.votePoint
  split
  · next fits =>
    have configured : configuredPoint b n = true := by
      unfold configuredPoint Part.pointEntries at *
      rwa [h.mgmt] at fits
    unfold voteOnly
    split
    · exact h
    · next x found =>
      extract_lets values r hold p1 p2
      have voted : AlignedTo b p1 := h.voted configured _ _ _
      have told : AlignedTo b p2 := by
        unfold p2
        split
        · exact voted.report _ _
        · exact voted
      split
      · exact ((h.voted configured _ _ _).report _ _).raise _
      · split
        · next three =>
          refine told.voteChecks configured x (h.present sourced found ?_)
          have all : (x.slots.filter fun s => isValid s.2).length = x.slots.length :=
            (List.length_map _).symm.trans (beq_iff_eq.1 three)
          exact fun s mem => beq_iff_eq.1 (List.length_filter_eq_length_iff.1 all s mem)
        · exact told
  · exact h

/-! ### Zones and Vm -/

theorem AlignedTo.recomputeZone (h : AlignedTo b q) (n : Nat) : AlignedTo b (Machine.recomputeZone n q) := by
  by_cases configured : (q.zoneEntry n).isSome = true
  · have event := recomputeZone_event n q
    refine ⟨event.disp.trans h.disp, event.mgmt.trans h.mgmt, by rw [event.instruments]; exact h.instruments,
      by rw [event.meas]; exact h.points, fun z mem unfit => ?_⟩
    rw [recomputeZone_zones configured] at mem
    obtain ⟨y, listed, rfl⟩ := List.mem_map.1 mem
    by_cases own : (y.num == n) = true
    · rw [if_pos own, recomputed_num, beq_iff_eq.1 own] at unfit
      unfold Part.zoneEntry Part.zoneEntries at *
      rw [h.mgmt, unfit] at configured
      exact nomatch configured
    · rw [if_neg own] at unfit ⊢
      exact h.zones y listed unfit
  · rw [recomputeZone_of_absent (Option.not_isSome_iff_eq_none.1 configured)]
    exact h

theorem AlignedTo.recomputeVm (h : AlignedTo b q) : AlignedTo b (Machine.recomputeVm q) := by
  have same : Machine.instruments (Machine.recomputeVm q).meas = Machine.instruments q.meas := by
    rw [recomputeVm_meas]
    rfl
  refine ⟨?_, ?_, by rw [same]; exact h.instruments, by rw [recomputeVm_meas]; exact h.points,
    by rw [recomputeVm_meas]; exact h.zones⟩
  · rw [recomputeVm_rest]
    exact h.disp
  · rw [recomputeVm_rest]
    exact h.mgmt

theorem AlignedTo.foldl {g : Part → Nat → Part} (step : ∀ q n, AlignedTo b q → AlignedTo b (g q n)) (l : List Nat)
    (h : AlignedTo b q) : AlignedTo b (l.foldl g q) := by
  induction l generalizing q with
  | nil => exact h
  | cons n l ih => exact ih (step q n h)

end

end Sys2Proof.Machine
end

section
/-! PROOFS. The instruments, points and zones when a store write of stations or sections has ended (R36). -/

namespace Sys2Proof.Machine

/-! ### The judgement -/

/-- The part with the instruments judged, and the points and zones brought into line (R36). -/
def aligned (p : Part) : Part :=
  { judgeAll p with meas := { (judgeAll p).meas with
      points := (judgeAll p).meas.points.map (alignPoint (judgeAll p))
      zones := (judgeAll p).meas.zones.map (alignZone (judgeAll p)) } }

theorem judgeInstruments_eq (p : Part) : judgeInstruments p = recomputeVm (
    sixteen.foldl (fun p n => recomputeZone n p) (sixteen.foldl (fun p n => votePoint n p)
      ((sixteen.filter fun n => ((aligned p).zoneEntry n).isNone).foldl (fun p n => takeZoneTemp n none p) (aligned p)))) := rfl

section
variable {p : Part}

theorem judgeAll_rest (p : Part) : (judgeAll p).disp = p.disp ∧ (judgeAll p).mgmt = p.mgmt ∧
    (judgeAll p).meas = mapInstruments (judgeInstrument p) p.meas := by
  unfold judgeAll
  dsimp only
  split <;> exact ⟨rfl, rfl, rfl⟩

theorem alignPoint_slots (p : Part) (x : PointRec) :
    ((alignPoint p x).num, (alignPoint p x).s1, (alignPoint p x).s2, (alignPoint p x).s3) = (x.num, x.s1, x.s2, x.s3) := by
  unfold alignPoint
  split <;> rfl

theorem alignZone_four (p : Part) (z : ZoneRec) : (alignZone p z).four = z.four := by
  unfold alignZone
  split <;> rfl

theorem aligned_instruments (p : Part) : instruments (aligned p).meas = (instruments p.meas).map fun x =>
    (x.1, Rule.judged p.disp.stations (Rule.slotSource p.mgmt.sections x.1) x.2) := by
  have unmoved : instruments (aligned p).meas = instruments (judgeAll p).meas := by
    refine instruments_congr ?_ ?_
    · change ((judgeAll p).meas.points.map _).map _ = _
      rw [List.map_map]
      exact List.map_congr_left fun x _ => alignPoint_slots _ x
    · change ((judgeAll p).meas.zones.map _).map _ = _
      rw [List.map_map]
      exact List.map_congr_left fun z _ => alignZone_four _ z
  rw [unmoved, (judgeAll_rest p).2.2, instruments_mapInstruments]
  exact List.map_congr_left fun x _ => by rw [judgeInstrument_rule]

/-- An instrument judged has the source of its slot, and is ABSENT where that is no SENSOR station. -/
theorem judged_sourced (stations : List StationRec) (source : Option Source) (i : Instrument) :
    (Rule.judged stations source i).source = source ∧
      ((Rule.judged stations source i).state = .absent ↔ Rule.fromSensor stations source = false) := by
  unfold Rule.judged
  dsimp only
  split
  · next away => exact ⟨rfl, iff_of_true rfl away⟩
  · next sensor =>
    split
    · exact ⟨rfl, iff_of_false nofun sensor⟩
    · next same =>
      rw [not_or, not_not] at same
      exact ⟨same.2, iff_of_false same.1 sensor⟩

theorem aligned_sourced (p : Part) : Sourced (aligned p) := by
  intro x mem
  rw [aligned_instruments] at mem
  obtain ⟨y, _, rfl⟩ := List.mem_map.1 mem
  have disp : (aligned p).disp = p.disp := (judgeAll_rest p).1
  have mgmt : (aligned p).mgmt = p.mgmt := (judgeAll_rest p).2.1
  rw [disp, mgmt]
  exact judged_sourced _ _ _

theorem aligned_self (p : Part) : AlignedTo (aligned p) (aligned p) := by
  refine ⟨rfl, rfl, List.forall₂_same.2 fun x _ => .refl x, fun x mem unfit => ?_, fun z mem unfit => ?_⟩
  · obtain ⟨y, _, rfl⟩ := List.mem_map.1 mem
    have num : (alignPoint (judgeAll p) y).num = y.num := congrArg Prod.fst (alignPoint_slots _ y)
    rw [num] at unfit
    have off : configuredPoint (judgeAll p) y.num = false := unfit
    unfold alignPoint
    rw [off]
    exact ⟨rfl, rfl, rfl⟩
  · obtain ⟨y, _, rfl⟩ := List.mem_map.1 mem
    have num : (alignZone (judgeAll p) y).num = y.num := congrArg Prod.fst (alignZone_four _ y)
    rw [num] at unfit
    have off : (judgeAll p).zoneEntry y.num = none := unfit
    unfold alignZone
    rw [off]
    exact ⟨rfl, rfl, rfl, rfl, rfl, rfl⟩

theorem judgeInstruments_aligned (p : Part) : AlignedTo (aligned p) (judgeInstruments p) := by
  rw [judgeInstruments_eq]
  have handed := AlignedTo.foldl (g := fun p n => takeZoneTemp n none p) (fun q n h => h.fans (takeZoneTemp_fansOnly n none q))
    (sixteen.filter fun n => ((aligned p).zoneEntry n).isNone) (aligned_self p)
  have voted := AlignedTo.foldl (g := fun p n => votePoint n p) (fun q n h => h.votePoint (aligned_sourced p) n) sixteen handed
  exact (AlignedTo.foldl (g := fun p n => recomputeZone n p) (fun q n h => h.recomputeZone n) sixteen voted).recomputeVm

/-! ### What follows the judgement -/

/-- The Measurement Unit stands, but that alarms may have been cleared. -/
structure AlarmsCleared (p q : Part) : Prop where
  rest  : q.meas = { p.meas with zones := q.meas.zones }
  kept  : instruments q.meas = instruments p.meas
  zones : ∀ z ∈ q.meas.zones, ∃ y ∈ p.meas.zones, z.num = y.num ∧ (BlankZone y → BlankZone z)

theorem AlarmsCleared.of_meas {q : Part} (same : q.meas = p.meas) : AlarmsCleared p q :=
  ⟨by rw [same], by rw [same], fun z mem => ⟨z, same ▸ mem, rfl, id⟩⟩

theorem AlarmsCleared.trans {q r : Part} (h : AlarmsCleared p q) (k : AlarmsCleared q r) : AlarmsCleared p r := by
  refine ⟨by rw [k.rest, h.rest], k.kept.trans h.kept, fun z mem => ?_⟩
  obtain ⟨y, in_q, num, blank⟩ := k.zones z mem
  obtain ⟨x, in_p, num', blank'⟩ := h.zones y in_q
  exact ⟨x, in_p, num.trans num', blank ∘ blank'⟩

theorem blank_alarmCleared {z : ZoneRec} (blank : BlankZone z) : BlankZone (Rule.alarmCleared z) := by
  have same : Rule.alarmCleared z = z := by
    unfold Rule.alarmCleared
    exact if_neg fun alarm => ZoneState.noConfusion (blank.1.symm.trans alarm)
  rwa [same]

theorem settled_alarms (p : Part) : AlarmsCleared p (settled p) := by
  obtain ⟨ended, stays⟩ := finish_zones p
  by_cases ends : Ends p (finish p)
  · have event := settled_event p
    refine ⟨event.meas, event.instruments, fun z mem => ?_⟩
    have zones : (settled p).meas.zones = p.meas.zones.map Rule.alarmCleared := ended ends
    rw [zones] at mem
    obtain ⟨y, listed, rfl⟩ := List.mem_map.1 mem
    exact ⟨y, listed, alarmCleared_num y, blank_alarmCleared⟩
  · exact .of_meas (stays ends).1

theorem endStoreHold_meas (p : Part) : (endStoreHold p).meas = p.meas := by
  have put {new : IncidentRecord} (q : Part) (open_ : new.state ≠ .quiet) : (putRecord new q).meas = q.meas := by
    rw [(putRecord_regMeas new q).2]
    exact if_neg fun ends => open_ ends.1
  rcases endStoreHold_cases p with same | ⟨declared, ⟨state, role, is_state, same⟩ | ⟨role, same⟩⟩
  · rw [same]
    rfl
  · rw [same]
    refine put _ fun quiet => ?_
    change state = .quiet at quiet
    rcases is_state with rfl | rfl <;> exact nomatch quiet
  · rw [same]
    have kept := put (new := { p.reg.record with role := role }) (holdLifted p) fun quiet => nomatch declared.symm.trans quiet
    unfold armLeadWait
    split <;> exact kept

theorem judgeFans_meas (p : Part) : (judgeFans p).meas = p.meas := by
  have asked : (queriesAsked p).meas = p.meas := by
    rw [queriesAsked_eq]
    rfl
  rw [judgeFans_eq, (fanTail_step _).rest, (releaseSlots_step _).rest]
  dsimp only
  split <;> exact asked

theorem fansRebuilt_alarms (p : Part) : AlarmsCleared p (fansRebuilt p) := by
  have judged : AlarmsCleared p (judgeFans p) := .of_meas (judgeFans_meas p)
  have lifted (q : Part) : AlarmsCleared q (endStoreHold (formHealth (raise .tableEvent q))) := .of_meas (endStoreHold_meas _)
  exact ((judged.trans (settled_alarms _)).trans (lifted _)).trans (settled_alarms _)

/-- R36: the instruments, points and zones at the end. -/
theorem aligned_end {b u : Part} (h : AlignedTo (aligned p) b) (cleared : AlarmsCleared b u) (disp : u.disp = b.disp)
    (mgmt : u.mgmt = b.mgmt) :
    (∀ x ∈ instruments p.meas, ∃ i, (x.1, i) ∈ instruments u.meas ∧ i.source = Rule.slotSource u.mgmt.sections x.1 ∧
      (i.state = .absent ↔ Rule.fromSensor u.disp.stations (Rule.slotSource u.mgmt.sections x.1) = false) ∧
      (x.1.cls ≠ .velocity → i = Rule.judged u.disp.stations (Rule.slotSource u.mgmt.sections x.1) x.2)) ∧
    (∀ q ∈ u.meas.points, (u.pointEntries.any fun e => e.num == q.num) = false → BlankPoint q) ∧
    ∀ z ∈ u.meas.zones, (u.zoneEntries.any fun e => e.num == z.num) = false → BlankZone z := by
  have disp_p : u.disp = p.disp := (disp.trans h.disp).trans (judgeAll_rest p).1
  have mgmt_p : u.mgmt = p.mgmt := (mgmt.trans h.mgmt).trans (judgeAll_rest p).2.1
  have mgmt_a : u.mgmt = (aligned p).mgmt := mgmt.trans h.mgmt
  refine ⟨fun x mem => ?_, fun q mem unfit => ?_, fun z mem unfit => ?_⟩
  · have listed : (x.1, Rule.judged p.disp.stations (Rule.slotSource p.mgmt.sections x.1) x.2) ∈ instruments (aligned p).meas := by
      rw [aligned_instruments]
      exact List.mem_map_of_mem mem
    obtain ⟨⟨d, i⟩, in_b, name, source, absent, others⟩ := forall₂_mem_left h.instruments _ listed
    obtain rfl : d = x.1 := name
    have judged := judged_sourced p.disp.stations (Rule.slotSource p.mgmt.sections x.1) x.2
    rw [disp_p, mgmt_p]
    refine ⟨i, by rw [cleared.kept]; exact in_b, source.trans judged.1, absent.trans judged.2, fun other => ?_⟩
    exact congrArg Prod.snd (others other)
  · rw [cleared.rest] at mem
    refine h.points q mem ?_
    unfold configuredPoint Part.pointEntries at *
    rwa [← mgmt_a]
  · obtain ⟨y, in_b, num, blank⟩ := cleared.zones z mem
    refine blank (h.zones y in_b ?_)
    unfold Part.zoneEntry Part.zoneEntries at *
    rw [← mgmt_a, ← num]
    rw [List.any_eq_false] at unfit
    exact List.find?_eq_none.2 fun e listed => unfit e listed

end

end Sys2Proof.Machine
end

section
/-! PROOFS. The part on which a store write ends, its table installed: what the rebuild of the blocks may take for granted,
and what it leaves of the Dispatcher, the Management Agent and the peers (R24, R176). -/

namespace Sys2Proof.Machine

theorem rebuildable_installed {s : State} {w : StoreWrite} (quiet : Quiescent s) (addresses : AddressesDistinct s)
    (distinct : FansDistinct s) (numbered : FansNumbered s) (hold : HoldWhileWriting s) (outside : WriteOutsideControl s)
    (writes : s.part.mgmt.write = some w) : Rebuildable (installed w s.part) := by
  have kept : InvStep s.part (installed w s.part) := by
    refine mgmt_inv _ s.part (fun tables => tables.ended writes) (fun tables => tables.ended writes) fun range => ?_
    obtain stays | parsed := activeTable_writeEnded w s.part.mgmt .fans
    · rw [stays]
      exact range
    · rw [parsed]
      exact fun x named => parseTable_numbered named
  have busy : s.part.mgmt.write ≠ none := by rw [writes]; exact Option.some_ne_none w
  have stands : s.part.reg.storeHold = true := by rw [hold.1, writes]; rfl
  exact ⟨⟨stands, outside busy⟩, quiet, kept.addresses addresses, kept.distinct distinct, kept.numbered numbered⟩

section
variable {k : TableKind} {p q : Part}

/-! ### The phases, and what they keep -/

/-- The part on which the orders, or the instruments, are rebuilt. -/
def basePart (k : TableKind) (p : Part) : Part :=
  match k with
  | .stations => stationsRebuilt p
  | .sections | .fans | .control => p

theorem basePart_other (other : k ≠ .stations) : basePart k p = p := by
  cases k with
  | stations => exact absurd rfl other
  | _ => rfl

theorem basePart_op (k : TableKind) (p : Part) : OpStep p (basePart k p) := by
  cases k with
  | stations => exact ((settled_op _).after (rebuildPeers_op _)).after (rebuildStations_op p)
  | _ => exact .refl p

theorem beforeFans_op (k : TableKind) (p : Part) : OpStep (basePart k p) (beforeFans k p) := by
  cases k with
  | stations => exact ((buildReach_op _).after (judgeInstruments_op _)).after (rebuildOrders_op _)
  | sections => exact judgeInstruments_op p
  | fans => exact rebuildOrders_op p
  | control => exact .refl p

theorem beforeFans_meas (k : TableKind) (p : Part) : MeasStep (basePart k p) (beforeFans k p) := by
  have reach (q : Part) : EventStep q (buildReach q) := FmStep.event ⟨rfl, FlagsKept.refl _⟩
  cases k with
  | stations =>
    exact ((reach _).meas'.after (judgeInstruments_step _)).after (rebuildOrders_step _).event.meas'
  | sections => exact judgeInstruments_step p
  | fans => exact (rebuildOrders_step p).event.meas'
  | control => exact .refl p

theorem fansRebuilt_event (p : Part) : EventStep p (fansRebuilt p) :=
  ((released_event _).after (settled_event _)).after (judgeFans_event p)

theorem basePart_instruments (k : TableKind) (p : Part) : instruments (basePart k p).meas = instruments p.meas := by
  cases k with
  | stations => exact ((settled_event _).after (judgeAndHandOn_event none _)).instruments
  | _ => rfl

/-- The part at the end of the event, before the reply. -/
theorem released_rebuiltPart {w : StoreWrite} (other : w.kind ≠ .control) (p : Part) :
    released (rebuiltPart w p) = fansRebuilt (beforeFans w.kind (installed w p)) := by
  unfold rebuiltPart fansRebuilt
  rw [rebuildFrom_eq other]

/-- From the base part to the end the Dispatcher, the Management Agent and the peers stand. -/
theorem released_meas (w : StoreWrite) (p : Part) :
    MeasStep (basePart w.kind (installed w p)) (released (rebuiltPart w p)) := by
  by_cases other : w.kind = .control
  · unfold rebuiltPart
    rw [other]
    exact ((released_event _).after (settled_event _)).meas'
  · rw [released_rebuiltPart other]
    exact (fansRebuilt_event _).meas'.after (beforeFans_meas w.kind _)

/-! ### Stations and peers (R24, R176) -/

theorem carriedStation_rule (old : List StationRec) (e : StationEntry) : carriedStation old e = Rule.stationOf old e := by
  unfold carriedStation Rule.stationOf newStation
  cases old.find? fun s => s.address == e.address && s.role == e.role <;> rfl

theorem stationsRebuilt_stations {x : StationTable} (active : p.mgmt.stations = some x) :
    (stationsRebuilt p).disp.stations = x.entries.map (Rule.stationOf p.disp.stations) ∧
      (stationsRebuilt p).disp.provisional = [] ∧
      (stationsRebuilt p).coord.peers = Rule.peersOf (stationsRebuilt p).disp.stations p.coord.peers := by
  have event := (settled_event _).after (judgeAndHandOn_event none { rebuildStations p with coord :=
    { p.coord with peers := buildPeers (rebuildStations p).disp.stations p.coord.peers } })
  have disp : (stationsRebuilt p).disp = (rebuildStations p).disp := event.disp
  have peers : (stationsRebuilt p).coord.peers = buildPeers (rebuildStations p).disp.stations p.coord.peers := event.peers
  have entries : p.stationEntries = x.entries := by
    unfold Part.stationEntries
    rw [active]
  rw [disp, peers]
  refine ⟨?_, rfl, buildPeers_rule _ _⟩
  change p.stationEntries.map (carriedStation p.disp.stations) = _
  rw [entries]
  exact List.map_congr_left fun e _ => carriedStation_rule _ e

/-! ### The FAN table in use -/

theorem Rebuildable.base (h : Rebuildable p) (k : TableKind) : StationsNamed (basePart k p) :=
  ((addressesDistinct_iff _).1 ((basePart_op k p).addresses h.addresses)).1

theorem entriesApart_of_distinct (distinct : On FansDistinct p) : EntriesApart p := by
  obtain ⟨_, _, _, tables⟩ := (fansDistinct_iff p).1 distinct
  unfold EntriesApart
  cases active : p.mgmt.fans with
  | none =>
    rw [fanEntries_none active]
    exact List.nodup_nil
  | some x =>
    rw [((fanEntries_perm active).map _).nodup_iff]
    exact tables.active x (congrArg (Option.map Table.fans) active)

theorem Rebuildable.beforeFans (h : Rebuildable p) (k : TableKind) :
    On FansDistinct (beforeFans k p) ∧ On FansNumbered (beforeFans k p) :=
  have op := (beforeFans_op k p).after (basePart_op k p)
  ⟨op.distinct h.distinct, op.numbered h.numbered⟩

theorem freshFans_le (distinct : On FansDistinct p) (numbered : On FansNumbered p) : (freshFans p).length ≤ 48 := by
  have apart : (freshFans p).Nodup := (entriesApart_of_distinct distinct).sublist (List.filter_sublist.map _)
  have inside : (freshFans p).toFinset ⊆ Finset.Icc 1 48 := fun n mem => by
    obtain ⟨e, listed, rfl⟩ := List.mem_map.1 (List.mem_toFinset.1 mem)
    have entry := (List.mem_filter.1 listed).1
    cases active : p.mgmt.fans with
    | none =>
      rw [fanEntries_none active] at entry
      exact absurd entry List.not_mem_nil
    | some x => exact Finset.mem_Icc.2 (numbered.2 x active e ((fanEntries_perm active).mem_iff.1 entry))
  have small := Finset.card_le_card inside
  rwa [List.toFinset_card_of_nodup apart, Nat.card_Icc] at small

/-- The hand-ons of the event are fewer than it may take. -/
theorem Rebuildable.few (h : Rebuildable p) (k : TableKind) :
    (Machine.beforeFans k p).handOns.length + (freshFans (Machine.beforeFans k p)).length < settleBound := by
  obtain ⟨carries, quiet⟩ := ordersFrom_carries (o := False) k h.held h.quiet
  have numbered : ∀ f ∈ (ordersFrom k p).fm.fans, 1 ≤ f.e.num ∧ f.e.num ≤ 48 := fun f mem => by
    have entry : f.e ∈ p.fm.fans.map (·.e) := carries.entries ▸ List.mem_map_of_mem mem
    obtain ⟨g, listed, same⟩ := List.mem_map.1 entry
    exact same ▸ h.numbered.1 g listed
  have bounded := (beforeFans_tends (o := False) (c := True) (new := fun _ => False) k p).bounded trivial
  have due := requestsDue_le quiet numbered
  have waiting := handOns_le_requestsDue (Machine.beforeFans k p)
  obtain ⟨distinct, nums⟩ := h.beforeFans k
  have fresh := freshFans_le distinct nums
  unfold settleBound
  omega

end

end Sys2Proof.Machine
end

section
/-! PROOFS. What the end of a store write leaves of the tags, the orders, the instruments and the fans (R36, R109, R169). -/

namespace Sys2Proof.Machine

section
variable {k : TableKind} {p : Part}

/-! ### Tags and orders (R169) -/

theorem ordersFrom_eq (kind : k = .stations ∨ k = .fans) : ordersFrom k p = ordersLeft (basePart k p) := by
  rcases kind with rfl | rfl <;> rfl

theorem basePart_tends {o : Prop} (h : Rebuildable p) (k : TableKind) :
    Tends o False (fun _ => True) p (basePart k p) ∧ (basePart k p).handOns = [] := by
  cases k with
  | stations => exact ⟨stationsRebuilt_tends h.held h.quiet, settled_handOns _⟩
  | _ => exact ⟨.refl p, h.quiet⟩

/-- The pool is that of the rebuilt tags. -/
theorem fansRebuilt_keys (kind : k = .stations ∨ k = .fans) :
    (fansRebuilt (beforeFans k p)).ord.tags.map TagRec.key = (rebuiltTags (basePart k p)).map TagRec.key := by
  have judged : Tends False False (fun _ => True) (idle (queriesAsked (beforeFans k p))) (fansRebuilt (beforeFans k p)) :=
    fansRebuilt_tends (Allows.all _) False.elim
  have rebuilt : Tends False False (fun _ => True) (ordersFrom k p) (beforeFans k p) := beforeFans_tends k p
  have asked : (idle (queriesAsked (beforeFans k p))).ord = (beforeFans k p).ord := queriesAsked_ord _
  rw [judged.keys, asked, rebuilt.keys, ordersFrom_eq kind]
  rfl

theorem fansRebuilt_meas (k : TableKind) (p : Part) : MeasStep (basePart k p) (fansRebuilt (beforeFans k p)) :=
  (fansRebuilt_event _).meas'.after (beforeFans_meas k p)

theorem fansRebuilt_tags (h : Rebuildable p) (kind : k = .stations ∨ k = .fans) {v : Part}
    (ended : v = fansRebuilt (beforeFans k p)) :
    (∀ r ∈ v.disp.stations, r.role = .fanStation → stationTags r.address v.ord.tags =
      if (stationTags r.address p.ord.tags).length = r.tagCount then stationTags r.address p.ord.tags
      else List.range r.tagCount) ∧
    ∀ g ∈ v.ord.tags, ∃ r ∈ v.disp.stations, r.address = g.station ∧ r.role = .fanStation := by
  subst ended
  have same (a : Nat) : stationTags a (basePart k p).ord.tags = stationTags a p.ord.tags :=
    stationTags_of_keys (basePart_tends (o := False) h k).1.keys
  obtain ⟨own, listed⟩ := tags_of_rebuilt (h.base k) (fansRebuilt_meas k p).disp (fansRebuilt_keys kind)
  exact ⟨fun r mem role => by rw [own r mem role, same], listed⟩

/-- Every order at the end is for a fan that is not UNCONFIGURED. -/
theorem fansRebuilt_stand (h : Rebuildable p) (kind : k = .stations ∨ k = .fans) {v : Part}
    (ended : v = fansRebuilt (beforeFans k p)) (outside : p.fm.record.state ≠ .control) :
    ∀ r ∈ v.ord.records, ∃ f ∈ v.fm.fans, f.e.num = r.fan ∧ f.state ≠ .unconfigured := by
  subst ended
  obtain ⟨base, quiet⟩ := basePart_tends (o := True) h k
  have rebuilt : Tends True True (fun _ => False) (ordersFrom k p) (beforeFans k p) := beforeFans_tends k p
  rw [ordersFrom_eq kind] at rebuilt
  have step := beforeFans_meas k p
  obtain ⟨records, waits⟩ := ordersLeft_configures quiet (base.record trivial outside) rebuilt step.disp step.mgmt
  exact fansRebuilt_orders (entriesApart_of_distinct (h.beforeFans k).1) records waits

/-! ### Instruments, points and zones (R36) -/

/-- The part on which the instruments are judged. -/
def beforeInstruments (k : TableKind) (p : Part) : Part :=
  match k with
  | .stations => rebuildOrders (stationsRebuilt p)
  | .sections | .fans | .control => p

theorem beforeInstruments_instruments (k : TableKind) (p : Part) :
    instruments (beforeInstruments k p).meas = instruments p.meas := by
  cases k with
  | stations => exact (rebuildOrders_step _).event.instruments.trans (basePart_instruments .stations p)
  | _ => rfl

theorem beforeFans_aligned (kind : k = .stations ∨ k = .sections) :
    AlignedTo (aligned (beforeInstruments k p)) (beforeFans k p) := by
  have reach {b q : Part} (h : AlignedTo b q) : AlignedTo b (buildReach q) := h.of_meas rfl
  rcases kind with rfl | rfl
  · exact reach (judgeInstruments_aligned _)
  · exact judgeInstruments_aligned p

theorem fansRebuilt_aligned (kind : k = .stations ∨ k = .sections) {v : Part} (ended : v = fansRebuilt (beforeFans k p)) :
    (∀ x ∈ instruments p.meas, ∃ i, (x.1, i) ∈ instruments v.meas ∧ i.source = Rule.slotSource v.mgmt.sections x.1 ∧
      (i.state = .absent ↔ Rule.fromSensor v.disp.stations (Rule.slotSource v.mgmt.sections x.1) = false) ∧
      (x.1.cls ≠ .velocity → i = Rule.judged v.disp.stations (Rule.slotSource v.mgmt.sections x.1) x.2)) ∧
    (∀ q ∈ v.meas.points, (v.pointEntries.any fun e => e.num == q.num) = false → BlankPoint q) ∧
    ∀ z ∈ v.meas.zones, (v.zoneEntries.any fun e => e.num == z.num) = false → BlankZone z := by
  subst ended
  have event := fansRebuilt_event (beforeFans k p)
  have told := aligned_end (beforeFans_aligned (p := p) kind) (fansRebuilt_alarms _) event.disp event.mgmt
  rwa [beforeInstruments_instruments] at told

/-! ### Fans (R109) -/

/-- A fan made afresh, as the hand-ons leave it. -/
theorem freshFan_left {e : FanEntry} {state : FanState} {f : FanRec} {calm : Prop}
    (rests : state = .unknown ∨ state = .unconfigured) (tends : FanTends calm (freshFan e state) f) :
    f.state = state ∧ f.known = none ∧ f.last = none ∧ f.reportIso = false ∧ f.mgrIso = false ∧ f.resting = false ∧
      f.runUp = none ∧ f.runDown = none ∧ f.stopReq = false := by
  have still : ¬ Movable (freshFan e state) := fun moves => rests.elim moves.1 moves.2
  rw [tends.rests still]
  exact ⟨rfl, rfl, rfl, rfl, rfl, rfl, rfl, rfl, rfl⟩

/-- A fan that is kept by an entry was kept by it before the hand-ons, and conversely. -/
theorem FanTends.keeps_iff {calm : Prop} {f g : FanRec} (h : FanTends calm f g) (e : FanEntry) :
    Rule.keeps g e ↔ Rule.keeps f e := by
  have states : g.state = .unconfigured ↔ f.state = .unconfigured := by
    refine ⟨h.stays, fun out => ?_⟩
    rw [h.rests fun moves => moves.2 out]
    exact out
  unfold Rule.keeps
  rw [h.e, ne_eq, states]

theorem Carries.keeps_iff {o : Prop} {q : Part} (h : Carries o p q) (n : Nat) (e : FanEntry) :
    (∃ g, q.fan? n = some g ∧ Rule.keeps g e) ↔ ∃ g, p.fan? n = some g ∧ Rule.keeps g e := by
  constructor
  · rintro ⟨g, found, keeps⟩
    have listed : n ∈ fanNumbers p := by
      rw [← fanNumbers_of_entries h.entries, ← fan?_isSome_iff, found]
      rfl
    obtain ⟨f, found_f⟩ := Option.isSome_iff_exists.1 (fan?_isSome_iff.2 listed)
    obtain ⟨g', found_g, tends⟩ := h.fans n f found_f
    obtain rfl := Option.some.inj (found.symm.trans found_g)
    exact ⟨f, found_f, (tends.keeps_iff e).1 keeps⟩
  · rintro ⟨f, found, keeps⟩
    obtain ⟨g, found_g, tends⟩ := h.fans n f found
    exact ⟨g, found_g, (tends.keeps_iff e).2 keeps⟩

/-- The fan of an entry, from the fans judged to the end. -/
theorem fanRebuilt_of_carries {q v : Part} {e : FanEntry} {f : FanRec}
    (carries : Carries (v.fm.record.state ≠ .control) p q) (disp : v.disp = q.disp) (mgmt : v.mgmt = q.mgmt)
    (asked : e.num ∈ freshFans q → (judgedFan q e).state = .unknown → Rule.queried v e.num) (mem : e ∈ q.fanEntries)
    (tends : FanTends (v.fm.record.state ≠ .control ∧ q.fm.record.state ≠ .control) (judgedFan q e) f) :
    FanRebuilt p v e f := by
  have fits : Rule.configured v e ↔ configuredFan q e = true := by
    rw [configuredFan_iff]
    unfold Rule.configured
    rw [disp, mgmt]
  have keeps_iff := carries.keeps_iff e.num e
  have out (unfit : ¬ Rule.configured v e) := freshFan_left (.inr rfl)
    (judgedFan_unconfigured (Bool.not_eq_true _ ▸ mt fits.2 unfit) ▸ tends)
  have new (fit : Rule.configured v e) (none_keeps : ¬ ∃ g, p.fan? e.num = some g ∧ Rule.keeps g e) :=
    judgedFan_fresh (fits.1 fit) (mt keeps_iff.1 none_keeps)
  have unknown (fit : Rule.configured v e) (none_keeps : ¬ ∃ g, p.fan? e.num = some g ∧ Rule.keeps g e) :=
    freshFan_left (.inl rfl) ((new fit none_keeps).1 ▸ tends)
  refine ⟨tends.e.trans (judgedFan_e q e), fun unfit => (out unfit).1, fun fit none_keeps => ⟨(unknown fit none_keeps).1, ?_⟩,
    fun other => ?_, fun g fit found keeps => ?_⟩
  · obtain ⟨made, fate⟩ := new fit none_keeps
    refine asked (List.mem_map_of_mem (List.mem_filter.2 ⟨mem, beq_iff_eq.2 fate⟩)) ?_
    rw [made]
    rfl
  · by_cases fit : Rule.configured v e
    · exact (unknown fit fun keeps => other ⟨fit, keeps⟩).2
    · exact (out fit).2
  · obtain ⟨g', found_g, moved⟩ := carries.fans e.num g found
    have made := judgedFan_kept (fits.1 fit) found_g ((moved.keeps_iff e).2 keeps)
    rw [made] at tends
    refine ⟨tends.last.trans moved.last, tends.reportIso.trans moved.reportIso, tends.mgrIso.trans moved.mgrIso,
      fun before after settled_ => ?_⟩
    have same : g'.state = g.state := moved.calm ⟨after, before⟩ settled_
    have running : g'.state ≠ .starting := same ▸ settled_
    exact (tends.calm ⟨after, carries.record after before⟩ running).trans same

/-- R109: the fans at the end of a store write are those of the entries of the FAN table in use. -/
theorem fansRebuilt_fans (h : Rebuildable p) {v : Part} (ended : v = fansRebuilt (beforeFans k p)) :
    (∀ f ∈ v.fm.fans, f.e ∈ v.fanEntries) ∧
    ∀ e ∈ v.fanEntries, ∃ f, v.fan? e.num = some f ∧ FanRebuilt p v e f := by
  have carries : Carries (v.fm.record.state ≠ .control) p (beforeFans k p) := beforeFans_carries k h.held h.quiet
  have few := h.few k
  have apart : EntriesApart (beforeFans k p) := entriesApart_of_distinct (h.beforeFans k).1
  generalize beforeFans k p = q at ended carries few apart
  have tends : Tends (v.fm.record.state ≠ .control) False (fun _ => True) (idle (queriesAsked q)) v := by
    rw [ended]
    exact fansRebuilt_tends (Allows.all _) id
  have event : EventStep q v := by
    rw [ended]
    exact fansRebuilt_event q
  have same : v.fanEntries = q.fanEntries := by
    unfold Part.fanEntries
    rw [event.mgmt]
  rw [same]
  refine ⟨fun f mem => ?_, fun e mem => ?_⟩
  · have entries : v.fm.fans.map (·.e) = q.fanEntries := tends.entries.trans (queriesAsked_entries q)
    rw [← entries]
    exact List.mem_map_of_mem mem
  · have found := queriesAsked_fan? apart mem
    obtain ⟨f, found_f, moved⟩ := tends.fans e.num _ ((idle_fan? _ _).trans found)
    have record : (idle (queriesAsked q)).fm.record = q.fm.record := queriesAsked_record q
    rw [record] at moved
    refine ⟨f, found_f, fanRebuilt_of_carries carries event.disp event.mgmt (fun fresh unknown => ?_) mem moved⟩
    rw [ended]
    exact (fansRebuilt_asked few fresh found unknown).record

/-- The fans by the FAN table in use, where there is one. -/
theorem fans_of_table {v : Part} (entries : ∀ f ∈ v.fm.fans, f.e ∈ v.fanEntries)
    (each : ∀ e ∈ v.fanEntries, ∃ f, v.fan? e.num = some f ∧ FanRebuilt p v e f) :
    (v.mgmt.fans = none → v.fm.fans = []) ∧ ∀ x, v.mgmt.fans = some x →
      (∀ f ∈ v.fm.fans, f.e ∈ x.entries) ∧ ∀ e ∈ x.entries, ∃ f, v.fan? e.num = some f ∧ FanRebuilt p v e f := by
  refine ⟨fun absent => List.eq_nil_iff_forall_not_mem.2 fun f mem => ?_, fun x active => ?_⟩
  · have entry := entries f mem
    rw [fanEntries_none absent] at entry
    exact List.not_mem_nil entry
  · have same {e : FanEntry} : e ∈ v.fanEntries ↔ e ∈ x.entries := (fanEntries_perm active).mem_iff
    exact ⟨fun f mem => same.1 (entries f mem), fun e mem => each e (same.2 mem)⟩

end

end Sys2Proof.Machine
end

section
/-! PROOFS. The reply to the ACTIVATE of a store write that ends (R22, R209). -/

namespace Sys2Proof.Machine

section
variable {w : StoreWrite} {p v : Part}

theorem queriesAsked_line (p : Part) : (queriesAsked p).line = p.line := by
  rw [queriesAsked_eq]
  rfl

/-- Up to the reply of the write itself, the replies that wait stand. -/
theorem released_replies (h : Rebuildable (installed w p)) : repliesOf (released (rebuiltPart w p)).line = repliesOf p.line ∧
    (released (rebuiltPart w p)).line.droppedReplies = p.line.droppedReplies := by
  by_cases other : w.kind = .control
  · have stays : rebuiltPart w p = installed w p := by
      unfold rebuiltPart
      rw [other]
      exact settled_of_quiet _ h.quiet
    rw [stays]
    exact (released_tends (o := False) h.quiet (Allows.all _) False.elim).replies
  · have carries : Carries False (installed w p) (beforeFans w.kind (installed w p)) := beforeFans_carries _ h.held h.quiet
    have line : (installed w p).line = p.line := rfl
    obtain ⟨replies, dropped⟩ := carries.replies
    rw [line] at replies dropped
    rw [released_rebuiltPart other, ← replies, ← dropped]
    generalize beforeFans w.kind (installed w p) = q
    have told := (fansRebuilt_tends (o := False) (Allows.all (queriesAsked q)) False.elim).replies
    have same : (idle (queriesAsked q)).line = q.line := queriesAsked_line q
    rwa [same] at told

theorem released_ports (w : StoreWrite) (p : Part) : Leaves False False True True False False p (released (rebuiltPart w p)) :=
  ((released_event _).after (settled_event _)).leaves.after
    ((rebuildFrom_leaves w.kind (installed w p)).after (mgmt_leaves (writeEnded w p.mgmt) p))

/-- The replies that wait, as a statement shows them. -/
def shownReplies (l : LineInterface) : List (Byte × List Byte) :=
  (repliesOf l).map fun e => (e.telegram.dest, e.telegram.payload)

/-- A reply joins those that wait, while fewer than four do (R11). -/
theorem reply_shown (source : Byte) (payload : List Byte) (addressed : v.addressed = true)
    (up : (v.port .a).state = .up ∨ (v.port .b).state = .up) :
    if (shownReplies v.line).length < 4 then
      shownReplies (queueOwn (.mgmtReply source payload) v).line = shownReplies v.line ++ [(source, payload)]
    else shownReplies (queueOwn (.mgmtReply source payload) v).line = shownReplies v.line ∧
      (queueOwn (.mgmtReply source payload) v).line.droppedReplies = bump v.line.droppedReplies := by
  have counted : (shownReplies v.line).length = (v.line.own.filter fun e => isReply e.cls).length := by
    unfold shownReplies repliesOf
    rw [List.length_map]
    exact congrArg List.length (List.filter_congr fun e _ => isReply_eq e)
  rw [counted]
  split
  · next room =>
    rw [queueOwn_of_room addressed up fun _ => Nat.not_le.2 room]
    have all_kept : (v.line.own.filter fun h => !replaces .mgmtReply h) = v.line.own := List.filter_eq_self.2 fun _ _ => rfl
    unfold shownReplies repliesOf joinOwn
    dsimp only [classOf]
    rw [all_kept, List.filter_append, List.map_append]
    rfl
  · next full =>
    rw [queueOwn_of_full addressed up rfl (Nat.not_lt.1 full)]
    exact ⟨rfl, rfl⟩

/-- The payload of the reply DONE to an ACTIVATE (R22). -/
theorem activated_payload (number : BitVec 16) : replyPayload number 5 (.ok []) = beBytes 2 number.toNat ++ [5, 0, 0] := by
  unfold replyPayload
  rw [List.append_assoc]
  rfl

/-- The reply to the ACTIVATE of the write. -/
theorem storeWriteEnd_reply (h : Rebuildable (installed w p)) (node : 1 ≤ p.line.node.toNat ∧ p.line.node.toNat ≤ 239)
    (up : p.line.portA.state = .up ∨ p.line.portB.state = .up) {l : LineInterface}
    (queued : l = (reply w.source w.number 5 (.ok []) (released (rebuiltPart w p))).line) :
    if (shownReplies p.line).length < 4 then
      shownReplies l = shownReplies p.line ++ [(w.source, beBytes 2 w.number.toNat ++ [5, 0, 0])]
    else shownReplies l = shownReplies p.line ∧ l.droppedReplies = bump p.line.droppedReplies := by
  obtain ⟨replies, dropped⟩ := released_replies h
  have kept := released_ports w p
  have shown : shownReplies (released (rebuiltPart w p)).line = shownReplies p.line := by
    unfold shownReplies
    rw [replies]
  rw [← shown, ← dropped, ← activated_payload, queued]
  generalize released (rebuiltPart w p) = v at kept
  have addressed : v.addressed = true := (addressed_iff v).2 (by rwa [kept.node])
  obtain ⟨portA, portB⟩ := kept.ports trivial
  refine reply_shown _ _ addressed ?_
  unfold Part.port
  rw [← portA, ← portB] at up
  exact up

end

end Sys2Proof.Machine
end

section
/-! PROOFS. Activation and the end of a store write (O49): the clauses, block by block, and the statement. -/

namespace Sys2Proof.Machine

section
variable {s : State}

/-! ### ACTIVATE (R208) -/

theorem activate_answers {src : Byte} {num : BitVec 16} {k : Byte} {kind : TableKind} (quiet : Quiescent s)
    (listed : (k = 1 ∧ kind = .stations) ∨ (k = 2 ∧ kind = .sections) ∨ (k = 3 ∧ kind = .fans) ∨
      (k = 4 ∧ kind = .control)) :
    let c : Instr := .activate ⟨src, num, [k]⟩
    let ready : Prop := s.part.mgmt.buffer.state = .verified ∧ s.part.mgmt.buffer.kind = some kind
    (s.part.reg.record.state ≠ .quiet → Refused s c (refusalReply 5 src num 10)) ∧
    (s.part.reg.record.state = .quiet → s.part.mgmt.write ≠ none → Refused s c (refusalReply 5 src num 11)) ∧
    (s.part.reg.record.state = .quiet → s.part.mgmt.write = none → ¬ ready → Refused s c (refusalReply 5 src num 2)) ∧
    (s.part.reg.record.state = .quiet → s.part.mgmt.write = none → ready →
      exec c s = nextPart s (writeBegun kind src num s.part)) := by
  intro c ready
  have code := tableOfCode_listed listed
  refine ⟨fun inside => ?_, fun rests writes => ?_, fun rests free unready => ?_, fun rests free is_ready => ?_⟩
  · exact refused_activate_here (reason := .protectedState) quiet code (activateFault_protected inside)
  · exact refused_activate_here (reason := .busy) quiet code (activateFault_busy rests writes)
  · exact refused_activate_here (reason := .wrongState) quiet code ((activateFault_of_idle rests free).trans (if_neg unready))
  · exact activate_begins quiet code ((activateFault_of_idle rests free).trans (if_pos is_ready))

/-! ### The end of a store write (R209) -/

/-- The part at the end of a store write, before its reply. -/
def writtenPart (w : StoreWrite) (p : Part) : Part := released (rebuiltPart w p)

/-- The reply and the health formed change the line and Fault Capture alone. -/
theorem exec_storeWriteEnd_written {w : StoreWrite} (writes : s.part.mgmt.write = some w) : ∃ l fc,
    exec .storeWriteEnd s = .next { s with part := { writtenPart w s.part with line := l, fc := fc } } ∧
    l = (reply w.source w.number 5 (.ok []) (writtenPart w s.part)).line := by
  refine ⟨_, (formHealth (reply w.source w.number 5 (.ok []) (writtenPart w s.part))).fc, ?_, rfl⟩
  refine (exec_storeWriteEnd writes).trans ?_
  change nextPart s (reply w.source w.number 5 (.ok []) (writtenPart w s.part)) = _
  generalize writtenPart w s.part = v
  unfold nextPart reply
  rw [queueOwn_eq]
  rfl

variable {w : StoreWrite} {p v : Part}

theorem writtenPart_stations {x : StationTable} (parsed : parseTable w.kind w.image = some (.stations x)) :
    (writtenPart w p).disp.stations = x.entries.map (Rule.stationOf p.disp.stations) ∧
      (writtenPart w p).disp.provisional = [] ∧
      (writtenPart w p).coord.peers = Rule.peersOf (writtenPart w p).disp.stations p.coord.peers := by
  have kind : .stations = w.kind := parseTable_kind parsed
  have active : (installed w p).mgmt.stations = some x := (writeEnded_tables w p.mgmt).1 x parsed
  have step : MeasStep (basePart w.kind (installed w p)) (writtenPart w p) := released_meas w p
  have base : basePart w.kind (installed w p) = stationsRebuilt (installed w p) := by
    rw [← kind]
    rfl
  rw [base] at step
  rw [step.disp, step.peers]
  exact stationsRebuilt_stations active

theorem writtenPart_stationsKept (other : w.kind ≠ .stations) :
    (writtenPart w p).disp.stations = p.disp.stations ∧ (writtenPart w p).coord.peers = p.coord.peers := by
  have step : MeasStep (basePart w.kind (installed w p)) (writtenPart w p) := released_meas w p
  rw [basePart_other other] at step
  rw [step.disp, step.peers]
  exact ⟨rfl, rfl⟩

theorem writtenPart_eq (other : w.kind ≠ .control) :
    writtenPart w p = fansRebuilt (beforeFans w.kind (installed w p)) := released_rebuiltPart other p

theorem writtenPart_of {a b : TableKind} (kind : w.kind = a ∨ w.kind = b) (first : a ≠ .control := by decide)
    (second : b ≠ .control := by decide) : writtenPart w p = fansRebuilt (beforeFans w.kind (installed w p)) :=
  writtenPart_eq (kind.elim (fun is_a => is_a ▸ first) fun is_b => is_b ▸ second)

end

/-- Settles O49, by the answers to ACTIVATE, by the table store at the end of a write, and by what the rebuild of each
block leaves. -/
theorem activationAndStoreWrite : Obligations.ActivationAndStoreWrite := by
  unfold Obligations.ActivationAndStoreWrite
  refine ⟨fun src num k kind s quiet listed => ?_, fun s quiet => ⟨exec_storeWriteEnd_idle quiet, fun w writes => ?_⟩,
    fun s w table quiet addresses distinct numbered hold outside writes parsed => ?_⟩
  · have answers := activate_answers (src := src) (num := num) quiet listed
    cases kind <;> exact answers
  · refine ⟨_, exec_storeWriteEnd writes, ?_⟩
    obtain ⟨mgmt, flags, held, entry⟩ := storeWriteEnd_store (w := w) (p := s.part) rfl
    dsimp only
    rw [mgmt]
    obtain ⟨station, section_, fan, control⟩ := writeEnded_slots w s.part.mgmt
    obtain ⟨stations, sections, fans, controls⟩ := writeEnded_tables w s.part.mgmt
    exact ⟨rfl, rfl, station, section_, fan, control, stations, sections, fans, controls, flags, held, entry⟩
  · have whole := rebuildable_installed quiet addresses distinct numbered hold outside writes
    obtain ⟨l, fc, ran, queued⟩ := exec_storeWriteEnd_written writes
    have made (x : StationTable) (is_x : table = .stations x) := writtenPart_stations (p := s.part) (is_x ▸ parsed)
    have kept := writtenPart_stationsKept (w := w) (p := s.part)
    have tags (kind : w.kind = .stations ∨ w.kind = .fans) := fansRebuilt_tags whole kind (writtenPart_of kind)
    have stand (kind : w.kind = .stations ∨ w.kind = .fans) := fansRebuilt_stand whole kind (writtenPart_of kind)
    have judged (kind : w.kind = .stations ∨ w.kind = .sections) := fansRebuilt_aligned kind (writtenPart_of (p := s.part) kind)
    have fans (other : w.kind ≠ .control) := fansRebuilt_fans whole (writtenPart_eq other)
    have replied (node) (up) := storeWriteEnd_reply whole node up queued
    clear queued
    generalize writtenPart w s.part = v at *
    refine ⟨_, ran, made, kept, fun kind => ?_, judged, fun other => ?_, replied⟩
    · obtain ⟨own, listed⟩ := tags kind
      exact ⟨own, listed, stand kind⟩
    · obtain ⟨entries, each⟩ := fans other
      obtain ⟨absent, present⟩ := fans_of_table entries each
      refine ⟨absent, fun x active => ?_⟩
      obtain ⟨inside, found_each⟩ := present x active
      refine ⟨inside, fun e mem => ?_⟩
      obtain ⟨f, found, told⟩ := found_each e mem
      exact ⟨f, found, told.entry_eq, told.unconfigured, told.fresh, told.blank, told.kept⟩

end Sys2Proof.Machine
end
